-- ==== Sys2Proof/Word.lean ====
section
/-! DEFINITION. Word.lean: the word types, the index types of the block's replicated units, and the
three fixed-size containers that hold one value per unit. -/

namespace Sys2Proof

abbrev Byte := BitVec 8
abbrev Half := BitVec 16
abbrev Word := BitVec 32
abbrev DWord := BitVec 64

/-- A copy: 0 is copy A, 1 copy B, 2 copy C (00_scope.md, R6). -/
abbrev CopyId := Fin 3
/-- A drive channel DRV0 to DRV2 (R300). -/
abbrev DrvId := Fin 3
/-- A sample-and-hold group of a sense block (R70). -/
abbrev GroupId := Fin 3
/-- A fan channel (R335). -/
abbrev FanId := Fin 4
/-- A switched output (R349). -/
abbrev GpoId := Fin 8
/-- A CAN FD controller (R361). -/
abbrev CanId := Fin 2
/-- A register page (R41). -/
abbrev PageId := Fin 64
/-- A bit of SYS.OVLSUM, which names one admission queue (R39). -/
abbrev AdmId := Fin 10

/-- Sparse data by key: the listed keys rise strictly, and no entry equals what an unlisted key reads as. -/
abbrev Map (β : Type) := List (Nat × β)

/-- One value for each of three like units. -/
structure Tri (α : Type) where
  a : α
  b : α
  c : α
deriving DecidableEq, Repr

/-- One value for each of four like units. -/
structure Quad (α : Type) where
  a : α
  b : α
  c : α
  d : α
deriving DecidableEq, Repr

/-- One value for each of two like units. -/
structure Duo (α : Type) where
  a : α
  b : α
deriving DecidableEq, Repr

def Tri.get {α : Type} (t : Tri α) : Fin 3 → α
  | 0 => t.a
  | 1 => t.b
  | 2 => t.c

def Tri.set {α : Type} (t : Tri α) (i : Fin 3) (x : α) : Tri α :=
  match i with
  | 0 => { t with a := x }
  | 1 => { t with b := x }
  | 2 => { t with c := x }

def Tri.upd {α : Type} (t : Tri α) (i : Fin 3) (f : α → α) : Tri α := t.set i (f (t.get i))

def Tri.map {α β : Type} (f : α → β) (t : Tri α) : Tri β := ⟨f t.a, f t.b, f t.c⟩

def Tri.const {α : Type} (x : α) : Tri α := ⟨x, x, x⟩

def Quad.get {α : Type} (t : Quad α) : Fin 4 → α
  | 0 => t.a
  | 1 => t.b
  | 2 => t.c
  | 3 => t.d

def Quad.set {α : Type} (t : Quad α) (i : Fin 4) (x : α) : Quad α :=
  match i with
  | 0 => { t with a := x }
  | 1 => { t with b := x }
  | 2 => { t with c := x }
  | 3 => { t with d := x }

def Quad.upd {α : Type} (t : Quad α) (i : Fin 4) (f : α → α) : Quad α := t.set i (f (t.get i))

def Quad.const {α : Type} (x : α) : Quad α := ⟨x, x, x, x⟩

def Duo.get {α : Type} (t : Duo α) : Fin 2 → α
  | 0 => t.a
  | 1 => t.b

def Duo.set {α : Type} (t : Duo α) (i : Fin 2) (x : α) : Duo α :=
  match i with
  | 0 => { t with a := x }
  | 1 => { t with b := x }

def Duo.upd {α : Type} (t : Duo α) (i : Fin 2) (f : α → α) : Duo α := t.set i (f (t.get i))

def Duo.const {α : Type} (x : α) : Duo α := ⟨x, x⟩

/-- The copies in letter order. -/
def copyIds : List CopyId := [0, 1, 2]
def drvIds : List DrvId := [0, 1, 2]
def groupIds : List GroupId := [0, 1, 2]
def fanIds : List FanId := [0, 1, 2, 3]
def gpoIds : List GpoId := [0, 1, 2, 3, 4, 5, 6, 7]
def canIds : List CanId := [0, 1]

end Sys2Proof
end

