-- ==== Sys2Proof/Syntax.lean ====
section
/-! DEFINITION. Syntax.lean: the commands of the block, one constructor of `Instr` per row of
spec/opcode_table.json, with the operands that carry what comes from outside the block's state: the
content of a received flit, a measured value, the outcome of a physical criterion, a released write. -/

namespace Sys2Proof

/-- The two worlds of a copy (R198). -/
inductive World where
  | iron | tin
deriving DecidableEq, Repr

/-- Who makes a register access: the agreed copy set with the world and ring its requests carry (R107),
the hub itself (configuration records, plan steps), the JTAG debug module, or Puffball (R63 SRC). -/
inductive Src where
  | copies (w : World) (ring : Fin 4)
  | hub
  | jtag
  | puffball
deriving DecidableEq, Repr

/-- The end of a Nerael Link that receives a flit or owns a timer. -/
inductive LinkEnd where
  | hub | copy
deriving DecidableEq, Repr

/-- SEQ and ACK of a flit (R105). -/
structure Hdr where
  seq : BitVec 12
  ack : BitVec 12
deriving DecidableEq, Repr

/-- The three compared request types (R106). -/
inductive ReqType where
  | read | write | fetch
deriving DecidableEq, Repr

/-- The payload of READ, WRITE and FETCH (R107). -/
structure Req where
  csn : Word
  retire : BitVec 48
  tag : BitVec 6
  world : World
  ring : Fin 4
  cls : BitVec 2
  reissue : Bool
  be : BitVec 4
  addr : Word
  data : Word
  ecc : BitVec 7
  rcrc : Byte
deriving DecidableEq, Repr

/-- The payload of a CONFIG flit, with the sender's next SEQ (R112). -/
structure ConfigMsg where
  roleHub : Bool
  width : Bool
  rate : BitVec 2
  mode : BitVec 2
  expSeq : BitVec 12
  restart : Bool
  seq : BitVec 12
deriving DecidableEq, Repr

/-- Four like values, one per channel of a group or one per word of half a line. -/
structure Four (α : Type) where
  v0 : α
  v1 : α
  v2 : α
  v3 : α
deriving DecidableEq, Repr

/-- The payload of a SAMPLE flit (R109). -/
structure SampleMsg where
  frame : Word
  group : GroupId
  gen : Byte
  calerr : Bool
  calsrc : Bool
  sumv : Bool
  tvalid : Bool
  temp : Half
  y : Four Half
  sat : Four Bool
  clip : Four Bool
  slo : BitVec 20
  shi : BitVec 20
deriving DecidableEq, Repr

/-- One 44-bit digital record (R90, R109). -/
structure DinRec where
  lvl : Bool
  cnt : BitVec 3
  fpol : Bool
  lpol : Bool
  ftime : BitVec 19
  ltime : BitVec 19
deriving DecidableEq, Repr

/-- The payload of a DINREC flit: the records of DIN4m to DIN4m+3 (R109). -/
structure DinMsg where
  frame : Byte
  gen : Byte
  recs : Four DinRec
deriving DecidableEq, Repr

/-- The events of a delivery (R161, R162). -/
structure Events where
  tck : Bool
  agr : Bool
  dbg : Bool
  pages : DWord
deriving DecidableEq, Repr

/-- The payload of an LSTAT frame report (R110). -/
structure LstatFrame where
  frame : Word
  rho : Word
  crcerr : Byte
  dup : Byte
  oos : Byte
  tmo : Byte
  spillpk : BitVec 12
  granterr : Byte
  ticklost : BitVec 4
  iccor : Byte
  icreb : BitVec 4
  dccor : Byte
  dcue : BitVec 4
  dcvmis : BitVec 4
  dovf : BitVec 4
  spillue : BitVec 4
deriving DecidableEq, Repr

/-- The payload of an AGREED flit (R167). -/
structure AgreedMsg where
  w0 : Word
  gen : Byte
  amiss : BitVec 12
  dmiss : BitVec 12
  groups : BitVec 4
deriving DecidableEq, Repr

/-- A stored word with its 7-bit end-to-end code (R108). -/
structure CWord where
  data : Word
  ecc : BitVec 7
deriving DecidableEq, Repr

/-- What the pair comparators and the release gate show when a comparison completes: their regular result,
or the code value a faulty pair comparator shows (pair 0 AB, 1 AC, 2 BC), or two gate channels that differ (R284). -/
inductive CmpObs where
  | regular
  | code (pair : Fin 3) (v : BitVec 2)
  | gateDiffers
deriving DecidableEq, Repr

/-- Register-register operations of RV32I and M (R173). -/
inductive AluOp where
  | add | sub | sll | slt | sltu | xor | srl | sra | or | and
  | mul | mulh | mulhsu | mulhu | div | divu | rem | remu
deriving DecidableEq, Repr

/-- Branch conditions of RV32I. -/
inductive BranchOp where
  | beq | bne | blt | bge | bltu | bgeu
deriving DecidableEq, Repr

/-- RV32IMC computational, branch and jump instructions that are neither calls nor returns; a compressed
encoding names the instruction it expands to. -/
inductive IntOp where
  | lui (rd : BitVec 5) (imm : BitVec 20)
  | auipc (rd : BitVec 5) (imm : BitVec 20)
  | reg (op : AluOp) (rd rs1 rs2 : BitVec 5)
  | imm (op : AluOp) (rd rs1 : BitVec 5) (imm : BitVec 12)
  | branch (op : BranchOp) (rs1 rs2 : BitVec 5) (off : BitVec 13)
  | jal (rd : BitVec 5) (off : BitVec 21)
  | jalr (rd rs1 : BitVec 5) (off : BitVec 12)
deriving DecidableEq, Repr

/-- Load widths. -/
inductive LoadKind where
  | lb | lh | lw | lbu | lhu
deriving DecidableEq, Repr

/-- Store widths. -/
inductive StoreKind where
  | sb | sh | sw
deriving DecidableEq, Repr

/-- The two call forms (R219). -/
inductive CallForm where
  | jal (rd : BitVec 5) (off : BitVec 21)
  | jalr (rd rs1 : BitVec 5) (off : BitVec 12)
deriving DecidableEq, Repr

/-- A Zicsr instruction without its CSR number: the operation, rd, and rs1 or the immediate in its place. -/
inductive CsrOp where
  | rw | rs | rc
deriving DecidableEq, Repr

structure CsrForm where
  op : CsrOp
  rd : BitVec 5
  useImm : Bool
  rs1 : BitVec 5
deriving DecidableEq, Repr

/-- A CAN frame on the bus (R361, R365). -/
structure CanFrame where
  id : BitVec 29
  xtd : Bool
  rtr : Bool
  fdf : Bool
  brs : Bool
  esi : Bool
  dlc : BitVec 4
  data : List Byte
deriving DecidableEq, Repr

/-- What goes wrong in a reception (R361, R376): an error with its LEC code, with a dominant bit after the error flag or
not, or a protocol exception, after which the controller waits for bus integration. -/
inductive RxErr where
  | error (lec : BitVec 3) (dominantAfterFlag : Bool)
  | protocolException
deriving DecidableEq, Repr

/-- The supplies that the detectors watch (R386). -/
inductive Supply where
  | vsupH | vsupA | vsupB | vsupC | vio
deriving DecidableEq, Repr

/-- A phase of a three-phase drive. -/
inductive Phase3 where
  | u | v | w
deriving DecidableEq, Repr

/-- The wake sources of Doze (R393). -/
inductive WakeSrc where
  | pin | can0 | can1 | timer
deriving DecidableEq, Repr

/-- One conversion of the four VSUP inputs: millivolts and microamperes (R400). -/
structure SupplySample where
  mv : Nat
  ua : Nat
deriving DecidableEq, Repr

/-- The duplicated hub blocks whose two channels may disagree (R457). -/
inductive HubBlock where
  | releaseGate | releaseLatches
  | driveTrip (n : DrvId)
  | fanOut (i : FanId)
  | gpoPath | puffball | watchdog | clockMonitors | supplySupervisors | pageGuards | commitChecker | ledger
deriving DecidableEq, Repr

/-- The state of a physical transfer's code check by the hub's two encoders (R253). -/
abbrev EncodersAgree := Bool

inductive Instr where
  -- boot
  | powerOn
  | referencePllLock
  | otpLoadDone
  | retentionCheckDone
  | imageCheckDone
  | copyPowerOn
  | copyPllLocked
  | releaseDecision
  -- frame
  | frameTick
  | overloadRaise (g : AdmId)
  | overloadFall (g : AdmId)
  -- register pages
  | pgCommit (src : Src) (page : PageId) (v : Word)
  | commitApply (page : PageId)
  | commitJournalDeadline (page : PageId)
  | shadowWrite (src : Src) (page : PageId) (off : BitVec 12) (v : Word)
  | shdisc (src : Src) (page : PageId)
  | lvWrite (src : Src) (page : PageId) (off : BitVec 12) (v : Word)
  | lvWriteApply
  | lvWriteTimeout
  | registerWrite (src : Src) (page : PageId) (off : BitVec 12) (v : Word)
  | pgEvtset (src : Src) (page : PageId) (v : Word)
  | pgLock (src : Src) (page : PageId) (v : Word)
  | splitReadLo (src : Src) (page : PageId) (off : BitVec 12)
  | splitReadHi (src : Src) (page : PageId) (off : BitVec 12)
  -- journal
  | journalEntryWrite
  | journalEntryTimeout
  | jrnlRdsel (src : Src) (seq : Word)
  | jrnlFlush (src : Src) (v : Word)
  | journalAutoFlush
  | journalFlushEnd
  -- sense
  | groupConversionEnd (c : CopyId) (g : GroupId) (x : Four Half) (cal : Four Half) (temp : Half)
  | calibrationStart
  | dinEdge (c : CopyId) (i : Fin 12) (rising : Bool) (e : Nat)
  | overTemperature (c : CopyId)
  -- link
  | trainingStateTimer (c : CopyId) (ok : Bool)
  | resume (c : CopyId) (ok : Bool)
  | train (e : LinkEnd) (c : CopyId)
  | config (e : LinkEnd) (c : CopyId) (m : ConfigMsg)
  | cal (c : CopyId) (part : Fin 4) (ws : List Word)
  | ping (c : CopyId) (ptime : Word)
  | echo (c : CopyId) (ptime : Word) (rtt : Half)
  | flitCorrupt (e : LinkEnd) (c : CopyId) (flit : BitVec 256)
  | ackTimer (e : LinkEnd) (c : CopyId)
  | replayTimeout (e : LinkEnd) (c : CopyId)
  | lostimeExpiry (e : LinkEnd) (c : CopyId)
  | resyncStateTimer (c : CopyId) (ok : Bool)
  | copyReplayStoreError (c : CopyId) (seq : BitVec 12)
  | hubReplayStoreError (c : CopyId) (seq : BitVec 12)
  | grantSendTimer (c : CopyId)
  -- requests, comparison, release
  | read (c : CopyId) (h : Hdr) (r : Req)
  | write (c : CopyId) (h : Hdr) (r : Req)
  | fetch (c : CopyId) (h : Hdr) (r : Req)
  | drvSafeTrip (c : CopyId) (csn : Word) (n : DrvId)
  | tripSafe (c : CopyId) (csn : Word)
  | tripReq (c : CopyId) (csn : Word)
  | fanSafeStop (c : CopyId) (csn : Word)
  | gpoSafeOff (c : CopyId) (csn : Word)
  | releaseSafeEnter (c : CopyId) (csn : Word)
  | compareComplete (csn : Word) (obs : CmpObs)
  | compareTimeout (csn : Word)
  | requestExecute (csn : Word) (enc : EncodersAgree)
  | schedulerDeadline (csn : Word)
  | responseReserve (csn : Word)
  | responseQueueDeadline (csn : Word)
  | releaseClr (src : Src) (csn : Word) (v : Word)
  -- input agreement and delivery, hub side
  | sample (c : CopyId) (h : Hdr) (m : SampleMsg)
  | dinrec (c : CopyId) (h : Hdr) (part : Fin 3) (m : DinMsg)
  | analogExchangeClose (g : GroupId)
  | digitalExchangeClose
  | plausibilityFault (ch : Fin 24)
  | outlierFault (c : CopyId) (ch : Fin 24)
  | missingSamplesFault (c : CopyId)
  | deliveryOpen
  -- copy side of the response channel
  | agreed (c : CopyId) (h : Hdr) (m : AgreedMsg)
  | drpPropose (c : CopyId) (h : Hdr) (drpid : Byte) (d : BitVec 48) (ev : Events)
  | drpReplace (c : CopyId) (h : Hdr) (drpid : Byte) (d : BitVec 48) (ev : Events)
  | drpConfirm (c : CopyId) (h : Hdr) (drpid : Byte)
  | deliveryRetirePoint (c : CopyId)
  | retrepPeriodic (c : CopyId) (h : Hdr) (retire : BitVec 48) (drpid : Byte)
  | retrepAccept (c : CopyId) (h : Hdr) (retire : BitVec 48) (drpid : Byte)
  | retrepOverrun (c : CopyId) (h : Hdr) (retire : BitVec 48) (drpid : Byte)
  | tick (c : CopyId) (frame : Word) (tdep : DWord) (per : BitVec 19) (lat : Half) (tofs : Byte) (a : Nat)
  | tickExtrapolate (c : CopyId)
  | cfgbc (c : CopyId) (h : Hdr) (part : Fin 6) (gen : Byte) (target : Half) (body : BitVec 160)
  | corerel (c : CopyId) (h : Hdr) (frame : Word) (relset : BitVec 3) (gen : Byte) (level : BitVec 2)
  | linkcfg (c : CopyId) (h : Hdr) (tmr : Word)
  | idle (e : LinkEnd) (c : CopyId) (h : Hdr) (grant : Half)
  | grant (c : CopyId) (h : Hdr) (g : Half)
  | rddata (c : CopyId) (h : Hdr) (csn : Word) (tag : BitVec 6) (status : Byte) (w : CWord)
  | wrack (c : CopyId) (h : Hdr) (csn : Word) (tag : BitVec 6) (status : Byte)
  | line0 (c : CopyId) (h : Hdr) (tag : BitVec 6) (status : Byte) (ws : Four CWord)
  | line1 (c : CopyId) (h : Hdr) (tag : BitVec 6) (status : Byte) (ws : Four CWord)
  | lstatFrameReport (c : CopyId) (h : Hdr) (m : LstatFrame)
  | lstatEventReport (c : CopyId) (h : Hdr) (cause : Byte) (retire : BitVec 48) (detail : Word)
  | dbgcmd (c : CopyId) (h : Hdr) (op : Byte) (dcid : Byte) (arg : Half) (data : Word)
  | dbgrsp (c : CopyId) (h : Hdr) (op : Byte) (dcid : Byte) (result : BitVec 2) (value : Word) (retire : BitVec 48)
  -- Zuster core
  | integerOp (c : CopyId) (op : IntOp) (compressed : Bool)
  | load (c : CopyId) (k : LoadKind) (rd rs1 : BitVec 5) (off : BitVec 12) (compressed : Bool)
  | store (c : CopyId) (k : StoreKind) (rs1 rs2 : BitVec 5) (off : BitVec 12) (compressed : Bool)
  | call (c : CopyId) (f : CallForm) (compressed : Bool)
  | ret (c : CopyId) (rd rs1 : BitVec 5) (off : BitVec 12) (compressed : Bool)
  | fence (c : CopyId)
  | fenceI (c : CopyId)
  | ecall (c : CopyId)
  | ebreak (c : CopyId) (compressed : Bool)
  | gate (c : CopyId) (n : BitVec 6)
  | xretTrap (c : CopyId)
  | xretGate (c : CopyId)
  | wswitch (c : CopyId) (rs1 : BitVec 5) (ring : BitVec 2) (bmode : BitVec 2)
  | hush (c : CopyId)
  | unhush (c : CopyId)
  | eventEntry (c : CopyId)
  | hushOverrun (c : CopyId)
  | retireLoRead (c : CopyId) (f : CsrForm)
  | reqerrRead (c : CopyId) (f : CsrForm)
  | reqerrWrite (c : CopyId) (f : CsrForm)
  | sspWrite (c : CopyId) (n : Fin 4) (f : CsrForm)
  | gtbaseWrite (c : CopyId) (tin : Bool) (f : CsrForm)
  | csrWrite (c : CopyId) (csr : BitVec 12) (f : CsrForm)
  | icacheScrub (c : CopyId)
  -- Bronze
  | qadd (c : CopyId) (s : Bool) (rs2 rs1 rd : BitVec 5)
  | qsub (c : CopyId) (s : Bool) (rs2 rs1 rd : BitVec 5)
  | qmul (c : CopyId) (s : Bool) (rs2 rs1 : BitVec 5) (rm : BitVec 3) (rd : BitVec 5)
  | qshl (c : CopyId) (s : Bool) (rs2 rs1 rd : BitVec 5)
  | qshr (c : CopyId) (rs2 rs1 : BitVec 5) (rm : BitVec 3) (rd : BitVec 5)
  | pack (c : CopyId) (s : Bool) (rs2 rs1 : BitVec 5) (rm : BitVec 3) (rd : BitVec 5)
  | padd (c : CopyId) (s : Bool) (rs2 rs1 rd : BitVec 5)
  | psub (c : CopyId) (s : Bool) (rs2 rs1 rd : BitVec 5)
  | pmul (c : CopyId) (s : Bool) (rs2 rs1 : BitVec 5) (rm : BitVec 3) (rd : BitVec 5)
  | mac (c : CopyId) (s : Bool) (rs2 rs1 : BitVec 5)
  | msu (c : CopyId) (s : Bool) (rs2 rs1 : BitVec 5)
  | mul0 (c : CopyId) (rs2 rs1 : BitVec 5)
  | pmac (c : CopyId) (s : Bool) (rs2 rs1 : BitVec 5)
  | pmsc (c : CopyId) (s : Bool) (rs2 rs1 : BitVec 5)
  | pmacx (c : CopyId) (s : Bool) (rs2 rs1 : BitVec 5)
  | pmscx (c : CopyId) (s : Bool) (rs2 rs1 : BitVec 5)
  | accext (c : CopyId) (imm : BitVec 12) (rd : BitVec 5)
  | accrdl (c : CopyId) (rd : BitVec 5)
  | accrdh (c : CopyId) (rd : BitVec 5)
  | accrdg (c : CopyId) (rd : BitVec 5)
  | accwrl (c : CopyId) (rs1 : BitVec 5)
  | accwrh (c : CopyId) (rs1 : BitVec 5)
  | accwrg (c : CopyId) (rs1 : BitVec 5)
  | accclr (c : CopyId)
  | accldq (c : CopyId) (rs1 : BitVec 5)
  | sin (c : CopyId) (rs1 rd : BitVec 5)
  | cos (c : CopyId) (rs1 rd : BitVec 5)
  | atan2 (c : CopyId) (rs2 rs1 rd : BitVec 5)
  | sqrt (c : CopyId) (rs1 rd : BitVec 5)
  | recip (c : CopyId) (rs2 rs1 rd : BitVec 5)
  | exp2 (c : CopyId) (rs1 rd : BitVec 5)
  -- memories
  | flashJobUnitDone (programmed : List CWord) (enc : EncodersAgree)
  | flashJobEnd
  | flashReadWindow (src : Src) (addr : Word)
  | sramScrub
  | retentionRefresh
  | ueClear (src : Src) (retn : Bool)
  -- drives
  | pwmPeriodStart (n : DrvId)
  | driveOverrun (n : DrvId)
  | observerLoss (n : DrvId)
  | ocComparator (n : DrvId) (code : BitVec 10)
  | ocBlankingEnd (n : DrvId)
  | ovComparator (n : DrvId) (code : BitVec 10)
  | trackerEvent (n : DrvId) (ph : Phase3) (rising : Bool) (t : DWord)
  | trackerInvalid (n : DrvId)
  -- fans, switched outputs, Puffball
  | fanPwmPeriod (i : FanId)
  | tachEdge (i : FanId) (t : DWord)
  | fanLoopTick
  | fanStall (i : FanId)
  | fanRetryoffEnd (i : FanId)
  | fanKickEnd (i : FanId)
  | fanRcntClear (i : FanId)
  | fanOverrun
  | fanPlausWindow (i : FanId)
  | gpoBbmOn (i : GpoId)
  | gpoReadbackMismatch (i : GpoId) (drainHigh : Bool)
  | gpoOvercurrent (i : GpoId)
  | puffballEntry
  | puffKickEnd
  | distressFrame
  -- CAN FD and partners
  | txcmdSubmit (n : CanId) (w : World) (slot : BitVec 6)
  | txcmdCancel (n : CanId) (slot : BitVec 6)
  | txcmdRecover (n : CanId)
  | txSelect (n : CanId) (sof : Bool)
  | txComplete (n : CanId)
  | txArbitrationLost (n : CanId)
  | txError (n : CanId) (lec : BitVec 3)
  | txDeadline (n : CanId) (slot : BitVec 6)
  | txGuardOverrun (n : CanId) (slot : BitVec 6)
  | rxFrame (n : CanId) (f : CanFrame) (sofTime : Word)
  | rxError (n : CanId) (k : RxErr)
  | rxcmdPop (n : CanId) (w : World)
  | rxDeadline (n : CanId)
  | rxGuardOverrun (n : CanId)
  | busoffRecoveryStart (n : CanId)
  | busoffRecovered (n : CanId)
  | canStop (n : CanId)
  | partnerAgeTick
  | partnerLeft (e : Fin 128)
  -- power
  | vsupHBrownout
  | copySupplyBrownout (c : CopyId) (mv : Half)
  | supplyOvervoltage (i : Supply) (mv : Half)
  | vioBrownout (mv : Half)
  | holdsnsConversion (mv : Half) (s : Quad SupplySample)
  | ledgerMsTick
  | mainsLoss
  | mainsReturn
  | rideStepStart
  | ledgerAdmit
  | ledgerWaitTimeout
  | ledgerGuardOverrun
  | cvctlGo (src : Src) (v : Word)
  | capCheckSinkOn
  | capCheckEnd
  | lowPowerEntry
  | lowPowerStop
  | dozeWake (w : WakeSrc)
  | dozeClockRestored (n : Nat)
  | hibernateWake
  -- clocks and resets
  | crystalOk
  | crystalTimeout
  | clockMonitorWindow (count : Word)
  | hclkStop
  | lfclkStop
  | rstNAssert
  | swrstCoreset (src : Src) (v : Word)
  | swrstHub (src : Src) (v : Word)
  -- loader, JTAG, debug
  | loaderLedger (capnf vmin : Word)
  | loaderErase (addr : Word)
  | loaderProgram (addr : Word) (data : List Word)
  | loaderRead (addr : Word)
  | loaderOtpwrite (addr : Word) (w : Word)
  | loaderJread (seq : Word)
  | loaderBoot
  | jtagIdcode
  | jtagSamplePreload (bits : BitVec 7)
  | jtagExtest
  | jtagClamp
  | jtagBypass (ir : BitVec 5)
  | dbgaccRead (addr : Word)
  | dbgaccWrite (addr : Word) (v : Word)
  | unlockChallenge (noise : DWord)
  | unlockResponse (r : DWord)
  | dbgHalt (src : Src)
  | dbgReadReg (src : Src) (n : Half)
  | dbgWriteReg (src : Src) (n : Half)
  | dbgReadCsr (src : Src) (n : Half)
  | dbgWriteCsr (src : Src) (n : Half)
  | dbgReadPc (src : Src)
  | dbgWritePc (src : Src)
  | dbgResume (src : Src)
  | dbgStep (src : Src) (n : Half)
  | debugStepDone (c : CopyId)
  | otpReadWindow (src : Src) (addr : Word)
  | wdogKick (src : Src) (v : Half)
  | wdogExpiry
  | hubCrosscheckFault (b : HubBlock)
  | supplyBackInRange (i : Supply) (mv : Half)
  | retentionSupplyLoss
  | illegalInstruction (c : CopyId) (iw : Word)
  | resyncPatternDetect (e : LinkEnd) (c : CopyId)
  | busIntegrationEnd (n : CanId)
  | linkGuardOverrun (c : CopyId)
  | schedulerGuardOverrun
  | digitalAperture (c : CopyId) (lvl : BitVec 12)
deriving DecidableEq, Repr

end Sys2Proof
end

