-- ==== Sys2Proof/Decode.lean ====
section
/-! DEFINITION. Decode.lean: the device is a block, which takes commands and decodes no instruction words; no row of
spec/opcode_table.json has bits. -/

namespace Sys2Proof

/-- The command that a word spells by the table's bits: the table gives none. -/
def decodeTableWord (_nbits _w : Nat) : Option Instr := none

end Sys2Proof
end

