-- ==== Sys2Proof/Config.lean ====
section
/-! DEFINITION. Config.lean: the values that the spec leaves open. Each is an opaque constant without a body,
so that a statement about it holds whatever it is. `Nat` arguments are draws of the State's own counter
`freeCtr`, which the step that uses a value advances. -/

namespace Sys2Proof

/-- A 32-bit value the spec leaves open (assumption 6). -/
opaque Config.freeWord : Nat → Word

/-- A Boolean choice the spec leaves open (assumption 6). -/
opaque Config.freeBool : Nat → Bool

/-- The code that the JTAG instruction IDCODE returns; the manual names it and gives no value (assumption 6). -/
opaque Config.jtagIdcode : Word

/-- The number that a RESET entry carries in NEW for the detail RETLOST of R62 (assumption 7: the manual
names the detail and gives it no code). -/
opaque Config.retlostCode : Word

/-- A_g of factory sums with S_HI at or below S_LO, for which R79 states no result (assumption 6). -/
opaque Config.calRatio : Nat → Nat → Word

/-- The content of an SRAM byte that nothing has written since power-on (R252, R265; assumption 4). -/
opaque Config.sramPowerOn : Nat → Byte

end Sys2Proof
end

