-- ==== Sys2Proof/Machine/Store.lean ====
section
/-! DEFINITION. Machine/Store.lean: sparse data in its one canonical form, bit fields, and the plain integer
arithmetic that many chapters share. -/

namespace Sys2Proof.Machine

open Sys2Proof

/-- What key `k` reads as: its listed entry, else the default. -/
def mapGet {β : Type} (dflt : Nat → β) : Map β → Nat → β
  | [], k => dflt k
  | (a, v) :: m, k => if a = k then v else mapGet dflt m k

/-- `m` without an entry for `k`. -/
def mapErase {β : Type} : Map β → Nat → Map β
  | [], _ => []
  | (a, v) :: m, k => if a = k then mapErase m k else (a, v) :: mapErase m k

/-- `m` with `(k, v)` at its place in rising order; `m` lists no entry for `k`. -/
def mapInsert {β : Type} : Map β → Nat → β → Map β
  | [], k, v => [(k, v)]
  | (a, w) :: m, k, v => if k < a then (k, v) :: (a, w) :: m else (a, w) :: mapInsert m k v

/-- A write keeps the canonical form: a value equal to the default removes the entry. -/
def mapPut {β : Type} [DecidableEq β] (dflt : Nat → β) (m : Map β) (k : Nat) (v : β) : Map β :=
  if v = dflt k then mapErase m k else mapInsert (mapErase m k) k v

/-- The canonical form: keys rise strictly, and no entry equals what its key would read as unlisted. -/
def mapWf {β : Type} [DecidableEq β] (dflt : Nat → β) : Map β → Bool
  | [] => true
  | [(a, v)] => decide (v ≠ dflt a)
  | (a, v) :: (b, w) :: m => decide (v ≠ dflt a) && decide (a < b) && mapWf dflt ((b, w) :: m)

/-- The entries of `m` whose key satisfies `p`. -/
def mapKeep {β : Type} (p : Nat → Bool) (m : Map β) : Map β := m.filter (fun e => p e.1)

/-- Field `[hi:lo]` of a word as a number (R7). -/
def fld (w : Word) (hi lo : Nat) : Nat := (w.toNat / 2 ^ lo) % 2 ^ (hi + 1 - lo)

/-- `w` with field `[hi:lo]` replaced by the low bits of `v`. -/
def setFld (w : Word) (hi lo v : Nat) : Word :=
  BitVec.ofNat 32 (w.toNat % 2 ^ lo + (v % 2 ^ (hi + 1 - lo)) * 2 ^ lo + (w.toNat / 2 ^ (hi + 1)) * 2 ^ (hi + 1))

/-- Bit `i` of a word. -/
def bitOf (w : Word) (i : Nat) : Bool := w.toNat / 2 ^ i % 2 == 1

/-- `w` with bit `i` set to `b`. -/
def setBit (w : Word) (i : Nat) (b : Bool) : Word := setFld w i i (if b then 1 else 0)

def boolNat (b : Bool) : Nat := if b then 1 else 0

def boolWord (b : Bool) : Word := if b then 1 else 0

/-- A word built from a number, modulo 2^32. -/
def toWord (n : Nat) : Word := BitVec.ofNat 32 n

/-- Saturating increment of a 32-bit counter (R37, R299). -/
def satAdd (w : Word) (n : Nat) : Word := toWord (min (w.toNat + n) 0xFFFFFFFF)

/-- A number saturated to the unsigned range of `bits` bits. -/
def satU (bits n : Nat) : Nat := min n (2 ^ bits - 1)

/-- An integer saturated to the signed range of `bits` bits (R233). -/
def satS (bits : Nat) (x : Int) : Int :=
  if x < -(2 ^ (bits - 1) : Int) then -(2 ^ (bits - 1) : Int)
  else if x > (2 ^ (bits - 1) : Int) - 1 then (2 ^ (bits - 1) : Int) - 1 else x

/-- The signed value of the low `bits` bits of a number. -/
def sext (bits n : Nat) : Int :=
  if n % 2 ^ bits < 2 ^ (bits - 1) then (n % 2 ^ bits : Nat) else (n % 2 ^ bits : Nat) - (2 ^ bits : Int)

/-- The low `bits` bits of an integer in two's complement. -/
def wrapU (bits : Nat) (x : Int) : Nat := (x % (2 ^ bits : Int)).toNat

/-- A word holding an integer in two's complement. -/
def intWord (x : Int) : Word := toWord (wrapU 32 x)

/-- The signed value of a word. -/
def wordInt (w : Word) : Int := sext 32 w.toNat

/-- RNE_DIV(x, y) for y > 0: x / y rounded to the nearest integer, a tie to the even one (R77). -/
def rneDiv (x : Int) (y : Nat) : Int :=
  let q := x / (y : Int)
  let r := (x % (y : Int)).toNat
  if 2 * r < y then q
  else if y < 2 * r then q + 1
  else if q % 2 = 0 then q else q + 1

/-- R_RNE(x, n): x / 2^n rounded to the nearest integer, a tie to the even one (R235). -/
def rRne (x : Int) (n : Nat) : Int := rneDiv x (2 ^ n)

/-- Smallest integer at least x / y. -/
def ceilDiv (x y : Nat) : Nat := (x + y - 1) / y

/-- `xs` with element `i` replaced; out of range leaves it alone. -/
def listSet {α : Type} : List α → Nat → α → List α
  | [], _, _ => []
  | _ :: xs, 0, y => y :: xs
  | x :: xs, n + 1, y => x :: listSet xs n y

def listGet {α : Type} (dflt : α) : List α → Nat → α
  | [], _ => dflt
  | x :: _, 0 => x
  | _ :: xs, n + 1 => listGet dflt xs n

/-- Bytes of a word, lowest address first (R8). -/
def wordBytes (w : Word) : List Byte :=
  [w.extractLsb' 0 8, w.extractLsb' 8 8, w.extractLsb' 16 8, w.extractLsb' 24 8]

/-- The bytes of a word, highest first. -/
def wordBytesBE (w : Word) : List Byte := (wordBytes w).reverse

/-- A word from its four bytes, lowest address first (R8). -/
def bytesWord (b0 b1 b2 b3 : Byte) : Word := b3 ++ b2 ++ b1 ++ b0

end Sys2Proof.Machine
end

