-- ==== Sys2Proof/Machine/Regs.lean ====
section
/-! DEFINITION. Machine/Regs.lean: the hub register map (R41, R68 and the register tables of every chapter).
A register's key is page × 0x1000 + offset. For every register: which of its bits are SH, LV or RW, W1C and
WO (all others are RO or reserved, R13, R14), and its reset value. -/

namespace Sys2Proof.Machine

open Sys2Proof

/-- One row of a register table: `n` registers from `off`, `stride` apart. -/
structure RegRow where
  off : Nat
  n : Nat
  stride : Nat
  sh : Nat
  lv : Nat
  w1c : Nat
  wo : Nat
  reset : Nat
deriving DecidableEq, Repr

def rowsSys : List RegRow :=
  [⟨0x40, 1, 4, 0, 0, 0, 0, 0xb5031100⟩,
   ⟨0x44, 1, 4, 0, 0, 0, 0, 0⟩,
   ⟨0x48, 1, 4, 0, 0, 0, 0, 2⟩]

def rowsJrnl : List RegRow :=
  [⟨0x40, 1, 4, 0, 0, 0, 0, 0⟩,
   ⟨0x44, 1, 4, 0, 0, 0, 0, 0⟩,
   ⟨0x48, 1, 4, 0, 0xffffffff, 0, 0, 0⟩,
   ⟨0x4c, 1, 4, 0, 0, 0, 0, 0⟩,
   ⟨0x50, 1, 4, 0, 0, 0, 0, 0⟩,
   ⟨0x54, 1, 4, 0, 0, 0, 3, 0⟩,
   ⟨0x5c, 1, 4, 0, 0, 0, 0, 0⟩,
   ⟨0x60, 1, 4, 0, 0, 0, 0, 0⟩,
   ⟨0x64, 1, 4, 0, 0, 0, 0, 0⟩,
   ⟨0x68, 1, 4, 0, 0, 0, 0, 0⟩,
   ⟨0x6c, 1, 4, 0, 0, 0, 0, 0⟩,
   ⟨0x70, 1, 4, 0, 0, 0, 0, 0⟩,
   ⟨0x58, 1, 4, 0, 0, 0, 0, 0⟩,
   ⟨0x100, 8, 4, 0, 0, 0, 0, 0⟩,
   ⟨0x80, 1, 4, 0, 0xff, 0, 0, 0x10⟩,
   ⟨0x84, 1, 4, 0, 0, 0, 0, 0⟩,
   ⟨0x88, 1, 4, 0, 0, 0, 0, 0⟩,
   ⟨0x8c, 1, 4, 0, 0, 0, 0, 0⟩,
   ⟨0x90, 1, 4, 0, 0, 0, 0, 0⟩,
   ⟨0x94, 1, 4, 0, 0, 0, 0, 0⟩]

def rowsGuard : List RegRow :=
  [⟨0x40, 0x40, 4, 0, 0x3f3f, 0, 0, 0x101⟩]

def rowsSensecfg : List RegRow :=
  [⟨0x40, 3, 4, 0x8f07ffff, 0, 0, 0, 0x3000000⟩,
   ⟨0x50, 0xc, 8, 0x8000ffff, 0, 0, 0, 0⟩,
   ⟨0x54, 0xc, 8, 0xffffffff, 0, 0, 0, 0x40000000⟩,
   ⟨0xb0, 1, 4, 0x80f7ffff, 0, 0, 0, 0x200000⟩,
   ⟨0xb4, 1, 4, 0xffffff, 0, 0, 0, 0⟩,
   ⟨0xb8, 1, 4, 0xff, 0, 0, 0, 0x82⟩,
   ⟨0xbc, 1, 4, 0, 0, 0, 0, 0⟩]

def rowsAgree0 : List RegRow :=
  [⟨0x400, 1, 4, 0, 0, 0, 0, 0⟩,
   ⟨0x404, 1, 4, 0, 0, 0, 0, 0⟩,
   ⟨0x408, 1, 4, 0, 0, 0, 0, 0⟩,
   ⟨0x40c, 1, 4, 0, 0, 0, 0, 0⟩,
   ⟨0x4a0, 1, 4, 0, 0, 0, 0, 0⟩,
   ⟨0x410, 3, 8, 0, 0, 0, 0, 0⟩,
   ⟨0x414, 3, 8, 0, 0, 0, 0, 0⟩,
   ⟨0x428, 3, 4, 0, 0, 0, 0, 0⟩,
   ⟨0x440, 0xc, 8, 0, 0, 0, 0, 0⟩,
   ⟨0x444, 0xc, 8, 0, 0, 0, 0, 0⟩,
   ⟨0x4b0, 1, 4, 0, 0, 0, 0, 0⟩,
   ⟨0x4b4, 1, 4, 0, 0, 0, 0, 0⟩,
   ⟨0x4b8, 1, 4, 0, 0, 0, 0, 0⟩,
   ⟨0x4bc, 1, 4, 0, 0, 0, 0, 0⟩,
   ⟨0x4c0, 1, 4, 0, 0, 0, 0, 0⟩,
   ⟨0x4c4, 1, 4, 0, 0, 0, 0, 0⟩,
   ⟨0x4c8, 1, 4, 0, 0, 0, 0, 0⟩,
   ⟨0x500, 1, 4, 0, 0, 0, 0, 0⟩,
   ⟨0x504, 1, 4, 0, 0, 0, 0, 0⟩,
   ⟨0x508, 1, 4, 0, 0, 0, 0, 0⟩,
   ⟨0x50c, 1, 4, 0, 0, 0, 0, 0⟩,
   ⟨0x5a0, 1, 4, 0, 0, 0, 0, 0⟩,
   ⟨0x510, 3, 8, 0, 0, 0, 0, 0⟩,
   ⟨0x514, 3, 8, 0, 0, 0, 0, 0⟩]

def rowsAgree1 : List RegRow :=
  [⟨0x528, 3, 4, 0, 0, 0, 0, 0⟩,
   ⟨0x540, 0xc, 8, 0, 0, 0, 0, 0⟩,
   ⟨0x544, 0xc, 8, 0, 0, 0, 0, 0⟩,
   ⟨0x5b0, 1, 4, 0, 0, 0, 0, 0⟩,
   ⟨0x5b4, 1, 4, 0, 0, 0, 0, 0⟩,
   ⟨0x5b8, 1, 4, 0, 0, 0, 0, 0⟩,
   ⟨0x5bc, 1, 4, 0, 0, 0, 0, 0⟩,
   ⟨0x5c0, 1, 4, 0, 0, 0, 0, 0⟩,
   ⟨0x5c4, 1, 4, 0, 0, 0, 0, 0⟩,
   ⟨0x5c8, 1, 4, 0, 0, 0, 0, 0⟩,
   ⟨0x600, 1, 4, 0, 0, 0, 0, 0⟩,
   ⟨0x604, 1, 4, 0, 0, 0, 0, 0⟩,
   ⟨0x608, 1, 4, 0, 0, 0, 0, 0⟩,
   ⟨0x60c, 1, 4, 0, 0, 0, 0, 0⟩,
   ⟨0x6a0, 1, 4, 0, 0, 0, 0, 0⟩,
   ⟨0x610, 3, 8, 0, 0, 0, 0, 0⟩,
   ⟨0x614, 3, 8, 0, 0, 0, 0, 0⟩,
   ⟨0x628, 3, 4, 0, 0, 0, 0, 0⟩,
   ⟨0x640, 0xc, 8, 0, 0, 0, 0, 0⟩,
   ⟨0x644, 0xc, 8, 0, 0, 0, 0, 0⟩,
   ⟨0x6b0, 1, 4, 0, 0, 0, 0, 0⟩,
   ⟨0x6b4, 1, 4, 0, 0, 0, 0, 0⟩,
   ⟨0x6b8, 1, 4, 0, 0, 0, 0, 0⟩,
   ⟨0x6bc, 1, 4, 0, 0, 0, 0, 0⟩]

def rowsAgree2 : List RegRow :=
  [⟨0x6c0, 1, 4, 0, 0, 0, 0, 0⟩,
   ⟨0x6c4, 1, 4, 0, 0, 0, 0, 0⟩,
   ⟨0x6c8, 1, 4, 0, 0, 0, 0, 0⟩,
   ⟨0x40, 1, 4, 0xfff00ff, 0, 0, 0, 0x1000041⟩,
   ⟨0x44, 1, 4, 0xf0fffff, 0, 0, 0, 0x3000004⟩,
   ⟨0x48, 1, 4, 0, 0, 0, 0, 0⟩,
   ⟨0x4c, 1, 4, 0, 0, 0, 0, 0⟩,
   ⟨0x50, 1, 4, 0, 0, 0, 0, 0⟩,
   ⟨0x54, 1, 4, 0, 0, 0, 0, 0⟩,
   ⟨0x58, 1, 4, 0, 0, 0, 0, 0⟩,
   ⟨0x5c, 1, 4, 0, 0, 0, 0, 0⟩,
   ⟨0x60, 1, 4, 0, 0, 0xffffff, 0, 0⟩,
   ⟨0x80, 0xc, 4, 0xffff7, 0, 0, 0, 0x30100⟩,
   ⟨0xc0, 0xc, 4, 0, 0, 0, 0, 0⟩,
   ⟨0xf0, 0xc, 4, 0, 0, 0, 0, 0⟩]

def rowsAgree : List RegRow := rowsAgree0 ++ rowsAgree1 ++ rowsAgree2

def rowsLink : List RegRow :=
  [⟨0x40, 1, 4, 0x31, 0, 0, 0, 0x21⟩,
   ⟨0x44, 1, 4, 0xffc7ffff, 0, 0, 0, 0x32045190⟩,
   ⟨0x48, 1, 4, 0, 0xff, 0, 0, 8⟩]

def rowsLinkx0 : List RegRow :=
  [⟨0x40, 1, 4, 0, 0, 0, 0, 0⟩,
   ⟨0x44, 1, 4, 0, 0, 0, 0, 0⟩,
   ⟨0x48, 1, 4, 0, 0, 0, 0, 0⟩,
   ⟨0x4c, 1, 4, 0, 0, 0, 0, 0⟩,
   ⟨0x50, 1, 4, 0, 0, 0, 0, 0⟩,
   ⟨0x54, 1, 4, 0, 0, 0, 0, 0⟩,
   ⟨0x58, 1, 4, 0, 0, 0, 0, 0⟩,
   ⟨0x5c, 1, 4, 0, 0, 0, 0, 0⟩,
   ⟨0x60, 1, 4, 0, 0, 0, 0, 0⟩,
   ⟨0x64, 1, 4, 0, 0, 0, 0, 0⟩,
   ⟨0x68, 1, 4, 0, 0, 0, 0, 0⟩,
   ⟨0x6c, 1, 4, 0, 0, 0, 0, 0⟩,
   ⟨0x70, 1, 4, 0, 0, 0, 0, 0⟩,
   ⟨0x80, 1, 4, 0, 0, 0, 0, 0⟩,
   ⟨0x84, 1, 4, 0, 0, 0, 0, 0⟩,
   ⟨0x88, 1, 4, 0, 0, 0, 0, 0⟩,
   ⟨0x8c, 1, 4, 0, 0, 0, 0, 0⟩,
   ⟨0x90, 1, 4, 0, 0, 0, 0, 0⟩,
   ⟨0x94, 1, 4, 0, 0, 0, 0, 0⟩,
   ⟨0x98, 1, 4, 0, 0, 0, 0, 0⟩,
   ⟨0x9c, 1, 4, 0, 0, 0, 0, 0⟩,
   ⟨0xc0, 1, 4, 0, 0xff, 0, 0, 0x10⟩,
   ⟨0xc4, 1, 4, 0, 0, 0, 0, 0⟩,
   ⟨0xc8, 1, 4, 0, 0, 0, 0, 0⟩]

def rowsLinkx1 : List RegRow :=
  [⟨0xcc, 1, 4, 0, 0, 0, 0, 0⟩,
   ⟨0xd0, 1, 4, 0, 0, 0, 0, 0⟩,
   ⟨0xd4, 1, 4, 0, 0, 0, 0, 0⟩]

def rowsLinkx : List RegRow := rowsLinkx0 ++ rowsLinkx1

def rowsTbase : List RegRow :=
  [⟨0x40, 1, 4, 0, 0, 0, 0, 0⟩,
   ⟨0x44, 1, 4, 0, 0, 0, 0, 0⟩,
   ⟨0x48, 1, 4, 0, 0, 0, 0, 0⟩,
   ⟨0x4c, 1, 4, 0, 0, 0, 0, 0⟩,
   ⟨0x50, 1, 4, 0, 0, 0, 0, 0⟩,
   ⟨0x54, 1, 4, 0, 0, 0, 0, 0⟩,
   ⟨0x58, 1, 4, 0x7ffff, 0, 0, 0, 0x4e20⟩,
   ⟨0x5c, 1, 4, 0, 0, 0, 0, 0⟩]

def rowsIrqd : List RegRow :=
  [⟨0x40, 1, 4, 0xffffffff, 0, 0, 0, 0⟩,
   ⟨0x44, 1, 4, 0xffffffff, 0, 0, 0, 0⟩,
   ⟨0x48, 1, 4, 0, 0, 0, 0, 0⟩,
   ⟨0x4c, 1, 4, 0, 0, 0, 0, 0⟩,
   ⟨0x50, 1, 4, 0, 0, 0, 0, 0⟩,
   ⟨0x54, 1, 4, 0, 0, 0, 0, 0⟩]

def rowsFlash : List RegRow :=
  [⟨0x40, 1, 4, 0xf, 0, 0, 0, 0xb⟩,
   ⟨0x44, 1, 4, 0xf0001fff, 0, 0, 0, 0x20000000⟩,
   ⟨0x48, 1, 4, 0xffffffff, 0, 0, 0, 0⟩,
   ⟨0x4c, 1, 4, 0xffffffff, 0, 0, 0, 0⟩,
   ⟨0x50, 1, 4, 0, 0, 0, 0, 0⟩,
   ⟨0x54, 1, 4, 0, 0, 0, 0, 0⟩,
   ⟨0x58, 1, 4, 0, 0, 0, 0, 0⟩,
   ⟨0x5c, 1, 4, 0, 0xffffffff, 0, 0, 0⟩,
   ⟨0x60, 1, 4, 0, 0, 0, 0, 0⟩,
   ⟨0x64, 1, 4, 0, 0, 0, 0, 0⟩,
   ⟨0x68, 1, 4, 0, 0, 0, 0, 0⟩,
   ⟨0x6c, 1, 4, 0, 0, 0, 0, 0⟩,
   ⟨0x70, 1, 4, 0, 0, 0, 0, 0⟩]

def rowsSram : List RegRow :=
  [⟨0x40, 1, 4, 0, 0xff, 0, 0, 0⟩,
   ⟨0x44, 1, 4, 0, 0, 0, 0, 0⟩,
   ⟨0x48, 1, 4, 0, 0, 0, 0, 0⟩,
   ⟨0x4c, 1, 4, 0, 0, 0, 0, 0⟩,
   ⟨0x50, 1, 4, 0, 0, 0, 0, 0⟩]

def rowsRetn : List RegRow :=
  [⟨0x40, 1, 4, 0, 0, 0, 0, 0⟩,
   ⟨0x44, 1, 4, 0, 0, 0, 0, 0⟩,
   ⟨0x48, 1, 4, 0, 0, 0, 0, 0⟩]

def rowsCmp : List RegRow :=
  [⟨0x40, 1, 4, 0, 0, 0, 0, 0⟩,
   ⟨0x44, 1, 4, 0, 0, 0, 0, 0⟩,
   ⟨0x48, 1, 4, 0, 0, 0, 0, 0⟩,
   ⟨0x4c, 1, 4, 0, 0, 0, 0, 0⟩,
   ⟨0x50, 1, 4, 0, 0, 0, 0, 0⟩,
   ⟨0x54, 1, 4, 0, 0, 0, 0, 0⟩,
   ⟨0x58, 1, 4, 0, 0, 0, 0, 0⟩,
   ⟨0x5c, 1, 4, 0, 0, 0, 0, 0⟩,
   ⟨0x60, 1, 4, 0, 0, 0, 0, 0⟩,
   ⟨0x64, 1, 4, 0, 0, 0, 0, 0⟩,
   ⟨0x68, 1, 4, 0, 0, 0, 0, 0⟩,
   ⟨0xc0, 1, 4, 0, 0xff, 0, 0, 0x10⟩,
   ⟨0xc4, 1, 4, 0, 0, 0, 0, 0⟩,
   ⟨0xc8, 1, 4, 0, 0, 0, 0, 0⟩,
   ⟨0xcc, 1, 4, 0, 0, 0, 0, 0⟩,
   ⟨0xd0, 1, 4, 0, 0, 0, 0, 0⟩,
   ⟨0xd4, 1, 4, 0, 0, 0, 0, 0⟩]

def rowsRelease : List RegRow :=
  [⟨0x40, 1, 4, 0, 0, 0, 1, 0⟩,
   ⟨0x44, 1, 4, 0, 0, 0, 0xff01ffff, 0⟩,
   ⟨0x48, 1, 4, 0, 0, 0, 0, 1⟩,
   ⟨0x4c, 1, 4, 0, 0, 0, 0, 1⟩,
   ⟨0x50, 1, 4, 0, 0xffff000f, 0, 0, 0x100003⟩,
   ⟨0x54, 1, 4, 0, 0, 0, 0, 0⟩]

def rowsDrv0 : List RegRow :=
  [⟨0x40, 1, 4, 0, 0, 0, 1, 0⟩,
   ⟨0x44, 1, 4, 0, 0, 0, 0, 0x40⟩,
   ⟨0x48, 1, 4, 0x8000ffff, 0, 0, 0, 0x30d4⟩,
   ⟨0x4c, 1, 4, 0xff00ffff, 0, 0, 0, 0x3200⟩,
   ⟨0x50, 1, 4, 0x1ffff, 0, 0, 0, 8⟩,
   ⟨0x54, 1, 4, 3, 0, 0, 0, 3⟩,
   ⟨0x58, 1, 4, 0x13f, 0, 0, 0, 0x100⟩,
   ⟨0x5c, 1, 4, 0xff7fff, 0, 0, 0, 0x23ff⟩,
   ⟨0x60, 1, 4, 0x7fff, 0, 0, 0, 0x23ff⟩,
   ⟨0x64, 1, 4, 0xff03, 0, 0, 0, 0⟩,
   ⟨0x68, 1, 4, 0x7fff, 0, 0, 0, 0⟩,
   ⟨0x6c, 1, 4, 0xf, 0, 0, 0, 0⟩,
   ⟨0x70, 1, 4, 0xffffffff, 0, 0, 0, 0⟩,
   ⟨0x74, 1, 4, 0xffffffff, 0, 0, 0, 0⟩,
   ⟨0x78, 1, 4, 0xffffffff, 0, 0, 0, 0⟩,
   ⟨0x7c, 1, 4, 0xffffffff, 0, 0, 0, 0⟩,
   ⟨0x80, 1, 4, 0xffffffff, 0, 0, 0, 0⟩,
   ⟨0x84, 1, 4, 0xf01, 0, 0, 0, 0x300⟩,
   ⟨0x88, 1, 4, 0xffffffff, 0, 0, 0, 0xb60b60b⟩,
   ⟨0x8c, 1, 4, 0xffffffff, 0, 0, 0, 0xffffffff⟩,
   ⟨0x90, 1, 4, 0xffffffff, 0, 0, 0, 0⟩,
   ⟨0x94, 1, 4, 0xffffffff, 0, 0, 0, 0xffffffff⟩,
   ⟨0x98, 1, 4, 0x1fff, 0, 0, 0, 0x428⟩,
   ⟨0xa0, 1, 4, 0, 0, 0, 0, 0x18⟩]

def rowsDrv1 : List RegRow :=
  [⟨0xa4, 1, 4, 0, 0, 0, 0, 0⟩,
   ⟨0xa8, 1, 4, 0, 0, 0, 0, 0⟩,
   ⟨0xac, 1, 4, 0, 0, 0, 0, 0⟩,
   ⟨0xb0, 1, 4, 0, 0, 0, 0, 0⟩,
   ⟨0xb4, 1, 4, 0, 0, 0, 0, 0⟩,
   ⟨0xb8, 1, 4, 0, 0, 0, 0, 0⟩,
   ⟨0xbc, 1, 4, 0, 0, 0, 0, 0⟩,
   ⟨0xc0, 1, 4, 0, 0, 0, 0, 0⟩,
   ⟨0xc4, 1, 4, 0, 0, 0, 0, 0⟩,
   ⟨0xc8, 1, 4, 0, 0, 0, 0, 0⟩,
   ⟨0x100, 1, 4, 0xffffffff, 0, 0, 0, 0⟩,
   ⟨0x104, 1, 4, 0xffffffff, 0, 0, 0, 0⟩,
   ⟨0x108, 1, 4, 0xffffffff, 0, 0, 0, 0⟩,
   ⟨0x10c, 1, 4, 0xffffffff, 0, 0, 0, 0⟩]

def rowsDrv : List RegRow := rowsDrv0 ++ rowsDrv1

def rowsTrip : List RegRow :=
  [⟨0x40, 1, 4, 0, 0, 0, 0xf, 0⟩,
   ⟨0x44, 1, 4, 0, 0, 0, 0x800000ff, 0⟩,
   ⟨0x48, 1, 4, 0, 0, 0, 0, 0⟩,
   ⟨0x4c, 1, 4, 0, 0, 0, 0, 0x715⟩]

def rowsFan : List RegRow :=
  [⟨0x40, 1, 4, 0, 0, 0, 0xf, 0⟩,
   ⟨0x44, 4, 0x20, 0xffffff3f, 0, 0, 0, 0x1f4f204⟩,
   ⟨0x48, 4, 0x20, 0xffffffff, 0, 0, 0, 0⟩,
   ⟨0x4c, 4, 0x20, 0xffffffff, 0, 0, 0, 0⟩,
   ⟨0x50, 4, 0x20, 0xffffffff, 0, 0, 0, 0xffff0000⟩,
   ⟨0x54, 4, 0x20, 0xffffffff, 0, 0, 0, 0x7d0⟩,
   ⟨0x58, 4, 0x20, 0xffffffff, 0, 0, 0, 0x3ff3232⟩,
   ⟨0x5c, 4, 0x20, 0xffff, 0, 0, 0, 0x1402⟩,
   ⟨0xc0, 4, 0x10, 0, 0, 0, 0, 0⟩,
   ⟨0xc4, 4, 0x10, 0, 0, 0, 0, 0⟩,
   ⟨0xc8, 4, 0x10, 0, 0, 0, 0, 0⟩,
   ⟨0x100, 4, 8, 0xffffffff, 0, 0, 0, 0⟩,
   ⟨0x104, 4, 8, 0xffff, 0, 0, 0, 0⟩,
   ⟨0x200, 1, 4, 0x1ff, 0, 0, 0, 0⟩,
   ⟨0x204, 1, 4, 0, 0, 0, 0, 0⟩]

def rowsGpo : List RegRow :=
  [⟨0x40, 1, 4, 0, 0, 0, 0xff, 0⟩,
   ⟨0x44, 1, 4, 0xff, 0, 0, 0, 0⟩,
   ⟨0x48, 1, 4, 0xff000f, 0, 0, 0, 0⟩,
   ⟨0x4c, 1, 4, 0xffffffff, 0, 0, 0, 0xa0000⟩,
   ⟨0x50, 1, 4, 0, 0, 0, 0, 0⟩,
   ⟨0x54, 1, 4, 0, 0, 0, 0, 0⟩]

def rowsPuff : List RegRow :=
  [⟨0x40, 1, 4, 0, 0, 0, 0, 0⟩,
   ⟨0x44, 1, 4, 0, 0, 0, 0, 0⟩,
   ⟨0x48, 1, 4, 0, 0, 0, 0, 0⟩,
   ⟨0x4c, 1, 4, 0, 0, 0, 0, 0⟩,
   ⟨0x50, 1, 4, 0, 0, 0, 0, 0⟩,
   ⟨0x54, 1, 4, 0, 0, 0, 0, 0⟩]

def rowsCan0 : List RegRow :=
  [⟨0x40, 1, 4, 0xff7f, 0, 0, 0, 0xa40⟩,
   ⟨0x44, 1, 4, 0xffffffff, 0, 0, 0, 0x1efc7c00⟩,
   ⟨0x48, 1, 4, 0xf1ff1f, 0, 0, 0, 0x31c900⟩,
   ⟨0x4c, 1, 4, 0x8000007f, 0, 0, 0, 0⟩,
   ⟨0x50, 1, 4, 0xffffffff, 0, 0, 0, 0x3e80064⟩,
   ⟨0x54, 1, 4, 0xffffffff, 0, 0, 0, 0x138801f4⟩,
   ⟨0x58, 1, 4, 0xffffffff, 0, 0, 0, 0x3e80064⟩,
   ⟨0x5c, 1, 4, 0xffffffff, 0, 0, 0, 0x271003e8⟩,
   ⟨0x60, 1, 4, 0xffffffff, 0, 0, 0, 0xc800c8⟩,
   ⟨0x70, 1, 4, 0, 0, 0, 0, 0⟩,
   ⟨0x74, 1, 4, 0, 0, 0, 0, 0⟩,
   ⟨0x78, 1, 4, 0, 0, 0, 0, 0⟩,
   ⟨0x7c, 1, 4, 0, 0, 0, 0, 0⟩,
   ⟨0x100, 1, 4, 0, 0, 0, 0x33f, 0⟩,
   ⟨0x104, 1, 4, 0, 0, 0, 0, 0⟩,
   ⟨0x108, 1, 4, 0, 0, 0, 1, 0⟩,
   ⟨0x10c, 1, 4, 0, 0, 0, 0, 0⟩,
   ⟨0x110, 1, 4, 0, 0, 0xffffffff, 0, 0⟩,
   ⟨0x114, 1, 4, 0, 0, 0xffff, 0, 0⟩,
   ⟨0x200, 0x12, 4, 0, 0, 0, 0xffffffff, 0⟩,
   ⟨0x300, 3, 4, 0, 0, 0, 0, 0⟩,
   ⟨0x310, 0x10, 4, 0, 0, 0, 0, 0⟩,
   ⟨0x400, 0x20, 8, 0x7fffffff, 0, 0, 0, 0⟩,
   ⟨0x404, 0x20, 8, 0xffffffff, 0, 0, 0, 0x40000000⟩]

def rowsCan1 : List RegRow :=
  [⟨0x600, 0x30, 4, 0, 0, 0, 0, 0⟩,
   ⟨0xc0, 1, 4, 0, 0xff, 0, 0, 0x10⟩,
   ⟨0xc4, 1, 4, 0, 0, 0, 0, 0⟩,
   ⟨0xc8, 1, 4, 0, 0, 0, 0, 0⟩,
   ⟨0xcc, 1, 4, 0, 0, 0, 0, 0⟩,
   ⟨0xd0, 1, 4, 0, 0, 0, 0, 0⟩,
   ⟨0xd4, 1, 4, 0, 0, 0, 0, 0⟩,
   ⟨0xe0, 1, 4, 0, 0xff, 0, 0, 0x10⟩,
   ⟨0xe4, 1, 4, 0, 0, 0, 0, 0⟩,
   ⟨0xe8, 1, 4, 0, 0, 0, 0, 0⟩,
   ⟨0xec, 1, 4, 0, 0, 0, 0, 0⟩,
   ⟨0xf0, 1, 4, 0, 0, 0, 0, 0⟩,
   ⟨0xf4, 1, 4, 0, 0, 0, 0, 0⟩]

def rowsCan : List RegRow := rowsCan0 ++ rowsCan1

def rowsPart : List RegRow :=
  [⟨0x50, 4, 4, 0, 0, 0, 0, 0⟩,
   ⟨0x400, 0x80, 0x10, 0xffffffff, 0, 0, 0, 0⟩,
   ⟨0x404, 0x80, 0x10, 0x1fffffff, 0, 0, 0, 0⟩,
   ⟨0x408, 0x80, 0x10, 0xffffffff, 0, 0, 0, 0⟩,
   ⟨0x40c, 0x80, 0x10, 0, 0, 0, 0, 0⟩]

def rowsPwr : List RegRow :=
  [⟨0x40, 1, 4, 3, 0, 0, 0, 0⟩,
   ⟨0x44, 1, 4, 0x1f, 0, 0, 0, 3⟩,
   ⟨0x48, 1, 4, 0xffffff, 0, 0, 0, 0⟩,
   ⟨0x4c, 1, 4, 0, 0, 0, 0, 0⟩,
   ⟨0x50, 1, 4, 0, 0, 0x1ff0000, 0, 0⟩,
   ⟨0x54, 1, 4, 0, 0, 0, 0, 0⟩,
   ⟨0x58, 1, 4, 0, 0, 0, 0, 0⟩,
   ⟨0x5c, 1, 4, 0, 0, 0, 0, 0⟩,
   ⟨0x60, 1, 4, 0, 0, 0, 0, 0⟩,
   ⟨0x64, 1, 4, 0, 0, 0, 0, 0⟩,
   ⟨0x68, 1, 4, 0, 0, 0, 0, 0⟩,
   ⟨0x6c, 1, 4, 0, 1, 0, 0, 0⟩]

def rowsLedger0 : List RegRow :=
  [⟨0x40, 1, 4, 0xffffffff, 0, 0, 0, 1⟩,
   ⟨0x44, 1, 4, 0xffff, 0, 0, 0, 0xfa0⟩,
   ⟨0x48, 1, 4, 0xffffffff, 0, 0, 0, 0⟩,
   ⟨0x4c, 1, 4, 0xffffffff, 0, 0, 0, 0xffff0000⟩,
   ⟨0x50, 1, 4, 0xff, 0, 0, 0, 4⟩,
   ⟨0x54, 1, 4, 0xffffffff, 0, 0, 0, 0⟩,
   ⟨0x58, 1, 4, 0xffff, 0, 0, 0, 0⟩,
   ⟨0x5c, 1, 4, 0xff0000, 0x3000ff03, 0, 0x80000000, 0x200a0a00⟩,
   ⟨0x60, 1, 4, 0, 0, 0, 0, 0⟩,
   ⟨0x64, 1, 4, 0, 0, 0, 0, 0⟩,
   ⟨0x68, 1, 4, 0, 0, 0, 0, 0⟩,
   ⟨0x6c, 1, 4, 0, 0, 0, 0, 0⟩,
   ⟨0x70, 1, 4, 0, 0, 0, 0, 0⟩,
   ⟨0x74, 1, 4, 0, 0, 0, 0, 0xffffffff⟩,
   ⟨0x78, 1, 4, 0, 0, 0, 0, 1⟩,
   ⟨0x7c, 1, 4, 0, 0, 0, 0, 0⟩,
   ⟨0x80, 1, 4, 0, 0, 0, 0, 0⟩,
   ⟨0x84, 1, 4, 0, 0, 0, 0, 0⟩,
   ⟨0x88, 1, 4, 0, 0, 0, 0, 0⟩,
   ⟨0x104, 1, 4, 0, 0, 0, 0, 0⟩,
   ⟨0x108, 1, 4, 0, 0, 0, 0, 0⟩,
   ⟨0x90, 8, 4, 0, 0, 0, 0, 0⟩,
   ⟨0x100, 1, 4, 0xf0001, 0, 0, 0, 0⟩,
   ⟨0x200, 0x10, 0x10, 0xffff007f, 0, 0, 0, 0⟩,
   ⟨0x204, 0x10, 0x10, 0xffffffff, 0, 0, 0, 0⟩,
   ⟨0x208, 0x10, 0x10, 0xffffffff, 0, 0, 0, 0⟩,
   ⟨0x20c, 0x10, 0x10, 0xffffffff, 0, 0, 0, 0⟩]

def rowsLedger1 : List RegRow :=
  [⟨0xc0, 1, 4, 0, 0xff, 0, 0, 0x10⟩,
   ⟨0xc4, 1, 4, 0, 0, 0, 0, 0⟩,
   ⟨0xc8, 1, 4, 0, 0, 0, 0, 0⟩,
   ⟨0xcc, 1, 4, 0, 0, 0, 0, 0⟩,
   ⟨0xd0, 1, 4, 0, 0, 0, 0, 0⟩,
   ⟨0xd4, 1, 4, 0, 0, 0, 0, 0⟩]

def rowsLedger : List RegRow := rowsLedger0 ++ rowsLedger1

def rowsClk : List RegRow :=
  [⟨0x40, 1, 4, 0xffffff0f, 0, 0, 0, 0x3e801902⟩,
   ⟨0x44, 1, 4, 0, 0, 0, 0, 0⟩,
   ⟨0x48, 1, 4, 0, 0, 0, 0, 0⟩,
   ⟨0x4c, 3, 4, 0, 0, 0, 0, 0⟩,
   ⟨0x58, 1, 4, 3, 0, 0, 0, 0⟩]

def rowsRst : List RegRow :=
  [⟨0x40, 1, 4, 0, 0, 0, 0xff000003, 0⟩,
   ⟨0x44, 1, 4, 0, 0, 0, 0, 0⟩]

def rowsBoot : List RegRow :=
  [⟨0x40, 1, 4, 0, 0, 0, 0, 0⟩,
   ⟨0x44, 1, 4, 0, 0, 0, 0, 0⟩,
   ⟨0x48, 1, 4, 0, 0, 0, 0, 0⟩]

def rowsDbg : List RegRow :=
  [⟨0x40, 1, 4, 0, 0x30, 0, 1, 0⟩,
   ⟨0x44, 1, 4, 0, 0, 0, 0, 0⟩,
   ⟨0x48, 1, 4, 0, 0, 0, 0, 0⟩,
   ⟨0x4c, 1, 4, 0, 0, 0, 0, 0⟩,
   ⟨0x50, 1, 4, 0, 0, 0, 0xffff00ff, 0⟩,
   ⟨0x54, 1, 4, 0, 0xffffffff, 0, 0, 0⟩,
   ⟨0x58, 1, 4, 0, 0, 0, 0, 0⟩,
   ⟨0x5c, 1, 4, 0, 0, 0, 0, 0⟩]

def rowsOtp : List RegRow :=
  [⟨0x40, 1, 4, 0, 0xffc, 0, 0, 0⟩,
   ⟨0x44, 1, 4, 0, 0, 0, 0, 0⟩,
   ⟨0x48, 1, 4, 0, 0, 0, 0, 0⟩]

def rowsWdog : List RegRow :=
  [⟨0x40, 1, 4, 0xfff0fff, 0, 0, 0, 0x40⟩,
   ⟨0x44, 1, 4, 0, 0, 0, 0xffff, 0⟩,
   ⟨0x48, 1, 4, 0, 0, 0, 0, 0x5af0⟩,
   ⟨0x4c, 1, 4, 0, 0, 0, 0, 0⟩]

/-- The common page header (R68); PG_ID and PG_CAPS have reset values of their own below. -/
def rowsHeader : List RegRow :=
  [⟨0, 1, 4, 0, 0, 0, 0, 0⟩,
   ⟨4, 1, 4, 0, 0, 0, 0, 0⟩,
   ⟨8, 1, 4, 0, 0x80000000, 0, 0x40000000, 0⟩,
   ⟨0xc, 1, 4, 0, 0, 0, 0, 0⟩,
   ⟨0x10, 1, 4, 0, 0, 0xe0ffffff, 0, 0⟩,
   ⟨0x14, 1, 4, 0, 0xffffffff, 0, 0, 0⟩,
   ⟨0x18, 1, 4, 0, 0, 0, 0xffffffff, 0⟩,
   ⟨0x1c, 1, 4, 0, 0, 0xffff, 0, 0⟩,
   ⟨0x20, 1, 4, 0, 1, 0, 0, 0⟩,
   ⟨0x24, 1, 4, 0, 0, 0, 0xff00ffff, 0⟩,
   ⟨0x28, 1, 4, 0, 0, 0, 0, 0⟩,
   ⟨0x2c, 1, 4, 0, 0, 0, 0, 0⟩]

/-- The rows of page `p` after its header. -/
def pageRows (p : Nat) : List RegRow :=
  match p with
  | 0 => rowsSys
  | 1 => rowsJrnl
  | 2 => rowsLedger
  | 3 => rowsPwr
  | 4 => rowsClk
  | 5 => rowsRst
  | 6 => rowsBoot
  | 7 => rowsTbase
  | 8 => rowsIrqd
  | 9 => rowsAgree
  | 0xa => rowsSensecfg
  | 0xb => rowsCmp
  | 0xc => rowsRelease
  | 0xd => rowsLink
  | 0xe => rowsLinkx
  | 0xf => rowsLinkx
  | 0x10 => rowsLinkx
  | 0x11 => rowsFlash
  | 0x12 => rowsSram
  | 0x13 => rowsRetn
  | 0x14 => rowsGuard
  | 0x15 => rowsDrv
  | 0x16 => rowsDrv
  | 0x17 => rowsDrv
  | 0x18 => rowsTrip
  | 0x19 => rowsFan
  | 0x1a => rowsPuff
  | 0x1b => rowsCan
  | 0x1c => rowsCan
  | 0x1d => rowsPart
  | 0x1e => rowsGpo
  | 0x1f => rowsWdog
  | 0x20 => rowsDbg
  | 0x21 => rowsOtp
  | _ => []

/-- PG_ID.TYPE of page `p` (R41). -/
def pageType (p : Nat) : Nat :=
  match p with
  | 0 => 1
  | 1 => 2
  | 2 => 3
  | 3 => 4
  | 4 => 5
  | 5 => 6
  | 6 => 7
  | 7 => 8
  | 8 => 9
  | 9 => 0xa
  | 0xa => 0xb
  | 0xb => 0xc
  | 0xc => 0xd
  | 0xd => 0xe
  | 0xe => 0xf
  | 0xf => 0xf
  | 0x10 => 0xf
  | 0x11 => 0x10
  | 0x12 => 0x11
  | 0x13 => 0x12
  | 0x14 => 0x13
  | 0x15 => 0x14
  | 0x16 => 0x14
  | 0x17 => 0x14
  | 0x18 => 0x15
  | 0x19 => 0x16
  | 0x1a => 0x17
  | 0x1b => 0x18
  | 0x1c => 0x18
  | 0x1d => 0x19
  | 0x1e => 0x1a
  | 0x1f => 0x1b
  | 0x20 => 0x1c
  | 0x21 => 0x1d
  | _ => 0

/-- The pages whose commit boundary is the frame boundary (R26, R41). -/
def isFramePage (p : Nat) : Bool := p == 0x15 || p == 0x16 || p == 0x17 || p == 0x19

/-- The row that describes offset `o`. -/
def findRow : List RegRow → Nat → Option RegRow
  | [], _ => none
  | r :: rs, o =>
    if r.off ≤ o ∧ o < r.off + r.n * r.stride ∧ (o - r.off) % r.stride = 0 then some r else findRow rs o

/-- The row of register `k`; none at a reserved offset or page. -/
def regRow (k : Nat) : Option RegRow :=
  if pageType (k / 0x1000) = 0 then none
  else if k % 0x1000 < 0x30 then findRow rowsHeader (k % 0x1000)
  else findRow (pageRows (k / 0x1000)) (k % 0x1000)

/-- PG_CAPS of page `p` (R68): SH and FRAMEB by the page's tables, ADM for the pages of R38, and WSMIN of
FLASH (R257). -/
def pageCaps (p : Nat) : Nat :=
  (if (pageRows p).any (fun r => r.sh != 0) then 0x80000000 else 0)
  + (if isFramePage p then 0x40000000 else 0)
  + (if p == 1 || p == 2 || p == 0x0B || p == 0x0E || p == 0x0F || p == 0x10 || p == 0x1B || p == 0x1C
     then 0x20000000 else 0)
  + (if p == 0x11 then 9 else 0)

/-- The value of register `k` at a HUB-scope reset (R13, R425). -/
def regReset (k : Nat) : Word :=
  match regRow k with
  | none => 0
  | some r =>
    if k % 0x1000 = 0 then toWord (pageType (k / 0x1000) * 0x1000000 + k / 0x1000 * 0x10000)
    else if k % 0x1000 = 4 then toWord (pageCaps (k / 0x1000))
    else toWord r.reset

/-- The SH, LV or RW, W1C and WO bits of register `k`. -/
def shMask (k : Nat) : Nat := match regRow k with | none => 0 | some r => r.sh
def lvMask (k : Nat) : Nat := match regRow k with | none => 0 | some r => r.lv
def w1cMask (k : Nat) : Nat := match regRow k with | none => 0 | some r => r.w1c
def woMask (k : Nat) : Nat := match regRow k with | none => 0 | some r => r.wo

/-- The keys of the registers of page `p` whose row satisfies `q`. -/
def pageKeys (q : RegRow → Bool) (p : Nat) : List Nat :=
  ((pageRows p).filter q).flatMap (fun r => (List.range r.n).map (fun i => p * 0x1000 + r.off + i * r.stride))

/-- The keys of the SH registers of page `p`, in rising offset order where the tables rise. -/
def shKeys (p : Nat) : List Nat := pageKeys (fun r => r.sh != 0) p

/-! Keys by the manual's names. -/

def Reg.pgId (p : Nat) : Nat := p * 0x1000 + 0
def Reg.pgCaps (p : Nat) : Nat := p * 0x1000 + 4
def Reg.pgCtrl (p : Nat) : Nat := p * 0x1000 + 8
def Reg.pgStat (p : Nat) : Nat := p * 0x1000 + 0xc
def Reg.pgEvt (p : Nat) : Nat := p * 0x1000 + 0x10
def Reg.pgEvten (p : Nat) : Nat := p * 0x1000 + 0x14
def Reg.pgEvtset (p : Nat) : Nat := p * 0x1000 + 0x18
def Reg.pgFault (p : Nat) : Nat := p * 0x1000 + 0x1c
def Reg.pgLock (p : Nat) : Nat := p * 0x1000 + 0x20
def Reg.pgCommit (p : Nat) : Nat := p * 0x1000 + 0x24
def Reg.pgCmtstat (p : Nat) : Nat := p * 0x1000 + 0x28
def Reg.pgSeq (p : Nat) : Nat := p * 0x1000 + 0x2c
def Reg.sys_DEVID : Nat := 0x40
def Reg.sys_OVLSUM : Nat := 0x44
def Reg.sys_SVCLVL : Nat := 0x48
def Reg.jrnl_HEAD : Nat := 0x1040
def Reg.jrnl_COUNT : Nat := 0x1044
def Reg.jrnl_RDSEL : Nat := 0x1048
def Reg.jrnl_RDSTAT : Nat := 0x104c
def Reg.jrnl_MIRHEAD : Nat := 0x1050
def Reg.jrnl_FLUSH : Nat := 0x1054
def Reg.jrnl_UNMIR : Nat := 0x105c
def Reg.jrnl_STRMCNT : Nat := 0x1060
def Reg.jrnl_MIRCFG : Nat := 0x1064
def Reg.jrnl_HEADSLOT : Nat := 0x1068
def Reg.jrnl_EREF_T : Nat := 0x106c
def Reg.jrnl_EREF_B : Nat := 0x1070
def Reg.jrnl_FLSTAT : Nat := 0x1058
def Reg.jrnl_RDWIN (i : Nat) : Nat := 0x1100 + i * 4
def Reg.jrnl_ADM_WIN : Nat := 0x1080
def Reg.jrnl_ADM_DLY_T : Nat := 0x1084
def Reg.jrnl_ADM_DLY_B : Nat := 0x1088
def Reg.jrnl_ADM_REF_T : Nat := 0x108c
def Reg.jrnl_ADM_REF_B : Nat := 0x1090
def Reg.jrnl_ADM_GOVR : Nat := 0x1094
def Reg.guard_ACC (i : Nat) : Nat := 0x14040 + i * 4
def Reg.sensecfg_GRPCFG (i : Nat) : Nat := 0xa040 + i * 4
def Reg.sensecfg_CHZERO (i : Nat) : Nat := 0xa050 + i * 8
def Reg.sensecfg_CHGAIN (i : Nat) : Nat := 0xa054 + i * 8
def Reg.sensecfg_DINCFG : Nat := 0xa0b0
def Reg.sensecfg_DEDGE : Nat := 0xa0b4
def Reg.sensecfg_TEMPCFG : Nat := 0xa0b8
def Reg.sensecfg_CFGID : Nat := 0xa0bc
def Reg.agree_SDSTAT (c : Nat) : Nat := 0x9400 + c * 0x100
def Reg.agree_TEMP (c : Nat) : Nat := 0x9404 + c * 0x100
def Reg.agree_CFGMISS (c : Nat) : Nat := 0x9408 + c * 0x100
def Reg.agree_DOVF (c : Nat) : Nat := 0x940c + c * 0x100
def Reg.agree_SATCNT (c : Nat) : Nat := 0x94a0 + c * 0x100
def Reg.agree_SLO (c : Nat) (i : Nat) : Nat := 0x9410 + c * 0x100 + i * 8
def Reg.agree_SHI (c : Nat) (i : Nat) : Nat := 0x9414 + c * 0x100 + i * 8
def Reg.agree_AG (c : Nat) (i : Nat) : Nat := 0x9428 + c * 0x100 + i * 4
def Reg.agree_OFS (c : Nat) (i : Nat) : Nat := 0x9440 + c * 0x100 + i * 8
def Reg.agree_GAIN (c : Nat) (i : Nat) : Nat := 0x9444 + c * 0x100 + i * 8
def Reg.agree_MSGMISS (c : Nat) : Nat := 0x94b0 + c * 0x100
def Reg.agree_OUTL (c : Nat) : Nat := 0x94b4 + c * 0x100
def Reg.agree_ICCOR (c : Nat) : Nat := 0x94b8 + c * 0x100
def Reg.agree_ICREB (c : Nat) : Nat := 0x94bc + c * 0x100
def Reg.agree_DCCOR (c : Nat) : Nat := 0x94c0 + c * 0x100
def Reg.agree_DCUE (c : Nat) : Nat := 0x94c4 + c * 0x100
def Reg.agree_DCVMIS (c : Nat) : Nat := 0x94c8 + c * 0x100
def Reg.agree_CFG : Nat := 0x9040
def Reg.agree_DCFG : Nat := 0x9044
def Reg.agree_DLVSTAT : Nat := 0x9048
def Reg.agree_DRP_LO : Nat := 0x904c
def Reg.agree_DRP_HI : Nat := 0x9050
def Reg.agree_DRPOVR : Nat := 0x9054
def Reg.agree_SKIP : Nat := 0x9058
def Reg.agree_DEFER : Nat := 0x905c
def Reg.agree_PLFLT : Nat := 0x9060
def Reg.agree_ACH (i : Nat) : Nat := 0x9080 + i * 4
def Reg.agree_MCNT (i : Nat) : Nat := 0x90c0 + i * 4
def Reg.agree_DMCNT (i : Nat) : Nat := 0x90f0 + i * 4
def Reg.link_CFG : Nat := 0xd040
def Reg.link_TMR : Nat := 0xd044
def Reg.link_JCFG : Nat := 0xd048
def Reg.linkx_STAT (n : Nat) : Nat := 0xe040 + n * 0x1000
def Reg.linkx_RTT (n : Nat) : Nat := 0xe044 + n * 0x1000
def Reg.linkx_GRANT (n : Nat) : Nat := 0xe048 + n * 0x1000
def Reg.linkx_CSN (n : Nat) : Nat := 0xe04c + n * 0x1000
def Reg.linkx_CRCERR_H (n : Nat) : Nat := 0xe050 + n * 0x1000
def Reg.linkx_DUP_H (n : Nat) : Nat := 0xe054 + n * 0x1000
def Reg.linkx_OOS_H (n : Nat) : Nat := 0xe058 + n * 0x1000
def Reg.linkx_TMO_H (n : Nat) : Nat := 0xe05c + n * 0x1000
def Reg.linkx_RESYNC (n : Nat) : Nat := 0xe060 + n * 0x1000
def Reg.linkx_REISSUE (n : Nat) : Nat := 0xe064 + n * 0x1000
def Reg.linkx_SPILLPK_H (n : Nat) : Nat := 0xe068 + n * 0x1000
def Reg.linkx_SPILLUE (n : Nat) : Nat := 0xe06c + n * 0x1000
def Reg.linkx_ACKERR_H (n : Nat) : Nat := 0xe070 + n * 0x1000
def Reg.linkx_CRCERR_C (n : Nat) : Nat := 0xe080 + n * 0x1000
def Reg.linkx_DUP_C (n : Nat) : Nat := 0xe084 + n * 0x1000
def Reg.linkx_OOS_C (n : Nat) : Nat := 0xe088 + n * 0x1000
def Reg.linkx_TMO_C (n : Nat) : Nat := 0xe08c + n * 0x1000
def Reg.linkx_SPILLPK_C (n : Nat) : Nat := 0xe090 + n * 0x1000
def Reg.linkx_GRANTERR_C (n : Nat) : Nat := 0xe094 + n * 0x1000
def Reg.linkx_LSTFRM (n : Nat) : Nat := 0xe098 + n * 0x1000
def Reg.linkx_TICKLOST_C (n : Nat) : Nat := 0xe09c + n * 0x1000
def Reg.linkx_ADM_WIN (n : Nat) : Nat := 0xe0c0 + n * 0x1000
def Reg.linkx_ADM_DLY_T (n : Nat) : Nat := 0xe0c4 + n * 0x1000
def Reg.linkx_ADM_DLY_B (n : Nat) : Nat := 0xe0c8 + n * 0x1000
def Reg.linkx_ADM_REF_T (n : Nat) : Nat := 0xe0cc + n * 0x1000
def Reg.linkx_ADM_REF_B (n : Nat) : Nat := 0xe0d0 + n * 0x1000
def Reg.linkx_ADM_GOVR (n : Nat) : Nat := 0xe0d4 + n * 0x1000
def Reg.tbase_TIME_LO : Nat := 0x7040
def Reg.tbase_TIME_HI : Nat := 0x7044
def Reg.tbase_FRNUM_LO : Nat := 0x7048
def Reg.tbase_FRNUM_HI : Nat := 0x704c
def Reg.tbase_TICKT_LO : Nat := 0x7050
def Reg.tbase_TICKT_HI : Nat := 0x7054
def Reg.tbase_PERIOD : Nat := 0x7058
def Reg.tbase_FRPOS : Nat := 0x705c
def Reg.irqd_ROUTE_LO : Nat := 0x8040
def Reg.irqd_ROUTE_HI : Nat := 0x8044
def Reg.irqd_REQ_LO : Nat := 0x8048
def Reg.irqd_REQ_HI : Nat := 0x804c
def Reg.irqd_DLVD_LO : Nat := 0x8050
def Reg.irqd_DLVD_HI : Nat := 0x8054
def Reg.flash_CFG : Nat := 0x11040
def Reg.flash_OPCTL : Nat := 0x11044
def Reg.flash_DST : Nat := 0x11048
def Reg.flash_SRC : Nat := 0x1104c
def Reg.flash_STAT : Nat := 0x11050
def Reg.flash_SHORT : Nat := 0x11054
def Reg.flash_EDECL : Nat := 0x11058
def Reg.flash_RDADDR : Nat := 0x1105c
def Reg.flash_RDWORD : Nat := 0x11060
def Reg.flash_RDINFO : Nat := 0x11064
def Reg.flash_CECNT : Nat := 0x11068
def Reg.flash_UECNT : Nat := 0x1106c
def Reg.flash_NBADDR : Nat := 0x11070
def Reg.sram_SCRUB : Nat := 0x12040
def Reg.sram_CECNT : Nat := 0x12044
def Reg.sram_UECNT : Nat := 0x12048
def Reg.sram_UEADDR : Nat := 0x1204c
def Reg.sram_WRERR : Nat := 0x12050
def Reg.retn_STAT : Nat := 0x13040
def Reg.retn_CECNT : Nat := 0x13044
def Reg.retn_UEADDR : Nat := 0x13048
def Reg.cmp_QSTAT : Nat := 0xb040
def Reg.cmp_CODE : Nat := 0xb044
def Reg.cmp_MISCNT : Nat := 0xb048
def Reg.cmp_ABSCNT : Nat := 0xb04c
def Reg.cmp_LATE : Nat := 0xb050
def Reg.cmp_SAFECNT : Nat := 0xb054
def Reg.cmp_SAFEMIS : Nat := 0xb058
def Reg.cmp_LASTCSN : Nat := 0xb05c
def Reg.cmp_LASTDET : Nat := 0xb060
def Reg.cmp_SKEWPK : Nat := 0xb064
def Reg.cmp_HOLDCNT : Nat := 0xb068
def Reg.cmp_ADM_WIN : Nat := 0xb0c0
def Reg.cmp_ADM_DLY_T : Nat := 0xb0c4
def Reg.cmp_ADM_DLY_B : Nat := 0xb0c8
def Reg.cmp_ADM_REF_T : Nat := 0xb0cc
def Reg.cmp_ADM_REF_B : Nat := 0xb0d0
def Reg.cmp_ADM_GOVR : Nat := 0xb0d4
def Reg.release_SAFE : Nat := 0xc040
def Reg.release_CLR : Nat := 0xc044
def Reg.release_LATCH : Nat := 0xc048
def Reg.release_CAUSE : Nat := 0xc04c
def Reg.release_RSTCFG : Nat := 0xc050
def Reg.release_RSTCNT : Nat := 0xc054
def Reg.drv_SAFE (n : Nat) : Nat := 0x15040 + n * 0x1000
def Reg.drv_TSTAT (n : Nat) : Nat := 0x15044 + n * 0x1000
def Reg.drv_PWMCTL (n : Nat) : Nat := 0x15048 + n * 0x1000
def Reg.drv_DTCTL (n : Nat) : Nat := 0x1504c + n * 0x1000
def Reg.drv_PHOFS (n : Nat) : Nat := 0x15050 + n * 0x1000
def Reg.drv_GATECFG (n : Nat) : Nat := 0x15054 + n * 0x1000
def Reg.drv_TRIPCFG (n : Nat) : Nat := 0x15058 + n * 0x1000
def Reg.drv_OCCFG (n : Nat) : Nat := 0x1505c + n * 0x1000
def Reg.drv_OVCFG (n : Nat) : Nat := 0x15060 + n * 0x1000
def Reg.drv_MODECTL (n : Nat) : Nat := 0x15064 + n * 0x1000
def Reg.drv_HOVLIM (n : Nat) : Nat := 0x15068 + n * 0x1000
def Reg.drv_HOLDCFG (n : Nat) : Nat := 0x1506c + n * 0x1000
def Reg.drv_ALANG (n : Nat) : Nat := 0x15070 + n * 0x1000
def Reg.drv_IFANG0 (n : Nat) : Nat := 0x15074 + n * 0x1000
def Reg.drv_IFINC0 (n : Nat) : Nat := 0x15078 + n * 0x1000
def Reg.drv_IFACC (n : Nat) : Nat := 0x1507c + n * 0x1000
def Reg.drv_IFINCLIM (n : Nat) : Nat := 0x15080 + n * 0x1000
def Reg.drv_SUPCFG (n : Nat) : Nat := 0x15084 + n * 0x1000
def Reg.drv_LOSS_ANG (n : Nat) : Nat := 0x15088 + n * 0x1000
def Reg.drv_LOSS_SPD (n : Nat) : Nat := 0x1508c + n * 0x1000
def Reg.drv_ASC_SPEED (n : Nat) : Nat := 0x15090 + n * 0x1000
def Reg.drv_SUP_MIN (n : Nat) : Nat := 0x15094 + n * 0x1000
def Reg.drv_TRKCFG (n : Nat) : Nat := 0x15098 + n * 0x1000
def Reg.drv_MSTAT (n : Nat) : Nat := 0x150a0 + n * 0x1000
def Reg.drv_HOLDSTAT (n : Nat) : Nat := 0x150a4 + n * 0x1000
def Reg.drv_VAPP (n : Nat) : Nat := 0x150a8 + n * 0x1000
def Reg.drv_VSRC (n : Nat) : Nat := 0x150ac + n * 0x1000
def Reg.drv_CMPU (n : Nat) : Nat := 0x150b0 + n * 0x1000
def Reg.drv_CMPV (n : Nat) : Nat := 0x150b4 + n * 0x1000
def Reg.drv_CMPW (n : Nat) : Nat := 0x150b8 + n * 0x1000
def Reg.drv_TRKANG (n : Nat) : Nat := 0x150bc + n * 0x1000
def Reg.drv_TRKSPD (n : Nat) : Nat := 0x150c0 + n * 0x1000
def Reg.drv_TRKSTAT (n : Nat) : Nat := 0x150c4 + n * 0x1000
def Reg.drv_OBSDIF (n : Nat) : Nat := 0x150c8 + n * 0x1000
def Reg.drv_VDQ (n : Nat) : Nat := 0x15100 + n * 0x1000
def Reg.drv_VCL (n : Nat) : Nat := 0x15104 + n * 0x1000
def Reg.drv_OBSANG (n : Nat) : Nat := 0x15108 + n * 0x1000
def Reg.drv_OBSSPD (n : Nat) : Nat := 0x1510c + n * 0x1000
def Reg.trip_SAFE : Nat := 0x18040
def Reg.trip_REQ : Nat := 0x18044
def Reg.trip_REQSTAT : Nat := 0x18048
def Reg.trip_STATE : Nat := 0x1804c
def Reg.fan_SAFE : Nat := 0x19040
def Reg.fan_CFG (i : Nat) : Nat := 0x19044 + i * 0x20
def Reg.fan_KP (i : Nat) : Nat := 0x19048 + i * 0x20
def Reg.fan_KI (i : Nat) : Nat := 0x1904c + i * 0x20
def Reg.fan_DLIM (i : Nat) : Nat := 0x19050 + i * 0x20
def Reg.fan_STALL (i : Nat) : Nat := 0x19054 + i * 0x20
def Reg.fan_RETRY (i : Nat) : Nat := 0x19058 + i * 0x20
def Reg.fan_PLAUS (i : Nat) : Nat := 0x1905c + i * 0x20
def Reg.fan_SPEED (i : Nat) : Nat := 0x190c0 + i * 0x10
def Reg.fan_STAT (i : Nat) : Nat := 0x190c4 + i * 0x10
def Reg.fan_PLSTAT (i : Nat) : Nat := 0x190c8 + i * 0x10
def Reg.fan_TARGET (i : Nat) : Nat := 0x19100 + i * 8
def Reg.fan_DUTY (i : Nat) : Nat := 0x19104 + i * 8
def Reg.fan_HOLDCFG : Nat := 0x19200
def Reg.fan_HOLDSTAT : Nat := 0x19204
def Reg.gpo_SAFE : Nat := 0x1e040
def Reg.gpo_ON : Nat := 0x1e044
def Reg.gpo_CFG : Nat := 0x1e048
def Reg.gpo_RBCFG : Nat := 0x1e04c
def Reg.gpo_RB : Nat := 0x1e050
def Reg.gpo_STAT : Nat := 0x1e054
def Reg.puff_CFG : Nat := 0x1a040
def Reg.puff_DUTY : Nat := 0x1a044
def Reg.puff_DID : Nat := 0x1a048
def Reg.puff_DPFX : Nat := 0x1a04c
def Reg.puff_DBTR : Nat := 0x1a050
def Reg.puff_STAT : Nat := 0x1a054
def Reg.can_CFG (n : Nat) : Nat := 0x1b040 + n * 0x1000
def Reg.can_NBTR (n : Nat) : Nat := 0x1b044 + n * 0x1000
def Reg.can_DBTR (n : Nat) : Nat := 0x1b048 + n * 0x1000
def Reg.can_TDCR (n : Nat) : Nat := 0x1b04c + n * 0x1000
def Reg.can_TXSB (n : Nat) : Nat := 0x1b050 + n * 0x1000
def Reg.can_TXDL (n : Nat) : Nat := 0x1b054 + n * 0x1000
def Reg.can_RXSB (n : Nat) : Nat := 0x1b058 + n * 0x1000
def Reg.can_RXDL (n : Nat) : Nat := 0x1b05c + n * 0x1000
def Reg.can_GSB (n : Nat) : Nat := 0x1b060 + n * 0x1000
def Reg.can_PSTAT (n : Nat) : Nat := 0x1b070 + n * 0x1000
def Reg.can_BOCNT (n : Nat) : Nat := 0x1b074 + n * 0x1000
def Reg.can_RXNOMATCH (n : Nat) : Nat := 0x1b078 + n * 0x1000
def Reg.can_PXCNT (n : Nat) : Nat := 0x1b07c + n * 0x1000
def Reg.can_TXCMD (n : Nat) : Nat := 0x1b100 + n * 0x1000
def Reg.can_TXCMDST (n : Nat) : Nat := 0x1b104 + n * 0x1000
def Reg.can_RXCMD (n : Nat) : Nat := 0x1b108 + n * 0x1000
def Reg.can_RXSTAT (n : Nat) : Nat := 0x1b10c + n * 0x1000
def Reg.can_TXFIN_LO (n : Nat) : Nat := 0x1b110 + n * 0x1000
def Reg.can_TXFIN_HI (n : Nat) : Nat := 0x1b114 + n * 0x1000
def Reg.can_TXSTG (n : Nat) (i : Nat) : Nat := 0x1b200 + n * 0x1000 + i * 4
def Reg.can_RXW (n : Nat) (i : Nat) : Nat := 0x1b300 + n * 0x1000 + i * 4
def Reg.can_RXWD (n : Nat) (i : Nat) : Nat := 0x1b310 + n * 0x1000 + i * 4
def Reg.can_FID (n : Nat) (i : Nat) : Nat := 0x1b400 + n * 0x1000 + i * 8
def Reg.can_FMASK (n : Nat) (i : Nat) : Nat := 0x1b404 + n * 0x1000 + i * 8
def Reg.can_SLOTST (n : Nat) (i : Nat) : Nat := 0x1b600 + n * 0x1000 + i * 4
def Reg.can_ADM_WIN_TX (n : Nat) : Nat := 0x1b0c0 + n * 0x1000
def Reg.can_ADM_DLY_T_TX (n : Nat) : Nat := 0x1b0c4 + n * 0x1000
def Reg.can_ADM_DLY_B_TX (n : Nat) : Nat := 0x1b0c8 + n * 0x1000
def Reg.can_ADM_REF_T_TX (n : Nat) : Nat := 0x1b0cc + n * 0x1000
def Reg.can_ADM_REF_B_TX (n : Nat) : Nat := 0x1b0d0 + n * 0x1000
def Reg.can_ADM_GOVR_TX (n : Nat) : Nat := 0x1b0d4 + n * 0x1000
def Reg.can_ADM_WIN_RX (n : Nat) : Nat := 0x1b0e0 + n * 0x1000
def Reg.can_ADM_DLY_T_RX (n : Nat) : Nat := 0x1b0e4 + n * 0x1000
def Reg.can_ADM_DLY_B_RX (n : Nat) : Nat := 0x1b0e8 + n * 0x1000
def Reg.can_ADM_REF_T_RX (n : Nat) : Nat := 0x1b0ec + n * 0x1000
def Reg.can_ADM_REF_B_RX (n : Nat) : Nat := 0x1b0f0 + n * 0x1000
def Reg.can_ADM_GOVR_RX (n : Nat) : Nat := 0x1b0f4 + n * 0x1000
def Reg.part_PRES (i : Nat) : Nat := 0x1d050 + i * 4
def Reg.part_ENT (i : Nat) : Nat := 0x1d400 + i * 0x10
def Reg.part_IDHI (i : Nat) : Nat := 0x1d404 + i * 0x10
def Reg.part_TIM (i : Nat) : Nat := 0x1d408 + i * 0x10
def Reg.part_PSTAT (i : Nat) : Nat := 0x1d40c + i * 0x10
def Reg.pwr_REQ : Nat := 0x3040
def Reg.pwr_WAKECFG : Nat := 0x3044
def Reg.pwr_DOZETMR : Nat := 0x3048
def Reg.pwr_STAT : Nat := 0x304c
def Reg.pwr_SUPSTAT : Nat := 0x3050
def Reg.pwr_VSUPH : Nat := 0x3054
def Reg.pwr_VSUPA : Nat := 0x3058
def Reg.pwr_VSUPB : Nat := 0x305c
def Reg.pwr_VSUPC : Nat := 0x3060
def Reg.pwr_VIO : Nat := 0x3064
def Reg.pwr_HOLDSNS : Nat := 0x3068
def Reg.pwr_VREFCTL : Nat := 0x306c
def Reg.ledger_CAPNF : Nat := 0x2040
def Reg.ledger_VMIN : Nat := 0x2044
def Reg.ledger_RES : Nat := 0x2048
def Reg.ledger_MLCFG : Nat := 0x204c
def Reg.ledger_MLFILT : Nat := 0x2050
def Reg.ledger_WAIT : Nat := 0x2054
def Reg.ledger_BLOAD : Nat := 0x2058
def Reg.ledger_CVCTL : Nat := 0x205c
def Reg.ledger_E_LO : Nat := 0x2060
def Reg.ledger_E_HI : Nat := 0x2064
def Reg.ledger_HOLD : Nat := 0x2068
def Reg.ledger_FREE_T : Nat := 0x206c
def Reg.ledger_PDRAW : Nat := 0x2070
def Reg.ledger_HRZ : Nat := 0x2074
def Reg.ledger_CEFF : Nat := 0x2078
def Reg.ledger_CMEAS : Nat := 0x207c
def Reg.ledger_CVSTAT : Nat := 0x2080
def Reg.ledger_JSTAT : Nat := 0x2084
def Reg.ledger_JSHORT : Nat := 0x2088
def Reg.ledger_ML_LO : Nat := 0x2104
def Reg.ledger_ML_HI : Nat := 0x2108
def Reg.ledger_ECNT (i : Nat) : Nat := 0x2090 + i * 4
def Reg.ledger_PLANCTL : Nat := 0x2100
def Reg.ledger_STEP (i : Nat) : Nat := 0x2200 + i * 4
def Reg.ledger_ADM_WIN : Nat := 0x20c0
def Reg.ledger_ADM_DLY_T : Nat := 0x20c4
def Reg.ledger_ADM_DLY_B : Nat := 0x20c8
def Reg.ledger_ADM_REF_T : Nat := 0x20cc
def Reg.ledger_ADM_REF_B : Nat := 0x20d0
def Reg.ledger_ADM_GOVR : Nat := 0x20d4
def Reg.clk_CFG : Nat := 0x4040
def Reg.clk_STAT : Nat := 0x4044
def Reg.clk_MONH : Nat := 0x4048
def Reg.clk_RHO (i : Nat) : Nat := 0x404c + i * 4
def Reg.clk_CCFG : Nat := 0x4058
def Reg.rst_SWRST : Nat := 0x5040
def Reg.rst_LAST : Nat := 0x5044
def Reg.boot_STAT : Nat := 0x6040
def Reg.boot_IMGVER : Nat := 0x6044
def Reg.boot_TIME : Nat := 0x6048
def Reg.dbg_CTRL : Nat := 0x20040
def Reg.dbg_STAT : Nat := 0x20044
def Reg.dbg_HALT_LO : Nat := 0x20048
def Reg.dbg_HALT_HI : Nat := 0x2004c
def Reg.dbg_CMD : Nat := 0x20050
def Reg.dbg_DATA : Nat := 0x20054
def Reg.dbg_RSP : Nat := 0x20058
def Reg.dbg_RSTAT : Nat := 0x2005c
def Reg.otp_RDADDR : Nat := 0x21040
def Reg.otp_RDWORD : Nat := 0x21044
def Reg.otp_RDINFO : Nat := 0x21048
def Reg.wdog_CFG : Nat := 0x1f040
def Reg.wdog_KICK : Nat := 0x1f044
def Reg.wdog_STAT : Nat := 0x1f048
def Reg.wdog_KCNT : Nat := 0x1f04c

end Sys2Proof.Machine
end

