-- ==== Sys2Proof/Machine/StateHub.lean ====
section
/-! DEFINITION. Machine/StateHub.lean: the parts of the hub's state that no register shows: sequencers, the
journal writer, the links' hub ends, the compare queues, the agreement and delivery state, the drives, fans
and switched outputs. What a register shows has its one home in `Dev.regs` (Machine/State.lean). -/

namespace Sys2Proof.Machine

open Sys2Proof

/-- Where the hub stands between power-on and Run (R389, R430, R434, R446 reaction X). -/
inductive Phase where
  | off | pllWait | otpLoad | retCheck | imgCheck | run | service | dozing | dozeWake | hibernating | dead
deriving DecidableEq, Repr

/-- Where the copy set stands (R430 steps 5 to 7, R433, R435). `waiting` is the 4 000 HCLK with every copy
regulator off, `released n` counts the ticks since the last link became active. -/
inductive CoreSet where
  | idle | waiting | locking | training | relWait (ticks : Nat) | running | held
deriving DecidableEq, Repr

/-- One journal entry as it stands in the writer's queue (R63); SEQ, ECODE's place and the CRC come when it is written. -/
structure JEntry where
  kind : BitVec 8
  page : BitVec 6
  offset : BitVec 12
  src : BitVec 4
  new : Word
  prev : Word
  frame : Word
  time : DWord
  ecode : Half
  cls : BitVec 2
  forCommit : Bool
deriving DecidableEq, Repr

/-- What waits with a group of timely entries that found no place (R60). -/
inductive JWaitFor where
  | commit (page : Nat)
  | lvWrite (id : Nat)
  | event
deriving DecidableEq, Repr

/-- A group of timely entries that waits for places, with the last HCLK at which it may be admitted (R60). -/
structure JWait where
  what : JWaitFor
  entries : List JEntry
  deadline : Nat
deriving DecidableEq, Repr

/-- The journal writer (R59, R60): the queue, the waiting timely entries, the refusals since the last LOSS
entry, and what of a requested flush is under way (R65, R66). -/
structure Journal where
  queue : List JEntry
  waiting : List JWait
  loss : Nat
  flush : Option (BitVec 2)
  flushJob : Option Nat
  half : Bool
  halfUsed : Nat
  mirBase : Nat
  mirValid : Bool
  flushN : Nat
  flushX : Bool
  wroteAt : Nat
deriving DecidableEq, Repr

/-- A commit that has been accepted, or that waits for its journal entries (R45, R47, R48). `stream` marks one that
applies only stream registers, or nothing (R49, R54). -/
structure Commit where
  page : Nat
  word : Word
  vals : List (Nat × Word)
  stream : Bool
  admitted : Bool
  csn : Option Word
  src : Src
deriving DecidableEq, Repr

/-- An LV write that waits for its entry or takes effect in the next HCLK (R53): the word written and the value the
register gets. -/
structure LvJob where
  id : Nat
  key : Nat
  raw : Word
  val : Word
  src : Src
  admitted : Bool
  csn : Option Word
deriving DecidableEq, Repr

/-- A snapshot of R55. -/
structure Snap where
  armed : Bool
  hi : Word
deriving DecidableEq, Repr

/-- The page mechanism beside the registers: commits under way, LV writes under way, shadow ownership, the
pages written since their last applied commit, and the snapshots by pair and requester. -/
structure Pages where
  commits : List Commit
  lv : List LvJob
  lvNext : Nat
  owner : Map (Option World)
  touched : Map Bool
  snaps : Map Snap
deriving DecidableEq, Repr

/-- A response-channel flit's content (R108, R111, R162, R167). -/
inductive HubFlit where
  | rddata (csn : Word) (tag : BitVec 6) (status : Byte) (w : CWord)
  | wrack (csn : Word) (tag : BitVec 6) (status : Byte)
  | line (hi : Bool) (tag : BitVec 6) (status : Byte) (ws : Four CWord)
  | agreed (m : AgreedMsg)
  | drp (op : BitVec 2) (id : Byte) (d : BitVec 48) (ev : Events)
  | cfgbc (part : Fin 6) (gen : Byte) (target : Half) (body : BitVec 160)
  | corerel (frame : Word) (relset : BitVec 3) (gen : Byte) (level : BitVec 2)
  | dbgcmd (op : Byte) (dcid : Byte) (arg : Half) (data : Word)
  | linkcfg (tmr : Word)
deriving DecidableEq, Repr

/-- A request-channel flit's content (R107, R109, R110, R111, R162). -/
inductive CopyFlit where
  | req (ty : ReqType) (r : Req)
  | sample (m : SampleMsg)
  | dinrec (part : Fin 3) (m : DinMsg)
  | retrep (retire : BitVec 48) (drpid : Byte) (ans : BitVec 2)
  | lstatFrame (m : LstatFrame)
  | lstatEvent (cause : Byte) (retire : BitVec 48) (detail : Word)
  | dbgrsp (op : Byte) (dcid : Byte) (result : BitVec 2) (value : Word) (retire : BitVec 48)
deriving DecidableEq, Repr

/-- One end of a link, as sender of `F` and as receiver (R102, R114 to R118): the next SEQ, the unacknowledged
flits oldest first, what waits with its class because the window is full or a resync lasts, the expected SEQ, the
advertised ACK, the acceptances it does not cover yet, and the timers. -/
structure LinkSide (F : Type) where
  txSeq : BitVec 12
  unacked : List (BitVec 12 × F)
  queue : List (BitVec 2 × F)
  expSeq : BitVec 12
  adv : BitVec 12
  accepted : Nat
  ackDue : Option Nat
  timeouts : Nat
  replayDue : Option Nat
  lastGood : Nat
  frameTmo : Nat
deriving DecidableEq, Repr

/-- An entry of the response cache (R130). -/
structure CacheEntry where
  csn : Word
  digest : Word
  flits : List HubFlit
deriving DecidableEq, Repr

/-- What a training state, a RESUME or a resync has seen at each end (R100, R112, R124): the run of good flits, the last
CONFIG received, and the resync phase (0 CDR, 1 ALIGN, 2 CONFIG). -/
structure Training where
  seenH : Nat
  seenC : Nat
  cfgH : Option ConfigMsg
  cfgC : Option ConfigMsg
  phase : Nat
deriving DecidableEq, Repr

/-- The hub's end of one link: its sender and receiver, the state timer, what its state has
seen, the response cache, the grants (the registers hold GRANT and the requests received), the response places
held by reservations (guard, timely, bulk), the LSTAT report to publish, and the resync history (R100 to R137). -/
structure HubLink where
  side : LinkSide HubFlit
  stateDue : Nat
  tr : Training
  eqStored : Bool
  eqRate : BitVec 2
  cache : List CacheEntry
  responses : Nat
  received : Nat
  grant : Nat
  lastGrant : Nat
  grantDue : Option Nat
  held : Bool
  guardWait : Option Nat
  resTimely : Nat
  resBulk : Nat
  resGuard : Nat
  anyReq : Bool
  lstat : List LstatFrame
  sdata : List SampleMsg
  tmoCopy : Nat
  resyncTrig : BitVec 3
  resyncEnd : Option Nat
  reissued : Nat
deriving DecidableEq, Repr

/-- One copy's request in a compare entry, with the HCLK of its arrival (R275). -/
structure Arrival where
  ty : ReqType
  req : Req
  time : Nat
deriving DecidableEq, Repr

/-- How far a compare entry has come: open; released and waiting for response places (R136), for its port slot
(R298), for the journal (R53, R60); executed; discarded at a frame boundary and kept for late arrivals (R297). -/
inductive Stage where
  | opened
  | released
  | reserved
  | waiting
  | executed
  | late
deriving DecidableEq, Repr

/-- A compare entry: the arrivals, the copy whose vector is executed, what an early safe-direction execution
left, and the status so far (R275, R279, R287, R297). -/
structure CmpEntry where
  csn : Word
  first : Nat
  arr : Tri (Option Arrival)
  agreed : Tri (Option Bool)
  stage : Stage
  winner : CopyId
  safeDone : Bool
  relAt : Nat
  delayed : Bool
  refusal : Option Byte
  flits : List HubFlit
  answered : Tri Bool
deriving DecidableEq, Repr

/-- The open delivery (R163, R165). -/
structure Delivery where
  id : Byte
  d : BitVec 48
  ev : Events
  agrFrame : Option (BitVec 48)
  answered : Tri Bool
deriving DecidableEq, Repr

/-- One digital record set of a copy while its three flits arrive (R109). -/
structure DinSlot where
  p0 : Option DinMsg
  p1 : Option DinMsg
  p2 : Option DinMsg
deriving DecidableEq, Repr

/-- Event reports of one cause at one retire count: the copies that sent one, and the end of the compare timeout
(R224, R226). -/
structure EventGroup where
  code : Byte
  retire : BitVec 48
  reported : Tri Bool
  due : Nat
deriving DecidableEq, Repr

/-- The exchanges of the current frame, the agreed values so far, the miss counts that no register shows, and
the delivery state (R149 to R169). -/
structure Agree where
  msgs : Tri (Tri (Option SampleMsg))
  aOpen : Tri Bool
  din : Tri DinSlot
  dOpen : Bool
  written : Bool
  skip : Bool
  lastVal : List (Option Half)
  plDue : List Bool
  outl : Tri (List Nat)
  msgMissing : Tri Nat
  maxRetire : BitVec 48
  nextId : Byte
  dlv : Option Delivery
  tckPend : Bool
  agrPend : List (BitVec 48 × AgreedMsg)
  agrDone : Bool
  deferred : Bool
  dbgPend : Bool
  bankBusy : Duo Bool
  drpUsed : Nat
  replUsed : Nat
  agreedUsed : Nat
  cfgbcUsed : Nat
  ctlUsed : Nat
  cfgQueue : List HubFlit
  ctlQueue : List HubFlit
  replPend : Bool
  released3 : Bool
  rules : List Word
  genAt : List (BitVec 48 × Byte)
  cfgAt : List (BitVec 48 × List (Nat × Word))
  tempHot : Tri Nat
  calNext : Option Nat
  reports : List EventGroup
deriving DecidableEq, Repr

/-- One tracker event (R326): its index in the forward sequence V+, U−, W+, V−, U+, W− and its time. -/
structure TrkEvent where
  idx : Fin 6
  time : DWord
deriving DecidableEq, Repr

/-- A drive beyond its registers: the IF generator, the blend, the tracker's run of events, the analog
comparators, which gate outputs the hub drives, the switches on, and the PWM period in force (R301 to R327). -/
structure Drive where
  theta : Word
  inc : Word
  blendOld : BitVec 2
  missing : Bool
  obsHeld : Word
  runDir : Bool
  runLen : Nat
  lastEvts : List TrkEvent
  trkValid : Bool
  configured : Bool
  icode : BitVec 10
  vcode : BitVec 10
  blankEnd : Option Nat
  periodCmp : Tri (BitVec 21)
  periodHp : Half
  periodAt : Nat
  periodOn : Bool
  changeAt : Nat
  hiOff : Tri Nat
  loOff : Tri Nat
  hiWas : Tri Bool
  loWas : Tri Bool
  obsDue : BitVec 2
  ovrDue : Bool
  written : Bool
deriving DecidableEq, Repr

/-- A fan channel beyond its registers (R335 to R348). -/
structure Fan where
  edges : List DWord
  trev : Nat
  integ : Int
  preload : Bool
  stall : Nat
  good : Nat
  phaseEnd : Nat
  duty : Half
  pinDuty : Half
  pinAt : Nat
  fresh : Nat
  lastDuty : Half
  ovrOff : Bool
  hcnt : Nat
  ccnt : Nat
  nwin : Nat
  voidWin : Bool
  failed : Bool
  edgesNow : Nat
  edgesPrev : Nat
  heldAt : Option Nat
  written : Bool
  configured : Bool
deriving DecidableEq, Repr

/-- A switched output: the pin, its last change, and the end of a break-before-make delay (R350, R351). -/
structure Gpo where
  on : Bool
  since : Nat
  bbmEnd : Option Nat
  drain : Bool
  told : Bool
deriving DecidableEq, Repr

/-- Puffball beyond its registers (R355 to R358). -/
structure Puff where
  insvcFrom : Option Nat
  entered : Nat
  kicking : Bool
  nextDistress : Nat
deriving DecidableEq, Repr

end Sys2Proof.Machine
end

