-- ==== Sys2Proof/Machine/StateCopy.lean ====
section
/-! DEFINITION. Machine/StateCopy.lean: one copy: the Zuster core with its registers, worlds, shadow stacks,
caches and requests (R173 to R229), Bronze (R230 to R232), its sense block (R70 to R93), its clock view
(R145 to R147), its link end and its debug state. -/

namespace Sys2Proof.Machine

open Sys2Proof

/-- The kinds of shadow-stack entries (R218). -/
inductive EKind where
  | call | gpc | gstat | gsp | tsp
deriving DecidableEq, Repr

/-- A shadow-stack entry (R218). -/
structure SEntry where
  kind : EKind
  value : Word
deriving DecidableEq, Repr

/-- One ring's shadow stack: the on-core entries, newest first, and SSPn with BASE and CNT (R218, R220, R229). -/
structure SStack where
  top : List SEntry
  ssp : Word
deriving DecidableEq, Repr

/-- What a world holds for itself (R201): the bank of trap registers, REQERR, the RETIRE latch, the shadow
stacks of its rings and its pending page events. -/
structure Bank where
  estatus : BitVec 6
  epc : Word
  ecause : Word
  eval : Word
  aux : DWord
  reqerr : Word
  retireLatch : Half
  stk : Quad SStack
  pages : DWord
deriving DecidableEq, Repr

/-- What the response to an outstanding request is for (R184, R193, R194, R206, R220). -/
inductive RespUse where
  | loadWait (k : LoadKind) (rd : BitVec 5) (addr : Word) (cached : Bool)
  | loadHit (addr : Word) (used : CWord)
  | posted (spill : Bool)
  | fetch (line : Word)
  | gateWord (i : Fin 4)
  | fillWord (i : Nat)
deriving DecidableEq, Repr

/-- An outstanding request: its tag's owner (R127). `line0` keeps LINE0 of a FETCH until LINE1 arrives. -/
structure Outst where
  tag : BitVec 6
  ty : ReqType
  req : Req
  use : RespUse
  line0 : Option (Byte × Four CWord)
deriving DecidableEq, Repr

/-- What the copy waits for: a load of an instruction of `len` bytes, a line, the words of a gate entry, the words of
the records of a fill (R184, R178, R206, R220), or, with a trap raised, the last outstanding response (R194). -/
inductive CopyWait where
  | none
  | load (len : Nat)
  | fetch (line : Word)
  | gate (n : BitVec 6) (got : Four (Option Word))
  | fill (w : World) (r : Fin 4) (n : Nat) (got : List (Option Word))
  | trap (code : Nat) (eval : Word) (aux : DWord)
deriving DecidableEq, Repr

/-- Why a copy has stopped for good (R126, R181, R224). -/
inductive Stop where
  | icfail | triple | protocol
deriving DecidableEq, Repr

/-- An instruction-cache line: eight words with their codes and the parity word with its own (R180, R181). -/
structure ILine where
  line : Word
  words : List CWord
  parity : CWord
deriving DecidableEq, Repr

/-- A data-cache line with a valid mark per word (R183). -/
structure DLine where
  line : Word
  words : List (Option CWord)
deriving DecidableEq, Repr

/-- A cache: lines by set × 4 + way, and the tree pseudo-LRU bits by set (R180, R183). -/
structure Cache (L : Type) where
  lines : Map (Option L)
  plru : Map (BitVec 3)
deriving DecidableEq, Repr

/-- One sense block (R70 to R93): the configuration in use and the parts of the one being received, the sums
in force, the trims, the run in progress, what the next messages carry, the digital inputs, and the counters
that LSTAT reports. -/
structure Sense where
  cfg : List (Nat × Word)
  gen : Byte
  parts : List (Fin 6 × Byte × Half × BitVec 160)
  nextCfg : List (Byte × Half × List (Nat × Word))
  sums : Tri (BitVec 20 × BitVec 20)
  runtime : Tri Bool
  calerr : Tri Bool
  sumv : Tri Bool
  tro : List (BitVec 12)
  trg : List (BitVec 12)
  calWords : List (Option (List Word))
  runFrom : Option (BitVec 48)
  runGroups : Tri Bool
  runBad : Tri Bool
  runLo : Tri Nat
  runHi : Tri Nat
  ofs : List Int
  gain : List Int
  lvl : BitVec 12
  recs : List DinRec
  prevRecs : List DinRec
  moreEdges : List Bool
  prevOver : List Bool
deriving DecidableEq, Repr

/-- A copy's time (R145, R146): the CCLK instant of the latest tick, ρ, the period of the latest TICK, whether
the previous tick was accepted, and the frame number the copy counts. -/
structure CTime where
  c : Int
  valid : Bool
  rho : Word
  per : BitVec 19
  prevPer : BitVec 19
  accepted : Bool
  frame : Word
deriving DecidableEq, Repr

/-- The increments that the next LSTAT frame report carries (R110). -/
structure CStats where
  crcerr : Nat
  dup : Nat
  oos : Nat
  tmo : Nat
  granterr : Nat
  ticklost : Nat
  iccor : Nat
  icreb : Nat
  dccor : Nat
  dcue : Nat
  dcvmis : Nat
  dovf : Nat
  spillue : Nat
  spillpk : Nat
deriving DecidableEq, Repr

/-- The state of a copy's own link end (R100, R124, R126). -/
inductive CLink where
  | off | training | active | resync
deriving DecidableEq, Repr

/-- An armed delivery of a copy (R164, R166). -/
structure Armed where
  id : Byte
  d : BitVec 48
  ev : Events
  confirmed : Bool
deriving DecidableEq, Repr

structure Copy where
  -- power and release
  powered : Bool
  released : Bool
  stop : Option Stop
  -- registers
  x : Vector Word 32
  pc : Word
  world : World
  ring : Fin 4
  hush : Bool
  bmode : BitVec 2
  ibusy : Bool
  idflt : Bool
  tbusy : Bool
  tdflt : Bool
  entering : Option World
  iron : Bank
  tin : Bank
  gtbaseI : Word
  gtbaseT : Word
  hushmax : Word
  hushCnt : Nat
  acls : Word
  bstat : Word
  acc : BitVec 72
  retire : BitVec 48
  -- requests
  csn : Word
  out : List Outst
  grant : BitVec 16
  issued : BitVec 16
  wait : CopyWait
  icache : Cache ILine
  dcache : Cache DLine
  scrub : BitVec 10
  -- events
  armed : Option Armed
  lastDrp : Byte
  tck : Option (Word × BitVec 48)
  agr : Bool
  agreed : AgreedMsg
  agreedIn : AgreedMsg
  -- link, time, sense
  link : CLink
  side : LinkSide CopyFlit
  tmr : Word
  restart : Bool
  echo : Option Word
  time : CTime
  stats : CStats
  sense : Sense
  -- debug
  dbg : Bool
  debug : Bool
  dbgInval : Bool
  step : Option Nat
deriving DecidableEq, Repr

end Sys2Proof.Machine
end

