-- ==== Sys2Proof/Machine/StateUnits.lean ====
section
/-! DEFINITION. Machine/StateUnits.lean: the CAN controllers, the energy ledger and its plan, the flash job,
the power sequencer, the clock sources, the boot, debug and JTAG units: what their registers do not show. -/

namespace Sys2Proof.Machine

open Sys2Proof

/-- A transmit slot (R364, R365): the staged words it took, its submit time and class; SLOTST shows the rest. -/
structure TxSlot where
  stg : List Word
  submit : Nat
  cancel : Bool
  overran : Bool
deriving DecidableEq, Repr

/-- A stored received frame (R373). -/
structure RxItem where
  frame : CanFrame
  filter : Nat
  cls : BitVec 2
  time : Word
  stored : Nat
  overran : Bool
deriving DecidableEq, Repr

/-- A CAN controller beyond its registers. `selected` is the slot chosen for contention (48 is the internal
slot), `active` the slot whose SOF has started; `tecN` and `recN` are the ISO 11898-1 counters. -/
structure Can where
  slots : Map (Option TxSlot)
  rx : List RxItem
  selected : Option Nat
  active : Option Nat
  stopping : Bool
  boAt : Option Nat
  internal : Option (List Byte)
  puffTiming : Bool
  tecN : Nat
  recN : Nat
deriving DecidableEq, Repr

/-- What a ledger job is (R409). -/
inductive JobKind where
  | flashProgram | flashErase | flashBlank | flush | capCheck
deriving DecidableEq, Repr

/-- A flash job's parameters and progress (R260 to R262). `data` is the row that the loader programs (R436); a job of the
FLASH page takes its rows from `src`. -/
structure FlashJob where
  op : BitVec 2
  dst : Word
  src : Word
  cnt : Nat
  done : Nat
  result : BitVec 3
  running : Bool
  jtag : Bool
  data : List Word
deriving DecidableEq, Repr

/-- A submitted, waiting or admitted ledger job (R407, R408). `hold` is the energy it still holds. -/
structure Job where
  id : Nat
  kind : JobKind
  cls : BitVec 2
  energy : Nat
  hold : Nat
  admitted : Bool
  since : Nat
  overran : Bool
  flash : Option FlashJob
deriving DecidableEq, Repr

/-- A capacitance check under way (R404): 1 waiting for V1, 2 with the sink on. -/
structure CapCheck where
  stage : BitVec 2
  v0 : Nat
  v1 : Nat
  amps : Nat
  step : Nat
  due : Nat
deriving DecidableEq, Repr

/-- A memory walker: the SRAM scrubber (R265) or the retention refresh (R267): the next word, when it is read, the
addresses journaled since UEADDR was cleared, and what was found in Hibernate. -/
structure Walk where
  next : Nat
  due : Nat
  seen : List Nat
  late : List Nat
deriving DecidableEq, Repr

/-- The ledger beyond its registers: conversions, residues, the value of E one ms ago, jobs, the plan's place and the hold of the
WRITE step in progress (R411, R412). -/
structure Ledger where
  conv : List Nat
  resid : Quad Nat
  e : Nat
  ePrev : Nat
  ecntPrev : Nat
  below : Nat
  above : Nat
  jobs : List Job
  nextJob : Nat
  planNext : Nat
  planFrom : Nat
  planBusyUntil : Nat
  planFlush : Option Nat
  planHold : Nat
  cap : Option CapCheck
  sink : Bool
  convAt : Nat
  msAt : Nat
deriving DecidableEq, Repr

/-- Clock sources (R420 to R424). -/
structure Clk where
  starting : Bool
  startedAt : Nat
  switchDue : Bool
  rhoNew : Tri (Option Word)
  strap : BitVec 2
deriving DecidableEq, Repr

/-- Low-power sequencing (R391, R393, R394). -/
structure Lp where
  stopping : Bool
  entered : Bool
  wakePend : Option WakeSrc
deriving DecidableEq, Repr

/-- Debug beyond its registers (R439 to R443). -/
structure Dbg where
  dcid : Byte
  reports : Tri Bool
  answers : Tri (Option (Byte × BitVec 2 × Word))
  haltAt : BitVec 48
  cmd : Option (Byte × Half)
  inval : Bool
  challenge : Option DWord
deriving DecidableEq, Repr

/-- JTAG (R436, R437, R479): the instruction in force, the boundary register's cells (FAN0 to FAN3, CAN0, CAN1, TDO, from
bit 0) as preloaded and as sampled, the bypass bit, the words read out, and the status byte of the last command; none
where it is that of the flash job it submitted. -/
structure Jtag where
  ir : BitVec 5
  preload : BitVec 7
  sample : BitVec 7
  bypass : Bool
  dataOut : List Word
  status : Option Byte
deriving DecidableEq, Repr

/-- Boot: what the image check found (R6, R269 to R271, R433). -/
structure Boot where
  variant : BitVec 2
  usePair : Bool
  loaderHeld : Bool
  reduced : Bool
  resetSrc : BitVec 8
  lockAt : Nat
deriving DecidableEq, Repr

/-- The duplicate of the journal pointers in always-on registers (R266, R268). -/
structure JDup where
  head : Word
  headslot : Word
  count : Word
  mirhead : Word
deriving DecidableEq, Repr

end Sys2Proof.Machine
end

