-- ==== Sys2Proof/Machine/State.lean ====
section
/-! DEFINITION. Machine/State.lean: the device's whole state as plain data, the state right after reset, and
the two closed inductives of stops. -/

namespace Sys2Proof.Machine

open Sys2Proof

/-- The device. `regs` is the one home of every register a program can read (R41), at its reset value where
unlisted; `shadow` holds the shadow values of SH fields (R43); `mem` and `codes` hold flash, SRAM, the
agreement window, retention memory and OTP with their 7-bit codes (Machine/Mem.lean says what an unlisted
address reads as). `time` is TBASE.TIME; `frnum`, `tickt` and `period` are the frame generator's (R142, R143).
`wdCfg` is WDOG.CFG as the watchdog uses it in this frame (R460). -/
structure Dev where
  regs : Map Word
  shadow : Map Word
  banked : Map Word
  mem : Map Byte
  codes : Map (BitVec 8)
  freeCtr : Nat
  time : DWord
  phase : Phase
  phaseDue : Nat
  cs : CoreSet
  csDue : Nat
  pendRestart : Option Nat
  frames : Bool
  frnum : BitVec 48
  tickt : DWord
  period : BitVec 19
  ledgerStop : Bool
  flopp : Bool
  floppDst : Word
  ovl : Map (Nat × Nat × Nat)
  pages : Pages
  jrn : Journal
  jdup : JDup
  links : Tri HubLink
  cmp : List CmpEntry
  agr : Agree
  copies : Tri Copy
  drv : Tri Drive
  fan : Quad Fan
  fanOvrDue : Bool
  fanLoopAt : Nat
  partAt : Nat
  gpo : List Gpo
  puff : Puff
  can : Duo Can
  ledger : Ledger
  flash : Option FlashJob
  scrubW : Walk
  refreshW : Walk
  clk : Clk
  lp : Lp
  dbg : Dbg
  jtag : Jtag
  boot : Boot
  wdCfg : Word
deriving DecidableEq, Repr

/-- The block: the commands that wait, first in, first out, and the device. -/
structure State where
  pending : List Instr
  dev : Dev
deriving DecidableEq, Repr

/-- No command of this block faults: a command whose trigger does not hold leaves the state as it is, and every
error the spec describes is an effect on the state. -/
inductive Fault where
  /-- Raised by nothing; there so that the type names its one reason. Safe. -/
  | unreachable
deriving DecidableEq, Repr

/-- Refusals. -/
inductive Refusal where
  /-- Raised by an arm of `exec` that has no meaning yet, with the row's mnemonic. Safe. -/
  | notModelled (mnemonic : String)
deriving DecidableEq, Repr

namespace Dev

def sideReset (F : Type) : LinkSide F :=
  { txSeq := 0, unacked := [], queue := [], expSeq := 0, adv := 0xFFF, accepted := 0, ackDue := none,
    timeouts := 0, replayDue := none, lastGood := 0, frameTmo := 0 }

def linkReset : HubLink :=
  { side := sideReset HubFlit, stateDue := 0, tr := ⟨0, 0, none, none, 0⟩, eqStored := false,
    eqRate := 0, cache := [], responses := 0, received := 0, grant := 0, lastGrant := 0, grantDue := none,
    held := false, guardWait := none, resTimely := 0,
    resBulk := 0, resGuard := 0, anyReq := false, lstat := [], sdata := [], tmoCopy := 0, resyncTrig := 0,
    resyncEnd := none, reissued := 0 }

def dinReset : DinSlot := ⟨none, none, none⟩

def agreeReset : Agree :=
  { msgs := Tri.const (Tri.const none), aOpen := Tri.const false, din := Tri.const dinReset, dOpen := false,
    written := false, skip := false, lastVal := List.replicate 12 none, plDue := List.replicate 24 false,
    outl := Tri.const (List.replicate 24 0), msgMissing := Tri.const 0, maxRetire := 0, nextId := 0, dlv := none,
    tckPend := false, agrPend := [], agrDone := false, deferred := false, dbgPend := false, bankBusy := Duo.const false, drpUsed := 0,
    replUsed := 0, agreedUsed := 0, cfgbcUsed := 0, ctlUsed := 0, cfgQueue := [], ctlQueue := [], replPend := false, released3 := false,
    rules := [], genAt := [], cfgAt := [], tempHot := Tri.const 0, calNext := none, reports := [] }

def stackReset : SStack := ⟨[], 0⟩

def bankReset : Bank :=
  { estatus := 0, epc := 0, ecause := 0, eval := 0, aux := 0, reqerr := 0, retireLatch := 0,
    stk := Quad.const stackReset, pages := 0 }

def statsReset : CStats := ⟨0, 0, 0, 0, 0, 0, 0, 0, 0, 0, 0, 0, 0, 0⟩

def senseReset : Sense :=
  { cfg := [], gen := 0, parts := [], nextCfg := [], sums := Tri.const (65536, 786432), runtime := Tri.const false,
    calerr := Tri.const false, sumv := Tri.const true, tro := List.replicate 12 0, trg := List.replicate 12 0,
    calWords := [none, none, none, none], runFrom := none, runGroups := Tri.const false, runBad := Tri.const false,
    runLo := Tri.const 0, runHi := Tri.const 0, ofs := List.replicate 12 0, gain := List.replicate 12 0, lvl := 0,
    recs := List.replicate 12 ⟨false, 0, false, false, 0, 0⟩,
    prevRecs := List.replicate 12 ⟨false, 0, false, false, 0, 0⟩, moreEdges := List.replicate 12 false,
    prevOver := List.replicate 12 false }

/-- A copy with power off; its reset at release is R227 (`Copy.atRelease`, Machine/CopySide.lean). What R227 gives no value is 0
(assumption 27). -/
def copyReset : Copy :=
  { powered := false, released := false, stop := none, x := Vector.replicate 32 0, pc := 0, world := .iron, ring := 0,
    hush := true, bmode := 0, ibusy := false, idflt := false, tbusy := false, tdflt := false, entering := none,
    iron := bankReset, tin := { bankReset with estatus := 1 }, gtbaseI := 0, gtbaseT := 0, hushmax := 0xFFFF,
    hushCnt := 0, acls := 0b1001, bstat := 0, acc := 0, retire := 0, csn := 0, out := [], grant := 0, issued := 0,
    wait := .none, icache := ⟨[], []⟩, dcache := ⟨[], []⟩, scrub := 0, armed := none, lastDrp := 0, tck := none,
    agr := false, agreed := ⟨0, 0, 0, 0, 0⟩, agreedIn := ⟨0, 0, 0, 0, 0⟩, link := .off, side := sideReset CopyFlit, tmr := 0x32045190,
    restart := false, echo := none, time := ⟨0, false, 0x18000000, 20000, 20000, false, 0⟩, stats := statsReset, sense := senseReset,
    dbg := false, debug := false, dbgInval := false, step := none }

def driveReset : Drive :=
  { theta := 0, inc := 0, blendOld := 0, missing := false, obsHeld := 0, runDir := false, runLen := 0,
    lastEvts := [], trkValid := false, configured := false, icode := 0, vcode := 0, blankEnd := none,
    periodCmp := Tri.const 0, periodHp := 12500, periodAt := 0, periodOn := false, changeAt := 0,
    hiOff := Tri.const 0, loOff := Tri.const 0, hiWas := Tri.const false, loWas := Tri.const false, obsDue := 0, ovrDue := false, written := false }

def fanReset : Fan :=
  { edges := [], trev := 0, integ := 0, preload := false, stall := 0, good := 0, phaseEnd := 0, duty := 0, pinDuty := 0,
    pinAt := 0, fresh := 0, lastDuty := 0, ovrOff := false, hcnt := 0, ccnt := 0, nwin := 0, voidWin := false, failed := false,
    edgesNow := 0, edgesPrev := 0, heldAt := none, written := false, configured := false }

def canReset : Can :=
  { slots := [], rx := [], selected := none, active := none, stopping := false, boAt := none, internal := none,
    puffTiming := false, tecN := 0, recN := 0 }

def ledgerReset : Ledger :=
  { conv := List.replicate 8 0, resid := Quad.const 0, e := 0, ePrev := 0, ecntPrev := 0, below := 0, above := 0,
    jobs := [], nextJob := 0, planNext := 0, planFrom := 0, planBusyUntil := 0, planFlush := none, planHold := 0,
    cap := none, sink := false, convAt := 0, msAt := 0 }

/-- The device before it has power: every register at its reset value, every sequencer at rest (R389 OFF). -/
def reset : Dev :=
  { regs := [], shadow := [], banked := [], mem := [], codes := [], freeCtr := 0, time := 0, phase := .off,
    phaseDue := 0, cs := .idle, csDue := 0, pendRestart := none, frames := false, frnum := 0, tickt := 0, period := 20000,
    ledgerStop := false, flopp := false, floppDst := 0, ovl := [],
    pages := { commits := [], lv := [], lvNext := 0, owner := [], touched := [], snaps := [] },
    jrn := { queue := [], waiting := [], loss := 0, flush := none, flushJob := none, half := false, halfUsed := 0,
             mirBase := 0, mirValid := false, flushN := 0, flushX := false, wroteAt := 0 },
    jdup := ⟨0, 0, 0, 0⟩, links := Tri.const linkReset, cmp := [], agr := agreeReset, copies := Tri.const copyReset,
    drv := Tri.const driveReset, fan := Quad.const fanReset, fanOvrDue := false, fanLoopAt := 0, partAt := 0, gpo := List.replicate 8 ⟨false, 0, none, true, false⟩,
    puff := ⟨none, 0, false, 0⟩, can := Duo.const canReset, ledger := ledgerReset, flash := none, scrubW := ⟨0, 0, [], []⟩, refreshW := ⟨0, 0, [], []⟩,
    clk := ⟨false, 0, false, Tri.const none, 0⟩, lp := ⟨false, false, none⟩,
    dbg := { dcid := 0, reports := Tri.const false, answers := Tri.const none, haltAt := 0, cmd := none, inval := false,
             challenge := none },
    jtag := ⟨0x1F, 0, 0, false, [], some 0⟩,
    boot := { variant := 0, usePair := false, loaderHeld := false, reduced := false, resetSrc := 1,
              lockAt := 0 },
    wdCfg := 64 }

end Dev

/-- The machine right after reset: no command waits, and the device is as `Dev.reset`. -/
def State.reset : State := { pending := [], dev := Dev.reset }

/-- A meaning changes the device and nothing else: the queue stays as it is. -/
def State.run (s : State) (f : Dev → Dev) : Host.Outcome State Fault Refusal :=
  .next { s with dev := f s.dev }

end Sys2Proof.Machine
end

