-- ==== Sys2Proof/Machine/Ops.lean ====
section
/-! DEFINITION. Machine/Ops.lean: the named operations over the device that every family uses: registers and
their fields, time, events, the journal's queue with its admission (R60), FAULT and MODE entries, and the
admission groups (R33, R37). -/

namespace Sys2Proof.Machine

open Sys2Proof

/-! Registers. -/

/-- The applied value of register `k`. -/
def Dev.reg (d : Dev) (k : Nat) : Word := mapGet regReset d.regs k

/-- `d` with register `k` holding `v`. -/
def Dev.setReg (d : Dev) (k : Nat) (v : Word) : Dev := { d with regs := mapPut regReset d.regs k v }

def Dev.rfld (d : Dev) (k hi lo : Nat) : Nat := fld (d.reg k) hi lo
def Dev.rbit (d : Dev) (k i : Nat) : Bool := bitOf (d.reg k) i
def Dev.setFldR (d : Dev) (k hi lo v : Nat) : Dev := d.setReg k (setFld (d.reg k) hi lo v)
def Dev.setBitR (d : Dev) (k i : Nat) (b : Bool) : Dev := d.setReg k (setBit (d.reg k) i b)

/-- A saturating counter register rises by `n` (R37, R141, R299). -/
def Dev.count (d : Dev) (k n : Nat) : Dev := d.setReg k (satAdd (d.reg k) n)

/-- The shadow value of register `k` (R43). -/
def Dev.shad (d : Dev) (k : Nat) : Word := mapGet regReset d.shadow k
def Dev.setShad (d : Dev) (k : Nat) (v : Word) : Dev := { d with shadow := mapPut regReset d.shadow k v }

/-- The Tin bank of a register held once per world (R365, R374): Iron's bank is `Dev.reg`. -/
def Dev.bankReg (d : Dev) (w : World) (k : Nat) : Word :=
  match w with
  | .iron => d.reg k
  | .tin => mapGet regReset d.banked k
def Dev.setBankReg (d : Dev) (w : World) (k : Nat) (v : Word) : Dev :=
  match w with
  | .iron => d.setReg k v
  | .tin => { d with banked := mapPut regReset d.banked k v }

/-! Time. -/

/-- TBASE.TIME as a number (R142). -/
def Dev.now (d : Dev) : Nat := d.time.toNat

/-- A timer that runs out at `due`: TIME is at least that (assumption 3). -/
def Dev.at (d : Dev) (due : Nat) : Dev := if d.now < due then { d with time := BitVec.ofNat 64 due } else d

/-- The low 32 bits of the frame number. -/
def Dev.frame32 (d : Dev) : Word := d.frnum.setWidth 32

/-- Whether the hub executes: powered, and not in Doze, Hibernate or dead (R389, R446). -/
def Dev.awake (d : Dev) : Bool :=
  match d.phase with
  | .off | .dozing | .hibernating | .dead => false
  | _ => true

/-- Whether the hub has booted up to its pages: the journal runs and registers take writes. -/
def Dev.live (d : Dev) : Bool := d.phase == .run || d.phase == .service || d.phase == .imgCheck

/-! Identity and service. -/

/-- Copies in the package (R5). -/
def Dev.variant (d : Dev) : Nat := d.rfld Reg.sys_DEVID 23 16

/-- Copy `c` is in service (R16, R40). -/
def Dev.inSvc (d : Dev) (c : CopyId) : Bool := d.rbit Reg.sys_SVCLVL (8 + c.val)

def Dev.svcCopies (d : Dev) : List CopyId := copyIds.filter d.inSvc

def Dev.nSvc (d : Dev) : Nat := (d.svcCopies).length

/-- SYS.SVCLVL.LEVEL (R40). -/
def Dev.level (d : Dev) : Nat := d.rfld Reg.sys_SVCLVL 1 0

/-- RELEASE.LATCH.DEV (R293). -/
def Dev.devLatch (d : Dev) : Bool := d.rbit Reg.release_LATCH 0

/-- Puffball is in control (R355). -/
def Dev.puffActive (d : Dev) : Bool := d.rbit Reg.puff_STAT 0

/-- The ride-through plan executes (R411). -/
def Dev.planExec (d : Dev) : Bool := d.rbit Reg.ledger_PLANCTL 4

/-- PWR.STAT.PSTATE (R389). -/
def Dev.pstate (d : Dev) : Nat := d.rfld Reg.pwr_STAT 3 0

/-- The SRC code of a journal entry (R63). -/
def srcCode : Src → Nat
  | .copies _ _ => 4
  | .hub => 0
  | .jtag => 5
  | .puffball => 6

/-! Events and free values. -/

/-- A block event sets its PG_EVT bit (R68). -/
def Dev.evt (d : Dev) (page bit : Nat) : Dev := d.setBitR (Reg.pgEvt page) bit true

/-- The next value that the spec leaves open, and the device with its draw consumed (assumption 6). -/
def Dev.drawWord (d : Dev) : Word × Dev := (Config.freeWord d.freeCtr, { d with freeCtr := d.freeCtr + 1 })
def Dev.drawBool (d : Dev) : Bool × Dev := (Config.freeBool d.freeCtr, { d with freeCtr := d.freeCtr + 1 })

/-! The journal's queue. -/

/-- The class of an entry kind (R64). -/
def jClass (kind : Nat) : Nat :=
  if kind = 0x05 ∨ kind = 0x06 ∨ kind = 0x07 ∨ kind = 0x08 ∨ kind = 0x0D ∨ kind = 0x0F ∨ kind = 0x10 ∨ kind = 0x11
  then 0 else if kind = 0x09 ∨ kind = 0x0A then 2 else 1

/-- The smallest exponent of ECODE for `v` among `e`, `e`+1, … (R403). -/
def ecodeFrom (v : Nat) : Nat → Nat → Nat
  | 0, e => if v / 2 ^ e < 4096 then e * 4096 + v / 2 ^ e else 0xFFFF
  | n + 1, e => if v / 2 ^ e < 4096 then e * 4096 + v / 2 ^ e else ecodeFrom v n (e + 1)

/-- ECODE of a value in nJ (R63, R403). -/
def ecode (v : Int) : Nat := if v ≤ 0 then 0 else ecodeFrom v.toNat 15 0

/-- An entry as it arises now. -/
def Dev.jEntry (d : Dev) (kind page off src : Nat) (new prev frame : Word) (forCommit : Bool) : JEntry :=
  { kind := BitVec.ofNat 8 kind, page := BitVec.ofNat 6 page, offset := BitVec.ofNat 12 off, src := BitVec.ofNat 4 src,
    new := new, prev := prev, frame := frame, time := d.time, ecode := BitVec.ofNat 16 (ecode d.ledger.e),
    cls := BitVec.ofNat 2 (jClass kind), forCommit := forCommit }

/-- The order of entries of the same HCLK: class, then page, then offset (R60). -/
def jKey (e : JEntry) : Nat := e.cls.toNat * 0x40000 + e.page.toNat * 0x1000 + e.offset.toNat

/-- `e` may pass `x`: both arose in one HCLK, and `x` comes later in the order of R60. -/
def jAfter (e x : JEntry) : Bool := x.time == e.time && decide (jKey e < jKey x) && x.kind != 0x11

/-- `e` behind every entry it may not pass. -/
def jInsert (e : JEntry) : List JEntry → List JEntry
  | [] => [e]
  | x :: xs => if (x :: xs).all (jAfter e) then e :: x :: xs else x :: jInsert e xs

def Dev.jNonGuard (d : Dev) : Nat := (d.jrn.queue.filter (fun e => e.cls != 0)).length
def Dev.jBulk (d : Dev) : Nat := (d.jrn.queue.filter (fun e => e.cls == 2)).length

def jInsertAll : List JEntry → List JEntry → List JEntry
  | [], q => q
  | e :: es, q => jInsertAll es (jInsert e q)

/-- Entries enter the queue, preceded by a LOSS entry when any were refused since the last one (R60). -/
def Dev.jAdmit (d : Dev) (es : List JEntry) : Dev :=
  let q := if d.jrn.loss = 0 then d.jrn.queue
    else d.jrn.queue ++ [d.jEntry 0x11 1 0 0 (toWord d.jrn.loss) 0 d.frame32 false]
  { d with jrn := { d.jrn with queue := jInsertAll es q, loss := 0 } }

/-- The sustained-overload window of an admission queue (R33): refusals of this frame, consecutive frames with
a refusal, consecutive frames without. -/
def ovlDflt (_ : Nat) : Nat × Nat × Nat := (0, 0, 0)

def Dev.ovlGet (d : Dev) (g : Nat) : Nat × Nat × Nat := mapGet ovlDflt d.ovl g
def Dev.ovlPut (d : Dev) (g : Nat) (x : Nat × Nat × Nat) : Dev := { d with ovl := mapPut ovlDflt d.ovl g x }
def Dev.ovlRef (d : Dev) (g : Nat) : Dev := d.ovlPut g ((d.ovlGet g).1 + 1, (d.ovlGet g).2)

/-- Timely entries that found no place in time: counted in EREF_T and in JRNL's overload window (R60, R69). -/
def Dev.jRefuseT (d : Dev) (n : Nat) : Dev :=
  ({ d with jrn := { d.jrn with loss := d.jrn.loss + n } }.count Reg.jrnl_EREF_T n).ovlRef 9

def Dev.jRefuseB (d : Dev) (n : Nat) : Dev :=
  ({ d with jrn := { d.jrn with loss := d.jrn.loss + n } }.count Reg.jrnl_EREF_B n).ovlRef 9

/-- A group of `n` timely entries finds places now (R60). -/
def Dev.jRoom (d : Dev) (n : Nat) : Bool := d.jrn.waiting.isEmpty && decide (d.jNonGuard + n ≤ 24)

/-- An entry arises: by its class it enters the queue, waits, or is refused (R60). -/
def Dev.jput (d : Dev) (e : JEntry) : Dev :=
  if e.cls = 0 then d.jAdmit [e]
  else if e.cls = 2 then
    if d.jRoom 1 && decide (d.jBulk < 16) then d.jAdmit [e] else d.jRefuseB 1
  else if d.jRoom 1 then d.jAdmit [e]
  else { d with jrn := { d.jrn with waiting := d.jrn.waiting ++ [⟨.event, [e], d.now + 4000⟩] } }

/-- A plain entry whose effect begins in the current frame. -/
def Dev.jlog (d : Dev) (kind page off src : Nat) (new prev : Word) : Dev :=
  d.jput (d.jEntry kind page off src new prev d.frame32 false)

/-- A FAULT entry at `off` with its flags in PG_FAULT (R68, R450): LAST, the saturating CNT, the flag bits. -/
def Dev.faultAt (d : Dev) (code page off src : Nat) (detail : Word) (flags : Nat) : Dev :=
  let k := Reg.pgFault page
  let w := d.reg k
  let d1 := d.setReg k (toWord (code * 0x1000000 + min 255 (fld w 23 16 + 1) * 0x10000 + (fld w 15 0 ||| flags)))
  d1.jlog 0x07 page off src (toWord code) detail

def Dev.fault (d : Dev) (code page src : Nat) (detail : Word) (flags : Nat) : Dev :=
  d.faultAt code page 0x1C src detail flags

/-- A MODE entry (R64). -/
def Dev.jmode (d : Dev) (page off src : Nat) (new prev : Word) : Dev := d.jlog 0x06 page off src new prev

/-- PSTATE changes, with its MODE entry (R389). -/
def Dev.setPstate (d : Dev) (p : Nat) : Dev :=
  if d.pstate = p then d
  else (d.setFldR Reg.pwr_STAT 3 0 p).jmode 3 0x4C 0 (toWord p) (toWord d.pstate)

/-- INSVC reads 0 from now on (R355). -/
def Puff.insvcLost (p : Puff) (now : Nat) : Puff := if p.insvcFrom.isSome then p else { p with insvcFrom := some now }

/-- SVCLVL changes, with its MODE entry on SYS (R291, R356). -/
def Dev.setSvc (d : Dev) (insvc level src : Nat) : Dev :=
  let v := toWord (insvc * 256 + level)
  let p := d.reg Reg.sys_SVCLVL
  if v = p then d
  else
    let d1 := if insvc = 0 then { d with puff := d.puff.insvcLost d.now } else d
    (d1.setReg Reg.sys_SVCLVL v).jmode 0 0x48 src v p

/-! Admission groups (R33, R37, R38). -/

/-- The base key of the admission group that SYS.OVLSUM bit `g` names. -/
def admBase (g : Nat) : Nat :=
  match g with
  | 0 => 0xE0C0 | 1 => 0xF0C0 | 2 => 0x100C0 | 3 => 0xB0C0 | 4 => 0x1B0C0
  | 5 => 0x1B0E0 | 6 => 0x1C0C0 | 7 => 0x1C0E0 | 8 => 0x20C0 | _ => 0x1080

/-- An item ends delayed (R37). -/
def Dev.admDly (d : Dev) (g cls : Nat) : Dev :=
  if cls = 1 then d.count (admBase g + 4) 1 else if cls = 2 then d.count (admBase g + 8) 1 else d

/-- An item ends refused (R33, R37). -/
def Dev.admRef (d : Dev) (g cls : Nat) : Dev :=
  if cls = 1 then (d.count (admBase g + 0xC) 1).ovlRef g
  else if cls = 2 then (d.count (admBase g + 0x10) 1).ovlRef g else d

/-- A guard overrun: the count, and the FAULT entry 0x0F on the block's page with the guard items waiting (R31, R451). -/
def Dev.guardOvr (d : Dev) (g page waiting : Nat) : Dev :=
  (d.count (admBase g + 0x14) 1).fault 0x0F page 0 (toWord waiting) 0

/-- Status bytes (R35). -/
def stServed : Byte := 0
def stDelayed : Byte := 1
def stRefused (reason : Nat) : Byte := BitVec.ofNat 8 (reason * 4 + 2)
def isRefused (s : Byte) : Bool := s.toNat % 4 == 2

/-! Index helpers. -/

def copyPage (c : CopyId) : Nat := 0x0E + c.val
def drvPage (n : DrvId) : Nat := 0x15 + n.val
def canPage (n : CanId) : Nat := 0x1B + n.val

def Dev.copy (d : Dev) (c : CopyId) : Copy := d.copies.get c
def Dev.updCopy (d : Dev) (c : CopyId) (f : Copy → Copy) : Dev := { d with copies := d.copies.upd c f }
def Dev.link (d : Dev) (c : CopyId) : HubLink := d.links.get c
def Dev.updLink (d : Dev) (c : CopyId) (f : HubLink → HubLink) : Dev := { d with links := d.links.upd c f }
def Dev.drive (d : Dev) (n : DrvId) : Drive := d.drv.get n
def Dev.updDrive (d : Dev) (n : DrvId) (f : Drive → Drive) : Dev := { d with drv := d.drv.upd n f }
def Dev.fanCh (d : Dev) (i : FanId) : Fan := d.fan.get i
def Dev.updFan (d : Dev) (i : FanId) (f : Fan → Fan) : Dev := { d with fan := d.fan.upd i f }
def Dev.gpoCh (d : Dev) (i : Nat) : Gpo := listGet ⟨false, 0, none, true, false⟩ d.gpo i
def Dev.updGpo (d : Dev) (i : Nat) (f : Gpo → Gpo) : Dev := { d with gpo := listSet d.gpo i (f (d.gpoCh i)) }
def Dev.canCh (d : Dev) (n : CanId) : Can := d.can.get n
def Dev.updCan (d : Dev) (n : CanId) (f : Can → Can) : Dev := { d with can := d.can.upd n f }

/-- `f` for every element, left to right. -/
def Dev.each {α : Type} (f : α → Dev → Dev) : List α → Dev → Dev
  | [], d => d
  | x :: xs, d => Dev.each f xs (f x d)

/-- LINKx.STAT.LSTATE codes (R141 table). -/
def Dev.lstate (d : Dev) (c : CopyId) : Nat := d.rfld (Reg.linkx_STAT c.val) 31 28
def Dev.setLstate (d : Dev) (c : CopyId) (x : Nat) : Dev := d.setFldR (Reg.linkx_STAT c.val) 31 28 x

/-- Wraps a meaning that is due only under `b`: a command that is not due changes nothing (assumption 2). -/
def dueIf (b : Bool) (f : Dev → Dev) (d : Dev) : Dev := if b then f d else d

end Sys2Proof.Machine
end

