-- ==== Sys2Proof/Machine/Mem.lean ====
section
/-! DEFINITION. Machine/Mem.lean: the memories (R157, R176, R257 to R268, R444), what an unlisted address reads
as, the end-to-end code (R251, R252), and the CRCs (R63, R105, R255). -/

namespace Sys2Proof.Machine

open Sys2Proof

/-! The end-to-end code. -/

/-- How many of the low 7 bits of `n` are set. -/
def weight7 (n : Nat) : Nat :=
  n % 2 + n / 2 % 2 + n / 4 % 2 + n / 8 % 2 + n / 16 % 2 + n / 32 % 2 + n / 64 % 2

/-- DC(i): the 7-bit values with exactly three bits set, rising (R251). -/
def dcTable : List Nat := (List.range 128).filter (fun n => weight7 n == 3)

/-- AC(k): the 7-bit values with exactly four bits set, rising, AC(2) first (R251). -/
def acTable : List Nat := (List.range 128).filter (fun n => weight7 n == 4)

/-- XOR of the table values whose bit of `n` is set; the table's first value belongs to bit 0 of `n`. -/
def xorSel : List Nat → Nat → Nat
  | [], _ => 0
  | t :: ts, n => if n % 2 = 1 then t ^^^ xorSel ts (n / 2) else xorSel ts (n / 2)

/-- E(d, a) of R251. -/
def ecc (w a : Word) : BitVec 7 :=
  BitVec.ofNat 7 (xorSel dcTable w.toNat ^^^ xorSel (acTable.take 30) (a.toNat / 4))

/-- What a checker decides (R252). -/
inductive Check where
  | ok
  | corrected (w : Word)
  | bad
deriving DecidableEq, Repr

/-- The place of `s` in a table. -/
def indexOf (s : Nat) : List Nat → Nat → Option Nat
  | [], _ => none
  | t :: ts, i => if t = s then some i else indexOf s ts (i + 1)

/-- The decision on word `w` with code `c` at address `a` (R252). An erased flash word is uncorrectable as R259
says of it (assumption 8). -/
def checkWord (w : Word) (c : BitVec 7) (a : Word) : Check :=
  let s := (c ^^^ ecc w a).toNat
  if a.toNat < 0x400000 ∧ w = 0xFFFFFFFF ∧ c = 0x7F then .bad
  else if s = 0 then .ok
  else if weight7 s = 1 then .corrected w
  else match indexOf s (dcTable.take 32) 0 with
    | some i => .corrected (w ^^^ BitVec.ofNat 32 (2 ^ i))
    | none => .bad

/-- The word a checker goes on with, if it can. -/
def checkVal (w : Word) (c : BitVec 7) (a : Word) : Option Word :=
  match checkWord w c a with
  | .ok => some w
  | .corrected v => some v
  | .bad => none

/-! CRCs. -/

/-- One bit step of an MSB-first CRC of width `bits`. -/
def crcBit (bits poly : Nat) (crc : Nat) (b : Bool) : Nat :=
  let top := (crc / 2 ^ (bits - 1) % 2 == 1) != b
  let sh := crc * 2 % 2 ^ bits
  if top then sh ^^^ poly else sh

def crcBits (bits poly : Nat) : List Bool → Nat → Nat
  | [], c => c
  | b :: bs, c => crcBits bits poly bs (crcBit bits poly c b)

/-- The bits of a byte, most significant first, or least significant first. -/
def byteBits (b : Byte) : List Bool := (List.range 8).map (fun i => b.getLsbD (7 - i))
def byteBitsL (b : Byte) : List Bool := (List.range 8).map (fun i => b.getLsbD i)

/-- CRC-8 of a register write: polynomial 0x07, initial value 0 (R255). -/
def crc8 (bs : List Byte) : Byte := BitVec.ofNat 8 (crcBits 8 0x07 (bs.flatMap byteBits) 0)

/-- RCRC of a register write (R255). -/
def rcrcOf (addr data : Word) : Byte := crc8 (wordBytes addr ++ wordBytes data)

/-- CRC-16 of a journal entry: polynomial 0x1021, initial value 0xFFFF (R63). -/
def crc16 (bs : List Byte) : Nat := crcBits 16 0x1021 (bs.flatMap byteBits) 0xFFFF

/-- Bit reversal of the low `n` bits. -/
def revBits : Nat → Nat → Nat
  | 0, _ => 0
  | n + 1, x => x % 2 * 2 ^ n + revBits n (x / 2)

/-- CRC-32C: polynomial 0x1EDC6F41, reflected, initial value and final XOR all ones (R105). -/
def crc32c (bs : List Byte) : Word :=
  toWord (revBits 32 (crcBits 32 0x1EDC6F41 (bs.flatMap byteBitsL) 0xFFFFFFFF) ^^^ 0xFFFFFFFF)

/-! Regions of the internal address space. -/

def isFlash (a : Nat) : Bool := decide (a < 0x400000)
def isSram (a : Nat) : Bool := decide (0x20000000 ≤ a) && decide (a < 0x200F0000)
def isWindow (a : Nat) : Bool := decide (0x28000000 ≤ a) && decide (a < 0x28001000)
def isContext (a : Nat) : Bool := decide (0x30003000 ≤ a) && decide (a < 0x30004000)
def isRetn (a : Nat) : Bool := decide (0x30000000 ≤ a) && decide (a < 0x30004000)
def isPages (a : Nat) : Bool := decide (0x40000000 ≤ a) && decide (a < 0x40040000)
def isOtp (a : Nat) : Bool := decide (0x50000000 ≤ a) && decide (a < 0x50001000)

/-- What an unlisted byte reads as: erased flash 0xFF (R259), SRAM its unknown content at power-on (R264,
assumption 4), everything else 0 (R158, R268, assumption 5). -/
def memDflt (a : Nat) : Byte :=
  if isFlash a then 0xFF else if isSram a then Config.sramPowerOn a else 0

/-- What an unlisted word's code reads as; bit 7 marks a word that was never written and holds no valid code
(R264). Retention memory and OTP hold 0 with its code. -/
def codeDflt (a : Nat) : BitVec 8 :=
  if isFlash a then 0x7F else if isSram a then 0x80 else (ecc 0 (toWord a)).setWidth 8

def Dev.byte (d : Dev) (a : Nat) : Byte := mapGet memDflt d.mem a
def Dev.setByte (d : Dev) (a : Nat) (b : Byte) : Dev := { d with mem := mapPut memDflt d.mem a b }
def Dev.code (d : Dev) (a : Nat) : BitVec 8 := mapGet codeDflt d.codes a
def Dev.setCode (d : Dev) (a : Nat) (c : BitVec 8) : Dev := { d with codes := mapPut codeDflt d.codes a c }

/-- The stored word at word address `a`, little-endian (R8). -/
def Dev.word (d : Dev) (a : Nat) : Word := bytesWord (d.byte a) (d.byte (a + 1)) (d.byte (a + 2)) (d.byte (a + 3))

/-- The four bytes of a word are stored; the code is left alone. -/
def Dev.setWordData (d : Dev) (a : Nat) (w : Word) : Dev :=
  (((d.setByte a (w.extractLsb' 0 8)).setByte (a + 1) (w.extractLsb' 8 8)).setByte (a + 2) (w.extractLsb' 16 8)).setByte
    (a + 3) (w.extractLsb' 24 8)

/-- A word is stored with a code. -/
def Dev.setWord (d : Dev) (a : Nat) (w : Word) (c : BitVec 7) : Dev := (d.setWordData a w).setCode a (c.setWidth 8)

/-- A word is stored with the code of its address (R251). -/
def Dev.putWord (d : Dev) (a : Nat) (w : Word) : Dev := d.setWord a w (ecc w (toWord a))

/-- The hub's check of the stored word at `a` (R252, R253). -/
def Dev.checkAt (d : Dev) (a : Nat) : Check :=
  if (d.code a).getLsbD 7 then .bad else checkWord (d.word a) ((d.code a).setWidth 7) (toWord a)

/-- The stored word and code as they are sent (R253). A word that holds no valid code is sent with a code that
the copies find uncorrectable: its own code with every bit inverted. -/
def Dev.cword (d : Dev) (a : Nat) : CWord :=
  if (d.code a).getLsbD 7 then ⟨d.word a, ~~~(ecc (d.word a) (toWord a))⟩ else ⟨d.word a, (d.code a).setWidth 7⟩

/-- Every memory is in its canonical form. -/
def Dev.memWf (d : Dev) : Bool := mapWf memDflt d.mem && mapWf codeDflt d.codes

/-- `n` words from `a`. -/
def Dev.words (d : Dev) (a n : Nat) : List Word := (List.range n).map (fun i => d.word (a + 4 * i))

/-- Words are stored from `a` on, each with its code. -/
def Dev.putWords : List Word → Nat → Dev → Dev
  | [], _, d => d
  | w :: ws, a, d => Dev.putWords ws (a + 4) (d.putWord a w)

/-- Flash words from `a` on read erased again (R259). -/
def Dev.eraseWords (a n : Nat) (d : Dev) : Dev :=
  { d with mem := mapKeep (fun k => decide (k < a) || decide (a + 4 * n ≤ k)) d.mem,
           codes := mapKeep (fun k => decide (k < a) || decide (a + 4 * n ≤ k)) d.codes }

/-- Whether the word and code read as erased (R259). -/
def Dev.erased (d : Dev) (a : Nat) : Bool := d.word a == 0xFFFFFFFF && d.code a == 0x7F

end Sys2Proof.Machine
end

