-- ==== Sys2Proof/Machine/Gates.lean ====
section
/-! DEFINITION. Machine/Gates.lean: the six switches of a drive (R301 to R304, R316, R320, R322): where a PWM period places
its edges, and which switch is on at a time. Times are steps of 1/32 HCLK. -/

namespace Sys2Proof.Machine

open Sys2Proof

/-- The on-intervals of the high side, and of the low side as two intervals around it: [0, loEnd) and [loFrom, end). An
interval that dead time or the minimum pulse removes is empty, and its complement lasts the period. -/
structure PhaseEdges where
  hiFrom : Nat
  hiTo : Nat
  loEnd : Nat
  loFrom : Nat
deriving DecidableEq, Repr

/-- Where the switches of a phase are on in a period (R303, R304). -/
def phaseEdges (cmp hp dt minpw : Nat) : PhaseEdges :=
  let len := 64 * hp
  let onH := len - 2 * cmp
  let onL := 2 * cmp
  let dropH := decide (0 < onH) && decide (onH < dt + 32 * minpw)
  let dropL := decide (0 < onL) && decide (onL < dt + 32 * minpw)
  if onH = 0 ∨ dropH then ⟨0, 0, len, len⟩
  else if onL = 0 ∨ dropL then ⟨0, len, 0, len⟩
  else ⟨cmp + dt, len - cmp, cmp, len - cmp + dt⟩

def PhaseEdges.hiOn (e : PhaseEdges) (s : Nat) : Bool := decide (e.hiFrom ≤ s) && decide (s < e.hiTo)
def PhaseEdges.loOn (e : PhaseEdges) (s : Nat) : Bool := decide (s < e.loEnd) || (decide (e.loFrom ≤ s) && decide (e.hiTo ≤ s))

/-- The edges inside a period. -/
def PhaseEdges.edges (e : PhaseEdges) (len : Nat) : List Nat :=
  [e.hiFrom, e.hiTo, e.loEnd, e.loFrom].filter (fun s => decide (0 < s) && decide (s < len))

def Dev.drvDt (d : Dev) (n : DrvId) : Nat := d.rfld (Reg.drv_DTCTL n.val) 15 0

def Dev.phaseOf (d : Dev) (n : DrvId) (x : Fin 3) : PhaseEdges :=
  phaseEdges ((d.drive n).periodCmp.get x).toNat (d.drive n).periodHp.toNat (d.drvDt n) (d.rfld (Reg.drv_DTCTL n.val) 31 24)

/-- The position in the period, in steps. -/
def Drive.place (x : Drive) (s : Nat) : Nat := (s - 32 * x.periodAt) % max 1 (64 * x.periodHp.toNat)

/-- MSTAT.TSTATE: 0 not tripped, 1 OFF, 2 ASCL, 3 ASCH. -/
def Dev.tstate (d : Dev) (n : DrvId) : Nat := d.rfld (Reg.drv_MSTAT n.val) 5 4

/-- What the trip state, or the PWM, asks of a switch at step `s` (R303, R304, R316, R317). -/
def Dev.gateAsk (d : Dev) (n : DrvId) (x : Fin 3) (hi : Bool) (s : Nat) : Bool :=
  let t := d.tstate n
  if t ≠ 0 then (if hi then t == 3 else t == 2)
  else
    let v := d.drive n
    v.periodOn && (if hi then (d.phaseOf n x).hiOn (v.place s) else (d.phaseOf n x).loOn (v.place s))

/-- When a switch last turned off, as kept at the last change of what drives it. -/
def Drive.offAt (v : Drive) (x : Fin 3) (hi : Bool) : Nat := if hi then v.hiOff.get x else v.loOff.get x

/-- A switch is on at step `s` (R304, R320): asked for, its complement off for DT steps; one that a change turns off
stays on until then. -/
def Dev.gateOn (d : Dev) (n : DrvId) (x : Fin 3) (hi : Bool) (s : Nat) : Bool :=
  let v := d.drive n
  decide (s < v.offAt x hi)
    || (d.gateAsk n x hi s && decide (v.changeAt ≤ s) && (v.offAt x (!hi) == 0 || decide (v.offAt x (!hi) + d.drvDt n ≤ s)))

/-- The off-time of a switch when what drives it changes at step `s`: then, if it is on; else its last off-edge in the
period, or the one kept. -/
def Dev.gateOff (d : Dev) (n : DrvId) (x : Fin 3) (hi : Bool) (s : Nat) : Nat :=
  let v := d.drive n
  if d.gateOn n x hi (s - 1) then s
  else if d.tstate n = 0 ∧ v.periodOn = true then
    let e := d.phaseOf n x
    let off := if hi then e.hiTo else e.loEnd
    let at_ := s - v.place s + off
    if 0 < off ∧ off ≤ v.place s then at_ else v.offAt x hi
  else v.offAt x hi

/-- What drives the switches of drive `n` changes at step `s`: `chg` is the change. The off-times are kept of the
switches that it turns off, and which switches were on. -/
def Dev.gateChange (d : Dev) (n : DrvId) (s : Nat) (chg : Dev → Dev) : Dev :=
  let d1 := chg d
  let off (x : Fin 3) (hi : Bool) : Nat :=
    if d1.gateAsk n x hi s && d.gateOn n x hi (s - 1) then (d.drive n).offAt x hi else d.gateOff n x hi s
  let was (x : Fin 3) (hi : Bool) : Bool := d.gateOn n x hi (s - 1)
  d1.updDrive n (fun v =>
    { v with hiOff := ⟨off 0 true, off 1 true, off 2 true⟩, loOff := ⟨off 0 false, off 1 false, off 2 false⟩,
             hiWas := ⟨was 0 true, was 1 true, was 2 true⟩, loWas := ⟨was 0 false, was 1 false, was 2 false⟩, changeAt := s })

/-- The edges that the latest change makes: turn-offs, and turn-ons after their dead time. -/
def Dev.changeEdges (d : Dev) (n : DrvId) (x : Fin 3) (hi : Bool) : List Nat :=
  let v := d.drive n
  let c := v.offAt x (!hi)
  let was := if hi then v.hiWas.get x else v.loWas.get x
  [v.offAt x hi, if d.gateAsk n x hi v.changeAt && !was then max v.changeAt (if c = 0 then 0 else c + d.drvDt n) else 0]

/-- HCLK at which the drive's latest switching edge lies at or before `t`, 0 for none (R322). -/
def Dev.lastEdge (d : Dev) (n : DrvId) (t : Nat) : Nat :=
  let v := d.drive n
  let len := 64 * v.periodHp.toNat
  let es := if d.tstate n = 0 ∧ v.periodOn = true then
      (drvIds.flatMap (fun p => (d.phaseOf n p).edges len)).map (fun s => 32 * v.periodAt + s)
    else []
  let cs := drvIds.flatMap (fun p => d.changeEdges n p true ++ d.changeEdges n p false)
  ((es ++ cs).map (fun s => ceilDiv s 32)).foldl (fun m e => if e ≤ t then max m e else m) 0

end Sys2Proof.Machine
end

