-- ==== Sys2Proof/Machine/Outputs.lean ====
section
/-! DEFINITION. Machine/Outputs.lean: the operations on the output groups that every cause of a stop shares: a
drive's trip causes and trip state (R316 to R324), the switched outputs at their pins (R349 to R352), and the
device-safe latch on all of them (R293, R453). -/

namespace Sys2Proof.Machine

open Sys2Proof

/-! Drives. -/

/-- The trip state a latch bit of TSTAT requires before AUTO is resolved: 0 OFF, 1 ASCL, 2 ASCH, 3 AUTO (R317). -/
def trippedBy (tripcfg : Word) (bit : Nat) : Nat :=
  match bit with
  | 2 => fld tripcfg 3 2
  | 3 => 3
  | 4 => fld tripcfg 5 4
  | 5 => 1
  | _ => fld tripcfg 1 0

/-- A latch of TSTAT requires trip state `st` once AUTO stands for AUTORES (R319). -/
def latchWants (tstat tripcfg : Word) (st bit : Nat) : Bool :=
  bitOf tstat bit &&
    (trippedBy tripcfg bit == st || (trippedBy tripcfg bit == 3 && fld tstat 11 10 == st))

/-- The resolved trip state of a tripped drive: ASCL before ASCH before OFF (R319). -/
def resolveTrip (tstat tripcfg : Word) : Nat :=
  if (List.range 8).any (latchWants tstat tripcfg 1) then 1
  else if (List.range 8).any (latchWants tstat tripcfg 2) then 2 else 0

/-- A set latch of TSTAT whose trip state is AUTO (R318). -/
def latchAuto (tstat tripcfg : Word) : Bool :=
  (List.range 8).any (fun b => bitOf tstat b && trippedBy tripcfg b == 3)

/-- |x| of a word read as signed. -/
def wordAbs (w : Word) : Nat := (wordInt w).natAbs

/-- AUTO as it resolves now: 1 ASCL, 0 OFF (R318). -/
def Dev.autoNow (d : Dev) (n : DrvId) : Nat :=
  if (d.drive n).trkValid && decide (wordAbs (d.reg (Reg.drv_TRKSPD n.val)) < (d.reg (Reg.drv_ASC_SPEED n.val)).toNat)
  then 0 else 1

/-- MSTAT's TSTATE and TRIPPED follow TSTAT; a change of MSTAT[1:0], [3] or [5:4] against `before` writes a MODE
entry (R317, R319, R333). A change of the trip state turns switches off 2 HCLK later (R320). -/
def Dev.drvSync (d : Dev) (n : DrvId) (before : Word) : Dev :=
  let k := n.val
  let ts := d.reg (Reg.drv_TSTAT k)
  let tripped := fld ts 7 0 != 0
  let st := if tripped then resolveTrip ts (d.reg (Reg.drv_TRIPCFG k)) + 1 else 0
  let m := setFld (setBit (d.reg (Reg.drv_MSTAT k)) 3 tripped) 5 4 st
  let d3 := if fld m 5 3 = fld before 5 3 then d.setReg (Reg.drv_MSTAT k) m
    else d.gateChange n (32 * (d.now + 2)) (fun d => d.setReg (Reg.drv_MSTAT k) m)
  let same := fld m 1 0 == fld before 1 0 && fld m 5 3 == fld before 5 3
  if same then d3
  else d3.jmode (0x15 + k) 0xA0 0 (toWord (fld m 7 0)) (toWord (fld before 7 0))

/-- Causes latch in drive `n`: AUTO is resolved when its cause latches and kept while such a latch stays (R317,
R318); PG_EVT.TRIP is set when a latch sets. -/
def Dev.drvSet (d : Dev) (n : DrvId) (bits : Nat) : Dev :=
  let k := n.val
  let ts := d.reg (Reg.drv_TSTAT k)
  let new := ts ||| toWord bits
  if new = ts then d
  else
    let cfg := d.reg (Reg.drv_TRIPCFG k)
    let withAuto := if latchAuto new cfg && !latchAuto ts cfg then setFld new 11 10 (d.autoNow n) else new
    ((d.setReg (Reg.drv_TSTAT k) withAuto).evt (0x15 + k) 0).drvSync n (d.reg (Reg.drv_MSTAT k))

/-- OC, OBS, OVR or OV latches: the latch, then the FAULT entry with TSTAT after it and the PG_FAULT flag (R333). -/
def Dev.drvSetFault (d : Dev) (n : DrvId) (bit code flag : Nat) : Dev :=
  if d.rbit (Reg.drv_TSTAT n.val) bit then d
  else
    let d1 := d.drvSet n (2 ^ bit)
    d1.faultAt code (0x15 + n.val) 0x44 0 (d1.reg (Reg.drv_TSTAT n.val)) flag

/-- The bus voltage is above the OV threshold (R319). -/
def Dev.ovHigh (d : Dev) (n : DrvId) : Bool := decide (d.rfld (Reg.drv_OVCFG n.val) 9 0 < (d.drive n).vcode.toNat)

/-- OV escalation (R319): a tripped drive in OFF, OVESC, and the bus above the threshold latch OV. -/
def Dev.ovCheck (d : Dev) (n : DrvId) : Dev :=
  if d.tstate n == 1 && d.rbit (Reg.drv_TRIPCFG n.val) 8 && d.ovHigh n then d.drvSetFault n 5 0x43 8 else d

def Dev.drvLatch (d : Dev) (n : DrvId) (bits : Nat) : Dev := (d.drvSet n bits).ovCheck n
def Dev.drvFault (d : Dev) (n : DrvId) (bit code flag : Nat) : Dev := (d.drvSetFault n bit code flag).ovCheck n

/-- Latches of drive `n` clear. With the last one the drive leaves its trip state with MODE OFF (R324); AUTORES
goes with the last latch that AUTO resolves. -/
def Dev.drvClear (d : Dev) (n : DrvId) (bits : Nat) : Dev :=
  let k := n.val
  let ts := d.reg (Reg.drv_TSTAT k)
  let new := toWord (ts.toNat - (ts.toNat &&& (bits % 256)))
  if new = ts then d
  else
    let new2 := if latchAuto new (d.reg (Reg.drv_TRIPCFG k)) then new else setFld new 11 10 0
    let before := d.reg (Reg.drv_MSTAT k)
    let d1 := d.setReg (Reg.drv_TSTAT k) new2
    let d2 := if fld new 7 0 = 0 then
        ((d1.setFldR (Reg.drv_MODECTL k) 1 0 0).setFldR (Reg.drv_MSTAT k) 2 0 0).setFldR (Reg.drv_MSTAT k) 15 8 0
      else d1
    let d3 := d2.drvSync n before
    if fld new 7 0 = 0 then d3.updDrive n (fun x => { x with periodOn := false }) else d3.ovCheck n

/-! Switched outputs. -/

/-- GPOi is on at the pin: the applied ON bit, its break-before-make delay over, and no latch, safe state or
Puffball against it (R349, R350, R352, R356). -/
def Dev.gpoWant (d : Dev) (i : Nat) : Bool :=
  d.rbit Reg.gpo_ON i && (d.gpoCh i).bbmEnd.isNone && !d.devLatch && !d.rbit Reg.release_LATCH (8 + i) && !d.puffActive

/-- A readback mismatch is present (R351). -/
def Dev.gpoMis (d : Dev) (i : Nat) : Bool := (d.gpoCh i).on == (d.gpoCh i).drain

/-- One output's pin follows what it is commanded, and the drain with it until its comparator shows otherwise
(assumption 25); the instant of a change is kept for R351. -/
def Dev.gpoSyncOne (i : Nat) (d : Dev) : Dev :=
  if (d.gpoCh i).on = d.gpoWant i then d
  else d.updGpo i (fun g => { g with on := d.gpoWant i, since := d.now, drain := !d.gpoWant i, told := false })

/-- Every output's pin follows what it is commanded. -/
def Dev.gpoSync (d : Dev) : Dev := Dev.each Dev.gpoSyncOne (List.range 8) d

/-! The device-safe latch. -/

/-- Fan channel `i` is designated to Puffball (R354, R357). -/
def Dev.fanDesignated (d : Dev) (i : Nat) : Bool :=
  let c := d.reg Reg.puff_CFG
  bitOf c 0 && ((bitOf c 1 && fld c 3 2 == i) || (bitOf c 4 && fld c 6 5 == i))

/-- The timers of the channels that DEV holds stand still from now on (R346). -/
def Dev.fanHold (i : FanId) (d : Dev) : Dev :=
  if d.fanDesignated i.val then d else d.updFan i (fun f => if f.heldAt.isNone then { f with heldAt := some d.now } else f)

/-- The timers of the channels that DEV held run on (R346). -/
def Dev.fanUnhold (i : FanId) (d : Dev) : Dev :=
  d.updFan i (fun f => match f.heldAt with
    | some t => { f with heldAt := none, phaseEnd := f.phaseEnd + (d.now - t) }
    | none => f)

/-- RELEASE.LATCH.DEV with its cause, written only when it rises (R448), its mirror in every drive and the outputs
it switches off (R292 step 1, R321, R453). -/
def Dev.setDev (d : Dev) (cause copies : Nat) : Dev :=
  if d.devLatch then d
  else
    let d1 := (d.setBitR Reg.release_LATCH 0 true).setReg Reg.release_CAUSE (toWord (copies * 256 + cause))
    (Dev.each Dev.fanHold fanIds (Dev.each (fun n d => d.drvLatch n 0x40) drvIds d1)).gpoSync

/-- The latch of a fan stop (R285, R346). -/
def Dev.setFanLatch (i : Nat) (d : Dev) : Dev := d.setBitR Reg.release_LATCH (4 + i) true

/-- The latch of a switched output (R351, R352). -/
def Dev.setGpoLatch (i : Nat) (d : Dev) : Dev := (d.setBitR Reg.release_LATCH (8 + i) true).gpoSync

/-! The duty of a fan channel. -/

def Dev.fanSt (d : Dev) (i : FanId) : Nat := d.rfld (Reg.fan_STAT i.val) 2 0
def Dev.fanMode (d : Dev) (i : FanId) : Nat := d.rfld (Reg.fan_CFG i.val) 1 0

/-- Puffball drives the channel (R357). -/
def Dev.fanPuff (d : Dev) (i : FanId) : Bool := d.puffActive && d.fanDesignated i.val

/-- The channel is held at its off level by DEV, its own latch, OVR or Puffball (R345, R346, R356). -/
def Dev.fanStopped (d : Dev) (i : FanId) : Bool :=
  !d.fanDesignated i.val && (d.devLatch || d.rbit Reg.release_LATCH (4 + i.val) || (d.fanCh i).ovrOff || d.puffActive)

/-- The duty of a designated channel under Puffball (R357). -/
def Dev.puffDuty (d : Dev) (i : FanId) : Nat :=
  if d.puff.kicking then 0xFFFF
  else
    let c := d.reg Reg.puff_CFG
    if bitOf c 1 && fld c 3 2 == i.val then d.rfld Reg.puff_DUTY 15 0 else d.rfld Reg.puff_DUTY 31 16

/-- The duty applied to the channel now; 0 at the off level (R335, R339, R343). -/
def Dev.fanDuty (d : Dev) (i : FanId) : Nat :=
  if d.fanPuff i then d.puffDuty i
  else if d.fanStopped i then 0
  else match d.fanSt i with
    | 1 => d.rfld (Reg.fan_RETRY i.val) 23 16 * 257
    | 2 => if d.fanMode i = 1 then d.rfld (Reg.fan_DUTY i.val) 15 0
           else if d.fanMode i = 2 then (d.fanCh i).duty.toNat else 0
    | _ => 0


end Sys2Proof.Machine
end

