-- ==== Sys2Proof/Machine/LinkOps.lean ====
section
/-! DEFINITION. Machine/LinkOps.lean: reliable delivery over a Nerael Link (R114 to R120), the hub's response
queue and grants (R128, R129, R136), the allowances of hub-originated flits (R169) and the confirmation of a
delivery (R165). A flit that leaves an end stands in `unacked` until it is acknowledged; link-control flits are
never kept (R106). -/

namespace Sys2Proof.Machine

open Sys2Proof

/-! Link timers of an LINK.TMR word (R140). -/

def tmrTmo (w : Word) : Nat := fld w 9 0
def tmrAckt (w : Word) : Nat := 4 * fld w 15 10
def tmrRepmax (w : Word) : Nat := fld w 18 16
def tmrLostime (w : Word) : Nat := 4 * fld w 31 22

/-! One end. -/

/-- Flits that the window lets out of the queue, each with its SEQ, and what stays (R118, R120). -/
def takeSend {F : Type} (room : Nat) : List (BitVec 2 × F) → BitVec 12 → List (BitVec 12 × F) × List (BitVec 2 × F) × BitVec 12
  | [], q => ([], [], q)
  | (c, f) :: xs, q =>
    match room with
    | 0 => ([], (c, f) :: xs, q)
    | n + 1 =>
      let r := takeSend n xs (q + 1)
      ((q, f) :: r.1, r.2.1, r.2.2)

/-- `(c, f)` behind every waiting flit of its class or a higher one (R30). -/
def classInsert {F : Type} (c : BitVec 2) (f : F) : List (BitVec 2 × F) → List (BitVec 2 × F)
  | [] => [(c, f)]
  | (d, g) :: xs => if c < d then (c, f) :: (d, g) :: xs else (d, g) :: classInsert c f xs

def LinkSide.enqueue {F : Type} (s : LinkSide F) (c : BitVec 2) (f : F) : LinkSide F :=
  { s with queue := classInsert c f s.queue }

/-- The queue is sent as far as the window allows; the replay timer starts when the first flit becomes
unacknowledged (R117, R118, R120). -/
def LinkSide.drain {F : Type} (s : LinkSide F) (now tmo window : Nat) : LinkSide F :=
  let r := takeSend (window - s.unacked.length) s.queue s.txSeq
  { s with txSeq := r.2.2, unacked := s.unacked ++ r.1, queue := r.2.1,
           replayDue := if s.unacked.isEmpty && !r.1.isEmpty then some (now + tmo) else s.replayDue }

/-- What happens to a received SEQ (R114). -/
inductive SeqCheck where
  | accept | dup | oos
deriving DecidableEq, Repr

def seqCheck (expected seq : BitVec 12) : SeqCheck :=
  if seq = expected then .accept
  else if (expected.toNat + 4096 - seq.toNat) % 4096 ≤ 2176 then .dup else .oos

/-- A sequenced flit is accepted: the expected SEQ rises, and the advertised ACK with it at the 16th acceptance
(R114, R115). -/
def LinkSide.accept {F : Type} (s : LinkSide F) (now ackt : Nat) : LinkSide F :=
  if s.accepted + 1 ≥ 16 then
    { s with expSeq := s.expSeq + 1, adv := s.expSeq, accepted := 0, ackDue := none, lastGood := now }
  else
    { s with expSeq := s.expSeq + 1, accepted := s.accepted + 1, lastGood := now,
             ackDue := if s.accepted = 0 then some (now + ackt) else s.ackDue }

/-- The advertised ACK moves to the newest accepted SEQ (R115). -/
def LinkSide.advertise {F : Type} (s : LinkSide F) : LinkSide F :=
  { s with adv := s.expSeq - 1, accepted := 0, ackDue := none }

/-- The ACK of a received flit is taken; the flag says that it counts in ACKERR (R116). -/
def LinkSide.takeAck {F : Type} (s : LinkSide F) (a : BitVec 12) (now tmo : Nat) : LinkSide F × Bool :=
  let o := match s.unacked with | [] => s.txSeq | (q, _) :: _ => q
  let u := s.unacked.length
  let k := (a.toNat + 4096 - o.toNat) % 4096
  if k < u then
    ({ s with unacked := s.unacked.drop (k + 1), timeouts := 0,
              replayDue := if k + 1 = u then none else some (now + tmo) }, false)
  else (s, k ≠ 4095)

/-! The hub's end. -/

def Dev.hubTmr (d : Dev) : Word := d.reg Reg.link_TMR

/-- The hub's replay window (R120). -/
def Dev.hubWindow (d : Dev) : Nat := if d.variant = 3 then 800 else 1152

/-- Links that carry the hub's flits: active or in resync (R124). -/
def Dev.liveLink (d : Dev) (c : CopyId) : Bool := d.lstate c == 7 || d.lstate c == 8
def Dev.liveLinks (d : Dev) : List CopyId := copyIds.filter d.liveLink

/-- Whether a flit is the last of a response to a request (R127, R128). -/
def HubFlit.endsResponse : HubFlit → Bool
  | .rddata _ _ _ _ => true
  | .wrack _ _ _ => true
  | .line hi _ _ _ => hi
  | _ => false

/-- Whether a flit belongs to a response. -/
def HubFlit.isResponse : HubFlit → Bool
  | .rddata _ _ _ _ => true
  | .wrack _ _ _ => true
  | .line _ _ _ _ => true
  | _ => false

def HubLink.dropPlace (L : HubLink) (cls : BitVec 2) : HubLink :=
  if cls = 0 then { L with resGuard := L.resGuard - 1 }
  else if cls = 1 then { L with resTimely := L.resTimely - 1 }
  else { L with resBulk := L.resBulk - 1 }

/-- Places of a class in a link's response queue are taken (R136). -/
def HubLink.takePlace (L : HubLink) (cls : BitVec 2) (n : Nat) : HubLink :=
  if cls = 0 then { L with resGuard := L.resGuard + n }
  else if cls = 1 then { L with resTimely := L.resTimely + n }
  else { L with resBulk := L.resBulk + n }

/-- Only the responses that wait in the queue still hold places. -/
def HubLink.requeued (L : HubLink) : HubLink :=
  let n (cls : BitVec 2) : Nat := (L.side.queue.filter (fun x => x.1 == cls && x.2.isResponse)).length
  { L with resGuard := n 0, resTimely := n 1, resBulk := n 2 }

/-- A response flit that leaves gives its place back and, as the last of its response, counts as a response sent
(R128, R136). -/
def HubLink.sent (L : HubLink) (x : BitVec 2 × HubFlit) : HubLink :=
  if x.2.isResponse then
    let L1 := L.dropPlace x.1
    if x.2.endsResponse then { L1 with responses := L1.responses + 1 } else L1
  else L

/-- The newest GRANT that R128 and R276 allow: own responses plus 64, and the slowest copy's requests plus 64. -/
def Dev.grantLimit (d : Dev) (c : CopyId) : Nat × Bool :=
  let own := (d.link c).responses + 64
  let slow := d.svcCopies.foldl (fun m x => min m (d.link x).received) (d.link c).received + 64
  (min own slow, decide (slow < own))

/-- GRANT of a link advances; 8 or more unsent make a GRANT flit at once, fewer start the 40 HCLK of R129. -/
def Dev.grantOne (c : CopyId) (d : Dev) : Dev :=
  let L := d.link c
  let (lim, held) := d.grantLimit c
  let g := max L.grant lim
  let d1 := if held && !L.held then d.count Reg.cmp_HOLDCNT 1 else d
  d1.updLink c (fun L =>
    if g ≥ L.lastGrant + 8 then { L with grant := g, lastGrant := g, grantDue := none, held := held }
    else { L with grant := g, held := held,
                  grantDue := if g = L.lastGrant then none
                              else match L.grantDue with | some t => some t | none => some (d.now + 40) })

def Dev.grantUpdate (d : Dev) : Dev := Dev.each Dev.grantOne d.svcCopies d

/-- Guard items of a response queue (R136). -/
def guardWaiting (q : List (BitVec 2 × HubFlit)) : Nat := (q.filter (fun x => x.1 == 0)).length

/-- The hub sends what its window allows on an active link (R118, R120). -/
def Dev.hubDrain (c : CopyId) (d : Dev) : Dev :=
  if d.lstate c = 7 then
    let L := d.link c
    let s := L.side.drain d.now (tmrTmo d.hubTmr) d.hubWindow
    let gone := L.side.queue.take (L.side.queue.length - s.queue.length)
    let L1 := gone.foldl HubLink.sent { L with side := s }
    let d1 := d.updLink c (fun _ => { L1 with guardWait := if guardWaiting s.queue ≤ 80 then none else L1.guardWait })
    let pk := s.unacked.length - 128
    if d1.rfld (Reg.linkx_SPILLPK_H c.val) 11 0 < pk then d1.setReg (Reg.linkx_SPILLPK_H c.val) (toWord pk) else d1
  else d

/-- A response-channel flit enters the queue of a live link and leaves if it can (R136). -/
def Dev.hubTx (c : CopyId) (cls : BitVec 2) (f : HubFlit) (d : Dev) : Dev :=
  if d.liveLink c then
    let d1 := d.updLink c (fun L => { L with side := L.side.enqueue cls f })
    let d2 := d1.updLink c (fun L =>
      if guardWaiting L.side.queue > 80 && L.guardWait.isNone then { L with guardWait := some d.now } else L)
    d2.hubDrain c
  else d

/-- A hub-originated message with the same content on every live link (R133). -/
def Dev.hubAll (cls : BitVec 2) (f : HubFlit) (d : Dev) : Dev := Dev.each (fun c d => d.hubTx c cls f) d.liveLinks d

def Dev.updAgr (d : Dev) (f : Agree → Agree) : Dev := { d with agr := f d.agr }

/-! Allowances of R169. -/

/-- COREREL, DBGCMD and LINKCFG together: two per frame. -/
def Dev.ctlSend (f : HubFlit) (d : Dev) : Dev :=
  if d.agr.ctlUsed < 2 ∧ d.agr.ctlQueue.isEmpty then
    (d.updAgr (fun a => { a with ctlUsed := a.ctlUsed + 1 })).hubAll 0 f
  else d.updAgr (fun a => { a with ctlQueue := a.ctlQueue ++ [f] })

/-- CFGBC: four per frame. -/
def Dev.cfgSend (f : HubFlit) (d : Dev) : Dev :=
  if d.agr.cfgbcUsed < 4 ∧ d.agr.cfgQueue.isEmpty then
    (d.updAgr (fun a => { a with cfgbcUsed := a.cfgbcUsed + 1 })).hubAll 0 f
  else d.updAgr (fun a => { a with cfgQueue := a.cfgQueue ++ [f] })

/-! Deliveries. -/

/-- A delivery closes with CONFIRM once every copy in service has accepted (R165, R166). -/
def Dev.dlvConfirm (d : Dev) : Dev :=
  match d.agr.dlv with
  | none => d
  | some x =>
    if !d.svcCopies.isEmpty && d.svcCopies.all (fun c => x.answered.get c) then
      let d1 := d.hubAll 0 (.drp 1 x.id 0 ⟨false, false, false, 0⟩)
      let d2 := d1.updAgr (fun a =>
        { a with dlv := none,
                 bankBusy := match x.agrFrame with
                   | some k => if k.getLsbD 0 then { a.bankBusy with b := false } else { a.bankBusy with a := false }
                   | none => a.bankBusy })
      ((d2.setReg Reg.agree_DLVSTAT (toWord x.id.toNat)).setReg Reg.agree_DRP_LO (toWord (x.d.toNat % 2 ^ 32))).setReg
        Reg.agree_DRP_HI (toWord (x.d.toNat / 2 ^ 32))
    else d

end Sys2Proof.Machine
end

