-- ==== Sys2Proof/Machine/LinkRx.lean ====
section
/-! DEFINITION. Machine/LinkRx.lean: the acceptance of a flit with a correct CRC at either end of a link (R114 to
R116). A flit whose CRC is wrong is FLIT_CORRUPT. -/

namespace Sys2Proof.Machine

open Sys2Proof

/-- The ACK of a flit at the hub (R116). -/
def Dev.hubAck (c : CopyId) (a : BitVec 12) (d : Dev) : Dev :=
  let r := (d.link c).side.takeAck a d.now (tmrTmo d.hubTmr)
  let d1 := d.updLink c (fun L => { L with side := { r.1 with lastGood := d.now } })
  (if r.2 then d1.count (Reg.linkx_ACKERR_H c.val) 1 else d1).hubDrain c

/-- A sequenced flit of the request channel at the hub (R114): `k` is what its acceptance does. -/
def Dev.hubRx (c : CopyId) (h : Hdr) (k : Dev → Dev) (d : Dev) : Dev :=
  if d.lstate c != 7 then d
  else
    let d1 := d.hubAck c h.ack
    match seqCheck (d1.link c).side.expSeq h.seq with
    | .accept => k (d1.updLink c (fun L => { L with side := L.side.accept d1.now (tmrAckt d1.hubTmr) }))
    | .dup => d1.count (Reg.linkx_DUP_H c.val) 1
    | .oos => d1.count (Reg.linkx_OOS_H c.val) 1

/-- The ACK of a flit at a copy (R116). -/
def Copy.takeAck (x : Copy) (a : BitVec 12) (now : Nat) : Copy :=
  let s := (x.side.takeAck a now (tmrTmo x.tmr)).1
  { x with side := { s.drain now (tmrTmo x.tmr) 2176 with lastGood := now } }

/-- A sequenced flit of the response channel at a copy (R114): `k` is what its acceptance does. -/
def Dev.copyRx (c : CopyId) (h : Hdr) (k : Dev → Dev) (d : Dev) : Dev :=
  let x := d.copy c
  if !(x.powered && x.link == .active) then d
  else
    let y := x.takeAck h.ack d.now
    match seqCheck y.side.expSeq h.seq with
    | .accept => k (d.updCopy c (fun _ => { y with side := y.side.accept d.now (tmrAckt y.tmr) }))
    | .dup => d.updCopy c (fun _ => { y with stats := { y.stats with dup := y.stats.dup + 1 } })
    | .oos => d.updCopy c (fun _ => { y with stats := { y.stats with oos := y.stats.oos + 1 } })

end Sys2Proof.Machine
end

