-- ==== Sys2Proof/Machine/SenseOps.lean ====
section
/-! DEFINITION. Machine/SenseOps.lean: the correction and calibration arithmetic of a sense block (R76 to R81), the
configuration broadcast (R87, R89, R111), what a sense block does at a tick (R83 to R85), its edge records (R90 to R92)
and the hub's copy of its coefficients (R95). -/

namespace Sys2Proof.Machine

open Sys2Proof

/-! Arithmetic. -/

/-- A_g of R79. Sums from OTP whose difference is not positive give a value the spec leaves open (assumption 6). -/
def calA (lo hi : Nat) : Int := if hi ≤ lo then wordInt (Config.calRatio lo hi) else rneDiv (720896 * 2 ^ 30) (hi - lo)

/-- A division by a number of either sign, as R79's RNE_DIV by A_g, which the checks of R80 keep positive. -/
def rneDivS (x y : Int) : Int := if y < 0 then rneDiv (-x) y.natAbs else rneDiv x (max 1 y.natAbs)

/-- OFS_c of R79. -/
def calOfs (lo : Nat) (tro : Int) (z : Nat) (a : Int) : Int :=
  (lo : Int) + tro - rneDivS ((65536 - 16 * (z : Int)) * 2 ^ 30) a

/-- GAIN_c of R79. -/
def calGain (a ugain trg : Int) : Int := rneDiv (a * ugain * (2 ^ 20 + trg)) (2 ^ 50)

/-- q of R76. -/
def senseQ (x : Nat) (ofs gain : Int) : Int := rRne ((16 * (x : Int) - ofs) * gain) 34

/-- y and SAT of R76. -/
def senseY (x : Nat) (ofs gain : Int) : Int × Bool :=
  let q := senseQ x ofs gain
  (satS 16 q, decide (satS 16 q ≠ q))

/-! A sense block's configuration. -/

/-- A SENSECFG register as the sense block holds it. -/
def Sense.reg (s : Sense) (k : Nat) : Word := mapGet regReset s.cfg k

def Sense.grpEn (s : Sense) (g : Nat) : Bool := bitOf (s.reg (Reg.sensecfg_GRPCFG g)) 31
def Sense.chEn (s : Sense) (c : Nat) : Bool := bitOf (s.reg (Reg.sensecfg_CHZERO c)) 31
def Sense.zero (s : Sense) (c : Nat) : Nat := fld (s.reg (Reg.sensecfg_CHZERO c)) 15 0
def Sense.ugain (s : Sense) (c : Nat) : Int := wordInt (s.reg (Reg.sensecfg_CHGAIN c))
def Sense.dinEn (s : Sense) : Bool := bitOf (s.reg Reg.sensecfg_DINCFG) 31
def Sense.edgeSel (s : Sense) (i : Nat) : Nat := fld (s.reg Reg.sensecfg_DEDGE) (2 * i + 1) (2 * i)

/-- The lowest-numbered enabled group, which carries the die temperature (R93). -/
def Sense.tempGroup (s : Sense) : Nat := if s.grpEn 0 then 0 else if s.grpEn 1 then 1 else 2

/-- (OFS, GAIN) of channel `c` from sums, trims and the configuration (R79). -/
def Sense.coef (s : Sense) (lo hi : Nat) (c : Nat) : Int × Int :=
  let a := calA lo hi
  (calOfs lo (sext 12 (listGet 0 s.tro c).toNat) (s.zero c) a, calGain a (s.ugain c) (sext 12 (listGet 0 s.trg c).toNat))

/-- The coefficients of every channel from the sums in force (R79, R85). -/
def Sense.recompute (s : Sense) : Sense :=
  let co (c : Nat) : Int × Int :=
    let g : Fin 3 := if c < 4 then 0 else if c < 8 then 1 else 2
    s.coef (s.sums.get g).1.toNat (s.sums.get g).2.toNat c
  { s with ofs := (List.range 12).map (fun c => (co c).1), gain := (List.range 12).map (fun c => (co c).2) }

/-- The checks of R80 on the run of group `g`. -/
def Sense.runOk (s : Sense) (g : Fin 3) : Bool :=
  let lo := s.runLo.get g
  let hi := s.runHi.get g
  decide (55056 ≤ lo) && decide (lo ≤ 76016) && decide (lo + 706478 ≤ hi) && decide (hi ≤ lo + 735314)
    && !s.runBad.get g
    && (List.range 4).all (fun j =>
      let gn := (s.coef lo hi (4 * g.val + j)).2
      decide (-(2 ^ 31 : Int) ≤ gn) && decide (gn < 2 ^ 31))

/-! The broadcast. -/

/-- A configuration body as a number, from fields with their widths, highest first. -/
def packNat (fs : List (Nat × Nat)) : Nat := fs.foldl (fun a x => a * 2 ^ x.1 + x.2 % 2 ^ x.1) 0

/-- Bytes of a body, from bit 159 downward (R111). -/
def bodyBytes (b : BitVec 160) : List Byte := (List.range 20).map (fun i => BitVec.ofNat 8 (b.toNat / 2 ^ (152 - 8 * i)))

/-- The bodies of CFGBC parts 0 to 4 for the register values `v` (R111). -/
def cfgBodies (v : Nat → Word) : List (BitVec 160) :=
  let z (c : Nat) : Nat × Nat := (16, fld (v (Reg.sensecfg_CHZERO c)) 15 0)
  let u (c : Nat) : Nat × Nat := (32, (v (Reg.sensecfg_CHGAIN c)).toNat)
  let en := (List.range 12).foldl (fun m c => m + (if bitOf (v (Reg.sensecfg_CHZERO c)) 31 then 2 ^ c else 0)) 0
  [packNat [(32, (v (Reg.sensecfg_GRPCFG 0)).toNat), (32, (v (Reg.sensecfg_GRPCFG 1)).toNat),
      (32, (v (Reg.sensecfg_GRPCFG 2)).toNat), (32, (v Reg.sensecfg_DINCFG).toNat),
      (24, fld (v Reg.sensecfg_DEDGE) 23 0), (8, fld (v Reg.sensecfg_TEMPCFG) 7 0)],
   packNat [z 0, z 1, z 2, z 3, z 4, z 5, z 6, z 7, (12, en), (20, 0)],
   packNat [z 8, z 9, z 10, z 11, u 0, u 1, u 2], packNat [u 3, u 4, u 5, u 6, u 7],
   packNat [u 8, u 9, u 10, u 11, (32, 0)]].map (BitVec.ofNat 160)

/-- Part 5 (R111). -/
def cfgCrc (bs : List (BitVec 160)) : BitVec 160 := BitVec.ofNat 160 ((crc32c (bs.flatMap bodyBytes)).toNat * 2 ^ 128)

def cfgFlits (v : Nat → Word) (gen : Byte) (target : Half) : List HubFlit :=
  let bs := cfgBodies v
  let all := bs ++ [cfgCrc bs]
  [0, 1, 2, 3, 4, 5].map (fun (p : Fin 6) => HubFlit.cfgbc p gen target (listGet 0 all p.val))

/-- Bits `[hi:lo]` of a body. -/
def bfld (b : BitVec 160) (hi lo : Nat) : Word := toWord (b.toNat / 2 ^ lo % 2 ^ (hi + 1 - lo))

/-- The register values that the bodies of parts 0 to 4 carry. -/
def cfgOfBodies (p : Nat → BitVec 160) : List (Nat × Word) :=
  let zw (c : Nat) : Word :=
    let z := if c < 8 then bfld (p 1) (159 - 16 * c) (144 - 16 * c) else bfld (p 2) (159 - 16 * (c - 8)) (144 - 16 * (c - 8))
    setBit z 31 ((p 1).toNat / 2 ^ (20 + c) % 2 == 1)
  let uw (c : Nat) : Word :=
    if c < 3 then bfld (p 2) (95 - 32 * c) (64 - 32 * c)
    else if c < 8 then bfld (p 3) (159 - 32 * (c - 3)) (128 - 32 * (c - 3))
    else bfld (p 4) (159 - 32 * (c - 8)) (128 - 32 * (c - 8))
  let all : List (Nat × Word) :=
    [(Reg.sensecfg_GRPCFG 0, bfld (p 0) 159 128), (Reg.sensecfg_GRPCFG 1, bfld (p 0) 127 96),
     (Reg.sensecfg_GRPCFG 2, bfld (p 0) 95 64), (Reg.sensecfg_DINCFG, bfld (p 0) 63 32),
     (Reg.sensecfg_DEDGE, bfld (p 0) 31 8), (Reg.sensecfg_TEMPCFG, bfld (p 0) 7 0)]
    ++ (List.range 12).map (fun c => (Reg.sensecfg_CHZERO c, zw c)) ++ (List.range 12).map (fun c => (Reg.sensecfg_CHGAIN c, uw c))
  all.foldl (fun m e => mapPut regReset m e.1 e.2) []

/-- The values of SENSECFG in canonical form. -/
def Dev.senseSet (d : Dev) : List (Nat × Word) :=
  (shKeys 0xA).foldl (fun m k => mapPut regReset m k (d.reg k)) []

/-- The generation that the hub holds in force at frame `k` (R87, R88). -/
def Dev.genFor (d : Dev) (k : Nat) : Byte :=
  d.agr.genAt.foldl (fun g e => if e.1.toNat ≤ k then e.2 else g) (BitVec.ofNat 8 (d.rfld Reg.sensecfg_CFGID 23 16))

/-- The configuration in force at frame `k`. -/
def Dev.cfgFor (d : Dev) (k : Nat) : List (Nat × Word) :=
  d.agr.cfgAt.foldl (fun g e => if e.1.toNat ≤ k then e.2 else g) d.senseSet

/-- What is in force from frame `f` on; of two commits with one target frame the later holds (R87). -/
def Dev.inForceFrom (d : Dev) (f : BitVec 48) (gen : Byte) (cfg : List (Nat × Word)) : Dev :=
  d.updAgr (fun a => { a with genAt := (a.genAt.filter (fun e => decide (e.1 < f))) ++ [(f, gen)],
                              cfgAt := (a.cfgAt.filter (fun e => decide (e.1 < f))) ++ [(f, cfg)] })

/-- A SENSECFG commit is applied (R87, R89): GEN, and once frames run the target frame and the broadcast. -/
def Dev.senseApply (d : Dev) : Dev :=
  let gen : Byte := BitVec.ofNat 8 (d.rfld Reg.sensecfg_CFGID 23 16 + 1)
  let d1 := d.setFldR Reg.sensecfg_CFGID 23 16 gen.toNat
  if d.frames then
    let f := d.frnum + 2
    let d2 := (d1.setBitR Reg.sensecfg_CFGID 31 true).setFldR Reg.sensecfg_CFGID 15 0 (f.toNat % 65536)
    let base := if d2.agr.genAt.isEmpty then
        d2.inForceFrom 0 (BitVec.ofNat 8 (d.rfld Reg.sensecfg_CFGID 23 16)) d.senseSet else d2
    let d3 := base.inForceFrom f gen d2.senseSet
    Dev.each Dev.cfgSend (cfgFlits d3.reg gen (f.setWidth 16)) d3
  else d1.inForceFrom 0 gen d1.senseSet

/-- The broadcast before a release (R89): the set and the generation in force, for the first frame after it. -/
def Dev.senseRelease (d : Dev) : Dev :=
  let gen : Byte := BitVec.ofNat 8 (d.rfld Reg.sensecfg_CFGID 23 16)
  Dev.each Dev.cfgSend (cfgFlits d.reg gen 0xFFFF) (d.inForceFrom 0 gen d.senseSet)

/-! A sense block at a tick. -/

/-- Six parts of one generation with a matching CRC give the next configuration (R111). -/
def Sense.assemble (s : Sense) : Sense :=
  let part (n : Nat) : Option (Fin 6 × Byte × Half × BitVec 160) := s.parts.find? (fun e => e.1.val == n)
  match part 0, part 1, part 2, part 3, part 4, part 5 with
  | some p0, some p1, some p2, some p3, some p4, some p5 =>
    let ps := [p0, p1, p2, p3, p4]
    if ps.all (fun e => e.2.1 == p5.2.1) && cfgCrc (ps.map (fun e => e.2.2.2)) == p5.2.2.2 then
      let b (n : Nat) : BitVec 160 := match ps[n]? with | some e => e.2.2.2 | none => 0
      { s with nextCfg := s.nextCfg ++ [(p5.2.1, p5.2.2.1, cfgOfBodies b)], parts := [] }
    else s
  | _, _, _, _, _, _ => s

/-- One CFGBC part (R111): a part of another generation starts the set anew. -/
def Sense.takePart (s : Sense) (p : Fin 6) (gen : Byte) (target : Half) (body : BitVec 160) : Sense :=
  let keep := s.parts.filter (fun e => e.1 != p && e.2.1 == gen)
  ({ s with parts := keep ++ [(p, gen, target, body)] }).assemble

/-- Whether a configuration with target `t` holds from frame `f` on. -/
def cfgDue (t : Half) (f : Word) : Bool := t == 0xFFFF || decide ((f.toNat % 65536 + 65536 - t.toNat) % 65536 < 32768)

/-- The latest configuration whose target frame has come, if any. -/
def lastDue (f : Word) (cs : List (Byte × Half × List (Nat × Word))) : Option (Byte × Half × List (Nat × Word)) :=
  cs.foldl (fun r e => if cfgDue e.2.1 f then some e else r) none

/-- The configuration whose target frame has come is in force, with coefficients recomputed (R85, R87). -/
def Sense.adopt (s : Sense) (f : Word) : Sense :=
  match lastDue f s.nextCfg with
  | some e =>
    ({ s with cfg := e.2.2, gen := e.1, nextCfg := s.nextCfg.filter (fun e => !cfgDue e.2.1 f) }).recompute
  | none => s

/-- Group `g`'s run is judged in frame f0 + 8 (R80, R83). -/
def Sense.judgeRun (g : Fin 3) (s : Sense) : Sense :=
  if !s.runGroups.get g then s
  else if s.runOk g then { s with calerr := s.calerr.set g false }
  else { s with calerr := s.calerr.set g true, runGroups := s.runGroups.set g false }

/-- Group `g`'s accepted sums are in force from frame f0 + 9 on (R83, R109). -/
def Sense.takeRun (g : Fin 3) (s : Sense) : Sense :=
  if s.runGroups.get g then
    { s with sums := s.sums.set g (BitVec.ofNat 20 (s.runLo.get g), BitVec.ofNat 20 (s.runHi.get g)),
             runtime := s.runtime.set g true, sumv := s.sumv.set g true, runGroups := s.runGroups.set g false }
  else s

/-- Frames since the start frame of the run. -/
def Sense.runAge (s : Sense) (f : Word) : Option Nat :=
  match s.runFrom with
  | some f0 => some (f - f0.setWidth 32).toNat
  | none => none

def emptyRec : DinRec := ⟨false, 0, false, false, 0, 0⟩

/-- What a sense block does when its frame `f` starts: the configuration, the run, the edge records. -/
def Sense.tick (s : Sense) (f : Word) : Sense :=
  let s1 := s.adopt f
  let s2 := match s1.runAge f with
    | some 8 => groupIds.foldl (fun s g => Sense.judgeRun g s) s1
    | some 9 => ({ (groupIds.foldl (fun s g => Sense.takeRun g s) s1) with runFrom := none }).recompute
    | _ => s1
  { s2 with prevRecs := s2.recs, recs := List.replicate 12 emptyRec, prevOver := s2.moreEdges, moreEdges := List.replicate 12 false }

/-- A run starts in frame `f0` for the groups that are enabled (R83, R84). -/
def Sense.startRun (s : Sense) (f0 : BitVec 48) : Sense :=
  { s with runFrom := some f0, runGroups := ⟨s.grpEn 0, s.grpEn 1, s.grpEn 2⟩, runBad := Tri.const false,
           runLo := Tri.const 0, runHi := Tri.const 0 }

/-! Edge records. -/

/-- One qualifying edge in a record (R90). -/
def addEdge (r : DinRec) (rising : Bool) (t : Nat) : DinRec :=
  let t19 : BitVec 19 := BitVec.ofNat 19 t
  if r.cnt = 0 then { r with cnt := 1, fpol := rising, lpol := rising, ftime := t19, ltime := t19 }
  else { r with cnt := BitVec.ofNat 3 (min 7 (r.cnt.toNat + 1)), lpol := rising, ltime := t19 }

/-- An edge selected by EDGE (R90). -/
def edgeQualifies (sel : Nat) (rising : Bool) : Bool := if rising then sel == 1 || sel == 3 else sel == 2 || sel == 3

/-- Hub time of a CCLK count in the copy's frame (R147). -/
def CTime.hubTime (t : CTime) (e : Int) : Int := rneDivS ((e - t.c) * 2 ^ 28) (t.rho.toNat : Int)

/-- An edge that qualifies, at hub time `t` from the tick: the frame that starts, or the one before (R90 to R92). The
flag says that a frame has its eighth edge. -/
def Sense.edge (s : Sense) (i : Nat) (rising : Bool) (t : Int) (prevPer : Nat) : Sense × Bool :=
  if t < 0 then
    let r := listGet emptyRec s.prevRecs i
    let more := r.cnt == 7 && !listGet false s.prevOver i
    ({ s with prevRecs := listSet s.prevRecs i (addEdge r rising (t + prevPer).toNat),
              prevOver := if more then listSet s.prevOver i true else s.prevOver }, more)
  else
    let r := listGet emptyRec s.recs i
    let more := r.cnt == 7 && !listGet false s.moreEdges i
    ({ s with recs := listSet s.recs i (addEdge r rising t.toNat),
              moreEdges := if more then listSet s.moreEdges i true else s.moreEdges }, more)

/-! The messages. -/

def four {α : Type} (f : Nat → α) : Four α := ⟨f 0, f 1, f 2, f 3⟩

def fourGet {α : Type} (x : Four α) (i : Nat) : α :=
  match i with
  | 0 => x.v0
  | 1 => x.v1
  | 2 => x.v2
  | _ => x.v3

def fourList {α : Type} (x : Four α) : List α := [x.v0, x.v1, x.v2, x.v3]

/-- The sample message of group `g` (R74, R109) from four raw codes and the die temperature. -/
def Sense.sampleMsg (s : Sense) (frame : Word) (g : GroupId) (x : Four Half) (temp : Half) : SampleMsg :=
  let ch (j : Nat) : Nat := 4 * g.val + j
  let y (j : Nat) : Int × Bool := senseY (fourGet x j).toNat (listGet 0 s.ofs (ch j)) (listGet 0 s.gain (ch j))
  let on (j : Nat) : Bool := s.chEn (ch j)
  let sv := s.sumv.get g
  let tv := s.tempGroup == g.val
  { frame := frame, group := g, gen := s.gen, calerr := s.calerr.get g, calsrc := s.runtime.get g, sumv := sv, tvalid := tv,
    temp := if tv then temp else 0, y := four (fun j => if on j then BitVec.ofNat 16 (wrapU 16 (y j).1) else 0),
    sat := four (fun j => on j && (y j).2), clip := four (fun j => on j && (fourGet x j == 0 || fourGet x j == 0xFFFF)),
    slo := if sv then (s.sums.get g).1 else 0, shi := if sv then (s.sums.get g).2 else 0 }

/-- Four calibration conversions of group `g` in frame f0 + `age` (R83). -/
def Sense.calAdd (s : Sense) (g : GroupId) (age : Nat) (cal : Four Half) : Sense :=
  let sum := (fourList cal).foldl (fun n w => n + w.toNat) 0
  let bad := (fourList cal).any (fun w => w == 0 || w == 0xFFFF)
  let s1 := if bad then { s with runBad := s.runBad.set g true } else s
  if age < 4 then { s1 with runLo := s1.runLo.upd g (· + sum) } else { s1 with runHi := s1.runHi.upd g (· + sum) }

/-- DINREC `part` of the exchange (R90, R109). -/
def Sense.dinMsg (s : Sense) (frame : Word) (lvl : BitVec 12) (part : Nat) : DinMsg :=
  let rec1 (j : Nat) : DinRec :=
    let i := 4 * part + j
    if s.edgeSel i = 0 then emptyRec else { listGet emptyRec s.prevRecs i with lvl := lvl.getLsbD i }
  { frame := frame.setWidth 8, gen := s.gen, recs := four rec1 }

/-- A copy sends a flit of class `cls` on its request channel, and notes the peak of its spill RAM (R110, R118, R120).
A copy that has stopped sends only IDLE flits (R126, R181, R224). -/
def Copy.send (x : Copy) (now : Nat) (cls : BitVec 2) (f : CopyFlit) : Copy :=
  if x.stop.isSome then x else
  let s := x.side.enqueue cls f
  let r := if x.link == .active then s.drain now (tmrTmo x.tmr) 2176 else s
  { x with side := r, stats := { x.stats with spillpk := max x.stats.spillpk (r.unacked.length - 128) } }

/-! The hub's copy. -/

/-- Word `i` of the calibration block of copy `c` in OTP (R444). -/
def Dev.otpCal (d : Dev) (c : CopyId) (i : Nat) : Word := d.word (0x50000100 + 0x80 * c.val + 4 * i)

/-- The calibration block delivered to copy `c`, and whether it replaces one that is bad (R432). -/
def Dev.calBlock (d : Dev) (c : CopyId) : List Word × Bool :=
  let base := 0x50000100 + 0x80 * c.val
  let vals := (List.range 19).map (fun i => match d.checkAt (base + 4 * i) with | .ok => some (d.word (base + 4 * i)) | .corrected w => some w | .bad => none)
  let ws := vals.filterMap id
  let nominal := [65536, 786432, 65536, 786432, 65536, 786432] ++ List.replicate 12 (0 : Word)
  let withCrc (l : List Word) : List Word := l ++ [crc32c (l.flatMap wordBytes), 0]
  if ws.length = 19 ∧ crc32c ((ws.take 18).flatMap wordBytes) = listGet 0 ws 18 then (ws ++ [0], false)
  else (withCrc nominal, true)

/-- AG, OFS and GAIN of the four channels of group `g` of copy `c` as the hub publishes them (R95). -/
def Dev.publishCoef (c : CopyId) (g : GroupId) (d : Dev) : Dev :=
  let lo := d.rfld (Reg.agree_SLO c.val g.val) 19 0
  let hi := d.rfld (Reg.agree_SHI c.val g.val) 19 0
  let blk := (d.calBlock c).1
  let s : Sense := { Dev.senseReset with
    cfg := d.cfgFor d.frnum.toNat, tro := (List.range 12).map (fun i => (listGet 0 blk (6 + i)).extractLsb' 0 12),
    trg := (List.range 12).map (fun i => (listGet 0 blk (6 + i)).extractLsb' 16 12) }
  let d1 := d.setReg (Reg.agree_AG c.val g.val) (intWord (calA lo hi))
  Dev.each (fun j d =>
    let ch := 4 * g.val + j
    let co := s.coef lo hi ch
    (d.setReg (Reg.agree_OFS c.val ch) (toWord (wrapU 24 co.1))).setReg (Reg.agree_GAIN c.val ch) (intWord co.2)) [0, 1, 2, 3] d1

end Sys2Proof.Machine
end

