-- ==== Sys2Proof/Machine/Trig.lean ====
section
/-! DEFINITION. Machine/Trig.lean: the reference algorithms of SIN, COS and ATAN2 (R244 to R246), which the
Bronze functions and the drives' rotations (R306) share. -/

namespace Sys2Proof.Machine

open Sys2Proof

/-- T_i = nearest(2^34 · atan(2^-i) / 2π), i = 0 to 33 (R244). -/
def cordicT : List Int :=
  [2147483648, 1267733622, 669835629, 340019024, 170669324, 85417861, 42719353, 21360980,
   10680653, 5340347, 2670176, 1335088, 667544, 333772, 166886, 83443,
   41722, 20861, 10430, 5215, 2608, 1304, 652, 326,
   163, 81, 41, 20, 10, 5, 3, 1,
   1, 0]

/-- K of R244. -/
def cordicK : Int := 10432525985

/-- C_j = nearest(2^34 · 2^(2^(j-31))), j = 0 to 31 (R244). -/
def exp2C : List Int :=
  [17179869190, 17179869195, 17179869206, 17179869228, 17179869273, 17179869361, 17179869539, 17179869894,
   17179870604, 17179872023, 17179874862, 17179880541, 17179891897, 17179914610, 17179960036, 17180050889,
   17180232597, 17180596017, 17181322880, 17182776700, 17185684708, 17191502201, 17203143095, 17226448535,
   17273154175, 17366945694, 17556059333, 17940486974, 18734780191, 20430422668, 24296004000, 34359738368]

/-- `v >> i` as floor(v / 2^i) (08_bronze_arithmetic.md). -/
def sar (v : Int) (i : Nat) : Int := v / (2 ^ i : Int)

/-- The rotation steps of R245 from step `i` on, with the angles that remain. -/
def rotSteps : List Int → Nat → Int → Int → Int → Int × Int
  | [], _, x, y, _ => (x, y)
  | t :: ts, i, x, y, z =>
    if z ≥ 0 then rotSteps ts (i + 1) (x - sar y i) (y + sar x i) (z - t)
    else rotSteps ts (i + 1) (x + sar y i) (y - sar x i) (z + t)

/-- (s, c) of R245 before rounding. -/
def sinCosRaw (a : Word) : Int × Int :=
  let xy := rotSteps cordicT 0 cordicK 0 (4 * (a.toNat % 2 ^ 30 : Nat))
  match a.toNat / 2 ^ 30 with
  | 0 => (xy.2, xy.1)
  | 1 => (xy.1, -xy.2)
  | 2 => (-xy.2, -xy.1)
  | _ => (-xy.1, xy.2)

/-- SIN of R245, Q1.31. -/
def sinQ (a : Word) : Int := satS 32 (rRne (sinCosRaw a).1 3)

/-- COS of R245, Q1.31. -/
def cosQ (a : Word) : Int := satS 32 (rRne (sinCosRaw a).2 3)

/-- The vectoring steps of R246. -/
def vecSteps : List Int → Nat → Int → Int → Int → Int
  | [], _, _, _, z => z
  | t :: ts, i, x, y, z =>
    if y < 0 then vecSteps ts (i + 1) (x - sar y i) (y + sar x i) (z - t)
    else vecSteps ts (i + 1) (x + sar y i) (y - sar x i) (z + t)

/-- ATAN2 of R246 for a vector that is not zero. -/
def atan2Q (y x : Int) : Word :=
  let z :=
    if x < 0 then vecSteps cordicT 0 (-(8 * x)) (-(8 * y)) (2 ^ 33) else vecSteps cordicT 0 (8 * x) (8 * y) 0
  intWord (rRne z 2)

end Sys2Proof.Machine
end

