-- ==== Sys2Proof/Machine/DriveMath.lean ====
section
/-! DEFINITION. Machine/DriveMath.lean: the arithmetic of a drive: rotation (R306), blend (R313), modulator
(R308), IF generator (R307) and hand-over guard (R312), over plain numbers. -/

namespace Sys2Proof.Machine

open Sys2Proof

/-- A voltage vector, signed Q1.15 per component. -/
abbrev Vec := Int × Int

/-- The two signed halves of a word, high half first (VDQ, VCL, VAPP, VSRC). -/
def vecOf (w : Word) : Vec := (sext 16 (w.toNat / 65536), sext 16 w.toNat)
def vecWord (v : Vec) : Word := toWord (wrapU 16 v.1 * 65536 + wrapU 16 v.2)

/-- The rotation of R306 before its saturation. -/
def rotRaw (v : Vec) (a : Word) : Vec :=
  (rRne (v.1 * cosQ a - v.2 * sinQ a) 31, rRne (v.1 * sinQ a + v.2 * cosQ a) 31)

/-- The rotation of R306, and whether a component saturated. -/
def rotate (v : Vec) (a : Word) : Vec × Bool :=
  let r := rotRaw v a
  let s := (satS 16 r.1, satS 16 r.2)
  (s, decide (s ≠ r))

/-- The source vector of a mode: 1 ALIGN, 2 IF, 3 CL; the zero vector in OFF (R305). -/
def sourceVec (mode : Nat) (vdq vcl alang theta : Word) : Vec × Bool :=
  match mode with
  | 1 => rotate (vecOf vdq) alang
  | 2 => rotate (vecOf vdq) theta
  | 3 => (vecOf vcl, false)
  | _ => ((0, 0), false)

/-- The next increment of the IF generator, within ±IFINCLIM (R307). -/
def ifIncNext (inc acc lim : Word) : Word :=
  intWord (min (max (wordInt inc + wordInt acc) (-(lim.toNat : Int))) (lim.toNat : Int))

/-- One component of a blend frame (R313). -/
def blend1 (old new : Int) (j b : Nat) : Int := rneDiv (old * ((b : Int) - j) + new * j) b

def blendVec (old new : Vec) (j b : Nat) : Vec := (blend1 old.1 new.1 j b, blend1 old.2 new.2 j b)

/-- n_x of R308 clamped, and whether it clamped. -/
def dutyOf (u s : Int) : Int × Bool :=
  let n := 2 ^ 30 + 2 * u - s
  let c := min (max n 0) (2 ^ 31)
  (c, decide (c ≠ n))

/-- CMP_x of R308. -/
def cmpOf (n : Int) (hp : Nat) : Nat := 32 * hp - (rRne (n * (32 * hp : Nat)) 31).toNat

/-- The three compare values of the applied vector, and SATM (R308). -/
def modulate (v : Vec) (hp : Nat) : Nat × Nat × Nat × Bool :=
  let uU := v.1 * 2 ^ 15
  let uV := -v.1 * 2 ^ 14 + 28378 * v.2
  let uW := -v.1 * 2 ^ 14 - 28378 * v.2
  let s := max uU (max uV uW) + min uU (min uV uW)
  let nU := dutyOf uU s
  let nV := dutyOf uV s
  let nW := dutyOf uW s
  (cmpOf nU.1 hp, cmpOf nV.1 hp, cmpOf nW.1 hp, nU.2 || nV.2 || nW.2)

/-- The hand-over guard of R312. -/
def guardPasses (new app : Vec) (lim : Nat) : Bool :=
  decide ((new.1 - app.1) * (new.1 - app.1) + (new.2 - app.2) * (new.2 - app.2) ≤ (lim * lim : Nat))

end Sys2Proof.Machine
end

