-- ==== Sys2Proof/Machine/Safe.lean ====
section
/-! DEFINITION. Machine/Safe.lean: the decisions that every detector shares (R289 to R292, R425, R435, R446):
the record of a compare decision, the loss of a copy, the safe state with and without restart, the core-set
restart, and the HUB-scope reset. -/

namespace Sys2Proof.Machine

open Sys2Proof

/-! What a compare decision records. -/

def ReqType.code : ReqType → Nat
  | .read => 1
  | .write => 2
  | .fetch => 3

def worldNat : World → Nat
  | .iron => 0
  | .tin => 1

/-- The fields in which two compare vectors differ: TYPE in bit 10 down to RCRC in bit 0 (R273, R299). -/
def reqDiff (ta tb : ReqType) (a b : Req) : Nat :=
  boolNat (ta != tb) * 1024 + boolNat (a.csn != b.csn) * 512 + boolNat (a.retire != b.retire) * 256
  + boolNat (a.world != b.world) * 128 + boolNat (a.ring != b.ring) * 64 + boolNat (a.cls != b.cls) * 32
  + boolNat (a.be != b.be) * 16 + boolNat (a.addr != b.addr) * 8 + boolNat (a.data != b.data) * 4
  + boolNat (a.ecc != b.ecc) * 2 + boolNat (a.rcrc != b.rcrc)

def Arrival.diff (x y : Arrival) : Nat := reqDiff x.ty y.ty x.req y.req

/-- The differing fields among the arrivals of an entry. -/
def CmpEntry.fields (e : CmpEntry) : Nat :=
  let one (x y : Option Arrival) : Nat := match x, y with | some p, some q => p.diff q | _, _ => 0
  one e.arr.a e.arr.b ||| one e.arr.a e.arr.c ||| one e.arr.b e.arr.c

/-- The pair comparator of two copies: 0 AB, 1 AC, 2 BC. -/
def pairOf (x y : CopyId) : Fin 3 := if x.val + y.val = 1 then 0 else if x.val + y.val = 2 then 1 else 2

def maskOf (cs : List CopyId) : Nat := cs.foldl (fun m c => m + 2 ^ c.val) 0

/-- CMP.LASTCSN and LASTDET of an entry decided other than release (R299). -/
def Dev.cmpNote (d : Dev) (csn : Word) (fields copies : Nat) (abs : Bool) (dec : Nat) : Dev :=
  (d.setReg Reg.cmp_LASTCSN csn).setReg Reg.cmp_LASTDET
    (toWord (fields % 2048 + copies % 8 * 0x1000 + boolNat abs * 0x8000 + dec % 16 * 0x10000))

/-! Copies with power. -/

def Dev.poweredCopies (d : Dev) : List CopyId := copyIds.filter (fun c => (d.copy c).powered)

/-- A copy loses its power: everything in it goes, and the hub's end of its link stops (R291, R435). -/
def Dev.copyOff (lstate : Nat) (c : CopyId) (d : Dev) : Dev :=
  { (d.setLstate c lstate) with
    copies := d.copies.set c Dev.copyReset, links := d.links.set c Dev.linkReset }

/-- What the hub keeps of a copy that leaves service is dropped: its queue places, its messages of open exchanges
and its debug reports (R151, R291). -/
def Dev.dropCopy (c : CopyId) (d : Dev) : Dev :=
  { d with
    cmp := (d.cmp.map (fun e => { e with arr := e.arr.set c none })).filter
      (fun e => e.arr.a.isSome || e.arr.b.isSome || e.arr.c.isSome || e.stage == .late),
    agr := { d.agr with msgs := d.agr.msgs.set c (Tri.const none), din := d.agr.din.set c Dev.dinReset },
    dbg := { d.dbg with reports := d.dbg.reports.set c false, answers := d.dbg.answers.set c none } }

/-! The safe state. -/

/-- Steps 1 and 2 of R292 without the journal: DEV with its cause, and every open entry discarded. -/
def Dev.holdOutputs (d : Dev) (cause copies : Nat) : Dev :=
  let d1 := d.setDev cause copies
  { d1 with cmp := [], links := d1.links.map HubLink.requeued }

/-- SVCLVL with safe state for its level; Puffball's level stays (R292, R459). -/
def Dev.safeLevel (d : Dev) (insvc : Nat) (src : Nat) : Dev :=
  d.setSvc insvc (if d.level = 3 then 3 else 2) src

/-- A discarded pending set (R47). -/
def Dev.dropPend (p : Nat) (d : Dev) : Dev :=
  if d.pages.commits.any (fun c => c.page == p && c.admitted) then
    let d1 := { d with pages := { d.pages with
      commits := d.pages.commits.filter (fun c => !(c.page == p && c.admitted)),
      touched := mapPut (fun _ => false) d.pages.touched p true } }
    let d2 := d1.setBitR (Reg.pgStat p) 31 false
    d2.setFldR (Reg.pgCmtstat p) 15 0 0xC022
  else d

def framePages : List Nat := [0x15, 0x16, 0x17, 0x19]

/-- The delivery state of the hub after a core-set restart (R425, R435). -/
def Agree.restart (a : Agree) : Agree :=
  { a with msgs := Tri.const (Tri.const none), aOpen := Tri.const false, din := Tri.const Dev.dinReset, dOpen := false,
           outl := Tri.const (List.replicate 24 0), msgMissing := Tri.const 0, maxRetire := 0, dlv := none,
           tckPend := false, agrPend := [], dbgPend := false, bankBusy := Duo.const false, cfgQueue := [],
           ctlQueue := [], replPend := false, tempHot := Tri.const 0, calNext := none,
           reports := [] }

/-- Debug state ends with the copies that held it: HALTED, STEPPING and DIVERGE clear. -/
def Dev.dbgClear (d : Dev) : Dev :=
  { (d.setFldR Reg.dbg_STAT 2 0 0) with
    dbg := { d.dbg with reports := Tri.const false, answers := Tri.const none, cmd := none } }

/-- A core-set restart begins (R435 steps 1 and 2): RST.LAST, the RESET entry, every copy and link off for 4 000
HCLK, every compare queue, cache, grant, delivery and code cleared, every pending set discarded. -/
def Dev.restartNow (d : Dev) (src : Nat) : Dev :=
  let mask := maskOf d.poweredCopies
  let n := d.rfld Reg.rst_LAST 31 16
  let d1 := (d.setFldR Reg.rst_LAST 15 8 src).setFldR Reg.rst_LAST 31 16 (satU 16 (n + 1))
  let d2 := d1.jlog 0x08 5 0x44 0 (toWord src) (toWord (2 + mask * 256))
  let d3 := Dev.each (fun c d => (d.copyOff 0 c).dropCopy c) copyIds d2
  let d4 := Dev.each Dev.dropPend framePages d3
  let d5 := ((d4.setReg Reg.cmp_CODE 0).setReg Reg.irqd_DLVD_LO 0).setReg Reg.irqd_DLVD_HI 0
  let d6 := (d5.setBitR Reg.agree_DLVSTAT 8 false).setFldR Reg.sys_SVCLVL 10 8 0
  { d6.dbgClear with
    cmp := [], agr := d6.agr.restart, cs := .waiting, csDue := d.now + 4000, pendRestart := none,
    puff := d6.puff.insvcLost d.now }

/-- Step 4 of R292 when RSTCNT.CNT has reached MAX: every copy stays in reset. -/
def Dev.holdCopies (d : Dev) : Dev :=
  let d1 := Dev.each (fun c d => (d.copyOff 0 c).dropCopy c) copyIds d
  let d2 := Dev.each Dev.dropPend framePages d1
  { (d2.setFldR Reg.sys_SVCLVL 10 8 0).dbgClear with
    cmp := [], agr := d2.agr.restart, cs := .held, pendRestart := none, puff := d2.puff.insvcLost d.now }

/-- Whether the copy set executes or waits in a hold, so that a restart is not under way already (R447); copies
that leave Doze count as in service (R390). -/
def Dev.csRunning (d : Dev) : Bool := d.cs == .running || (d.pstate == 4 && d.nSvc != 0)

/-- Step 4 of R292, or the restart of a software reset, which counts nothing (R427). While the ride-through plan
executes, the restart waits (16_fault_catalogue.md). -/
def Dev.restartStep (d : Dev) (src : Nat) (counted : Bool) : Dev :=
  if !d.csRunning then d
  else if d.planExec then { d with pendRestart := some (src + (if counted then 0 else 0x100)) }
  else if !counted then d.restartNow src
  else
    let n := d.rfld Reg.release_RSTCNT 3 0
    if n < d.rfld Reg.release_RSTCFG 3 0 then (d.setFldR Reg.release_RSTCNT 3 0 (n + 1)).restartNow src
    else d.holdCopies

/-- A restart that waited for the end of the plan runs (R292 step 4). -/
def Dev.restartAfterPlan (d : Dev) : Dev :=
  match d.pendRestart with
  | none => d
  | some n =>
    if d.planExec then d
    else ({ d with pendRestart := none }).restartStep (n % 0x100) (decide (n < 0x100))

/-- What a fault journals and flags: code, page, SRC, detail, PG_FAULT flags. -/
structure FaultInfo where
  code : Nat
  page : Nat
  src : Nat
  detail : Word
  flags : Nat
deriving DecidableEq, Repr

def Dev.raise (d : Dev) (f : FaultInfo) : Dev := d.fault f.code f.page f.src f.detail f.flags

/-- Reaction H: steps 1 to 3 of R292 with DEV cause 0x08 (R446). -/
def Dev.reactH (d : Dev) (f : FaultInfo) : Dev :=
  let d1 := (d.holdOutputs 8 0).raise f
  d1.safeLevel (d1.rfld Reg.sys_SVCLVL 10 8) 0

/-- Reaction S: the whole of R292. `insvc` is what INSVC becomes before the restart clears it. -/
def Dev.reactS (d : Dev) (f : FaultInfo) (cause copies insvc src : Nat) : Dev :=
  let d1 := (d.holdOutputs cause copies).raise f
  (d1.safeLevel insvc 0).restartStep src true

/-- RESET of scope COPY for a link LOST, a brownout of VSUP_x or a copy clock fault (R426; assumption 9). -/
def Dev.copyResetEntry (d : Dev) (c : CopyId) (code : Nat) : Dev :=
  if code = 0x06 ∨ code = 0x07 ∨ code = 0x0B then
    d.jlog 0x08 5 0x44 0 0x20 (toWord (3 + 2 ^ c.val * 256))
  else d

/-- The DEV cause of a loss that leaves too few copies (R289). -/
def lossCause (code : Nat) : Nat := if code = 1 then 3 else if code = 2 then 4 else if code = 5 then 7 else 8
/-- Its reset source (R426). -/
def lossSource (code : Nat) : Nat := if code = 1 ∨ code = 2 then 0x13 else if code = 5 then 0x11 else 0x15

/-- An open entry decided again with one copy fewer: the results of the pair that remains decide it (R290). -/
def redecide (x y : CopyId) (e : CmpEntry) : CmpEntry :=
  match e.stage, e.agreed.get (pairOf x y) with
  | .opened, some true => { e with stage := .released, winner := if x ≤ y then x else y }
  | _, _ => e

/-- The first open entry on which the pair that remains has disagreed (R290). -/
def firstDisagree (x y : CopyId) : List CmpEntry → Option CmpEntry
  | [] => none
  | e :: es =>
    if e.stage == .opened && e.agreed.get (pairOf x y) == some false then some e else firstDisagree x y es

/-- An entry decided MISMATCH is counted, and a safe-direction one in SAFEMIS too (R287, R299). -/
def Dev.misNote (d : Dev) (e : CmpEntry) : Dev :=
  (d.count Reg.cmp_MISCNT 1).count Reg.cmp_SAFEMIS (boolNat e.safeDone)

/-- An entry decided ABSENT is counted. -/
def Dev.absNote (d : Dev) (e : CmpEntry) : Dev :=
  (d.count Reg.cmp_ABSCNT 1).count Reg.cmp_SAFEMIS (boolNat e.safeDone)

/-- PG_FAULT flags of CMP: MISMATCH 1, ABSENT 2, with SAFEMIS (R299). -/
def CmpEntry.flagsOf (e : CmpEntry) (n : Nat) : Nat := n + 16 * boolNat e.safeDone

/-- Every open entry is decided again under the reduced-mode table of R289 after the loss of a copy (R290). -/
def Dev.redecideAll (d : Dev) : Dev :=
  match d.svcCopies with
  | [x, y] =>
    match firstDisagree x y d.cmp with
    | some e =>
      let d1 := (d.cmpNote e.csn e.fields (maskOf [x, y]) false 2).misNote e
      d1.reactS ⟨1, 0x0B, 4, e.csn, e.flagsOf 1⟩ 3 0 (maskOf [x, y]) 0x13
    | none =>
      let gone (e : CmpEntry) : Bool := (e.stage == .executed || e.stage == .late) && e.answered.get x && e.answered.get y
      { d with cmp := (d.cmp.map (redecide x y)).filter (fun e => !gone e) }
  | _ => d

/-! Debug replies. -/

/-- Debug entry is complete once every copy in service has reported it (R439). -/
def Dev.haltedCheck (d : Dev) : Dev :=
  if d.svcCopies ≠ [] ∧ d.svcCopies.all (fun c => d.dbg.reports.get c) = true then
    let d1 := ((d.setFldR Reg.dbg_STAT 1 0 1).setReg Reg.dbg_HALT_LO (d.dbg.haltAt.extractLsb' 0 32)).setReg Reg.dbg_HALT_HI
      (d.dbg.haltAt.extractLsb' 32 16 |>.setWidth 32)
    { d1 with dbg := { d1.dbg with reports := Tri.const false } }
  else d

/-- A command is answered alike by every copy in service (R441): RSP, RSTAT served; RESUME ends HALTED. -/
def Dev.dbgServed (d : Dev) (a : Byte × BitVec 2 × Word) : Dev :=
  let d1 := (d.setReg Reg.dbg_RSP a.2.2).setReg Reg.dbg_RSTAT 0
  let d2 := if a.1 = 7 then d1.setBitR Reg.dbg_STAT 0 false else d1
  { d2 with dbg := { d2.dbg with answers := Tri.const none, cmd := none } }

/-- Differing replies (R441): DIVERGE, and a MISMATCH of the copies `cs`, with row `dec` of R289; a reply has no CSN. -/
def Dev.dbgDiffer (d : Dev) (cs : Nat) (dec : Nat) : Dev :=
  let d1 := d.setBitR Reg.dbg_STAT 2 true
  let d2 := { d1 with dbg := { d1.dbg with answers := Tri.const none, cmd := none } }
  (d2.cmpNote (d2.reg Reg.cmp_LASTCSN) 0 cs false dec).count Reg.cmp_MISCNT 1

/-- The replies of a pair that remains after a loss, or of a pair in service (R441, R289). -/
def Dev.pairReplies (d : Dev) : Dev :=
  match d.svcCopies with
  | [x, y] =>
    match d.dbg.answers.get x, d.dbg.answers.get y with
    | some a, some b =>
      if a = b then d.dbgServed a
      else (d.dbgDiffer (maskOf [x, y]) 2).reactS ⟨1, 0x0B, 4, 0, 1⟩ 3 0 (maskOf [x, y]) 0x13
    | _, _ => d
  | _ => d

/-- Reaction C: copy `c` is lost (R291, R446). In the trio the two others go on in reduced mode; otherwise too few
copies remain, and the loss becomes the safe state and restart (R289). A copy not in service only loses its power. -/
def Dev.loseCopy (d : Dev) (c : CopyId) (f : FaultInfo) : Dev :=
  let lst := if f.code = 6 then 0xF else 0
  if !d.inSvc c then ((d.raise f).copyResetEntry c f.code).copyOff lst c
  else
    let rest := d.svcCopies.filter (· != c)
    let d1 := ((d.copyOff lst c).dropCopy c).raise f
    let d2 := d1.copyResetEntry c f.code
    if rest.length = 2 then
      let lev := if d2.level = 0 then 1 else d2.level
      ((((d2.setSvc (maskOf rest) lev (c.val + 1)).redecideAll).dlvConfirm).haltedCheck).pairReplies
    else
      let d3 := d2.holdOutputs (lossCause f.code) (2 ^ c.val)
      (d3.safeLevel (maskOf rest) (c.val + 1)).restartStep (lossSource f.code) true

/-! Event reports of the copies. -/

/-- One reporting copy among others that did not report (R224, R226). -/
def Dev.partReport (code : Nat) (detail : Word) (c : CopyId) (d : Dev) : Dev :=
  if code = 5 ∧ d.inSvc c = true then d.loseCopy c ⟨5, 0x0B, c.val + 1, detail, 0⟩
  else d.fault code 0x0B (c.val + 1) detail 0

/-- A group of reports is decided (R224, R226). -/
def Dev.groupClose (g : EventGroup) (d : Dev) : Dev :=
  let code := g.code.toNat
  let detail := g.retire.extractLsb' 0 32
  if d.svcCopies ≠ [] ∧ d.svcCopies.all (fun c => g.reported.get c) = true then
    if code = 5 then d.reactS ⟨5, 0x0B, 4, detail, 0⟩ 7 0 (maskOf d.svcCopies) 0x11
    else d.fault code 0x0B 4 detail 0
  else Dev.each (Dev.partReport code detail) (copyIds.filter (fun c => g.reported.get c)) d

def Dev.groupDone (d : Dev) (g : EventGroup) : Bool :=
  decide (g.due ≤ d.now) || (d.svcCopies != [] && d.svcCopies.all (fun c => g.reported.get c))

/-- Groups that are complete or whose compare timeout has passed are decided (assumption 24). -/
def Dev.reportsClose (d : Dev) : Dev :=
  let d1 := d.updAgr (fun a => { a with reports := a.reports.filter (fun g => !d.groupDone g) })
  Dev.each Dev.groupClose (d.agr.reports.filter d.groupDone) d1

/-- A torn flash unit: left as it was, uncorrectable, or complete, which the spec leaves open (R263). -/
def Dev.tearWord (a : Nat) (d : Dev) : Dev :=
  let (w, d1) := d.drawWord
  d1.setWord a w (~~~(ecc w (toWord a)))

def Dev.tearWords : Nat → Nat → Dev → Dev
  | 0, _, d => d
  | n + 1, a, d => Dev.tearWords n (a + 4) (d.tearWord a)

def Dev.tearFlash (d : Dev) : Dev :=
  match d.flash with
  | some j =>
    if j.running && (j.op == 1 || j.op == 2) && decide (j.done < j.cnt) then
      let row := decide (j.op = 1)
      let a := j.dst.toNat + j.done * (if row then 32 else 4096)
      let n := if row then 8 else 1024
      let (torn, d1) := d.drawBool
      if torn then d1.tearWords n a
      else
        let (done, d2) := d1.drawBool
        if !done then d2
        else if row then Dev.putWords (if j.data.isEmpty then d2.words (j.src.toNat + 32 * j.done) 8 else j.data) a d2
        else d2.eraseWords a 1024
    else d
  | none => d

/-- The registers that a HUB-scope reset keeps (R390, R426, R429): identity, the retained ones, the presence of
the supplies, and what counts the reset itself. -/
def keepsReg (k : Nat) : Bool :=
  k == Reg.sys_DEVID || k == Reg.jrnl_HEAD || k == Reg.jrnl_COUNT || k == Reg.jrnl_MIRHEAD || k == Reg.jrnl_HEADSLOT
  || k == Reg.pwr_WAKECFG || k == Reg.pwr_SUPSTAT || k == Reg.pwr_STAT || k == Reg.release_RSTCNT || k == Reg.rst_LAST
  || k == Reg.retn_STAT || k == Reg.dbg_STAT
  || (decide (Reg.ledger_ECNT 0 ≤ k) && decide (k < Reg.ledger_ECNT 8))

/-- Of the kept registers, the bits that stay. -/
def keptBits (k : Nat) (w : Word) : Word :=
  if k == Reg.pwr_WAKECFG then w &&& 3
  else if k == Reg.pwr_SUPSTAT then w &&& 0x1FF
  else if k == Reg.pwr_STAT then w &&& 0xF00
  else if k == Reg.release_RSTCNT then w &&& 0xF
  else if k == Reg.rst_LAST then w &&& 0xFF
  else if k == Reg.dbg_STAT then w &&& 0x300
  else w

/-- A memory address whose content a HUB-scope reset keeps: flash, retention memory, OTP (R390). -/
def keepsMem (a : Nat) : Bool := isFlash a || isRetn a || isOtp a

def Dev.keepReg (old : Dev) (k : Nat) (d : Dev) : Dev := d.setReg k (keptBits k (old.reg k))

def retainedKeys : List Nat :=
  [Reg.sys_DEVID, Reg.jrnl_HEAD, Reg.jrnl_COUNT, Reg.jrnl_MIRHEAD, Reg.jrnl_HEADSLOT, Reg.pwr_WAKECFG, Reg.pwr_SUPSTAT,
   Reg.pwr_STAT, Reg.release_RSTCNT, Reg.rst_LAST, Reg.retn_STAT, Reg.dbg_STAT]
  ++ (List.range 8).map Reg.ledger_ECNT

/-- A HUB-scope reset with source `src` (R425, R426, R429): the hub restarts from the oscillator, the reference PLL
locks 8 000 HCLK later. JTAG's own logic is reset by TMS only (R437), and a response to UNLOCK counts from
power-on (R443). -/
def Dev.hubReset (d : Dev) (src : Nat) : Dev :=
  let d0 := d.tearFlash
  let r : Dev := { Dev.reset with
    mem := mapKeep keepsMem d0.mem, codes := mapKeep keepsMem d0.codes, freeCtr := d0.freeCtr, frnum := d0.frnum,
    refreshW := { Dev.reset.refreshW with late := d0.refreshW.late }, flopp := d0.flopp, floppDst := d0.floppDst, jdup := d0.jdup, jtag := d0.jtag,
    ledger := { Dev.ledgerReset with resid := d0.ledger.resid },
    phase := .pllWait, phaseDue := 8000 }
  let r1 := Dev.each (fun k r => Dev.keepReg d0 k r) retainedKeys r
  let r2 := (r1.setFldR Reg.rst_LAST 7 0 src).setShad Reg.pwr_WAKECFG (r1.reg Reg.pwr_WAKECFG)
  { r2 with boot := { r2.boot with resetSrc := BitVec.ofNat 8 src } }

/-- HCLK runs: the hub is awake, and its source has restarted after Doze (R142, R389, R394). -/
def Dev.clockRuns (d : Dev) : Bool := d.awake && d.phase != .dozeWake

/-- One HCLK passes with no command (R142, assumption 24): TIME counts, and event reports whose time is over are decided. -/
def Dev.idle (d : Dev) : Dev := if d.clockRuns then ({ d with time := d.time + 1 }).reportsClose else d

end Sys2Proof.Machine
end

