-- ==== Sys2Proof/Machine/Rules.lean ====
section
/-! DEFINITION. Machine/Rules.lean: the consistency rules of every page (R44, R86, R140, R171, R172, R260, R334,
R349, R360, R381, R383, R414, R415, R445, R460), evaluated on the shadow set together with the values that will
be in force at the commit boundary. -/

namespace Sys2Proof.Machine

open Sys2Proof

/-! Values at the commit boundary. -/

/-- The value that an accepted commit will give register `k`: the latest one holds. -/
def pendingVal (k : Nat) : List Commit → Word → Word
  | [], w => w
  | c :: cs, w =>
    pendingVal k cs (if c.admitted then (match c.vals.find? (fun e => e.1 == k) with | some e => e.2 | none => w) else w)

/-- The value of `k` in force at the next boundary. -/
def Dev.inForce (d : Dev) (k : Nat) : Word := pendingVal k d.pages.commits (d.reg k)

/-- `applied` with the bits of `mask` taken from `sh`. -/
def mergeMask (mask : Nat) (sh applied : Word) : Word :=
  (sh &&& toWord mask) ||| (applied &&& ~~~(toWord mask))

/-- What register `k` holds if the shadow set of its page is committed now. -/
def Dev.ifCommitted (d : Dev) (k : Nat) : Word := mergeMask (shMask k) (d.shad k) (d.inForce k)

/-- The value of `k` that a commit of page `p` is judged on. -/
def Dev.judge (d : Dev) (p k : Nat) : Word := if k / 0x1000 = p then d.ifCommitted k else d.inForce k

/-- Whether register `k` would change. -/
def Dev.changes (d : Dev) (k : Nat) : Bool := d.ifCommitted k != d.inForce k

/-! SENSECFG and TBASE. -/

def senseRule1 (v : Nat → Word) (p : Nat) : Bool :=
  groupIds.all (fun g => !bitOf (v (Reg.sensecfg_GRPCFG g.val)) 31 || decide (fld (v (Reg.sensecfg_GRPCFG g.val)) 18 0 + 1000 ≤ p))

def senseRule2 (v : Nat → Word) (p : Nat) : Bool :=
  !bitOf (v Reg.sensecfg_DINCFG) 31 || decide (fld (v Reg.sensecfg_DINCFG) 18 0 + 40 ≤ p)

def rulesSense (v : Nat → Word) : List (Nat × Bool) :=
  let p := fld (v Reg.tbase_PERIOD) 18 0
  let en (c : Nat) : Bool := bitOf (v (Reg.sensecfg_CHZERO c)) 31
  [(1, senseRule1 v p), (2, senseRule2 v p),
   (3, (List.range 12).all (fun c => !en c || bitOf (v (Reg.sensecfg_GRPCFG (c / 4))) 31)),
   (4, (List.range 12).all (fun c => !en c || v (Reg.sensecfg_CHGAIN c) != 0)),
   (5, decide (fld (v Reg.sensecfg_TEMPCFG) 7 0 ≤ 150))]

def rulesTbase (v : Nat → Word) : List (Nat × Bool) :=
  let p := fld (v Reg.tbase_PERIOD) 18 0
  [(1, decide (10000 ≤ p) && decide (p ≤ 400000)), (2, senseRule1 v p), (3, senseRule2 v p),
   (4, drvIds.all (fun n =>
     !bitOf (v (Reg.drv_PWMCTL n.val)) 31 || p % (2 * fld (v (Reg.drv_PWMCTL n.val)) 15 0) == 0))]

/-! AGREE, LINK, FLASH, GPO, WDOG. -/

def rulesAgree (d : Dev) (v : Nat → Word) : List (Nat × Bool) :=
  [(1, (List.range 12).all (fun c => decide (fld (v (Reg.agree_ACH c)) 2 0 ≤ 4))),
   (2, d.agr.released3 || (List.range 12).all (fun c => fld (v (Reg.agree_ACH c)) 2 0 != 1)),
   (3, decide (64 ≤ fld (v Reg.agree_CFG) 27 16))]

def rulesLink (v : Nat → Word) : List (Nat × Bool) :=
  let t := v Reg.link_TMR
  [(1, fld (v Reg.link_CFG) 5 4 != 3), (2, decide (1 ≤ tmrRepmax t)), (3, decide (tmrAckt t + 40 ≤ tmrTmo t)),
   (4, decide (tmrTmo t * (tmrRepmax t + 1) + 1000 ≤ 3000)),
   (5, decide (tmrAckt t + tmrTmo t ≤ tmrLostime t) && decide (tmrLostime t ≤ 2000))]

def rulesFlash (d : Dev) (v : Nat → Word) : List (Nat × Bool) :=
  let c := v Reg.flash_OPCTL
  let op := fld c 31 30
  let cls := fld c 29 28
  let cnt := fld c 12 0
  let dst := (v Reg.flash_DST).toNat
  let src := (v Reg.flash_SRC).toNat
  let len := if op = 1 then 32 * cnt else 4096 * cnt
  [(1, op == 0 || cls == 1 || cls == 2),
   (2, if op = 1 then dst % 32 == 0 else if op = 0 then true else dst % 4096 == 0),
   (3, op == 0 || (decide (dst + len ≤ 0x400000) && (cnt == 0 || dst / 0x200000 == (dst + len - 1) / 0x200000))),
   (4, op != 1 || (src % 32 == 0 && decide (0x20000000 ≤ src) && decide (src + 32 * cnt ≤ 0x200F0000))),
   (5, op == 0 || decide (1 ≤ cnt)), (6, !d.rbit Reg.flash_STAT 31),
   (7, decide (d.rfld (Reg.pgCaps 0x11) 3 0 ≤ fld (v Reg.flash_CFG) 3 0))]

def rulesGpo (v : Nat → Word) : List (Nat × Bool) :=
  let on := v Reg.gpo_ON
  [(1, (List.range 4).all (fun j => !(bitOf (v Reg.gpo_CFG) j && bitOf on (2 * j) && bitOf on (2 * j + 1)))),
   (2, (List.range 8).all (fun i => fld (v Reg.gpo_RBCFG) (2 * i + 1) (2 * i) != 3))]

def rulesWdog (v : Nat → Word) : List (Nat × Bool) :=
  let c := v Reg.wdog_CFG
  [(1, decide (1 ≤ fld c 11 0)), (2, decide (fld c 27 16 < fld c 11 0))]

/-! CAN. -/

/-- Bit times of NBTR and DBTR in CANCLK (R381). -/
def nbtOf (w : Word) : Nat := (fld w 9 0 + 1) * (1 + (fld w 24 17 + 1) + (fld w 16 10 + 1))
def dbtOf (w : Word) : Nat := (fld w 4 0 + 1) * (1 + (fld w 16 12 + 1) + (fld w 11 8 + 1))

/-- The conditions of rule 4 of R381 on a controller, whatever the source in use. -/
def canRule4 (v : Nat → Word) (n : Nat) : Bool :=
  decide (640 ≤ nbtOf (v (Reg.can_NBTR n))) && !bitOf (v (Reg.can_CFG n)) 2

def boundOk (sb dl : Word) : Bool :=
  decide (1 ≤ fld sb 31 16) && decide (fld sb 31 16 ≤ fld dl 31 16) && decide (1 ≤ fld sb 15 0)
  && decide (fld sb 15 0 ≤ fld dl 15 0)

/-- Rule 5 names FDOE, BRSE, LBK and MON: bits 1, 2, 5 and 3 of CFG. -/
def rulesCan (d : Dev) (v : Nat → Word) (n : Nat) : List (Nat × Bool) :=
  let cfg := v (Reg.can_CFG n)
  let nb := v (Reg.can_NBTR n)
  let db := v (Reg.can_DBTR n)
  let fdoe := bitOf cfg 1
  let brse := bitOf cfg 2
  let segs := 1 + (fld nb 24 17 + 1) + (fld nb 16 10 + 1)
  let dsegs := 1 + (fld db 16 12 + 1) + (fld db 11 8 + 1)
  let old := d.inForce (Reg.can_CFG n)
  [(1, decide (80 ≤ nbtOf nb) && decide (8 ≤ segs) && decide (fld nb 31 25 + 1 ≤ fld nb 16 10 + 1)),
   (2, !(fdoe && brse) || (decide (10 ≤ dbtOf db) && decide (dbtOf db ≤ nbtOf nb) && decide (5 ≤ dsegs)
       && decide (fld db 23 20 + 1 ≤ fld db 11 8 + 1))),
   (3, (!(brse && decide (dbtOf db < 40)) || bitOf (v (Reg.can_TDCR n)) 31) && (!brse || fdoe)),
   (4, d.rbit Reg.clk_STAT 0 || canRule4 v n),
   (5, !bitOf old 0 || (!d.changes (Reg.can_NBTR n) && !d.changes (Reg.can_DBTR n) && !d.changes (Reg.can_TDCR n)
       && fld cfg 3 1 == fld old 3 1 && bitOf cfg 5 == bitOf old 5)),
   (6, boundOk (v (Reg.can_TXSB n)) (v (Reg.can_TXDL n)) && boundOk (v (Reg.can_RXSB n)) (v (Reg.can_RXDL n))
       && decide (1 ≤ fld (v (Reg.can_GSB n)) 31 16) && decide (1 ≤ fld (v (Reg.can_GSB n)) 15 0))]

def rulesPart (v : Nat → Word) : List (Nat × Bool) :=
  let used (e : Nat) : Bool := fld (v (Reg.part_ENT e)) 31 30 != 0
  [(1, (List.range 128).all (fun e => !used e ||
     (decide (fld (v (Reg.part_ENT e)) 28 0 ≤ fld (v (Reg.part_IDHI e)) 28 0)
      && (bitOf (v (Reg.part_ENT e)) 29 || decide (fld (v (Reg.part_IDHI e)) 28 0 ≤ 0x7FF))))),
   (2, (List.range 128).all (fun e => !used e ||
     (decide (1 ≤ fld (v (Reg.part_TIM e)) 31 16)
      && (fld (v (Reg.part_TIM e)) 15 0 == 0 || decide (fld (v (Reg.part_TIM e)) 15 0 ≤ fld (v (Reg.part_TIM e)) 31 16)))))]

/-! PWR, LEDGER, CLK. -/

/-- H_jobs: what the admitted, unfinished jobs still hold (R407). -/
def Dev.hJobs (d : Dev) : Nat :=
  (d.ledger.jobs.filter (·.admitted)).foldl (fun s j => s + j.hold)
    (if d.now < d.ledger.planBusyUntil then d.ledger.planHold else 0)

/-- A transmit slot that is PENDING or ACTIVE with a frame of class `cls`. -/
def Dev.slotBusy (d : Dev) (n : CanId) (s : Nat) : Bool :=
  let st := d.rfld (Reg.can_SLOTST n.val s) 10 8
  st == 1 || st == 2

/-- The staged words of a slot. -/
def Dev.slotStg (d : Dev) (n : CanId) (s i : Nat) : Word :=
  match mapGet (fun _ => none) (d.canCh n).slots s with
  | some t => listGet 0 t.stg i
  | none => 0

def Dev.slotCls (d : Dev) (n : CanId) (s : Nat) : Nat := fld (d.slotStg n s 1) 7 6

def rulesPwr (d : Dev) (v : Nat → Word) : List (Nat × Bool) :=
  let req := fld (v Reg.pwr_REQ) 1 0
  let wk := v Reg.pwr_WAKECFG
  let run := req == 0
  [(1, req != 3), (2, run || d.pstate == 1),
   (3, run || (drvIds.all (fun n => fld (v (Reg.drv_MODECTL n.val)) 1 0 == 0)
       && fanIds.all (fun i => fld (v (Reg.fan_CFG i.val)) 1 0 == 0) && v Reg.gpo_ON == 0)),
   (4, run || (d.hJobs == 0 && d.ledger.jobs.all (·.admitted) && !d.rbit Reg.flash_STAT 31)),
   (5, run || canIds.all (fun n => (List.range 48).all (fun s => !(d.slotBusy n s && d.slotCls n s == 0)))),
   (6, if req = 1 then bitOf wk 0 || bitOf wk 2 || bitOf wk 3 || bitOf wk 4 else if req = 2 then bitOf wk 0 else true),
   (7, !d.puffActive)]

/-- Word `w` of ride-through step `k` (R416). -/
def stepKey (k w : Nat) : Nat := Reg.ledger_STEP (4 * k + w)

def rulesLedger (d : Dev) (v : Nat → Word) : List (Nat × Bool) :=
  let ml := v Reg.ledger_MLCFG
  let vmin := fld (v Reg.ledger_VMIN) 15 0
  let pc := v Reg.ledger_PLANCTL
  let n := fld pc 19 16
  let op (k : Nat) : Nat := fld (v (stepKey k 0)) 3 0
  let adr (k : Nat) : Nat := (v (stepKey k 2)).toNat
  [(1, decide (4000 ≤ vmin) && v Reg.ledger_CAPNF != 0),
   (2, (fld ml 15 0 == 0 || (decide (vmin < fld ml 15 0) && decide (fld ml 15 0 < fld ml 31 16)))
       && decide (1 ≤ fld (v Reg.ledger_MLFILT) 7 0)),
   (3, decide (n ≤ 16) && (List.range n).all (fun k => decide (op k ≤ 3) && decide (fld (v (stepKey k 0)) 5 4 ≤ 1))),
   (4, (List.range n).all (fun k => op k != 1 || (adr k % 4 == 0 && isPages (adr k)))),
   (5, (List.range n).all (fun k => op k != 3 || k + 1 == n)),
   (6, !d.planExec || (!d.changes Reg.ledger_PLANCTL && (List.range 64).all (fun i => !d.changes (Reg.ledger_STEP i)))),
   (7, decide (fld (v Reg.ledger_CVCTL) 23 16 ≤ 50))]

def rulesClk (d : Dev) (v : Nat → Word) : List (Nat × Bool) :=
  let c := v Reg.clk_CFG
  let xf := fld c 31 16
  let n := fld c 15 8
  let m := fld c 3 1
  let old := d.inForce Reg.clk_CFG
  [(1, decide (8000 ≤ xf) && decide (xf ≤ 32000) && decide (8 ≤ n) && decide (n ≤ 200) && decide (1 ≤ m) && decide (m ≤ 8)),
   (2, xf * n == 400000 * m),
   (3, (xf == fld old 31 16 && n == fld old 15 8 && m == fld old 3 1) || !d.rbit Reg.clk_STAT 0),
   (4, bitOf c 0 || canIds.all (fun i => !bitOf (v (Reg.can_CFG i.val)) 0 || canRule4 v i.val))]

/-! Drives and fans. -/

/-- The vector of the committed mode for the target frame (R312). `entering` says that IF is entered at the tick. -/
def Dev.newVec (d : Dev) (n : DrvId) (v : Nat → Word) (mode : Nat) : Vec :=
  let k := n.val
  let old := d.rfld (Reg.drv_MODECTL k) 1 0
  let theta :=
    if old = 2 then (d.drive n).theta + ifIncNext (d.drive n).inc (v (Reg.drv_IFACC k)) (v (Reg.drv_IFINCLIM k))
    else v (Reg.drv_IFANG0 k)
  (sourceVec mode (v (Reg.drv_VDQ k)) (v (Reg.drv_VCL k)) (v (Reg.drv_ALANG k)) theta).1

def rulesDrv (d : Dev) (v : Nat → Word) (n : DrvId) : List (Nat × Bool) :=
  let k := n.val
  let pc := v (Reg.drv_PWMCTL k)
  let en := bitOf pc 31
  let hp := fld pc 15 0
  let dt := v (Reg.drv_DTCTL k)
  let of := fld (v (Reg.drv_PHOFS k)) 16 0
  let mode := fld (v (Reg.drv_MODECTL k)) 1 0
  let old := d.rfld (Reg.drv_MODECTL k) 1 0
  let lim := (v (Reg.drv_IFINCLIM k)).toNat
  [(1, !en || (decide (400 ≤ hp) && decide (hp ≤ 40000))), (2, decide (fld dt 15 0 + 32 * fld dt 31 24 ≤ 8 * hp)),
   (3, decide (8 ≤ of) && decide (of < 2 * hp)),
   (4, !en || fld (v Reg.tbase_PERIOD) 18 0 % (2 * hp) == 0),
   (5, mode == 0 || (en && d.rfld (Reg.drv_TSTAT k) 7 0 == 0)),
   (6, mode == old || mode == 0 || old == 0 ||
       guardPasses (d.newVec n v mode) (vecOf (d.reg (Reg.drv_VAPP k))) (fld (v (Reg.drv_HOVLIM k)) 14 0)),
   (7, !d.rbit (Reg.drv_MSTAT k) 2 || mode == old),
   (8, old == 0 || (!d.changes (Reg.drv_PWMCTL k) && !d.changes (Reg.drv_DTCTL k) && !d.changes (Reg.drv_PHOFS k)
       && !d.changes (Reg.drv_GATECFG k) && !d.changes (Reg.drv_TRIPCFG k))),
   (9, decide (lim ≤ 0x40000000) && decide (wordAbs (v (Reg.drv_IFINC0 k)) ≤ lim))]

def fanRule (d : Dev) (v : Nat → Word) (i r : Nat) : Bool :=
  let c := v (Reg.fan_CFG i)
  let old := d.inForce (Reg.fan_CFG i)
  let dl := v (Reg.fan_DLIM i)
  let st := d.rfld (Reg.fan_STAT i) 2 0
  match r with
  | 1 => fld c 1 0 != 3
  | 2 => decide (1 ≤ fld c 11 8) && decide (fld dl 15 0 ≤ fld dl 31 16) && decide (1 ≤ fld (v (Reg.fan_STALL i)) 15 0)
  | 3 => !(bitOf c 3 || bitOf c 5) || decide (1 ≤ fld (v (Reg.fan_RETRY i)) 15 8)
  | 4 => decide (fld c 15 12 ≤ 11) || fld c 15 12 == 15
  | 5 => fld (d.reg (Reg.fan_CFG i)) 1 0 == 0 ||
         (bitOf c 2 == bitOf old 2 && fld c 11 8 == fld old 11 8 && fld c 15 12 == fld old 15 12)
  | _ => fld c 1 0 == 0 || !(st == 4 || st == 5)

def rulesFan (d : Dev) (v : Nat → Word) : List (Nat × Bool) :=
  [1, 2, 3, 4, 5, 6].map (fun r => (r, (List.range 4).all (fun i => fanRule d v i r)))

/-! The check. -/

/-- Every numbered rule of page `p` with whether it holds now. -/
def Dev.pageRules (d : Dev) (p : Nat) : List (Nat × Bool) :=
  let v := d.judge p
  match p with
  | 2 => rulesLedger d v
  | 3 => rulesPwr d v
  | 4 => rulesClk d v
  | 7 => rulesTbase v
  | 9 => rulesAgree d v
  | 10 => rulesSense v
  | 13 => rulesLink v
  | 0x11 => rulesFlash d v
  | 0x15 => rulesDrv d v 0
  | 0x16 => rulesDrv d v 1
  | 0x17 => rulesDrv d v 2
  | 0x19 => rulesFan d v
  | 0x1B => rulesCan d v 0
  | 0x1C => rulesCan d v 1
  | 0x1D => rulesPart v
  | 0x1E => rulesGpo v
  | 0x1F => rulesWdog v
  | _ => []

/-- The lowest-numbered rule that fails; 0 if every rule holds (R44, R45). -/
def firstFailing : List (Nat × Bool) → Nat
  | [] => 0
  | (n, ok) :: rs => if ok then firstFailing rs else n

end Sys2Proof.Machine
end

