-- ==== Sys2Proof/Machine/View.lean ====
section
/-! DEFINITION. Machine/View.lean: what a read of a register returns (R13, R14, R42, R43, R68): the values that
are formed from other state at the read, SHVIEW, the banks per world; the page guards (R57, R58) and split reads
(R55). -/

namespace Sys2Proof.Machine

open Sys2Proof

/-! Values formed at the read. -/

/-- CEFF (R405). -/
def Dev.ceff (d : Dev) : Nat :=
  let cap := (d.reg Reg.ledger_CAPNF).toNat
  let meas := (d.reg Reg.ledger_CMEAS).toNat
  if meas = 0 then cap else min cap meas

/-- H_plan: the ENERGY of the guard steps of the armed plan that have not started (R407). -/
def Dev.hPlan (d : Dev) : Nat :=
  let pc := d.reg Reg.ledger_PLANCTL
  if bitOf pc 0 then
    ((List.range (fld pc 19 16)).filter (fun k => fld (d.reg (stepKey k 0)) 5 4 == 0 && (!bitOf pc 4 || decide (d.ledger.planNext ≤ k)))).foldl
      (fun s k => s + (d.reg (stepKey k 1)).toNat) 0
  else 0

/-- F of a class: 0 guard, 1 timely, 2 bulk, in nJ (R407). -/
def Dev.freeOf (d : Dev) (cls : Nat) : Int :=
  let g : Int := (d.ledger.e : Int) - d.hJobs - d.hPlan
  let t := g - 1000 * d.rfld Reg.ledger_RES 15 0
  if cls = 0 then g else if cls = 1 then t else t - 1000 * d.rfld Reg.ledger_RES 31 16

/-- A page is requesting while (PG_EVT AND PG_EVTEN) is not zero (R168). -/
def Dev.requesting (d : Dev) (p : Nat) : Bool := (d.reg (Reg.pgEvt p) &&& d.reg (Reg.pgEvten p)) != 0

def pageBits (f : Nat → Bool) : List Nat → Nat
  | [] => 0
  | p :: ps => (if f p then 2 ^ p else 0) + pageBits f ps

/-- The pages requesting now, bit per page. -/
def Dev.reqBits (d : Dev) : Nat := pageBits d.requesting (List.range 64)

/-- Entries that hold a request of copy `c` in its compare queue (R299). -/
def Dev.queued (d : Dev) (c : CopyId) : Nat := (d.cmp.filter (fun e => (e.arr.get c).isSome)).length

def Dev.rxHeld (d : Dev) (n : CanId) (cls : Nat) : Nat := ((d.canCh n).rx.filter (fun x => x.cls.toNat == cls)).length

def lo32 (n : Nat) : Word := toWord (n % 2 ^ 32)
def hi32 (n : Nat) : Word := toWord (n / 2 ^ 32)

/-- RELEASE.LATCH with the drives' bits and TREQ, which follow TSTAT (R299, R323). -/
def Dev.latchView (d : Dev) : Word :=
  let drv (n : Nat) : Bool := let t := d.reg (Reg.drv_TSTAT n); fld t 5 2 != 0 || bitOf t 0
  let treq (n : Nat) : Bool := d.rbit (Reg.drv_TSTAT n) 1
  setBit (setBit (setBit (setBit (d.reg Reg.release_LATCH) 1 (drv 0)) 2 (drv 1)) 3 (drv 2)) 16 (treq 0 || treq 1 || treq 2)

/-- TRIP.STATE, the copies of MSTAT.TSTATE and MSTAT.TRIPPED (R333 table). -/
def Dev.tripState (d : Dev) : Word :=
  drvIds.foldl (fun w n =>
    let m := d.reg (Reg.drv_MSTAT n.val)
    setBit (setFld w (2 * n.val + 1) (2 * n.val) (fld m 5 4)) (8 + n.val) (bitOf m 3)) 0

def bitsOf (f : Nat → Bool) : List Nat → Nat
  | [] => 0
  | i :: is => (if f i then 2 ^ i else 0) + bitsOf f is

/-- FREE_T, signed and saturating (R407). -/
def Dev.freeT (d : Dev) : Word := intWord (satS 32 (d.freeOf 1))

/-- The registers that are formed from other state; every other register is read where it is stored. -/
def Dev.formed (d : Dev) (k : Nat) : Option Word :=
  if k = Reg.tbase_TIME_LO then some (lo32 d.time.toNat)
  else if k = Reg.tbase_TIME_HI then some (hi32 d.time.toNat)
  else if k = Reg.tbase_FRNUM_LO then some (lo32 d.frnum.toNat)
  else if k = Reg.tbase_FRNUM_HI then some (hi32 d.frnum.toNat)
  else if k = Reg.tbase_TICKT_LO then some (lo32 d.tickt.toNat)
  else if k = Reg.tbase_TICKT_HI then some (hi32 d.tickt.toNat)
  else if k = Reg.tbase_FRPOS then some (if d.frames then toWord ((d.now - d.tickt.toNat) % 2 ^ 19) else 0)
  else if k = Reg.irqd_REQ_LO then some (lo32 d.reqBits)
  else if k = Reg.irqd_REQ_HI then some (hi32 d.reqBits)
  else if k = Reg.cmp_QSTAT then some (toWord (d.queued 0 + d.queued 1 * 0x100 + d.queued 2 * 0x10000))
  else if k = Reg.release_LATCH then some d.latchView
  else if k = Reg.trip_STATE then some d.tripState
  else if k = Reg.ledger_E_LO then some (lo32 d.ledger.e)
  else if k = Reg.ledger_E_HI then some (hi32 d.ledger.e)
  else if k = Reg.ledger_HOLD then some (toWord (satU 32 (d.hJobs + d.hPlan)))
  else if k = Reg.ledger_FREE_T then some d.freeT
  else if k = Reg.ledger_CEFF then some (toWord d.ceff)
  else if k = Reg.pgStat 2 then
    some (setBit (setBit (setBit (d.reg k) 0 (d.reg Reg.ledger_CMEAS == 0)) 1 (decide (d.freeOf 1 < 0))) 2 d.planExec)
  else if k = Reg.gpo_STAT then some (toWord (bitsOf (fun i => (d.gpoCh i).on) (List.range 8)))
  else if k = Reg.gpo_RB then
    some (toWord (bitsOf (fun i => (d.gpoCh i).drain) (List.range 8) + 0x100 * bitsOf d.gpoMis (List.range 8)))
  else if k = Reg.can_RXSTAT 0 then some (toWord (d.rxHeld 0 0 + d.rxHeld 0 1 * 0x100 + d.rxHeld 0 2 * 0x10000))
  else if k = Reg.can_RXSTAT 1 then some (toWord (d.rxHeld 1 0 + d.rxHeld 1 1 * 0x100 + d.rxHeld 1 2 * 0x10000))
  else none

/-- FAN STAT with the duty applied (R360 table). -/
def Dev.fanFormed (d : Dev) (k : Nat) : Option Word :=
  match fanIds.find? (fun i => k == Reg.fan_STAT i.val) with
  | some i => some (setFld (d.reg k) 31 16 (d.fanDuty i))
  | none => none

/-- LINKx.STAT with INSVC and HUNACK, and LINKx.GRANT (R141). -/
def Dev.linkFormed (d : Dev) (c : CopyId) (k : Nat) : Option Word :=
  if k = Reg.linkx_STAT c.val then
    some (setFld (setBit (d.reg k) 24 (d.inSvc c)) 11 0 (d.link c).side.unacked.length)
  else if k = Reg.linkx_GRANT c.val then
    some (toWord ((d.link c).grant % 65536 * 65536 + (d.link c).received % 65536))
  else none

/-- The applied value that a read forms or finds, in the bank of world `w` where the register has one (R365, R374). -/
def Dev.applied (d : Dev) (w : World) (k : Nat) : Word :=
  match d.formed k with
  | some v => v
  | none =>
    match [d.fanFormed k, d.linkFormed 0 k, d.linkFormed 1 k, d.linkFormed 2 k].find? Option.isSome with
    | some (some v) => v
    | _ => d.bankReg w k

/-- A page that is reserved, or LINKC on JMD-2 (R42). -/
def Dev.absentPage (d : Dev) (p : Nat) : Bool := pageType p == 0 || (p == 0x10 && d.variant != 3)

/-- What a permitted read of register `k` returns (R13, R14, R42, R43, R68). -/
def Dev.view (d : Dev) (w : World) (k : Nat) : Word :=
  if d.absentPage (k / 0x1000) then 0
  else
    let v := d.applied w k
    let s := if d.rbit (Reg.pgCtrl (k / 0x1000)) 31 then mergeMask (shMask k) (d.shad k) v else v
    s &&& ~~~(toWord (woMask k))

/-! Guards. -/

def srcWorld : Src → World
  | .copies w _ => w
  | _ => .iron

def srcRing : Src → Nat
  | .copies _ r => r.val
  | _ => 0

/-- The permission bit of a world and ring; none for Tin rings 1 and 2 (R57). -/
def guardBit : World → Nat → Option Nat
  | .iron, r => some r
  | .tin, 0 => some 4
  | .tin, 3 => some 5
  | .tin, _ => none

/-- GUARD.ACCp; ACC20 is fixed at Iron ring 0 (R58). -/
def Dev.guardAcc (d : Dev) (p : Nat) : Word := if p = 0x14 then 0x101 else d.reg (Reg.guard_ACC p)

/-- The page guard lets the access pass (R57). Puffball and the hub's own machinery act as Iron ring 0. -/
def Dev.guardOk (d : Dev) (p : Nat) (src : Src) (write : Bool) : Bool :=
  match guardBit (srcWorld src) (srcRing src) with
  | some b => bitOf (d.guardAcc p) (b + if write then 8 else 0)
  | none => false

/-- GUARD_DENY (R57, R64): NEW the attempted value or 0, PREV the requester's world and ring (assumption 10). -/
def Dev.deny (d : Dev) (p off : Nat) (src : Src) (srcNo : Nat) (v : Word) : Dev :=
  d.jlog 0x0D p off srcNo v (toWord (worldNat (srcWorld src) * 4 + srcRing src))

/-! Split reads. -/

/-- The _LO registers of the pairs (R55, R171, R416 table, 04, 05, 13, 15). -/
def pairLos : List Nat :=
  [Reg.tbase_TIME_LO, Reg.tbase_FRNUM_LO, Reg.tbase_TICKT_LO, Reg.irqd_ROUTE_LO, Reg.irqd_REQ_LO, Reg.irqd_DLVD_LO,
   Reg.agree_DRP_LO, Reg.ledger_E_LO, Reg.ledger_ML_LO, Reg.ledger_ECNT 0, Reg.ledger_ECNT 2, Reg.ledger_ECNT 4,
   Reg.ledger_ECNT 6, Reg.dbg_HALT_LO, Reg.can_TXFIN_LO 0, Reg.can_TXFIN_LO 1]

def isPairLo (k : Nat) : Bool := pairLos.contains k
def isPairHi (k : Nat) : Bool := decide (4 ≤ k) && pairLos.contains (k - 4)

/-- The requester of a snapshot: the Iron world, the Tin world, JTAG (R55). -/
def snapKey (lo : Nat) (src : Src) : Nat :=
  lo * 4 + (match src with | .copies .iron _ => 0 | .copies .tin _ => 1 | .jtag => 2 | _ => 3)

def snapDflt (_ : Nat) : Snap := ⟨false, 0⟩

def Dev.snap (d : Dev) (lo : Nat) (src : Src) : Snap := mapGet snapDflt d.pages.snaps (snapKey lo src)
def Dev.setSnap (d : Dev) (lo : Nat) (src : Src) (s : Snap) : Dev :=
  { d with pages := { d.pages with snaps := mapPut snapDflt d.pages.snaps (snapKey lo src) s } }

/-- A permitted read: its value, and what it does to the snapshot of its pair (R55). -/
def Dev.readReg (d : Dev) (src : Src) (k : Nat) : Word × Dev :=
  let w := srcWorld src
  if isPairLo k then (d.view w k, d.setSnap k src ⟨true, d.view w (k + 4)⟩)
  else if isPairHi k then
    let s := d.snap (k - 4) src
    let d1 := d.setSnap (k - 4) src ⟨false, s.hi⟩
    (s.hi, if s.armed then d1 else d1.evt (k / 0x1000) 31)
  else (d.view w k, d)

/-- A read of `off` of page `p` under its guard: value, status byte, device (R42, R57). -/
def Dev.pageRead (d : Dev) (src : Src) (p off : Nat) : Word × Byte × Dev :=
  if d.guardOk p src false then
    let r := d.readReg src (p * 0x1000 + off)
    (r.1, 0, r.2)
  else (0, 0x16, d.deny p off src (srcCode src) 0)

end Sys2Proof.Machine
end

