-- ==== Sys2Proof/Machine/AgreeOps.lean ====
section
/-! DEFINITION. Machine/AgreeOps.lean: the exchanges, the agreement rules, the agreement window and the deliveries
(R149 to R169). -/

namespace Sys2Proof.Machine

open Sys2Proof

/-! The rules. -/

/-- A value present, with its copy. -/
structure Present where
  copy : CopyId
  y : Int
deriving DecidableEq, Repr

/-- `p` before every value that is larger, behind equal ones of earlier letters. -/
def insPresent (p : Present) : List Present → List Present
  | [] => [p]
  | q :: qs => if q.y ≤ p.y then q :: insPresent p qs else p :: q :: qs

/-- The values sorted, equal ones by copy letter. -/
def sortPresent (ps : List Present) : List Present := ps.foldl (fun a p => insPresent p a) []

/-- What a rule gives: the value (none is HOLD), MISS, the copies that formed it, the outlier. -/
structure Agreed1 where
  val : Option Int
  miss : Bool
  formed : List CopyId
  outlier : Option CopyId
deriving DecidableEq, Repr

/-- MEAN (R152). -/
def ruleMean (tol : Int) (vs : List Present) : Agreed1 :=
  match vs with
  | [v1, v2, v3] =>
    if v3.y - v1.y ≤ tol then ⟨some (rneDiv (v1.y + v2.y + v3.y) 3), false, [v1.copy, v2.copy, v3.copy], none⟩
    else if v2.y - v1.y ≤ tol ∧ tol < v3.y - v2.y then
      ⟨some (rneDiv (v1.y + v2.y) 2), false, [v1.copy, v2.copy], some v3.copy⟩
    else if v3.y - v2.y ≤ tol ∧ tol < v2.y - v1.y then
      ⟨some (rneDiv (v2.y + v3.y) 2), false, [v2.copy, v3.copy], some v1.copy⟩
    else if v2.y - v1.y ≤ tol ∧ v3.y - v2.y ≤ tol then ⟨some v2.y, true, [v2.copy], none⟩
    else ⟨none, true, [], none⟩
  | [v1, v2] =>
    if v2.y - v1.y ≤ tol then ⟨some (rneDiv (v1.y + v2.y) 2), false, [v1.copy, v2.copy], none⟩ else ⟨none, true, [], none⟩
  | _ => ⟨none, true, [], none⟩

/-- MEDIAN (R152). -/
def ruleMedian (tol : Int) (vs : List Present) : Agreed1 :=
  match vs with
  | [_, v2, _] => { ruleMean tol vs with val := some v2.y, formed := [v2.copy] }
  | _ => ruleMean tol vs

/-- The value of the lowest-lettered copy. -/
def firstLetter : List Present → Option Present
  | [] => none
  | p :: ps => match firstLetter ps with
    | some q => if q.copy < p.copy then some q else some p
    | none => some p

/-- FIRST (R152); `absent` says that a copy in service did not deliver. -/
def ruleFirst (tol : Int) (absent : Bool) (vs : List Present) : Agreed1 :=
  match firstLetter vs with
  | none => ⟨none, true, [], none⟩
  | some p =>
    let far := vs.any (fun v => decide (tol < (v.y - p.y).natAbs))
    ⟨some p.y, if vs.length = 1 then absent else far, [p.copy], none⟩

/-- MIN and MAX (R152). Every value present forms the result (R158; the worked example's W6). -/
def ruleEnd (max : Bool) (tol : Int) (absent : Bool) (vs : List Present) : Agreed1 :=
  match vs.head?, vs.getLast? with
  | some lo, some hi =>
    let p := if max then hi else lo
    ⟨some p.y, vs.length == 1 || absent || decide (tol < hi.y - lo.y), vs.map (·.copy), none⟩
  | _, _ => ⟨none, true, [], none⟩

/-- The rule of a channel on its sorted values (R152). -/
def applyRule (rule : Nat) (tol : Int) (absent : Bool) (vs : List Present) : Agreed1 :=
  match rule with
  | 0 => ruleMean tol vs
  | 1 => ruleMedian tol vs
  | 2 => ruleFirst tol absent vs
  | 3 => ruleEnd false tol absent vs
  | _ => ruleEnd true tol absent vs

/-- One time field of a digital record (R153): the agreed time and MISS. -/
def agreeTime (tol : Nat) (ts : List Nat) : Nat × Bool :=
  let vs := sortPresent (ts.map (fun (t : Nat) => ⟨0, (t : Int)⟩))
  match vs with
  | [v1, v2] => if v2.y - v1.y ≤ tol then ((rneDiv (v1.y + v2.y) 2).toNat, false) else (v1.y.toNat, true)
  | [v1, v2, v3] => if v3.y - v1.y ≤ tol then (v2.y.toNat, false) else (v1.y.toNat, true)
  | v1 :: _ => (v1.y.toNat, false)
  | [] => (0, true)

def allSame {α : Type} [DecidableEq α] : List α → Bool
  | [] => true
  | x :: xs => xs.all (fun y => y == x)

/-- The agreed record of a digital input and MISS, from the records present in letter order (R153). -/
def agreeDin (orRule : Bool) (tol : Nat) (rs : List DinRec) : DinRec × Bool :=
  match rs with
  | [] => (emptyRec, true)
  | [r] => (r, true)
  | r :: _ =>
    let lvls := rs.map DinRec.lvl
    let lvl := if orRule then lvls.any id else lvls.all id
    let cnts := rs.map (fun (r : DinRec) => r.cnt.toNat)
    if !allSame cnts then
      let c := if orRule then cnts.foldl max 0 else cnts.foldl min 7
      ({ emptyRec with lvl := lvl, cnt := BitVec.ofNat 3 c }, true)
    else
      let f := agreeTime tol (rs.map (fun (r : DinRec) => r.ftime.toNat))
      let l := agreeTime tol (rs.map (fun (r : DinRec) => r.ltime.toNat))
      let pol := !allSame (rs.map DinRec.fpol) || !allSame (rs.map DinRec.lpol)
      (⟨lvl, r.cnt, r.fpol, r.lpol, BitVec.ofNat 19 f.1, BitVec.ofNat 19 l.1⟩, !allSame lvls || pol || f.2 || l.2)

/-! The window. -/

/-- The bank of the current frame (R157). -/
def Dev.bankBase (d : Dev) : Nat := 0x28000000 + (if d.frnum.getLsbD 0 then 0x800 else 0)

def Dev.winWord (d : Dev) (i : Nat) : Word := d.word (d.bankBase + 4 * i)
def Dev.setWin (i : Nat) (w : Word) (d : Dev) : Dev := d.putWord (d.bankBase + 4 * i) w

def Dev.bankBusyNow (d : Dev) : Bool := if d.frnum.getLsbD 0 then d.agr.bankBusy.b else d.agr.bankBusy.a

/-- A SENSECFG value in force in the current frame. -/
def Dev.senseNow (d : Dev) (k : Nat) : Word := mapGet regReset (d.cfgFor d.frnum.toNat) k

def Dev.grpOn (d : Dev) (g : Nat) : Bool := bitOf (d.senseNow (Reg.sensecfg_GRPCFG g)) 31
def Dev.chOn (d : Dev) (c : Nat) : Bool := bitOf (d.senseNow (Reg.sensecfg_CHZERO c)) 31
def Dev.dinOn (d : Dev) : Bool := bitOf (d.senseNow Reg.sensecfg_DINCFG) 31
def Dev.edgeOn (d : Dev) (i : Nat) : Bool := fld (d.senseNow Reg.sensecfg_DEDGE) (2 * i + 1) (2 * i) != 0

/-- The first exchange of the frame closes (R159, R160): the frame is skipped, or W0, W3 and W1 are written. Words of
groups that are off are zero (R158). -/
def Dev.winOpen (d : Dev) : Dev :=
  if d.agr.written || d.agr.skip then d
  else if d.bankBusyNow then (d.updAgr (fun a => { a with skip := true })).count Reg.agree_SKIP 1
  else
    let gen := (d.genFor d.frnum.toNat).toNat
    let d1 := ((d.setWin 0 d.frame32).setWin 3 (lo32 d.tickt.toNat)).setWin 1
      (toWord (gen + d.rfld Reg.sys_SVCLVL 10 8 * 0x1000))
    let d2 := d1.setWin 2 0
    let d3 := Dev.each (fun c d => if d.grpOn (c / 4) then d else d.setWin (4 + c) 0) (List.range 12) d2
    let d4 := if d3.dinOn then d3 else Dev.each (fun i d => d.setWin (16 + i) 0) (List.range 24) d3
    d4.updAgr (fun a => { a with written := true })

/-- Every group that DLVMASK selects is agreed or off (R168). -/
def Dev.agrReady (d : Dev) : Bool :=
  let m := d.rfld Reg.agree_CFG 3 0
  let w1 := d.winWord 1
  m != 0 && (List.range 4).all (fun b =>
    m / 2 ^ b % 2 == 0 || bitOf w1 (8 + b) || !(if b = 3 then d.dinOn else d.grpOn b))

/-- The AGREED message of the current frame (R167). -/
def Dev.agreedMsg (d : Dev) : AgreedMsg :=
  let w2 := d.winWord 2
  let w1 := d.winWord 1
  ⟨d.winWord 0, w1.extractLsb' 0 8, w2.extractLsb' 0 12, w2.extractLsb' 16 12, w1.extractLsb' 8 4⟩

/-- AGR of the frame becomes pending once (R168), and its bank stays busy until the delivery is confirmed (R160). -/
def Dev.agrCheck (d : Dev) : Dev :=
  if d.agr.written && !d.agr.agrDone && d.agrReady then
    d.updAgr (fun a => { a with
      agrDone := true, agrPend := a.agrPend ++ [(d.frnum, d.agreedMsg)],
      bankBusy := if d.frnum.getLsbD 0 then { a.bankBusy with b := true } else { a.bankBusy with a := true } })
  else d

/-- W2 takes the MISS bits and W1 the group's bit (R159). -/
def Dev.winClose (d : Dev) (missMask miss bit : Nat) : Dev :=
  if !d.agr.written then d
  else
    let w2 := (d.winWord 2).toNat
    let d1 := d.setWin 2 (toWord (w2 - (w2 &&& missMask) + miss))
    (d1.setWin 1 (setBit (d1.winWord 1) bit true)).agrCheck

/-! Miss counts. -/

/-- The AGREE settings in force for the exchanges of this frame (R154): CFG, DCFG, then ACH0 to ACH11. -/
def Dev.agreeRule (d : Dev) (i : Nat) : Word := listGet 0 d.agr.rules i
def Dev.agreeSettings (d : Dev) : List Word :=
  d.reg Reg.agree_CFG :: d.reg Reg.agree_DCFG :: (List.range 12).map (fun c => d.reg (Reg.agree_ACH c))

/-- MISSLIM of channel `ch` (0 to 11 analog, 12 to 23 digital). -/
def Dev.missLim (d : Dev) (ch : Nat) : Nat :=
  if ch < 12 then fld (d.agreeRule (2 + ch)) 19 16 else fld (d.agreeRule 1) 27 24

def missReg (ch : Nat) : Nat := if ch < 12 then Reg.agree_MCNT ch else Reg.agree_DMCNT (ch - 12)

/-- A channel's MISS in this frame (R155): TOTAL, the consecutive count, and the fault that becomes due. -/
def Dev.missCount (ch : Nat) (miss : Bool) (d : Dev) : Dev :=
  let k := missReg ch
  let lim := d.missLim ch
  if !miss then d.setFldR k 3 0 0
  else
    let old := d.rfld k 3 0
    let cons := if lim = 0 then satU 4 (old + 1) else if old < lim then old + 1 else old
    let d1 := (d.setFldR k 31 8 (satU 24 (d.rfld k 31 8 + 1))).setFldR k 3 0 cons
    if lim ≠ 0 ∧ old < lim ∧ cons = lim then d1.updAgr (fun a => { a with plDue := listSet a.plDue ch true }) else d1

/-- Copy `c` was an outlier of the channel, or delivered nothing (R156). -/
def Dev.outlCount (ch : Nat) (c : CopyId) (out : Bool) (d : Dev) : Dev :=
  d.updAgr (fun a =>
    let l := a.outl.get c
    { a with outl := a.outl.set c (listSet l ch (if out then listGet 0 l ch + 1 else 0)) })

/-- A copy's message of an exchange came or is missing (R27, R156). -/
def Dev.msgCount (c : CopyId) (missing : Bool) (d : Dev) : Dev :=
  if missing then
    (d.count (Reg.agree_MSGMISS c.val) 1).updAgr (fun a => { a with msgMissing := a.msgMissing.upd c (· + 1) })
  else d.updAgr (fun a => { a with msgMissing := a.msgMissing.set c 0 })

/-! Closing an exchange. -/

def Dev.aMsg (d : Dev) (g : GroupId) (c : CopyId) : Option SampleMsg := (d.agr.msgs.get c).get g

/-- The word of an analog channel (R158). -/
def ainWord (a : Agreed1) (held : Half) (sat clip msng : Bool) : Word :=
  let v := match a.val with | some y => wrapU 16 y | none => held.toNat
  toWord (v + boolNat a.miss * 0x10000 + boolNat sat * 0x20000 + boolNat clip * 0x40000 + boolNat a.val.isNone * 0x80000
    + maskOf a.formed * 0x100000 + boolNat msng * 0x800000)

/-- One analog channel of a closing exchange: its rule, its counts, its word. Returns the device and MISS. -/
def Dev.closeChannel (g : GroupId) (j : Nat) (x : Dev × Nat) : Dev × Nat :=
  let d := x.1
  let ch := 4 * g.val + j
  if !d.chOn ch then ((if d.agr.written then d.setWin (4 + ch) 0 else d), x.2)
  else
    let got := d.svcCopies.filter (fun c => (d.aMsg g c).isSome)
    let absent := decide (got.length < d.svcCopies.length)
    let msgs := got.filterMap (fun c => d.aMsg g c)
    let vs := sortPresent (got.filterMap (fun c => (d.aMsg g c).map (fun m => (⟨c, sext 16 (fourGet m.y j).toNat⟩ : Present))))
    let r := d.agreeRule (2 + ch)
    let a := applyRule (fld r 2 0) (fld r 15 4 : Nat) absent vs
    let held := (listGet none d.agr.lastVal ch).getD 0
    let w := ainWord a held (msgs.any (fun m => fourGet m.sat j)) (msgs.any (fun m => fourGet m.clip j)) absent
    let d1 := d.updAgr (fun y => { y with lastVal := match a.val with
      | some v => listSet y.lastVal ch (some (BitVec.ofNat 16 (wrapU 16 v))) | none => y.lastVal })
    let d2 := Dev.each (fun c d => (d.outlCount ch c (a.outlier == some c || (d.aMsg g c).isNone)).count
      (Reg.agree_OUTL c.val) (boolNat (a.outlier == some c))) d1.svcCopies d1
    let d3 := d2.missCount ch a.miss
    ((if d3.agr.written then d3.setWin (4 + ch) w else d3), x.2 + boolNat a.miss * 2 ^ ch)

/-- The exchange of group `g` closes (R149, R151, R152, R159). -/
def Dev.closeAnalog (d : Dev) (g : GroupId) : Dev :=
  let d0 := d.winOpen
  let d1 := Dev.each (fun c d => d.msgCount c (d.aMsg g c).isNone) d0.svcCopies d0
  let r := [0, 1, 2, 3].foldl (fun x j => Dev.closeChannel g j x) (d1, 0)
  let d2 := r.1.winClose (15 * 16 ^ g.val) r.2 (8 + g.val)
  d2.updAgr (fun a => { a with aOpen := a.aOpen.set g false })

/-- The record of input `i` in a copy's digital message. -/
def dinRecord (s : DinSlot) (i : Nat) : Option DinRec :=
  let p := match i / 4 with | 0 => s.p0 | 1 => s.p1 | _ => s.p2
  p.map (fun m => fourGet m.recs (i % 4))

/-- The three flits of a copy's digital message are there, with equal FRAME and GEN (R109). -/
def DinSlot.whole (s : DinSlot) : Bool :=
  match s.p0, s.p1, s.p2 with
  | some a, some b, some c => a.frame == b.frame && b.frame == c.frame && a.gen == b.gen && b.gen == c.gen
  | _, _, _ => false

def Dev.dinGot (d : Dev) (c : CopyId) : Bool := (d.agr.din.get c).whole

/-- The tach check of a channel takes the agreed count of its input (R348). -/
def Dev.fanAdd (j : Nat) (cnt : Nat) (miss : Bool) (i : FanId) (d : Dev) : Dev :=
  if d.rfld (Reg.fan_CFG i.val) 15 12 = j then
    d.updFan i (fun f => { f with hcnt := f.hcnt + f.edgesPrev, ccnt := f.ccnt + cnt, nwin := f.nwin + 1,
                                  voidWin := f.voidWin || miss || cnt == 7 })
  else d

/-- One digital input of the closing exchange. -/
def Dev.closeInput (i : Nat) (x : Dev × Nat) : Dev × Nat :=
  let d := x.1
  if !d.edgeOn i then
    ((if d.agr.written then (d.setWin (16 + 2 * i) 0).setWin (17 + 2 * i) 0 else d), x.2)
  else
    let got := d.svcCopies.filter d.dinGot
    let rs := got.filterMap (fun c => dinRecord (d.agr.din.get c) i)
    let cfg := d.agreeRule 1
    let a := agreeDin (bitOf cfg (8 + i)) (fld cfg 7 0) rs
    let r := a.1
    let w0 := toWord (r.ftime.toNat + boolNat r.fpol * 0x80000 + r.cnt.toNat * 0x100000 + boolNat r.lvl * 0x800000
      + boolNat a.2 * 0x1000000 + maskOf got * 0x2000000)
    let w1 := toWord (r.ltime.toNat + boolNat r.lpol * 0x80000)
    let d1 := Dev.each (fun c d => d.outlCount (12 + i) c (!d.dinGot c)) d.svcCopies d
    let d2 := Dev.each (Dev.fanAdd i r.cnt.toNat a.2) fanIds (d1.missCount (12 + i) a.2)
    ((if d2.agr.written then (d2.setWin (16 + 2 * i) w0).setWin (17 + 2 * i) w1 else d2), x.2 + boolNat a.2 * 2 ^ (16 + i))

/-- The digital exchange closes (R150, R153, R159). -/
def Dev.closeDigital (d : Dev) : Dev :=
  let d0 := d.winOpen
  let d1 := Dev.each (fun c d => d.msgCount c (!d.dinGot c)) d0.svcCopies d0
  let r := (List.range 12).foldl (fun x i => Dev.closeInput i x) (d1, 0)
  let d2 := r.1.winClose 0x0FFF0000 r.2 11
  d2.updAgr (fun a => { a with dOpen := false })

/-- Exchanges that are still open close at the tick (R27, R150). -/
def Dev.closeAll (d : Dev) : Dev :=
  let d1 := Dev.each (fun g d => if d.agr.aOpen.get g then d.closeAnalog g else d) groupIds d
  if d1.agr.dOpen then d1.closeDigital else d1

/-- The exchanges of the frame that starts (R149, R150, R154). -/
def Dev.openExchanges (d : Dev) : Dev :=
  let on := decide (0 < d.nSvc) && d.csRunning
  d.updAgr (fun a => { a with
    msgs := Tri.const (Tri.const none), din := Tri.const Dev.dinReset,
    aOpen := ⟨on && d.grpOn 0, on && d.grpOn 1, on && d.grpOn 2⟩, dOpen := on && d.dinOn, written := false, skip := false,
    agrDone := false, rules := d.agreeSettings })

/-! Messages. -/

/-- A temperature above TLIM, in consecutive frames up to eight (R93). -/
def Dev.tempNote (d : Dev) (c : CopyId) (m : SampleMsg) : Dev :=
  if !m.tvalid then d
  else
    let hot := decide ((16 * fld (d.senseNow Reg.sensecfg_TEMPCFG) 7 0 : Nat) < sext 16 m.temp.toNat)
    d.updAgr (fun a => { a with tempHot := a.tempHot.upd c (fun n => if !hot then 0 else if n < 8 then n + 1 else n) })

/-- The groups whose rejected run the hub knows of, the reports that wait for the tick included. -/
def Dev.calerrNow (d : Dev) (c : CopyId) : Nat :=
  (d.link c).sdata.foldl (fun m x => if x.calerr then m ||| 2 ^ x.group.val else m - (m &&& 2 ^ x.group.val))
    (d.rfld (Reg.agree_SDSTAT c.val) 2 0)

/-- An accepted message of the current frame (R88, R95, R149): it joins its exchange; a newly rejected run is
journaled (R80, R451 code 0x17). -/
def Dev.sampleTake (d : Dev) (c : CopyId) (m : SampleMsg) : Dev :=
  let known := d.calerrNow c
  let fresh := m.calerr && known / 2 ^ m.group.val % 2 == 0
  let d1 := d.updLink c (fun L => { L with sdata := L.sdata ++ [m] })
  let d2 := (d1.updAgr (fun a => { a with msgs := a.msgs.upd c (fun t => t.set m.group (some m)) })).tempNote c m
  if fresh then d2.fault 0x17 9 (c.val + 1) (toWord (known ||| 2 ^ m.group.val)) 0 else d2

/-- The agreement deadline of group `g` (R149) and of the digital exchange (R150). -/
def Dev.aDeadline (d : Dev) (g : Nat) : Nat := d.tickt.toNat + fld (d.senseNow (Reg.sensecfg_GRPCFG g)) 18 0 + 800
def Dev.dDeadline (d : Dev) : Nat :=
  min (d.tickt.toNat + fld (d.senseNow Reg.sensecfg_DINCFG) 18 0 + 160) (d.tickt.toNat + d.period.toNat)

/-- A SAMPLE flit accepted from copy `c` (R88, R149). -/
def Dev.sampleIn (d : Dev) (c : CopyId) (m : SampleMsg) : Dev :=
  if !d.inSvc c then d
  else if m.gen ≠ d.genFor d.frnum.toNat then d.count (Reg.agree_CFGMISS c.val) 1
  else if m.frame ≠ d.frame32 then d.count (Reg.agree_MSGMISS c.val) 1
  else if d.agr.aOpen.get m.group = true ∧ d.now < d.aDeadline m.group.val then d.sampleTake c m
  else d

/-- A DINREC flit accepted from copy `c` (R88, R109, R150). -/
def Dev.dinIn (d : Dev) (c : CopyId) (part : Fin 3) (m : DinMsg) : Dev :=
  if !d.inSvc c then d
  else if m.gen ≠ d.genFor d.frnum.toNat then d.count (Reg.agree_CFGMISS c.val) 1
  else if m.frame ≠ d.frnum.setWidth 8 then d.count (Reg.agree_MSGMISS c.val) 1
  else if d.agr.dOpen = true ∧ d.now < d.dDeadline then
    d.updAgr (fun a => { a with din := a.din.upd c (fun s => match part with
      | 0 => { s with p0 := some m } | 1 => { s with p1 := some m } | 2 => { s with p2 := some m }) })
  else d

/-! Diagnostics at the tick. -/

/-- One sample message is published (R95). -/
def Dev.publishSample (c : CopyId) (m : SampleMsg) (d : Dev) : Dev :=
  let k := Reg.agree_SDSTAT c.val
  let d1 := (d.setBitR k m.group.val m.calerr).setBitR k 3 m.calsrc
  let d2 := d1.setFldR k 15 8 m.gen.toNat
  let d3 := if m.tvalid then
      ((d2.setReg (Reg.agree_TEMP c.val) (m.temp.setWidth 32)).setBitR k 4
        (decide ((16 * d2.rfld Reg.sensecfg_TEMPCFG 7 0 : Nat) < sext 16 m.temp.toNat)))
    else d2
  let d4 := d3.count (Reg.agree_SATCNT c.val) ((fourList m.sat).filter id).length
  if m.sumv then
    let d5 := (d4.setReg (Reg.agree_SLO c.val m.group.val) (m.slo.setWidth 32)).setReg (Reg.agree_SHI c.val m.group.val) (m.shi.setWidth 32)
    let d6 := if m.calsrc then d5.setFldR k 31 16 ((m.frame - 9).toNat % 65536) else d5
    d6.publishCoef c m.group
  else d4

/-- What the copies reported since the last tick is published (R95). -/
def Dev.publishSense (d : Dev) : Dev :=
  Dev.each (fun c d =>
    (Dev.each (Dev.publishSample c) (d.link c).sdata d).updLink c (fun L => { L with sdata := [] })) copyIds d

/-! Deliveries. -/

/-- Pages whose request has fallen may be delivered again (R168). -/
def Dev.reqSync (d : Dev) : Dev :=
  let lo := d.reg Reg.irqd_DLVD_LO &&& lo32 d.reqBits
  let hi := d.reg Reg.irqd_DLVD_HI &&& hi32 d.reqBits
  (d.setReg Reg.irqd_DLVD_LO lo).setReg Reg.irqd_DLVD_HI hi

/-- Pages that request and were not delivered since (R168). -/
def Dev.pendPages (d : Dev) : DWord :=
  let dl := (d.reg Reg.irqd_DLVD_LO).toNat + 2 ^ 32 * (d.reg Reg.irqd_DLVD_HI).toNat
  BitVec.ofNat 64 d.reqBits &&& ~~~(BitVec.ofNat 64 dl)

/-- The events pending now (R161, R168); AGR waits for the next tick once its allowance is spent (R169). -/
def Dev.pendEvents (d : Dev) : Events :=
  ⟨d.agr.tckPend, !d.agr.agrPend.isEmpty && d.agr.agreedUsed == 0, d.agr.dbgPend, d.pendPages⟩

def Events.some (e : Events) : Bool := e.tck || e.agr || e.dbg || e.pages != 0

/-- D of a delivery that opens now (R163). -/
def Dev.dlvPoint (d : Dev) : BitVec 48 := d.agr.maxRetire + BitVec.ofNat 48 (d.rfld Reg.agree_CFG 27 16)

/-- A delivery may open (R163, R439). -/
def Dev.dlvFree (d : Dev) : Bool :=
  d.agr.dlv.isNone && d.csRunning && decide (0 < d.nSvc) && d.rfld Reg.dbg_STAT 1 0 == 0

/-- PROPOSE with every pending event (R163, R167). -/
def Dev.dlvOpen (d : Dev) : Dev :=
  let ev := d.pendEvents
  let id := d.agr.nextId
  let pt := d.dlvPoint
  let (d1, agrF) := if ev.agr then
      match d.agr.agrPend with
      | (k, m) :: rest =>
        ((d.updAgr (fun a => { a with agrPend := rest, agreedUsed := a.agreedUsed + 1 })).hubAll 0 (.agreed m), Option.some k)
      | [] => (d, none)
    else (d, none)
  let d2 := d1.updAgr (fun a => { a with
    nextId := id + 1, tckPend := false, dbgPend := false, drpUsed := a.drpUsed + 1,
    dlv := Option.some ⟨id, pt, ev, agrF, Tri.const false⟩ })
  let d3 := (d2.setReg Reg.irqd_DLVD_LO (d2.reg Reg.irqd_DLVD_LO ||| lo32 ev.pages.toNat)).setReg Reg.irqd_DLVD_HI
    (d2.reg Reg.irqd_DLVD_HI ||| hi32 ev.pages.toNat)
  (d3.setBitR Reg.agree_DLVSTAT 8 true).hubAll 0 (.drp 0 id pt ev)

/-- REPLACE with the same events and a new D (R165). -/
def Dev.dlvReplace (d : Dev) : Dev :=
  match d.agr.dlv with
  | none => d
  | Option.some x =>
    let id := d.agr.nextId
    let pt := d.dlvPoint
    let d1 := d.updAgr (fun a => { a with
      nextId := id + 1, replUsed := a.replUsed + 1, replPend := false,
      dlv := Option.some { x with id := id, d := pt, answered := Tri.const false } })
    (d1.count Reg.agree_DRPOVR 1).hubAll 0 (.drp 2 id pt x.ev)

/-- Retire count `a` is at most `b` (R188). -/
def retireLe (a b : BitVec 48) : Bool := decide ((b - a).toNat < 2 ^ 47)

/-- The largest retire count seen (R161, R188). -/
def Dev.sawRetire (d : Dev) (c : CopyId) (r : BitVec 48) : Dev :=
  if d.inSvc c then d.updAgr (fun a => { a with maxRetire := if retireLe r a.maxRetire then a.maxRetire else r }) else d

end Sys2Proof.Machine
end

