-- ==== Sys2Proof/Machine/Agree.lean ====
section
/-! DEFINITION. Machine/Agree.lean: the hub's commands of input agreement and delivery (R149 to R169). -/

namespace Sys2Proof.Machine

open Sys2Proof

/-- SAMPLE (R88, R114, R149). -/
def execSample (c : CopyId) (h : Hdr) (m : SampleMsg) (s : State) : Host.Outcome State Fault Refusal :=
  s.run (Dev.hubRx c h (fun d => d.sampleIn c m))

/-- DINREC (R88, R109, R114, R150). -/
def execDinrec (c : CopyId) (h : Hdr) (part : Fin 3) (m : DinMsg) (s : State) : Host.Outcome State Fault Refusal :=
  s.run (Dev.hubRx c h (fun d => d.dinIn c part m))

/-- ANALOG_EXCHANGE_CLOSE (R149): once every copy in service has delivered, else at the deadline. -/
def execAnalogExchangeClose (g : GroupId) (s : State) : Host.Outcome State Fault Refusal :=
  s.run (fun d => dueIf (d.agr.aOpen.get g) (fun d =>
    let d1 := if d.svcCopies.all (fun c => (d.aMsg g c).isSome) then d else d.at (d.aDeadline g.val)
    d1.closeAnalog g) d)

/-- DIGITAL_EXCHANGE_CLOSE (R150). -/
def execDigitalExchangeClose (s : State) : Host.Outcome State Fault Refusal :=
  s.run (fun d => dueIf d.agr.dOpen (fun d =>
    let d1 := if d.svcCopies.all d.dinGot then d else d.at d.dDeadline
    d1.closeDigital) d)

/-- PLAUSIBILITY_FAULT (R155, R451 codes 0x20 and 0x21). -/
def execPlausibilityFault (ch : Fin 24) (s : State) : Host.Outcome State Fault Refusal :=
  s.run (fun d => dueIf (listGet false d.agr.plDue ch.val) (fun d =>
    let d1 := d.updAgr (fun a => { a with plDue := listSet a.plDue ch.val false })
    let d2 := if d1.rbit Reg.agree_PLFLT ch.val then d1 else (d1.setBitR Reg.agree_PLFLT ch.val true).evt 9 0
    if ch.val < 12 then d2.fault 0x20 9 0 (toWord ch.val) 1 else d2.fault 0x21 9 0 (toWord (ch.val - 12)) 2) d)

/-- The copy's outlier count of the channel has reached MISSLIM (R156). -/
def Dev.outlierDue (d : Dev) (c : CopyId) (ch : Nat) : Bool :=
  d.inSvc c && d.missLim ch != 0 && decide (d.missLim ch ≤ listGet 0 (d.agr.outl.get c) ch)

/-- OUTLIER_FAULT (R156, R451 code 0x22): the copy is lost, or too few remain. -/
def execOutlierFault (c : CopyId) (ch : Fin 24) (s : State) : Host.Outcome State Fault Refusal :=
  s.run (fun d => dueIf (d.outlierDue c ch.val) (fun d =>
    (d.updAgr (fun a => { a with outl := a.outl.set c (List.replicate 24 0) })).loseCopy c
      ⟨0x22, 9, c.val + 1, toWord ch.val, 2 ^ (2 + c.val)⟩) d)

/-- The copy's missing messages have reached MSGLIM (R156). -/
def Dev.missingDue (d : Dev) (c : CopyId) : Bool :=
  let lim := fld (d.agreeRule 0) 7 4
  d.inSvc c && lim != 0 && decide (lim ≤ d.agr.msgMissing.get c)

/-- MISSING_SAMPLES_FAULT (R156, R451 code 0x23). -/
def execMissingSamplesFault (c : CopyId) (s : State) : Host.Outcome State Fault Refusal :=
  s.run (fun d => dueIf (d.missingDue c) (fun d =>
    (d.updAgr (fun a => { a with msgMissing := a.msgMissing.set c 0 })).loseCopy c
      ⟨0x23, 9, c.val + 1, toWord (d.agr.msgMissing.get c), 2 ^ (2 + c.val)⟩) d)

/-- DELIVERY_OPEN (R163, R168, R169): four deliveries a frame; what is left waits for the next tick and counts in
DEFER. -/
def execDeliveryOpen (s : State) : Host.Outcome State Fault Refusal :=
  s.run (fun d =>
    let d1 := d.reqSync
    dueIf (d1.dlvFree && Events.some d1.pendEvents) (fun d =>
      if d.agr.drpUsed < 4 then d.dlvOpen
      else if d.agr.deferred then d
      else (d.updAgr (fun a => { a with deferred := true })).count Reg.agree_DEFER 1) d1)

/-- RETREP_PERIODIC (R161, R162). -/
def execRetrepPeriodic (c : CopyId) (h : Hdr) (retire : BitVec 48) (_drpid : Byte) (s : State) :
    Host.Outcome State Fault Refusal :=
  s.run (Dev.hubRx c h (fun d => d.sawRetire c retire))

/-- The answer belongs to the open delivery. -/
def Dev.answers (d : Dev) (c : CopyId) (drpid : Byte) : Bool :=
  d.inSvc c && (match d.agr.dlv with | some x => x.id == drpid | none => false)

/-- RETREP_ACCEPT (R165): CONFIRM once every copy in service has accepted. -/
def execRetrepAccept (c : CopyId) (h : Hdr) (retire : BitVec 48) (drpid : Byte) (s : State) :
    Host.Outcome State Fault Refusal :=
  s.run (Dev.hubRx c h (fun d =>
    let d1 := d.sawRetire c retire
    if d1.answers c drpid then
      (d1.updAgr (fun a => { a with dlv := a.dlv.map (fun x => { x with answered := x.answered.set c true }) })).dlvConfirm
    else d1))

/-- RETREP_OVERRUN (R165, R169): REPLACE, or at the next tick once its allowance is spent. -/
def execRetrepOverrun (c : CopyId) (h : Hdr) (retire : BitVec 48) (drpid : Byte) (s : State) :
    Host.Outcome State Fault Refusal :=
  s.run (Dev.hubRx c h (fun d =>
    let d1 := d.sawRetire c retire
    if d1.answers c drpid then
      (if d1.agr.replUsed < 1 then d1.dlvReplace else d1.updAgr (fun a => { a with replPend := true }))
    else d1))

end Sys2Proof.Machine
end

