-- ==== Sys2Proof/Machine/LinkTrain.lean ====
section
/-! DEFINITION. Machine/LinkTrain.lean: training, RESUME and resync of a Nerael Link (R100 to R104, R112, R123 to R125,
R134, R432), and what a copy does at a tick (R110, R145, R146). -/

namespace Sys2Proof.Machine

open Sys2Proof

/-! Journal. -/

/-- A LINK entry (R139). -/
def Dev.linkEntry (d : Dev) (c : CopyId) (ev : Nat) (prev : Word) : Dev := d.jlog 0x09 (copyPage c) 0x40 0 (toWord ev) prev

/-- The hub declares the link LOST (R125), with the trigger as R139 codes it; 0 where R139 has none (assumption 15). -/
def Dev.linkLost (d : Dev) (c : CopyId) (trig : Nat) : Dev := d.loseCopy c ⟨6, copyPage c, c.val + 1, toWord trig, 0⟩

/-! Training states. -/

def trainFresh : Training := ⟨0, 0, none, none, 0⟩

/-- The timer of a training state in HCLK, by rate (R100). -/
def trainTime (lstate rate : Nat) : Nat :=
  match lstate with
  | 1 => 800
  | 2 => 400
  | 3 => if rate = 0 then 800 else 1600
  | 4 => if rate = 2 then 3200 else if rate = 1 then 1600 else 400
  | 5 => 800
  | _ => 400

/-- A link enters a training state. -/
def Dev.trainEnter (d : Dev) (c : CopyId) (st : Nat) : Dev :=
  let due := d.now + trainTime st (d.rfld (Reg.linkx_STAT c.val) 27 26)
  let d1 := (d.setLstate c st).updLink c (fun L => { L with stateDue := due, tr := trainFresh })
  d1.updCopy c (fun x =>
    let s : Sense := { x.sense with calWords := [none, none, none, none] }
    { x with link := .training, echo := none, sense := s })

/-- A full training begins with its first attempt, at the committed width and rate (R101, R103). -/
def Dev.trainStart (d : Dev) (c : CopyId) : Dev :=
  let k := Reg.linkx_STAT c.val
  let d1 := ((d.setFldR k 27 26 (d.rfld Reg.link_CFG 5 4)).setBitR k 25 (d.rbit Reg.link_CFG 0)).setFldR k 23 16 1
  (d1.updLink c (fun L => { L with eqStored := false })).trainEnter c 1

/-- The four CAL flits have all arrived (R432). -/
def Copy.calWhole (x : Copy) : Bool := x.sense.calWords.all Option.isSome

/-- 32 consecutive TRAIN flits at both ends (R100 ALIGN). -/
def HubLink.aligned (L : HubLink) : Bool := decide (32 ≤ L.tr.seenH) && decide (32 ≤ L.tr.seenC)

/-- 8 consecutive matching CONFIG flits in each direction (R100 CONFIG). -/
def HubLink.configured (L : HubLink) : Bool := decide (8 ≤ L.tr.seenH) && decide (8 ≤ L.tr.seenC)

/-- The criterion of training state `st`: `ok` is what only the lanes show (R100, R432). -/
def Dev.trainMet (d : Dev) (c : CopyId) (st : Nat) (ok : Bool) : Bool :=
  ok && (if st = 5 then (d.link c).aligned else if st = 6 then (d.link c).configured && (d.copy c).calWhole else true)

/-- A calibration block replaced by the nominal one is journaled (R432, R451 code 0x19). -/
def Dev.calReport (d : Dev) (c : CopyId) : Dev :=
  if (d.calBlock c).2 then d.fault 0x19 0x21 (c.val + 1) (toWord (0x100 + 0x80 * c.val)) 0 else d

/-- CONFIG ends and the link is active: the state of R102, a copy with 64 free tags and no grant, the hub's GRANT at 64. -/
def Dev.linkActivate (d : Dev) (c : CopyId) : Dev :=
  let d1 := (d.setLstate c 7).calReport c
  let d2 := d1.updLink c (fun L => { L with
    side := { Dev.sideReset HubFlit with lastGood := d.now }, cache := [], responses := 0, received := 0, grant := 64,
    lastGrant := 64, grantDue := none, anyReq := false, tr := trainFresh, resyncEnd := none })
  d2.updCopy c (fun x => { x with
    link := .active, side := { Dev.sideReset CopyFlit with lastGood := d.now }, grant := 0, issued := 0, out := [],
    restart := false })

/-- The TRAINED entry (R139). -/
def Dev.trainedEntry (d : Dev) (c : CopyId) : Dev :=
  let s := d.reg (Reg.linkx_STAT c.val)
  d.linkEntry c 1 (toWord (fld s 25 25 + 2 * fld s 27 26 + 0x100 * fld s 23 16))

/-- A training attempt failed (R101): a new one at DETECT, or LOST after the third. -/
def Dev.trainFail (d : Dev) (c : CopyId) : Dev :=
  let k := Reg.linkx_STAT c.val
  if d.rfld k 23 16 < 3 then (d.setFldR k 23 16 (d.rfld k 23 16 + 1)).trainEnter c 2 else d.linkLost c 0

/-- The timer of training state `st` expires. -/
def Dev.trainStep (d : Dev) (c : CopyId) (st : Nat) (ok : Bool) : Dev :=
  if !d.trainMet c st ok then d.trainFail c
  else if st = 6 then (d.linkActivate c).trainedEntry c
  else d.trainEnter c (st + 1)

/-! Flits of TYPE 0x33. -/

/-- A run of good flits. -/
def seenMore (need n : Nat) : Nat := if n < need then n + 1 else n

/-- The states in which TRAIN flits are sent, and those of CONFIG flits: training, or the phases of a resync. -/
def Dev.inAlign (d : Dev) (c : CopyId) : Bool := d.lstate c == 5 || (d.lstate c == 8 && (d.link c).tr.phase == 1)
def Dev.inConfig (d : Dev) (c : CopyId) : Bool := d.lstate c == 6 || (d.lstate c == 8 && (d.link c).tr.phase == 2)

def Dev.updTr (d : Dev) (c : CopyId) (f : Training → Training) : Dev := d.updLink c (fun L => { L with tr := f L.tr })

def Dev.trainFlit (e : LinkEnd) (c : CopyId) (d : Dev) : Dev :=
  d.updTr c (fun t => match e with
    | .hub => { t with seenH := seenMore 32 t.seenH }
    | .copy => { t with seenC := seenMore 32 t.seenC })

/-- A CONFIG flit counts with the one before it if both payloads are equal (R100, R112). -/
def cfgRun (old : Option ConfigMsg) (m : ConfigMsg) (n : Nat) : Nat :=
  if 8 ≤ n then n else match old with
    | some x => if { x with seq := m.seq } = m then n + 1 else 1
    | none => 1

def Dev.configFlit (e : LinkEnd) (c : CopyId) (m : ConfigMsg) (d : Dev) : Dev :=
  d.updTr c (fun t => match e with
    | .hub => { t with seenH := cfgRun t.cfgH m t.seenH, cfgH := some m }
    | .copy => { t with seenC := cfgRun t.cfgC m t.seenC, cfgC := some m })

/-- A flit with a wrong CRC breaks a run that is not complete. -/
def Dev.trainBreak (e : LinkEnd) (c : CopyId) (d : Dev) : Dev :=
  let need := if d.inAlign c then 32 else 8
  d.updTr c (fun t => match e with
    | .hub => { t with seenH := if t.seenH < need then 0 else t.seenH }
    | .copy => { t with seenC := if t.seenC < need then 0 else t.seenC })

/-- One CAL flit (R112, R432): with the fourth part the block's sums and trims are in use. -/
def Sense.takeCal (s : Sense) (part : Fin 4) (ws : List Word) : Sense :=
  let parts := listSet s.calWords part.val (some ws)
  if parts.all Option.isSome then
    let all := (parts.filterMap id).flatMap id
    let sum (i : Nat) : BitVec 20 := (listGet 0 all i).extractLsb' 0 20
    ({ s with
      calWords := parts, sums := ⟨(sum 0, sum 1), (sum 2, sum 3), (sum 4, sum 5)⟩,
      tro := (List.range 12).map (fun i => (listGet 0 all (6 + i)).extractLsb' 0 12),
      trg := (List.range 12).map (fun i => (listGet 0 all (6 + i)).extractLsb' 16 12) }).recompute
  else { s with calWords := parts }

/-! The 256 bits of a flit. -/

/-- The CRC that a flit should carry (R97, R105). -/
def flitCrc (f : BitVec 256) : Word := crc32c ((List.range 28).map (fun j => BitVec.ofNat 8 (f.toNat / 2 ^ (248 - 8 * j))))

def flitBad (f : BitVec 256) : Bool := flitCrc f != f.extractLsb' 0 32

/-! Resync. -/

/-- The hub enters RESYNC (R123 to R125): LOST within 4 000 HCLK of the previous resync's end. -/
def Dev.hubResync (d : Dev) (c : CopyId) (trig : Nat) : Dev :=
  let soon := match (d.link c).resyncEnd with | some t => decide (d.now < t + 4000) | none => false
  if soon then d.linkLost c trig
  else
    let d1 := (d.setLstate c 8).updLink c (fun L => { L with
      tr := trainFresh, stateDue := d.now + 400, resyncTrig := BitVec.ofNat 3 trig,
      side := { L.side with replayDue := none } })
    d1.linkEntry c 3 (toWord trig)

/-- A copy enters RESYNC. -/
def Copy.toResync (x : Copy) : Copy := { x with link := .resync, side := { x.side with replayDue := none } }

/-- Why a copy that is in RESYNC asked for it: 4 its replay buffer, 2 its timeouts, 3 LOSTIME (R139). -/
def Copy.resyncWhy (x : Copy) : Nat := if x.restart then 4 else if tmrRepmax x.tmr ≤ x.side.timeouts then 2 else 3

/-- A sender goes on from the SEQ its receiver declared (R124). -/
def LinkSide.resume {F : Type} (s : LinkSide F) (exp : BitVec 12) (now tmo : Nat) : LinkSide F :=
  let r := (s.takeAck (exp - 1) now tmo).1
  { r with timeouts := 0, replayDue := if r.unacked.isEmpty then none else some (now + tmo), lastGood := now }

/-- The requests a copy sends again, in CSN order (R134). -/
def Copy.reissues (x : Copy) : List (BitVec 2 × CopyFlit) :=
  x.out.map (fun (o : Outst) => (o.req.cls, CopyFlit.req o.ty { o.req with reissue := true }))

def CopyFlit.isReq : CopyFlit → Bool
  | .req _ _ => true
  | _ => false

/-- A copy's sender after a resync: replay, or the restart of its request stream at the hub's expected SEQ (R124, R134). -/
def Copy.afterResync (x : Copy) (exp : BitVec 12) (now : Nat) : Copy :=
  let tmo := tmrTmo x.tmr
  let s := if x.restart then
      { x.side with txSeq := exp, unacked := [], timeouts := 0, replayDue := none, lastGood := now,
                    queue := x.reissues ++ x.side.queue.filter (fun q => !q.2.isReq) }
    else x.side.resume exp now tmo
  { x with side := s.drain now tmo 2176, link := .active, restart := false }

/-- The resync completes (R124). -/
def Dev.resyncDone (d : Dev) (c : CopyId) : Dev :=
  match (d.link c).tr.cfgH, (d.link c).tr.cfgC with
  | some mh, some mc =>
    let n := (d.copy c).out.length
    let d1 := (d.setLstate c 7).count (Reg.linkx_RESYNC c.val) 1
    let d2 := d1.updLink c (fun L => { L with
      side := L.side.resume mh.expSeq d.now (tmrTmo d.hubTmr), resyncEnd := some d.now, tr := trainFresh })
    let d3 := d2.updCopy c (fun x => x.afterResync mc.expSeq d.now)
    (if mh.restart then d3.linkEntry c 4 (toWord n) else d3).hubDrain c
  | _, _ => d

/-- A resync phase timer expires. -/
def Dev.resyncStep (d : Dev) (c : CopyId) (ok : Bool) : Dev :=
  let L := d.link c
  let joined := (d.copy c).link == .resync
  let met := match L.tr.phase with | 1 => L.aligned | 2 => L.configured | _ => true
  if !(ok && joined && met) then d.linkLost c L.resyncTrig.toNat
  else if L.tr.phase = 2 then d.resyncDone c
  else d.updLink c (fun L => { L with
    tr := { trainFresh with phase := L.tr.phase + 1 }, stateDue := d.now + (if L.tr.phase = 0 then 400 else 200) })

/-! A copy's tick. -/

/-- The frame report of a copy (R110). -/
def Copy.lstatMsg (x : Copy) (frame : Word) : LstatFrame :=
  let s := x.stats
  { frame := frame, rho := x.time.rho, crcerr := BitVec.ofNat 8 (satU 8 s.crcerr), dup := BitVec.ofNat 8 (satU 8 s.dup),
    oos := BitVec.ofNat 8 (satU 8 s.oos), tmo := BitVec.ofNat 8 (satU 8 s.tmo), spillpk := BitVec.ofNat 12 (satU 12 s.spillpk),
    granterr := BitVec.ofNat 8 (satU 8 s.granterr), ticklost := BitVec.ofNat 4 (satU 4 s.ticklost),
    iccor := BitVec.ofNat 8 (satU 8 s.iccor), icreb := BitVec.ofNat 4 (satU 4 s.icreb), dccor := BitVec.ofNat 8 (satU 8 s.dccor),
    dcue := BitVec.ofNat 4 (satU 4 s.dcue), dcvmis := BitVec.ofNat 4 (satU 4 s.dcvmis), dovf := BitVec.ofNat 4 (satU 4 s.dovf),
    spillue := BitVec.ofNat 4 (satU 4 s.spillue) }

/-- The report of an interval is sent, and the next interval starts (R110). -/
def Copy.report (x : Copy) (now : Nat) (frame : Word) : Copy :=
  let fresh : CStats := { Dev.statsReset with spillpk := x.side.unacked.length - 128 }
  ({ x with stats := fresh }).send now 2 (.lstatFrame (x.lstatMsg frame))

/-- c_k of R145. -/
def tickInstant (a tofs lat : Nat) (rho : Word) : Int := (a : Int) - rneDiv ((16 * tofs + lat) * rho.toNat : Nat) (2 ^ 32)

/-- m_k of R145. -/
def tickRatio (ck cp : Int) (per : Nat) : Int := rneDiv ((ck - cp) * 2 ^ 28) (max 1 per)

/-- ρ_k of R145. With no earlier c there is no m_k, and ρ keeps ρ_nom (assumption 16). -/
def CTime.nextRho (t : CTime) (ck : Int) : Word :=
  if !t.valid then t.rho
  else
    let m := tickRatio ck t.c t.per.toNat
    if t.accepted then intWord ((t.rho.toNat : Int) + rneDiv (m - t.rho.toNat) 8) else intWord m

/-- An accepted TICK (R145). -/
def CTime.tick (t : CTime) (frame : Word) (per : BitVec 19) (lat tofs a : Nat) : CTime :=
  let ck := tickInstant a tofs lat t.rho
  { c := ck, valid := true, rho := t.nextRho ck, per := per, prevPer := t.per, accepted := true, frame := frame }

/-- A tick that is extrapolated (R146). -/
def CTime.extrapolate (t : CTime) : CTime :=
  { t with c := t.c + rneDiv (t.per.toNat * t.rho.toNat : Nat) (2 ^ 28), prevPer := t.per, accepted := false,
           frame := t.frame + 1 }

/-- What a copy does when its frame starts: the sense block and the report. -/
def Copy.newFrame (x : Copy) (now : Nat) (t : CTime) : Copy :=
  ({ x with time := t, sense := x.sense.tick t.frame }).report now t.frame

end Sys2Proof.Machine
end

