-- ==== Sys2Proof/Machine/Respond.lean ====
section
/-! DEFINITION. Machine/Respond.lean: the answer to a request of the copy set (R130, R133, R273, R274, R280): the
compare vector and its digest, the response flits, the response cache, and the end of a compare entry. -/

namespace Sys2Proof.Machine

open Sys2Proof

/-- The fields of the compare vector with their widths, highest first (R273). -/
def Req.fieldsOf (ty : ReqType) (r : Req) : List (Nat × Nat) :=
  [(6, ReqType.code ty), (32, r.csn.toNat), (48, r.retire.toNat), (1, worldNat r.world), (2, r.ring.val), (2, r.cls.toNat),
   (4, r.be.toNat), (32, r.addr.toNat), (32, r.data.toNat), (7, r.ecc.toNat), (8, r.rcrc.toNat)]

/-- The compare vector (R273). -/
def Req.vector (ty : ReqType) (r : Req) : Nat := (Req.fieldsOf ty r).foldl (fun a x => a * 2 ^ x.1 + x.2) 0

/-- The digest of the response cache (R274). -/
def Req.digest (ty : ReqType) (r : Req) : Word :=
  crc32c ((List.range 22).map (fun j => BitVec.ofNat 8 (Req.vector ty r * 4 / 2 ^ (168 - 8 * j))))

/-- A response carries the tag of the copy it goes to (R108). -/
def HubFlit.withTag (t : BitVec 6) : HubFlit → HubFlit
  | .rddata csn _ st w => .rddata csn t st w
  | .wrack csn _ st => .wrack csn t st
  | .line hi _ st ws => .line hi t st ws
  | f => f

/-- Copy `c`'s own request of the entry has arrived and agreed (R280). -/
def CmpEntry.agreedCopy (e : CmpEntry) (c : CopyId) : Bool :=
  (e.arr.get c).isSome && (c == e.winner || e.agreed.get (pairOf e.winner c) == some true)

def Dev.findCmp (d : Dev) (csn : Word) : Option CmpEntry := d.cmp.find? (fun e => e.csn == csn)

def Dev.updCmp (d : Dev) (csn : Word) (f : CmpEntry → CmpEntry) : Dev :=
  { d with cmp := d.cmp.map (fun e => if e.csn == csn then f e else e) }

def Dev.dropCmp (d : Dev) (csn : Word) : Dev := { d with cmp := d.cmp.filter (fun e => e.csn != csn) }

/-- The newest 64 of a response cache (R130). -/
def cacheAdd (e : CacheEntry) (cache : List CacheEntry) : List CacheEntry := (cache ++ [e]).drop ((cache.length + 1) - 64)

/-- The flits of a response go to copy `c`. -/
def Dev.sendFlits (c : CopyId) (cls : BitVec 2) (fs : List HubFlit) (d : Dev) : Dev :=
  Dev.each (fun f d => d.hubTx c cls f) fs d

/-- A decided entry is answered to copy `c` once, if the copy's own request has arrived and agreed. The response of one
refused before it reserved places takes them now (R136). -/
def Dev.answerOne (csn : Word) (c : CopyId) (d : Dev) : Dev :=
  match d.findCmp csn with
  | none => d
  | some e =>
    match e.arr.get c with
    | none => d
    | some a =>
      if (e.stage == .executed || e.stage == .late) && !e.answered.get c && e.agreedCopy c && d.inSvc c then
        let fs := e.flits.map (HubFlit.withTag a.req.tag)
        let d1 := d.updLink c (fun L => { L with cache := cacheAdd ⟨csn, Req.digest a.ty a.req, fs⟩ L.cache })
        let d2 := if e.refusal.isSome then d1.updLink c (fun L => L.takePlace a.req.cls fs.length) else d1
        (d2.updCmp csn (fun e => { e with answered := e.answered.set c true })).sendFlits c a.req.cls fs
      else d

/-- Every copy in service is answered, or the entry waits for the rest (R280, R297). -/
def Dev.settle (csn : Word) (d : Dev) : Dev :=
  let d1 := (Dev.each (Dev.answerOne csn) copyIds d).grantUpdate
  match d1.findCmp csn with
  | some e => if d1.svcCopies.all (fun c => e.answered.get c) then d1.dropCmp csn else d1
  | none => d1

/-- The response to a request without data: WRACK for a WRITE, RDDATA or two line flits with zeros otherwise. -/
def emptyFlits (ty : ReqType) (csn : Word) (st : Byte) : List HubFlit :=
  let z : CWord := ⟨0, 0⟩
  match ty with
  | .read => [.rddata csn 0 st z]
  | .write => [.wrack csn 0 st]
  | .fetch => [.line false 0 st ⟨z, z, z, z⟩, .line true 0 st ⟨z, z, z, z⟩]

def CmpEntry.arrival (e : CmpEntry) : Option Arrival :=
  match e.arr.get e.winner with
  | some a => some a
  | none => match e.arr.a, e.arr.b, e.arr.c with
    | some a, _, _ => some a
    | none, some a, _ => some a
    | none, none, x => x

def CmpEntry.ty (e : CmpEntry) : ReqType := match e.arrival with | some a => a.ty | none => .read

/-- A decided entry ends with response `fs`. -/
def Dev.finishWith (csn : Word) (fs : List HubFlit) (d : Dev) : Dev :=
  (d.updCmp csn (fun e => { e with stage := .executed, flits := fs })).settle csn

/-- The status of an entry that was served: *delayed* if any of its bounds passed (R32, R137). -/
def CmpEntry.served (e : CmpEntry) : Byte := if e.delayed then stDelayed else stServed

/-- A request that waited for the journal is answered with `st`, 0 standing for served (R53, R60). -/
def Dev.answerCsn (csn : Option Word) (st : Byte) (d : Dev) : Dev :=
  match csn with
  | none => d
  | some n =>
    match d.findCmp n with
    | none => d
    | some e =>
      if e.stage == .waiting then d.finishWith n (emptyFlits e.ty n (if st = 0 then e.served else st)) else d

end Sys2Proof.Machine
end

