-- ==== Sys2Proof/Machine/Jobs.lean ====
section
/-! DEFINITION. Machine/Jobs.lean: the ledger's jobs (R404, R407 to R409): submission, admission, refusal, and the
start of the three kinds of work that a job stands for: a flash job (R261, R262), a journal flush (R65, R66) and a
capacitance check (R404). -/

namespace Sys2Proof.Machine

open Sys2Proof

/-- The job identifiers of R409. -/
def JobKind.ident : JobKind → Nat
  | .flashProgram => 1
  | .flashErase => 2
  | .flashBlank => 3
  | .flush => 4
  | .capCheck => 5

/-- The admission group of the ledger, and that of the journal's flushes. -/
def admLedger : Nat := 8
def admJrnl : Nat := 9

/-- The wait of a class in HCLK: TWAIT or BWAIT in units of 10 µs (R408). A guard job waits without end. -/
def Dev.jobWait (d : Dev) (cls : Nat) : Nat :=
  if cls = 1 then 4000 * d.rfld Reg.ledger_WAIT 15 0 else 4000 * d.rfld Reg.ledger_WAIT 31 16

def Dev.updJobs (d : Dev) (f : List Job → List Job) : Dev := { d with ledger := { d.ledger with jobs := f d.ledger.jobs } }
def Dev.updJob (d : Dev) (id : Nat) (f : Job → Job) : Dev := d.updJobs (fun js => js.map (fun j => if j.id == id then f j else j))
def Dev.dropJob (d : Dev) (id : Nat) : Dev := d.updJobs (fun js => js.filter (fun j => j.id != id))

/-! What a job starts. -/

/-- Entries newer than the newest mirrored one that the ring still holds (R65). -/
def Dev.unmirrored (d : Dev) : Nat :=
  let n := (d.reg Reg.jrnl_HEAD - d.reg Reg.jrnl_MIRHEAD).toNat
  min n (d.reg Reg.jrnl_COUNT).toNat

/-- Whether a flush of `n` entries goes on in the other half (R65). -/
def Dev.flushErases (d : Dev) (n : Nat) : Bool := decide (512 < d.jrn.halfUsed + n)

/-- The declared energy of a flush now (R65). -/
def Dev.flushEnergy (d : Dev) : Nat := 2400 + 310 * d.unmirrored + (if d.flushErases d.unmirrored then 50400 else 0)

/-- The flash address of the next mirror record. -/
def Dev.mirAddr (d : Dev) : Nat := d.jrn.mirBase + (if d.jrn.half then 16384 else 0) + 32 * d.jrn.halfUsed

/-- FLOPPEND is set when a job that changes flash starts (R263). -/
def Dev.floppSet (d : Dev) (dst : Nat) : Dev := { d with flopp := true, floppDst := toWord dst }

/-- A flash job starts: BUSY, BANK, its status, FLOPPEND (R262, R263), and what R438 asks of one started through DBGACC. A
loader's job counts in the same registers. -/
def Dev.flashStart (d : Dev) (j : FlashJob) (st : Byte) : Dev :=
  let bank := j.dst.toNat / 0x200000 % 2
  let w := toWord (0x80000000 + bank * 0x40000000 + st.toNat)
  ({ d with
    flash := some { j with running := true }, dbg := { d.dbg with inval := d.dbg.inval || j.jtag } }.setReg Reg.flash_STAT w).floppSet j.dst.toNat

/-- A flush starts: its status in FLSTAT, FLOPPEND (R66, R69, R263). -/
def Dev.flushStart (d : Dev) (id : Nat) (st : Byte) : Dev :=
  (({ d with jrn := { d.jrn with flushJob := some id } }).setReg Reg.jrnl_FLSTAT (toWord st.toNat)).floppSet d.mirAddr

/-- The sink currents of ISTEP in mA. -/
def sinkMa (w : Word) : Nat := match fld w 1 0 with | 0 => 10 | 1 => 20 | 2 => 50 | _ => 100

/-- A capacitance check starts with V0 (R404). One whose sink would dissipate more than 1 250 mW is not run: the job ends with
FAIL and status *refused*, CAPACITY (R486). -/
def Dev.capStart (d : Dev) (id : Nat) (st : Byte) : Dev :=
  let c := d.reg Reg.ledger_CVCTL
  let t := fld c 15 8
  let v := d.rfld Reg.pwr_HOLDSNS 15 0
  if 1250000 < v * sinkMa c then
    (((d.dropJob id).setReg Reg.ledger_JSTAT (toWord (JobKind.ident .capCheck * 256 + (stRefused 2).toNat))).setReg
      Reg.ledger_CVSTAT (toWord (256 + (stRefused 2).toNat))).evt 2 2
  else
    { (d.setFldR Reg.ledger_CVSTAT 7 0 st.toNat) with
      ledger := { d.ledger with cap := some ⟨1, v, 0, sinkMa c, t, d.now + 400000 * t⟩ } }

/-! Admission. -/

/-- What job `j` needs is free: one flash job runs at a time, and one flush (assumption 11). -/
def Dev.jobFree (d : Dev) (j : Job) : Bool :=
  match j.kind with
  | .flush => d.jrn.flushJob.isNone
  | .capCheck => d.ledger.cap.isNone
  | _ => d.flash.isNone

def Dev.jobFits (d : Dev) (j : Job) : Bool := d.jobFree j && decide ((j.energy : Int) ≤ d.freeOf j.cls.toNat)

/-- Job `j` is admitted with its status, and its work starts (R408). -/
def Dev.jobAdmit (d : Dev) (j : Job) (delayed : Bool) : Dev :=
  let st := if delayed then stDelayed else stServed
  let d0 := if delayed then d.admDly admLedger j.cls.toNat else d
  let d1 := (d0.updJob j.id (fun x => { x with admitted := true, hold := x.energy, since := d.now })).setReg
    Reg.ledger_JSTAT (toWord (j.kind.ident * 256 + st.toNat))
  match j.kind with
  | .flush => (if delayed then d1.admDly admJrnl j.cls.toNat else d1).flushStart j.id st
  | .capCheck => d1.capStart j.id st
  | _ => match j.flash with
    | some f => d1.flashStart f st
    | none => d1

/-- What a job still lacks (R408). -/
def Dev.shortfall (d : Dev) (j : Job) : Int := (j.energy : Int) - d.freeOf j.cls.toNat

/-- The block of a refused job reports it: FLASH.STAT and SHORT, JRNL.FLSTAT with a FLUSH entry, or CVSTAT (R66,
R261, R404). -/
def Dev.jobTell (d : Dev) (j : Job) (st : Byte) (short : Nat) : Dev :=
  match j.kind with
  | .flush =>
    let d1 := (d.setReg Reg.jrnl_FLSTAT (toWord (short * 65536 + st.toNat))).admRef admJrnl j.cls.toNat
    d1.jlog 0x0E 1 0x54 0 (d1.reg Reg.jrnl_MIRHEAD) (toWord st.toNat)
  | .capCheck => d.setFldR Reg.ledger_CVSTAT 7 0 st.toNat
  | _ => (d.setFldR Reg.flash_STAT 7 0 st.toNat).setReg Reg.flash_SHORT (toWord short)

/-- Job `j` is refused with `reason` (R408, R409): JSTAT, JSHORT, JOBREF, the counts, LEDGER_REF, its block. -/
def Dev.jobRefuse (d : Dev) (j : Job) (reason : Nat) : Dev :=
  let s := d.shortfall j
  let short := ecode s
  let st := stRefused reason
  let d1 := (((d.dropJob j.id).setReg Reg.ledger_JSTAT (toWord (j.kind.ident * 256 + st.toNat))).setReg
    Reg.ledger_JSHORT (toWord short)).evt 2 3
  let d2 := (d1.admRef admLedger j.cls.toNat).jlog 0x0A 2 0x88 0 (toWord j.kind.ident) (toWord (satU 32 s.toNat))
  d2.jobTell j st short

/-- A new job (R391, R408): refused ABSENT on the way to Doze or Hibernate, admitted if it fits, refused at once
with no wait configured, else it waits. -/
def Dev.jobSubmit (d : Dev) (kind : JobKind) (cls energy : Nat) (flash : Option FlashJob) : Dev :=
  let j : Job := { id := d.ledger.nextJob, kind := kind, cls := BitVec.ofNat 2 cls, energy := energy, hold := 0,
                   admitted := false, since := d.now, overran := false, flash := flash }
  let d0 := { d with ledger := { d.ledger with jobs := d.ledger.jobs ++ [j], nextJob := d.ledger.nextJob + 1 } }
  if d.ledgerStop then d0.jobRefuse j 9
  else if d0.jobFits j then d0.jobAdmit j false
  else if cls ≠ 0 ∧ d0.jobWait cls = 0 ∧ d0.jobFree j = true then d0.jobRefuse j 3
  else d0

/-- The waiting job that is next in class order, then in submission order, among those that fit (R408). -/
def nextFit (d : Dev) : List Job → Option Job → Option Job
  | [], r => r
  | j :: js, r =>
    let better := match r with | none => true | some x => decide (j.cls < x.cls)
    nextFit d js (if !j.admitted && d.jobFits j && better then some j else r)

/-- A job ends: its hold goes (R407). -/
def Dev.jobEnd (d : Dev) (id : Nat) : Dev := d.dropJob id

/-- FLOPPEND clears when no job that changes flash runs any more (R263). -/
def Dev.floppClear (d : Dev) : Dev :=
  if d.flash.isNone && d.jrn.flushJob.isNone then { d with flopp := false } else d

/-- A flush is requested in class `cls` (R65, R66). While one is under way, the request waits for its end
(assumption 11); without a mirror area it is refused ABSENT (assumption 13). -/
def Dev.flushRequest (d : Dev) (cls : Nat) : Dev :=
  if !d.jrn.mirValid then
    ((d.setReg Reg.jrnl_FLSTAT (toWord (stRefused 9).toNat)).admRef admJrnl cls).jlog 0x0E 1 0x54 0
      (d.reg Reg.jrnl_MIRHEAD) (toWord (stRefused 9).toNat)
  else if d.ledger.jobs.any (fun j => j.kind == .flush) then
    let c := match d.jrn.flush with | some x => min x.toNat cls | none => cls
    { d with jrn := { d.jrn with flush := some (BitVec.ofNat 2 c) } }
  else
    let n := d.unmirrored
    let d1 := { d with jrn := { d.jrn with flushN := n, flushX := d.flushErases n } }
    d1.jobSubmit .flush cls d.flushEnergy none

/-- The declared energy of a flash job (R261). -/
def flashEnergy (op cnt : Nat) : Nat := if op = 1 then 2400 + 310 * cnt else if op = 2 then 2400 + 12000 * cnt else 2400

def flashKind (op : Nat) : JobKind := if op = 1 then .flashProgram else if op = 2 then .flashErase else .flashBlank

/-- A flash job is submitted, with EDECL (R261). -/
def Dev.flashSubmit (d : Dev) (op cls cnt : Nat) (dst src : Word) (jtag : Bool) (data : List Word) : Dev :=
  let e := flashEnergy op cnt
  let f : FlashJob := ⟨BitVec.ofNat 2 op, dst, src, cnt, 0, 0, false, jtag, data⟩
  (d.setReg Reg.flash_EDECL (toWord e)).jobSubmit (flashKind op) cls e (some f)

end Sys2Proof.Machine
end

