-- ==== Sys2Proof/Machine/Commit.lean ====
section
/-! DEFINITION. Machine/Commit.lean: the page mechanism (R43 to R54, R60): shadow sets and their owners, the
commit request with its checks, capture, admission and acceptance, LV writes, and the admission of entries that
wait for places in the journal's queue. -/

namespace Sys2Proof.Machine

open Sys2Proof

/-! Shadow sets. -/

def ownerDflt (_ : Nat) : Option World := none
def touchDflt (_ : Nat) : Bool := false

def Dev.owner (d : Dev) (p : Nat) : Option World := mapGet ownerDflt d.pages.owner p
def Dev.setOwner (d : Dev) (p : Nat) (w : Option World) : Dev :=
  { d with pages := { d.pages with owner := mapPut ownerDflt d.pages.owner p w } }
def Dev.touched (d : Dev) (p : Nat) : Bool := mapGet touchDflt d.pages.touched p
def Dev.setTouched (d : Dev) (p : Nat) (b : Bool) : Dev :=
  { d with pages := { d.pages with touched := mapPut touchDflt d.pages.touched p b } }

/-- The other world owns the shadow set of `p` (R50). -/
def Dev.otherOwns (d : Dev) (p : Nat) (src : Src) : Bool :=
  match d.owner p with
  | some w => w != srcWorld src
  | none => false

/-- The shadow set of page `p` is reloaded from the applied values, and its ownership ends (R43, R68). -/
def Dev.shDiscard (d : Dev) (p : Nat) : Dev :=
  (Dev.each (fun k d => d.setShad k (d.reg k)) (shKeys p) d).setOwner p none

/-- A permitted write to the SH fields of register `k` (R43, R50). -/
def Dev.shWrite (d : Dev) (src : Src) (k : Nat) (v : Word) : Dev × Option Byte :=
  let p := k / 0x1000
  if d.rbit (Reg.pgLock p) 0 then (d, some (stRefused 7))
  else if d.otherOwns p src then (d, some (stRefused 0x26))
  else
    let d1 := d.setShad k (mergeMask (shMask k) v (d.shad k))
    let d2 := if (d1.owner p).isNone then d1.setOwner p (some (srcWorld src)) else d1
    (d2.setTouched p true, some stServed)

/-! What a commit changes. -/

/-- A number at its place in rising order. -/
def sortIn (k : Nat) : List Nat → List Nat
  | [] => [k]
  | x :: xs => if k ≤ x then k :: x :: xs else x :: sortIn k xs

def sortNat : List Nat → List Nat
  | [] => []
  | k :: ks => sortIn k (sortNat ks)

/-- The registers that a commit of page `p` changes now, in offset order. -/
def Dev.changed (d : Dev) (p : Nat) : List Nat := sortNat ((shKeys p).filter d.changes)

/-- A stream register (R54). -/
def isStream (k : Nat) : Bool :=
  isFramePage (k / 0x1000) && decide (0x100 ≤ k % 0x1000) && decide (k % 0x1000 < 0x200)

/-- The frame in which a commit of page `p` takes effect (R46, R47, R63). -/
def Dev.effFrame (d : Dev) (p : Nat) : Word := if isFramePage p then d.frame32 + 1 else d.frame32

/-- CMT_HEAD and the CMT_REG entries of a commit (R64). -/
def Dev.commitEntries (d : Dev) (src : Src) (p : Nat) (word : Word) (ks : List Nat) : List JEntry :=
  let f := d.effFrame p
  d.jEntry 1 p 0x24 (srcCode src) word (toWord ks.length) f true
    :: ks.map (fun k => d.jEntry 2 p (k % 0x1000) (srcCode src) (d.ifCommitted k) (d.inForce k) f true)

/-! Refusal. -/

/-- The status word of the latest commit of page `p`: tag, state, rule, status (R68). -/
def cmtWord (word : Word) (state rule st : Nat) : Word :=
  toWord (fld word 15 0 * 0x10000 + state * 0x4000 + rule % 64 * 0x100 + st)

/-- A commit is refused: PG_CMTSTAT, PG_EVT.CMTREF, its journal entry, and the end of the ownership (R45, R50). -/
def Dev.refuseCommit (d : Dev) (src : Src) (p : Nat) (word : Word) (reason rule : Nat) : Dev × Option Byte :=
  let w := cmtWord word 3 rule (reason * 4 + 2)
  let d1 := ((d.setReg (Reg.pgCmtstat p) w).evt p 30).setOwner p none
  (d1.jlog 3 p 0x24 (srcCode src) word w, some (stRefused reason))

/-! The checks. -/

/-- The armed plan names page `p` in a WRITE step (R51 POWERFAIL, R413). -/
def Dev.planNames (d : Dev) (p : Nat) : Bool :=
  (List.range (d.rfld Reg.ledger_PLANCTL 19 16)).any (fun k =>
    d.rfld (stepKey k 0) 3 0 == 1 && decide ((d.reg (stepKey k 2)).toNat / 0x1000 = 0x40000 + p))

/-- FRPOS (R143). -/
def Dev.frpos (d : Dev) : Nat := d.now - d.tickt.toNat

/-- The refusal of the frame tag, 0 when the commit proceeds (R29, R46, R47, R310). -/
def Dev.tagCheck (d : Dev) (p : Nat) (word : Word) : Nat :=
  if !isFramePage p then 0
  else
    let dd := (fld word 15 0 + 65536 - d.frnum.toNat % 65536) % 65536
    if d.frames && dd != 0 then (if dd < 32768 then 0x22 else 4)
    else if d.frames && decide (d.period.toNat < d.frpos + (if p = 0x19 then 1 else 49)) then 4
    else if d.pages.commits.any (fun c => c.page == p && c.admitted) then 0x21 else 0

/-- The first check that fails, with its rule number; the reason is 0 when every check passes (R45, R51). -/
def Dev.commitCheck (d : Dev) (src : Src) (p : Nat) (word : Word) : Nat × Nat :=
  if d.planExec && !d.planNames p then (0x25, 0)
  else if fld word 31 24 ≠ 0xC5 then (0x24, 0)
  else if d.rbit (Reg.pgLock p) 0 then (7, 0)
  else if !d.guardOk p src true then (5, 0)
  else if d.otherOwns p src then (0x26, 0)
  else if d.tagCheck p word ≠ 0 then (d.tagCheck p word, 0)
  else
    let r := firstFailing (d.pageRules p)
    if r ≠ 0 then (6, r) else if 23 < (d.changed p).length then (0x23, 0) else (0, 0)

/-! Acceptance. -/

/-- The place of the newest CMT_HEAD of page `p` in the journal's queue. -/
def headPlace (p : Nat) : List JEntry → Nat → Option Nat → Option Nat
  | [], _, r => r
  | e :: es, i, r => headPlace p es (i + 1) (if e.kind.toNat == 1 && e.page.toNat == p then some i else r)

/-- PG_SEQ shows the SEQ that the CMT_HEAD of the accepted commit takes (R68). -/
def Dev.seqSet (d : Dev) (p : Nat) : Dev :=
  match headPlace p d.jrn.queue 0 none with
  | some i => d.setReg (Reg.pgSeq p) (d.reg Reg.jrnl_HEAD + toWord (i + 1))
  | none => d

/-- The first waiting commit of page `p` counts as accepted. -/
def admitFirst (p : Nat) : List Commit → List Commit
  | [] => []
  | c :: cs => if c.page == p && !c.admitted then { c with admitted := true } :: cs else c :: admitFirst p cs

def firstWaiting (p : Nat) (cs : List Commit) : Option Commit := cs.find? (fun c => c.page == p && !c.admitted)

/-- An accepted FLASH commit with OP not 0 starts a job, and OP becomes 0 in the applied set and in the shadow set
(R260, R261). -/
def Dev.flashAccept (d : Dev) (c : Commit) : Dev :=
  match c.vals.find? (fun e => e.1 == Reg.flash_OPCTL) with
  | none => d
  | some e =>
    let op := fld e.2 31 30
    if op = 0 then d
    else
      let v (k : Nat) : Word := match c.vals.find? (fun e => e.1 == k) with | some e => e.2 | none => d.reg k
      let noOp (w : Word) : Word := setFld w 31 30 0
      let d1 := { d with pages := { d.pages with commits := d.pages.commits.map (fun (x : Commit) =>
        if x.page == 0x11 then
          { x with vals := x.vals.map (fun (e : Nat × Word) => if e.1 == Reg.flash_OPCTL then (e.1, noOp e.2) else e) }
        else x) } }
      (d1.setShad Reg.flash_OPCTL (noOp (d1.shad Reg.flash_OPCTL))).flashSubmit op (fld e.2 29 28) (fld e.2 12 0)
        (v Reg.flash_DST) (v Reg.flash_SRC) (c.src == .jtag) []

/-- The first waiting commit of page `p` is accepted (R45 step 5, R47, R68): PG_SEQ, PG_CMTSTAT, PG_STAT.PEND on a
frame page, and the end of the ownership. -/
def Dev.acceptCommit (d : Dev) (p : Nat) : Dev :=
  match firstWaiting p d.pages.commits with
  | none => d
  | some c =>
    let d1 := { d with pages := { d.pages with commits := admitFirst p d.pages.commits } }
    let d2 := (d1.setReg (Reg.pgCmtstat p) (cmtWord c.word 1 0 0)).setOwner p none
    let d3 := if isFramePage p then d2.setBitR (Reg.pgStat p) 31 true else d2
    let d4 := if isFramePage p && c.stream then d3 else d3.seqSet p
    (if p = 0x11 then d4.flashAccept c else d4).answerCsn c.csn 0

/-- The deadline of a commit's journal admission (R52). -/
def Dev.commitDeadline (d : Dev) (p : Nat) : Nat :=
  if isFramePage p && d.frames then d.tickt.toNat + d.period.toNat else d.now + 400

/-- A commit request (R45): checked and refused, or captured and then accepted at once or with its journal
entries (R60). The status is absent while the commit waits. -/
def Dev.commitReq (d : Dev) (src : Src) (p : Nat) (word : Word) (csn : Option Word) : Dev × Option Byte :=
  let r := d.commitCheck src p word
  if r.1 ≠ 0 then
    let d0 := if r.1 = 5 then d.deny p 0x24 src (srcCode src) word else d
    d0.refuseCommit src p word r.1 r.2
  else
    let ks := if d.touched p then d.changed p else []
    let plain := isFramePage p && ks.all isStream
    let c : Commit := ⟨p, word, ks.map (fun k => (k, d.ifCommitted k)), plain || !d.touched p, false, csn, src⟩
    let es := if plain then [] else d.commitEntries src p word ks
    let d1 := { d with pages := { d.pages with commits := d.pages.commits ++ [c] } }
    let d2 := d1.setTouched p false
    if plain then ((d2.setReg Reg.jrnl_STRMCNT (d2.reg Reg.jrnl_STRMCNT + 1)).acceptCommit p, some stServed)
    else if d2.jRoom es.length then ((d2.jAdmit es).acceptCommit p, some stServed)
    else ({ d2 with jrn := { d2.jrn with waiting := d2.jrn.waiting ++ [⟨.commit p, es, d2.commitDeadline p⟩] } }, none)

/-! LV writes. -/

/-- Registers whose LV or RW write acts as a whole in the HCLK that admits its entry: a window latch, a lock, a job, a
cleared latch. -/
def lvAtOnce (k : Nat) : Bool :=
  k == Reg.jrnl_RDSEL || k == Reg.flash_RDADDR || k == Reg.otp_RDADDR || k == Reg.ledger_CVCTL || k == Reg.release_CLR
    || k % 0x1000 == 0x20

/-- The value an LV or RW write gives register `k`; RELEASE.CLR is journaled with the word written (R295). -/
def Dev.lvValue (d : Dev) (k : Nat) (v : Word) : Word :=
  if k = Reg.release_CLR then v else mergeMask (lvMask k) v (d.reg k)

/-- A journaled write to the LV or RW fields of register `k` (R53): its entry is admitted, or it waits. `prev` is the
value before it. -/
def Dev.lvQueue (d : Dev) (src : Src) (k : Nat) (v prev : Word) (csn : Option Word) : Dev × Option Byte :=
  let nv := d.lvValue k v
  let e := d.jEntry 4 (k / 0x1000) (k % 0x1000) (srcCode src) nv prev d.frame32 false
  let room := d.jRoom 1
  let job : LvJob := ⟨d.pages.lvNext, k, v, nv, src, room, csn⟩
  let d1 := { d with pages := { d.pages with lv := d.pages.lv ++ [job], lvNext := d.pages.lvNext + 1 } }
  if room then (d1.jAdmit [e], some stServed)
  else ({ d1 with jrn := { d1.jrn with waiting := d1.jrn.waiting ++ [⟨.lvWrite job.id, [e], d.now + 400⟩] } }, none)

/-- A released write to the LV or RW fields of register `k` (R53). -/
def Dev.lvWrite (d : Dev) (src : Src) (k : Nat) (v : Word) (csn : Option Word) : Dev × Option Byte :=
  let p := k / 0x1000
  if d.rbit (Reg.pgLock p) 0 && k != Reg.pgEvten p then (d, some (stRefused 7))
  else d.lvQueue src k v (d.reg k) csn

/-- LV write `id` takes effect in the next HCLK, and its requester is answered (R53). -/
def Dev.lvAdmit (d : Dev) (id : Nat) : Dev :=
  match d.pages.lv.find? (fun j => j.id == id) with
  | none => d
  | some j =>
    let d1 := { d with pages := { d.pages with
      lv := d.pages.lv.map (fun (x : LvJob) => if x.id == id then { x with admitted := true } else x) } }
    d1.answerCsn j.csn 0

/-! Admission of what waits. -/

def JWait.admitted (w : JWait) (d : Dev) : Dev :=
  match w.what with
  | .commit p => d.acceptCommit p
  | .lvWrite id => d.lvAdmit id
  | .event => d

/-- Waiting groups enter the queue in the order in which they arose, as far as there are places (R60). -/
def jServe : List JWait → Dev → Dev
  | [], d => d
  | w :: ws, d =>
    if d.jNonGuard + w.entries.length ≤ 24 then
      jServe ws (w.admitted ({ d with jrn := { d.jrn with waiting := ws } }.jAdmit w.entries))
    else d

def Dev.jService (d : Dev) : Dev := jServe d.jrn.waiting d

/-- The first waiting group of a kind that has passed its deadline. -/
def Dev.jLate (d : Dev) (f : JWaitFor → Bool) : Option JWait :=
  d.jrn.waiting.find? (fun w => f w.what && decide (w.deadline ≤ d.now))

def Dev.jDropWait (d : Dev) (w : JWait) : Dev :=
  { d with jrn := { d.jrn with waiting := d.jrn.waiting.filter (· != w) } }

end Sys2Proof.Machine
end

