-- ==== Sys2Proof/Machine/CanOps.lean ====
section
/-! DEFINITION. Machine/CanOps.lean: the CAN FD controllers (R361 to R376, R381, R382) as shared operations: slots
and how they end, submit, cancel, recover, pop, the error state, start and stop. -/

namespace Sys2Proof.Machine

open Sys2Proof

/-! Slots. -/

def slotDflt (_ : Nat) : Option TxSlot := none

def Dev.txSlot (d : Dev) (n : CanId) (s : Nat) : Option TxSlot := mapGet slotDflt (d.canCh n).slots s
def Dev.setTxSlot (d : Dev) (n : CanId) (s : Nat) (x : Option TxSlot) : Dev :=
  d.updCan n (fun c => { c with slots := mapPut slotDflt c.slots s x })

/-- SLOTST.STATE: 0 EMPTY, 1 PENDING, 2 ACTIVE, 3 DONE, 4 CANCELLED, 5 COMPLETED_AFTER_CANCEL,
6 CANCELLED_AFTER_ERROR, 7 REFUSED. -/
def Dev.slotSt (d : Dev) (n : CanId) (s : Nat) : Nat := d.rfld (Reg.can_SLOTST n.val s) 10 8
def Dev.setSlotSt (d : Dev) (n : CanId) (s st : Nat) : Dev := d.setFldR (Reg.can_SLOTST n.val s) 10 8 st

def txGroup (n : CanId) : Nat := 4 + 2 * n.val
def rxGroup (n : CanId) : Nat := 5 + 2 * n.val
def slotIds : List Nat := List.range 48

/-- Submit time and staged words of a slot. -/
def Dev.slotSubmit (d : Dev) (n : CanId) (s : Nat) : Nat := match d.txSlot n s with | some t => t.submit | none => 0

/-- Slot `s` finishes in `st` with `status`: SLOTST, TXFIN, PG_EVT.TXFIN (R366 table). -/
def Dev.slotFinish (d : Dev) (n : CanId) (s st : Nat) (status : Byte) : Dev :=
  let d1 := (d.setSlotSt n s st).setFldR (Reg.can_SLOTST n.val s) 7 0 status.toNat
  let d2 := if s < 32 then d1.setBitR (Reg.can_TXFIN_LO n.val) s true else d1.setBitR (Reg.can_TXFIN_HI n.val) (s - 32) true
  (d2.setTxSlot n s none).evt (canPage n) 0

/-- Slot `s` ends *refused*, counted in the transmit group (R366 to R369, R376). -/
def Dev.slotRefuse (d : Dev) (n : CanId) (s reason : Nat) : Dev :=
  (d.slotFinish n s 7 (stRefused reason)).admRef (txGroup n) (d.slotCls n s)

/-- The deadline of slot `s`; none for a guard frame (R369). -/
def Dev.slotDeadline (d : Dev) (n : CanId) (s : Nat) : Option Nat :=
  let dl := fld (d.slotStg n s 1) 31 20
  let cls := d.slotCls n s
  let t := d.slotSubmit n s
  if cls = 0 then none
  else if dl ≠ 0 then some (t + 40000 * dl)
  else some (t + 4000 * (if cls = 1 then d.rfld (Reg.can_TXDL n.val) 15 0 else d.rfld (Reg.can_TXDL n.val) 31 16))

/-- The deadline of slot `s` has passed. -/
def Dev.slotExpired (d : Dev) (n : CanId) (s : Nat) : Bool :=
  match d.slotDeadline n s with
  | some t => decide (t ≤ d.now)
  | none => false

/-- The transmit service bound of a class in HCLK (R368, R369). -/
def Dev.txBound (d : Dev) (n : CanId) (cls : Nat) : Nat :=
  4000 * (if cls = 0 then d.rfld (Reg.can_GSB n.val) 15 0 else if cls = 1 then d.rfld (Reg.can_TXSB n.val) 15 0
          else d.rfld (Reg.can_TXSB n.val) 31 16)

/-- The receive service bound of a class in HCLK (R374). -/
def Dev.rxBound (d : Dev) (n : CanId) (cls : Nat) : Nat :=
  4000 * (if cls = 0 then d.rfld (Reg.can_GSB n.val) 31 16 else if cls = 1 then d.rfld (Reg.can_RXSB n.val) 15 0
          else d.rfld (Reg.can_RXSB n.val) 31 16)

/-! Commands of firmware. -/

/-- The staged words of a world (R365). -/
def Dev.staging (d : Dev) (n : CanId) (w : World) : List Word :=
  (List.range 18).map (fun i => d.bankReg w (Reg.can_TXSTG n.val i))

/-- The format check of R366; a slot number above 47 fails it too (assumption 12). -/
def Dev.txFormat (d : Dev) (n : CanId) (slot : Nat) (w0 w1 : Word) : Bool :=
  let cls := fld w1 7 6
  let cfg := d.reg (Reg.can_CFG n.val)
  let xtd := bitOf w0 29
  let rtr := bitOf w0 30
  let fdf := bitOf w0 31
  let brs := bitOf w1 4
  decide (slot < 48) && cls != 3 && (decide (8 ≤ slot) || cls == 0) && (!fdf || bitOf cfg 1)
    && (!brs || (fdf && bitOf cfg 2)) && (!rtr || !fdf) && (xtd || decide (fld w0 28 0 ≤ 0x7FF))

def Dev.bulkSlots (d : Dev) (n : CanId) : Nat := (slotIds.filter (fun s => d.slotBusy n s && d.slotCls n s == 2)).length

/-- The status of a submit: the first check of R366 that fails. -/
def Dev.submitCheck (d : Dev) (n : CanId) (slot : Nat) (w0 w1 : Word) : Byte :=
  if !d.rbit (Reg.can_CFG n.val) 0 then stRefused 9
  else if d.slotBusy n slot then stRefused 0x2B
  else if !d.txFormat n slot w0 w1 then stRefused 0x2C
  else if fld w1 7 6 = 2 ∧ 24 ≤ d.bulkSlots n then stRefused 2 else stServed

/-- SUBMIT (R365, R366). -/
def Dev.txSubmit (d : Dev) (n : CanId) (w : World) (slot : Nat) : Dev :=
  let stg := d.staging n w
  let st := d.submitCheck n slot (listGet 0 stg 0) (listGet 0 stg 1)
  let d1 := d.setBankReg w (Reg.can_TXCMDST n.val) (toWord (slot * 256 + st.toNat))
  if isRefused st then d1.admRef (txGroup n) (fld (listGet 0 stg 1) 7 6)
  else (d1.setReg (Reg.can_SLOTST n.val slot) 0x100).setTxSlot n slot (some ⟨stg, d.now, false, false⟩)

/-- CANCEL reaches the controller (R370). -/
def Dev.txCancel (n : CanId) (s : Nat) (d : Dev) : Dev :=
  match d.slotSt n s with
  | 1 =>
    let d1 := if (d.canCh n).selected = some s then d.updCan n (fun c => { c with selected := none }) else d
    d1.slotFinish n s 4 (stRefused 0x28)
  | 2 => match d.txSlot n s with
    | some t => d.setTxSlot n s (some { t with cancel := true })
    | none => d
  | _ => d

/-! The error state. -/

def Dev.canSt (d : Dev) (n : CanId) : Nat := d.rfld (Reg.can_PSTAT n.val) 2 0

/-- PSTAT.STATE changes, with its MODE entry and STCHG (R376). -/
def Dev.setCanSt (d : Dev) (n : CanId) (st : Nat) : Dev :=
  if d.canSt n = st then d
  else ((d.setFldR (Reg.can_PSTAT n.val) 2 0 st).jmode (canPage n) 0x70 0 (toWord st) (toWord (d.canSt n))).evt (canPage n) 2

/-- PSTAT.TEC and REC show the counters; REC saturates at 255 (R382 table). -/
def Dev.canCounters (d : Dev) (n : CanId) (tec rec : Nat) : Dev :=
  let d1 := d.updCan n (fun c => { c with tecN := tec, recN := rec })
  (d1.setFldR (Reg.can_PSTAT n.val) 15 8 (min tec 255)).setFldR (Reg.can_PSTAT n.val) 23 16 (min rec 255)

/-- RECOVER in bus-off with ABOR = 0 starts the recovery sequence (R376). -/
def Dev.canRecover (d : Dev) (n : CanId) : Dev :=
  if d.canSt n = 4 ∧ d.rbit (Reg.can_CFG n.val) 6 = false then
    (d.updCan n (fun c => { c with boAt := none })).setCanSt n 5
  else d

/-- A frame that is ACTIVE becomes PENDING again. -/
def Dev.slotBack (d : Dev) (n : CanId) (s : Nat) : Dev := if s < 48 then d.setSlotSt n s 1 else d

/-- Every PENDING or ACTIVE timely and bulk frame ends *refused* with `reason`; guard frames are PENDING (R376, R381). -/
def Dev.canFlushSlots (d : Dev) (n : CanId) (reason : Nat) : Dev :=
  let d1 := d.updCan n (fun c => { c with selected := none, active := none })
  Dev.each (fun s d =>
    if d.slotBusy n s then (if d.slotCls n s = 0 then d.slotBack n s else d.slotRefuse n s reason) else d) slotIds d1

/-- Every unfinished frame ends *refused* with `reason` (R391 step 2). -/
def Dev.canRefuseAll (d : Dev) (n : CanId) (reason : Nat) : Dev :=
  let d1 := d.updCan n (fun c => { c with selected := none, active := none })
  Dev.each (fun s d => if d.slotBusy n s then d.slotRefuse n s reason else d) slotIds d1

/-- EN = 1 is applied: bus integration starts, with the error counters of a node that starts at 0 (R381). -/
def Dev.canStart (d : Dev) (n : CanId) : Dev :=
  let d1 := d.updCan n (fun c => { c with stopping := false, boAt := none })
  if d1.canSt n = 0 then (d1.canCounters n 0 0).setCanSt n 1 else d1

/-- EN = 0 is applied: the controller stops at the end of the frame in progress (R381). -/
def Dev.canStopReq (d : Dev) (n : CanId) : Dev :=
  if d.canSt n = 0 then d else d.updCan n (fun c => { c with stopping := true })

/-! The read window. -/

/-- The place of the oldest frame of class `cls`. -/
def rxPlace (cls : Nat) : List RxItem → Nat → Option Nat
  | [], _ => none
  | x :: xs, i => if x.cls.toNat = cls then some i else rxPlace cls xs (i + 1)

/-- The next frame to pop: the oldest of the highest class held (R374). -/
def rxNext (xs : List RxItem) : Option Nat :=
  match rxPlace 0 xs 0, rxPlace 1 xs 0, rxPlace 2 xs 0 with
  | some i, _, _ => some i
  | none, some i, _ => some i
  | none, none, r => r

def dropAt {α : Type} : List α → Nat → List α
  | [], _ => []
  | _ :: xs, 0 => xs
  | x :: xs, n + 1 => x :: dropAt xs n

def Dev.rxDrop (d : Dev) (n : CanId) (i : Nat) : Dev := d.updCan n (fun c => { c with rx := dropAt c.rx i })

/-- The identifier word of a frame (RXW0, as TXSTG0). -/
def frameWord0 (f : CanFrame) : Word :=
  toWord (f.id.toNat + boolNat f.xtd * 0x20000000 + boolNat f.rtr * 0x40000000 + boolNat f.fdf * 0x80000000)

/-- Byte `i` of a window word: the received byte, or where the frame has none, a value the spec leaves open. -/
def pickByte (f : CanFrame) (free : Word) (k i : Nat) : Byte :=
  match f.data[4 * k + i]? with
  | some b => b
  | none => free.extractLsb' (8 * i) 8

/-- The 16 data words of the window; bytes the frame does not hold are free values (assumption 6). -/
def Dev.rxData (w : World) (n : CanId) (f : CanFrame) : List Nat → Dev → Dev
  | [], d => d
  | k :: ks, d =>
    let (free, d1) := d.drawWord
    let v := bytesWord (pickByte f free k 0) (pickByte f free k 1) (pickByte f free k 2) (pickByte f free k 3)
    Dev.rxData w n f ks (d1.setBankReg w (Reg.can_RXWD n.val k) v)

/-- POP into the window of world `w` (R374). -/
def Dev.rxPop (d : Dev) (n : CanId) (w : World) : Dev :=
  match rxNext (d.canCh n).rx with
  | none => d.setBankReg w (Reg.can_RXW n.val 1) (setBit (d.bankReg w (Reg.can_RXW n.val 1)) 31 false)
  | some i =>
    match (d.canCh n).rx[i]? with
    | none => d
    | some x =>
      let cls := x.cls.toNat
      let late := decide (d.rxBound n cls < d.now - x.stored)
      let st := if late then 1 else 0
      let f := x.frame
      let w1 := toWord (f.dlc.toNat + boolNat f.brs * 16 + boolNat f.esi * 32 + cls * 64 + x.filter * 256 + st * 65536
        + n.val * 0x1000000 + 0x80000000)
      let d1 := if late then d.admDly (rxGroup n) cls else d
      let d2 := ((d1.setBankReg w (Reg.can_RXW n.val 0) (frameWord0 f)).setBankReg w (Reg.can_RXW n.val 1) w1).setBankReg w
        (Reg.can_RXW n.val 2) x.time
      (d2.rxData w n f (List.range 16)).rxDrop n i

end Sys2Proof.Machine
end

