-- ==== Sys2Proof/Machine/DriveOps.lean ====
section
/-! DEFINITION. Machine/DriveOps.lean: what a drive does at a tick (R305 to R315, R327 to R331), its tracker
(R325 to R328), and the switch edges of a PWM period (R302 to R304, R320, R322). -/

namespace Sys2Proof.Machine

open Sys2Proof

/-! Tracker. -/

/-- Event angles for forward rotation, in the order of the forward sequence (R326). -/
def evtAngle : List Word := [0x15555555, 0x40000000, 0x6AAAAAAB, 0x95555555, 0xC0000000, 0xEAAAAAAB]

/-- θ_evt of an event for a direction of rotation (R326). -/
def thetaEvt (idx : Fin 6) (reverse : Bool) : Word :=
  let i := idx.val
  listGet 0 evtAngle (if reverse then (i + 3) % 6 else i)

/-- The index of an edge in the forward sequence V+, U−, W+, V−, U+, W−. -/
def evtIdx (ph : Phase3) (rising : Bool) : Fin 6 :=
  match ph, rising with
  | .v, true => 0
  | .u, false => 1
  | .w, true => 2
  | .v, false => 3
  | .u, true => 4
  | .w, false => 5

/-- T6, from the seventh-last to the last event; the newest event stands first (R327). -/
def Drive.t6 (x : Drive) : Nat :=
  match x.lastEvts with
  | e :: es => match es[5]? with
    | some f => e.time.toNat - f.time.toNat
    | none => 0
  | [] => 0

/-- The time since the last event exceeds T6 / 2 at `t` (R327). -/
def Drive.stale (x : Drive) (t : Nat) : Bool :=
  match x.lastEvts with
  | e :: _ => decide (x.t6 < 2 * (t - e.time.toNat))
  | [] => true

/-- ω in 2^-40 turn per HCLK (R327). -/
def Drive.omega (x : Drive) : Int :=
  if !x.trkValid then 0
  else
    let w := rneDiv (2 ^ 40) (max 1 x.t6)
    if x.runDir then -w else w

/-- θ_T at `t` (R327). -/
def Drive.thetaT (x : Drive) (t : Nat) : Word :=
  match x.lastEvts with
  | e :: _ =>
    if x.trkValid then thetaEvt e.idx x.runDir + intWord (rneDiv (x.omega * ((t : Int) - e.time.toNat)) 256) else 0
  | [] => 0

/-- Whether an event follows its predecessor in a direction (R326). -/
def follows (a b : Fin 6) (reverse : Bool) : Bool :=
  if reverse then (b.val + 1) % 6 == a.val else (a.val + 1) % 6 == b.val

/-- The tracker takes an event (R326, R327): the run of one direction grows, or restarts from the event. The flag
says that the event followed neither sequence. -/
def Drive.track (x : Drive) (e : TrkEvent) : Drive × Bool :=
  match x.lastEvts with
  | [] => ({ x with lastEvts := [e], runLen := 1, trkValid := false }, false)
  | p :: _ =>
    let fwd := follows p.idx e.idx false
    let rev := follows p.idx e.idx true
    if !fwd && !rev then ({ x with lastEvts := [e], runLen := 1, trkValid := false }, true)
    else if x.runLen = 1 || x.runDir == rev then
      let n := min 7 (x.runLen + 1)
      ({ x with lastEvts := (e :: x.lastEvts).take 7, runLen := n, runDir := rev, trkValid := n == 7 }, false)
    else ({ x with lastEvts := [e, p], runLen := 2, runDir := rev, trkValid := false }, false)

/-- The tracker loses validity until the next event of its sequence (R327). -/
def Drive.trackLost (x : Drive) : Drive := { x with trkValid := false }

/-! The tick. -/

def Dev.drvTripped (d : Dev) (n : DrvId) : Bool := d.rfld (Reg.drv_TSTAT n.val) 7 0 != 0
def Dev.drvMode (d : Dev) (n : DrvId) : Nat := d.rfld (Reg.drv_MODECTL n.val) 1 0

/-- The overrun check (R314): the hold count, TOTAL, PG_EVT.HOLD, and whether OVR is due. -/
def Dev.drvHold (d : Dev) (n : DrvId) (missing counts : Bool) : Dev :=
  let k := Reg.drv_HOLDSTAT n.val
  let d0 := d.updDrive n (fun x => { x with missing := missing })
  if !missing then d0.setFldR k 3 0 0
  else if !counts then d0
  else
    let h := d0.rfld k 3 0 + 1
    let d1 := (d0.setFldR k 31 8 (satU 24 (d0.rfld k 31 8 + 1))).evt (0x15 + n.val) 3
    if d1.rfld (Reg.drv_HOLDCFG n.val) 3 0 < h then
      (d1.setFldR k 3 0 0).updDrive n (fun x => { x with ovrDue := true })
    else d1.setFldR k 3 0 h

/-- The observer angle in force: the committed one, or the held one advanced (R315). -/
def Dev.drvObs (d : Dev) (n : DrvId) (held : Bool) (per : Nat) : Dev :=
  let step := intWord (rneDiv (wordInt (d.reg (Reg.drv_OBSSPD n.val)) * (per : Int)) 256)
  let v := if held then (d.drive n).obsHeld + step else d.reg (Reg.drv_OBSANG n.val)
  d.updDrive n (fun x => { x with obsHeld := v })

/-- The IF generator (R307): `entered` says that IF is entered at this tick, `runs` that it is in force or the old
source of a blend. -/
def Dev.drvIf (d : Dev) (n : DrvId) (entered runs : Bool) : Dev :=
  let k := n.val
  d.updDrive n (fun x =>
    if entered then { x with theta := d.reg (Reg.drv_IFANG0 k), inc := d.reg (Reg.drv_IFINC0 k) }
    else if runs then
      let i := ifIncNext x.inc (d.reg (Reg.drv_IFACC k)) (d.reg (Reg.drv_IFINCLIM k))
      { x with inc := i, theta := x.theta + i }
    else x)

/-- The tracker is latched for firmware (R328). -/
def Dev.drvTrackLatch (d : Dev) (n : DrvId) : Dev :=
  let d1 := if (d.drive n).trkValid && (d.drive n).stale d.now then d.updDrive n Drive.trackLost else d
  let x := d1.drive n
  let k := n.val
  let d2 := (d1.setReg (Reg.drv_TRKANG k) (x.thetaT d1.now)).setReg (Reg.drv_TRKSPD k) (intWord x.omega)
  (d2.setBitR (Reg.drv_TRKSTAT k) 0 x.trkValid).setBitR (Reg.drv_TRKSTAT k) 1 (x.trkValid && x.runDir)

/-- The reason of a failing frame: 1 angle, 3 tracker, 0 none (R330). -/
def Dev.drvFails (d : Dev) (n : DrvId) : Nat :=
  let k := n.val
  let x := d.drive n
  let dif := x.obsHeld - d.reg (Reg.drv_TRKANG k)
  if x.trkValid then (if (d.reg (Reg.drv_LOSS_ANG k)).toNat < wordAbs dif then 1 else 0)
  else if (d.reg (Reg.drv_SUP_MIN k)).toNat ≤ wordAbs (d.reg (Reg.drv_OBSSPD k)) then 3 else 0

/-- The speed check of R330. -/
def Dev.drvSpeedBad (d : Dev) (n : DrvId) : Bool :=
  let k := n.val
  let w := wordInt (d.reg (Reg.drv_TRKSPD k))
  (d.drive n).trkValid && decide ((d.reg (Reg.drv_SUP_MIN k)).toNat ≤ w.natAbs)
    && decide ((d.reg (Reg.drv_LOSS_SPD k)).toNat < (wordInt (d.reg (Reg.drv_OBSSPD k)) - w).natAbs)

/-- Supervision at a tick (R329, R330): OBSDIF, the loss count, and whether observer loss is due at tick + 4. -/
def Dev.drvSupervise (d : Dev) (n : DrvId) : Dev :=
  let k := n.val
  if d.rbit (Reg.drv_SUPCFG k) 0 && d.drvMode n == 3 && !d.rbit (Reg.drv_MSTAT k) 2 && !d.drvTripped n then
    let d1 := d.setReg (Reg.drv_OBSDIF k) ((d.drive n).obsHeld - d.reg (Reg.drv_TRKANG k))
    if d1.drvSpeedBad n then d1.updDrive n (fun x => { x with obsDue := 2 })
    else
      let why := d1.drvFails n
      let cnt := if why = 0 then 0 else satU 4 (d1.rfld (Reg.drv_TRKSTAT k) 7 4 + 1)
      let d2 := d1.setFldR (Reg.drv_TRKSTAT k) 7 4 cnt
      if why ≠ 0 ∧ d2.rfld (Reg.drv_SUPCFG k) 11 8 ≤ cnt then
        d2.updDrive n (fun x => { x with obsDue := BitVec.ofNat 2 why })
      else d2
  else d

/-- The vector of a source for this frame (R305, R306), and whether its rotation saturated. -/
def Dev.drvSource (d : Dev) (n : DrvId) (mode : Nat) : Vec × Bool :=
  let k := n.val
  sourceVec mode (d.reg (Reg.drv_VDQ k)) (d.reg (Reg.drv_VCL k)) (d.reg (Reg.drv_ALANG k)) (d.drive n).theta

/-- Source vectors, blend and compare values of the frame (R305 to R308, R313). -/
def Dev.drvCompute (d : Dev) (n : DrvId) : Dev :=
  let k := n.val
  let m := Reg.drv_MSTAT k
  let new := d.drvSource n (d.drvMode n)
  let j := d.rfld m 15 8
  let b := d.rfld (Reg.drv_MODECTL k) 15 8
  let blending := d.rbit m 2
  let old := d.drvSource n (d.drive n).blendOld.toNat
  let v := if blending then blendVec old.1 new.1 j b else new.1
  let d1 := d.setReg (Reg.drv_VAPP k) (vecWord v)
  let d2 := if blending then d1.setReg (Reg.drv_VSRC k) (vecWord old.1) else d1
  let mo := modulate v (d2.rfld (Reg.drv_PWMCTL k) 15 0)
  let d3 := ((d2.setReg (Reg.drv_CMPU k) (toWord mo.1)).setReg (Reg.drv_CMPV k) (toWord mo.2.1)).setReg
    (Reg.drv_CMPW k) (toWord mo.2.2.1)
  let satm := mo.2.2.2
  let d4 := (d3.setBitR m 16 (new.2 || (blending && old.2))).setBitR m 17 satm
  if satm then d4.setBitR (Reg.pgFault (0x15 + k)) 5 true else d4

/-- The blend of a mode change, or the next blend frame (R313): MSTAT.BLEND and BLJ. -/
def Dev.drvBlend (d : Dev) (n : DrvId) (old : Nat) : Dev :=
  let k := n.val
  let m := Reg.drv_MSTAT k
  let new := d.drvMode n
  let b := d.rfld (Reg.drv_MODECTL k) 15 8
  if new ≠ old then
    let d1 := d.setFldR m 1 0 new
    if old = 0 ∨ new = 0 ∨ b = 0 then (d1.setFldR m 2 2 0).setFldR m 15 8 0
    else ((d1.updDrive n (fun x => { x with blendOld := BitVec.ofNat 2 old })).setFldR m 2 2 (boolNat (decide (1 < b)))).setFldR m 15 8 1
  else if d.rbit m 2 then
    let j := d.rfld m 15 8 + 1
    (d.setFldR m 2 2 (boolNat (decide (j < b)))).setFldR m 15 8 j
  else d.setFldR m 15 8 0

/-- One drive at the tick, after the pending sets are applied (R309). `old` is the mode until now and `missing`
says that the frame has no accepted commit. -/
def Dev.drvTick (d : Dev) (n : DrvId) (old : Nat) (missing : Bool) (per : Nat) (before : Word) : Dev :=
  let counts := d.drvMode n != 0 && !d.drvTripped n
  let d1 := (d.drvHold n missing counts).drvObs n missing per
  let wasBlend := d1.rbit (Reg.drv_MSTAT n.val) 2
  let d2 := d1.drvBlend n old
  let new := d2.drvMode n
  let entered := new == 2 && old != 2
  let oldIf := d2.rbit (Reg.drv_MSTAT n.val) 2 && (d2.drive n).blendOld == 2
  let d3 := d2.drvIf n entered (new == 2 || oldIf || (wasBlend && (d2.drive n).blendOld == 2))
  ((((d3.drvTrackLatch n).drvSupervise n).drvCompute n).drvSync n before).ovCheck n

/-! Comparators. -/

/-- The OC comparator is ignored at `t`: leading-edge blanking (R322). -/
def Dev.ocBlanked (d : Dev) (n : DrvId) (t : Nat) : Bool :=
  let leb := d.rfld (Reg.drv_OCCFG n.val) 23 16
  let e := d.lastEdge n t
  decide (0 < leb) && decide (0 < e) && decide (t < e + leb)

/-- The current is above the OC threshold (R317). -/
def Dev.ocHigh (d : Dev) (n : DrvId) : Bool := decide (d.rfld (Reg.drv_OCCFG n.val) 9 0 < (d.drive n).icode.toNat)
end Sys2Proof.Machine
end

