-- ==== Sys2Proof/Machine/FanOps.lean ====
section
/-! DEFINITION. Machine/FanOps.lean: fan channels (R335 to R348), the switched outputs at a GPO commit (R350), and
Puffball's entry (R355 to R357). -/

namespace Sys2Proof.Machine

open Sys2Proof

/-! Fan channels. -/

/-- The channel's state changes; the stall timer and the good count belong to RUN. -/
def Dev.setFanSt (d : Dev) (i : FanId) (st : Nat) : Dev :=
  (d.setFldR (Reg.fan_STAT i.val) 2 0 st).updFan i (fun f => { f with stall := 0, good := 0 })

/-- The loop preloads at its next tick with the duty applied until then (R341). -/
def Dev.fanPreload (d : Dev) (i : FanId) (last : Nat) : Dev :=
  d.updFan i (fun f => { f with preload := true, lastDuty := BitVec.ofNat 16 last, duty := BitVec.ofNat 16 last })

/-- A timer of the channel starts; while DEV holds the channel it stands still (R343, R346). -/
def Dev.fanTimer (d : Dev) (i : FanId) (len : Nat) : Dev :=
  let held := d.devLatch && !d.fanDesignated i.val
  d.updFan i (fun f => { f with phaseEnd := d.now + len, heldAt := if held then some d.now else none })

/-- The channel enters KICK (R343). -/
def Dev.fanKick (d : Dev) (i : FanId) : Dev :=
  (d.setFanSt i 1).fanTimer i (4000000 * d.rfld (Reg.fan_RETRY i.val) 15 8)

/-- The channel starts from OFF (R336, R339, R341). -/
def Dev.fanStart (d : Dev) (i : FanId) : Dev :=
  let d1 := (d.updFan i (fun f => { f with fresh := 0, ovrOff := false })).fanPreload i (d.rfld (Reg.fan_DLIM i.val) 15 0)
  if d1.rbit (Reg.fan_CFG i.val) 5 then d1.fanKick i else d1.setFanSt i 2

/-- The channel enters OFF: RCNT and its stall flag clear (R343, R344). -/
def Dev.fanOff (d : Dev) (i : FanId) : Dev :=
  let st := d.fanSt i
  let d1 := ((d.setFanSt i 0).setFldR (Reg.fan_STAT i.val) 15 8 0).updFan i (fun f => { f with ovrOff := false })
  if st = 4 ∨ st = 5 then d1.setBitR (Reg.pgFault 0x19) i.val false else d1

/-- A FAN commit applied to channel `i`, whose mode and duty until now are given (R339, R341, R344, R345). -/
def Dev.fanApply (old duty : Nat) (i : FanId) (d : Dev) : Dev :=
  let new := d.fanMode i
  let d0 := d.updFan i (fun f => { f with configured := f.configured || f.written })
  if new = 0 then (if old = 0 then d0 else d0.fanOff i)
  else if old = 0 then d0.fanStart i
  else if (d0.fanCh i).ovrOff then d0.fanStart i
  else if old ≠ 2 ∧ new = 2 ∧ d0.fanSt i = 2 then d0.fanPreload i duty else d0

/-- The overrun check of the FAN page at a tick (R345). -/
def Dev.fanHoldCheck (d : Dev) (missing : Bool) : Dev :=
  let k := Reg.fan_HOLDSTAT
  if !(d.rbit Reg.fan_HOLDCFG 8 && missing) then d.setFldR k 7 0 0
  else
    let h := d.rfld k 7 0 + 1
    if d.rfld Reg.fan_HOLDCFG 7 0 < h then { d.setFldR k 7 0 0 with fanOvrDue := true } else d.setFldR k 7 0 h

/-- OVR stops a channel that runs (R345, R346). -/
def Dev.fanOvrStop (i : FanId) (d : Dev) : Dev :=
  let st := d.fanSt i
  if d.fanDesignated i.val || d.rbit (Reg.fan_CFG i.val) 4 || !(st == 1 || st == 2 || st == 3) then d
  else d.updFan i (fun f => { f with ovrOff := true })

/-- SPEED from a number of HCLK per revolution (R336). -/
def speedOf (t : Nat) : Word := if t = 0 then 0xFFFFFFFF else toWord (min (rneDiv 1572864000000000 t).toNat 0xFFFFFFFF)

/-- PPR of a channel; Puffball's own for a channel it drives (R336, R357). -/
def Dev.fanPpr (d : Dev) (i : FanId) : Nat :=
  if d.fanPuff i then d.rfld Reg.puff_CFG 11 8 else d.rfld (Reg.fan_CFG i.val) 11 8

/-! Switched outputs. -/

/-- The interlock partner of output `i`, if its pair is selected (R349). -/
def Dev.gpoPartner (d : Dev) (i : Nat) : Option Nat :=
  if d.rbit Reg.gpo_CFG (i / 2) then some (if i % 2 = 0 then i + 1 else i - 1) else none

/-- Output `i` at a GPO commit with the ON word until now (R350). -/
def Dev.gpoApplyOne (oldOn : Word) (i : Nat) (d : Dev) : Dev :=
  let on := d.rbit Reg.gpo_ON i
  let off (j : Nat) : Bool := bitOf oldOn j && !d.rbit Reg.gpo_ON j
  let wait := on && !bitOf oldOn i && (match d.gpoPartner i with | some j => off j | none => false)
  let bbm := 400000 * d.rfld Reg.gpo_CFG 23 16
  if wait && decide (0 < bbm) then d.updGpo i (fun g => { g with bbmEnd := some (d.now + bbm) })
  else if on then d else d.updGpo i (fun g => { g with bbmEnd := none })

def Dev.gpoApply (d : Dev) (oldOn : Word) : Dev := (Dev.each (Dev.gpoApplyOne oldOn) (List.range 8) d).gpoSync

/-! Puffball. -/

/-- Puffball takes control with an entry reason (R355, R356): the PUFF and DEV latches, every output of R453, the
cancelled slots, LEVEL 0b11, and its two MODE entries with SRC 0x6. Nothing with PUFF.CFG.EN = 0 or in control
already. -/
def Dev.puffEnter (d : Dev) (reason : Nat) : Dev :=
  if !d.rbit Reg.puff_CFG 0 || d.puffActive then d
  else
    let d1 := d.setReg Reg.puff_STAT (toWord (1 + reason * 16))
    let d2 := (Dev.each (fun n d => d.drvLatch n 0x80) drvIds d1).setDev 8 0
    let d3 := Dev.each (fun n d => Dev.each (Dev.txCancel n) slotIds d) canIds d2.gpoSync
    let d4 := d3.setSvc (d3.rfld Reg.sys_SVCLVL 10 8) 3 6
    let d5 := d4.jmode 0x1A 0x54 6 (toWord reason) 0
    { d5 with puff := { d5.puff with entered := d.now, kicking := true, nextDistress := d.now } }

/-- Reaction P, or X when the block is one Puffball uses (R446, R457): the caller has journaled the fault. -/
def Dev.hubDead (d : Dev) : Dev := { d with phase := .dead }

end Sys2Proof.Machine
end

