-- ==== Sys2Proof/Machine/JournalOps.lean ====
section
/-! DEFINITION. Machine/JournalOps.lean: the ring of journal entries in retention memory (R59, R61, R63), the read
latch (R69), the mirror in flash and its flushes (R65, R66), and the start of the journal (R62, R268). -/

namespace Sys2Proof.Machine

open Sys2Proof

/-! An entry as it is stored. -/

/-- Bytes 0x00 to 0x1B of an entry as seven words (R63). -/
def JEntry.body (e : JEntry) (seq : Word) : List Word :=
  [seq, toWord (e.kind.toNat + e.page.toNat * 0x100 + e.offset.toNat * 0x10000 + e.src.toNat * 0x10000000), e.new, e.prev,
   e.frame, toWord (e.time.toNat % 2 ^ 32), toWord (e.time.toNat / 2 ^ 32)]

/-- The CRC of an entry over bytes 0x00 to 0x1D (R63). -/
def entryCrc (ws : List Word) : Nat := crc16 ((ws.flatMap wordBytes).take 30)

/-- The eight words of an entry (R63). -/
def JEntry.words (e : JEntry) (seq : Word) : List Word :=
  let ws := e.body seq ++ [toWord e.ecode.toNat]
  e.body seq ++ [toWord (e.ecode.toNat + entryCrc ws * 0x10000)]

/-- The CRC of eight stored words is correct. -/
def crcHolds (ws : List Word) : Bool := (listGet 0 ws 7).toNat / 0x10000 == entryCrc ws

def slotAddr (slot : Nat) : Nat := 0x30000000 + 32 * (slot % 384)

/-- The slot of entry `s` (R59). -/
def Dev.slotOf (d : Dev) (s : Word) : Nat :=
  (d.rfld Reg.jrnl_HEADSLOT 8 0 + 384 - (d.reg Reg.jrnl_HEAD - s).toNat % 384) % 384

/-- The ring holds entry `s` (R59). -/
def Dev.holdsEntry (d : Dev) (s : Word) : Bool := decide ((d.reg Reg.jrnl_HEAD - s).toNat < (d.reg Reg.jrnl_COUNT).toNat)

/-- The pointers and their duplicates (R266). -/
def Dev.setPointers (d : Dev) (head slot count mir : Word) : Dev :=
  { ((((d.setReg Reg.jrnl_HEAD head).setReg Reg.jrnl_HEADSLOT slot).setReg Reg.jrnl_COUNT count).setReg Reg.jrnl_MIRHEAD mir) with
    jdup := ⟨head, slot, count, mir⟩ }

/-- One entry goes into the ring (R59, R61): its eight words, UNMIR, the pointers; a CMT_HEAD gives PG_SEQ (R68). -/
def Dev.jStore (d : Dev) (e : JEntry) : Dev :=
  let head := d.reg Reg.jrnl_HEAD
  let seq := head + 1
  let slot := (d.rfld Reg.jrnl_HEADSLOT 8 0 + 1) % 384
  let cnt := (d.reg Reg.jrnl_COUNT).toNat
  let mir := d.reg Reg.jrnl_MIRHEAD
  let lost := decide (384 ≤ cnt) && decide (384 ≤ (head - mir).toNat)
  let d1 := Dev.putWords (e.words seq) (slotAddr slot) d
  let d2 := if lost then d1.count Reg.jrnl_UNMIR 1 else d1
  let d3 := d2.setPointers seq (toWord slot) (toWord (min 384 (cnt + 1))) mir
  if e.kind = 1 ∧ (headPlace e.page.toNat d3.jrn.queue 0 none).isNone then d3.setReg (Reg.pgSeq e.page.toNat) seq else d3

/-- The front entry of the queue is written. -/
def Dev.jWriteOne (d : Dev) : Dev :=
  match d.jrn.queue with
  | [] => d
  | e :: es => ({ d with jrn := { d.jrn with queue := es, wroteAt := d.now } }).jStore e

/-- Every queued entry is written. -/
def Dev.jDrain : Nat → Dev → Dev
  | 0, d => d
  | n + 1, d => Dev.jDrain n d.jWriteOne

/-! The read latch. -/

/-- A stored word, corrected where it can be (R252), and whether it could not. -/
def Dev.readWord (d : Dev) (a : Nat) : Word × Bool :=
  match d.checkAt a with
  | .ok => (d.word a, false)
  | .corrected w => (w, false)
  | .bad => (d.word a, true)

/-- The eight words at `a`, and whether one is uncorrectable. -/
def Dev.readRecord (d : Dev) (a : Nat) : List Word × Bool :=
  let rs := (List.range 8).map (fun i => d.readWord (a + 4 * i))
  (rs.map (fun (r : Word × Bool) => r.1), rs.any (fun (r : Word × Bool) => r.2))

/-- A write of RDSEL latches entry `s` (R59, R69). Of an entry the ring does not hold, nothing is latched. -/
def Dev.jLatch (d : Dev) (s : Word) : Dev :=
  let gone := !d.holdsEntry s
  let r := d.readRecord (slotAddr (d.slotOf s))
  let old := (List.range 8).map (fun i => d.reg (Reg.jrnl_RDWIN i))
  let ws := if gone then old else r.1
  let crc := crcHolds ws && (gone || !r.2)
  let d1 := Dev.each (fun i d => d.setReg (Reg.jrnl_RDWIN i) (listGet 0 ws i)) (List.range 8) d
  d1.setReg Reg.jrnl_RDSTAT (toWord (boolNat (listGet 0 ws 0 == s) + 2 * boolNat crc + 4 * boolNat gone))

/-! The mirror. -/

def mirHalf (base : Nat) (half : Bool) : Nat := base + if half then 16384 else 0

/-- Record `i` of the mirror area (1 024 of them) as stored; none where it reads erased or fails its CRC. -/
def Dev.mirRecord (d : Dev) (base i : Nat) : Option Word :=
  let r := d.readRecord (base + 32 * i)
  if !r.2 && crcHolds r.1 then some (listGet 0 r.1 0) else none

/-- The newest of the records from `i` on, with its place; SEQ is compared modulo 2^32. -/
def Dev.mirNewest (d : Dev) (base : Nat) : List Nat → Option (Nat × Word) → Option (Nat × Word)
  | [], r => r
  | i :: is, r =>
    let r' := match d.mirRecord base i, r with
      | some s, some m => if (s - m.2).toNat < 2 ^ 31 then some (i, s) else some m
      | some s, none => some (i, s)
      | none, x => x
    Dev.mirNewest d base is r'

/-- Record `i` has been programmed. -/
def Dev.mirUsed (d : Dev) (base i : Nat) : Bool := (List.range 8).any (fun j => !d.erased (base + 32 * i + 4 * j))

/-- The mirror area of a configuration record (R65, R270): appending goes on behind the newest record. -/
def Dev.setMirror (d : Dev) (base auto : Nat) : Dev :=
  let half := match d.mirNewest base (List.range 1024) none with | some (i, _) => decide (512 ≤ i) | none => false
  let off := if half then 512 else 0
  let used := ((List.range 512).filter (fun i => d.mirUsed base (off + i))).length
  { (d.setReg Reg.jrnl_MIRCFG (toWord (auto % 65536))) with
    jrn := { d.jrn with mirBase := base, mirValid := true, half := half, halfUsed := used } }

/-- The duration of a flush of `n` entries (R65, R262): one program job, and one erase job of four sectors. -/
def flushTime (n : Nat) (erases : Bool) : Nat := 8000 + 3200 * n + if erases then 3208000 else 0

/-- One entry is appended to the mirror (R65); a full half makes way for the erased other one. -/
def Dev.mirAppend (d : Dev) (s : Word) : Dev :=
  let d1 := if d.jrn.halfUsed < 512 then d
    else
      let h := !d.jrn.half
      Dev.eraseWords (mirHalf d.jrn.mirBase h) 4096 { d with jrn := { d.jrn with half := h, halfUsed := 0 } }
  let a := mirHalf d1.jrn.mirBase d1.jrn.half + 32 * d1.jrn.halfUsed
  let d2 := Dev.putWords (d1.readRecord (slotAddr (d1.slotOf s))).1 a d1
  { d2 with jrn := { d2.jrn with halfUsed := d2.jrn.halfUsed + 1 } }

/-- The newest entries that a flush of `n` writes, oldest first. -/
def Dev.flushSeqs (d : Dev) (n : Nat) : List Word :=
  (List.range n).map (fun i => d.reg Reg.jrnl_HEAD - toWord (d.unmirrored - 1 - i))

/-- The end of the flush under way (R65, R66, R263, R407): the records, MIRHEAD, the FLUSH entry, the hold. A flush
requested meanwhile is submitted now (assumption 11). -/
def Dev.flushFinish (d : Dev) (id : Nat) : Dev :=
  let n := min d.jrn.flushN d.unmirrored
  let ss := d.flushSeqs n
  let d1 := ss.foldl Dev.mirAppend d
  let mir := match ss.getLast? with | some s => s | none => d.reg Reg.jrnl_MIRHEAD
  let d2 := d1.setPointers (d1.reg Reg.jrnl_HEAD) (d1.reg Reg.jrnl_HEADSLOT) (d1.reg Reg.jrnl_COUNT) mir
  let d3 := ({ (d2.jobEnd id) with jrn := { d2.jrn with flushJob := none } }).floppClear
  let d4 := d3.jlog 0x0E 1 0x54 0 mir (toWord (d3.rfld Reg.jrnl_FLSTAT 7 0))
  match d4.jrn.flush with
  | some c => ({ d4 with jrn := { d4.jrn with flush := none } }).flushRequest c.toNat
  | none => d4

/-! The start of the journal. -/

/-- The mirror area that the image's records name (R270): the payload of the record of TYPE 0x03. -/
def findMirror (d : Dev) : Nat → Nat → Nat → Option Nat
  | 0, _, _ => none
  | n + 1, a, stop =>
    if stop ≤ a then none
    else
      let w := (d.readWord a).1
      let len := fld w 15 8
      if fld w 7 0 = 3 then some (d.readWord (a + 4)).1.toNat
      else if fld w 7 0 = 0 then none else findMirror d n (a + 4 + 4 * len) stop

/-- The base of the mirror area of the image in flash, before the records are applied (R62). -/
def Dev.imageMirror (d : Dev) : Option Nat :=
  let reclen := (d.readWord 0x3FF010).1.toNat
  if reclen ≤ 0xF00 then findMirror d 960 0x3FF100 (0x3FF100 + reclen) else none

/-- The newest mirrored sequence number (R62). -/
def Dev.newestMirrored (d : Dev) : Option Word :=
  match d.imageMirror with
  | some b => if b % 32768 = 0 ∧ b + 32768 ≤ 0x400000 then (d.mirNewest b (List.range 1024) none).map (fun x => x.2) else none
  | none => none

/-- The two stored copies of the pointers agree (R268). -/
def Dev.pointersAgree (d : Dev) : Bool :=
  d.reg Reg.jrnl_HEAD == d.jdup.head && d.reg Reg.jrnl_HEADSLOT == d.jdup.headslot
    && d.reg Reg.jrnl_COUNT == d.jdup.count && d.reg Reg.jrnl_MIRHEAD == d.jdup.mirhead

/-- Every word of both areas as 0 with its code (R268). -/
def Dev.clearRetention (d : Dev) : Dev :=
  { d with mem := mapKeep (fun a => !isRetn a) d.mem, codes := mapKeep (fun a => !isRetn a) d.codes }

/-- The journal starts anew behind the newest mirrored entry, its first entry in slot 0 (R62). -/
def Dev.jRestart (d : Dev) : Dev :=
  let head := match d.newestMirrored with | some s => s | none => 0xFFFFFFFF
  d.setPointers head 383 0 head

end Sys2Proof.Machine
end

