-- ==== Sys2Proof/Machine/PowerOps.lean ====
section
/-! DEFINITION. Machine/PowerOps.lean: shared operations of supplies, power states and clocks (R384 to R397, R419 to
R423, R435): supply flags, the power of copies, low-power entry and exit, the HCLK source. -/

namespace Sys2Proof.Machine

open Sys2Proof

/-! Supplies. -/

/-- A flag of SUPSTAT rises: the flag, its sticky copy, PG_EVT.UV or OV (R386). -/
def Dev.supSet (d : Dev) (bit ev : Nat) : Dev :=
  if d.rbit Reg.pwr_SUPSTAT bit then d
  else ((d.setBitR Reg.pwr_SUPSTAT bit true).setBitR Reg.pwr_SUPSTAT (16 + bit) true).evt 3 ev

def supplyNo : Supply → Nat
  | .vsupH => 0
  | .vsupA => 1
  | .vsupB => 2
  | .vsupC => 3
  | .vio => 4

/-- The measured-voltage register of a supply. -/
def supplyReg (i : Supply) : Nat :=
  match i with
  | .vsupH => Reg.pwr_VSUPH
  | .vsupA => Reg.pwr_VSUPA
  | .vsupB => Reg.pwr_VSUPB
  | .vsupC => Reg.pwr_VSUPC
  | .vio => Reg.pwr_VIO

/-- VSUP of copy `c` is below its brownout threshold (R387). -/
def Dev.copyLow (d : Dev) (c : CopyId) : Bool := d.rbit Reg.pwr_SUPSTAT (1 + c.val)

/-! Copies. -/

/-- ρ_nom of a setting of CFREQ, Q4.28 (R419). -/
def rhoNom (cfreq : BitVec 2) : Word :=
  match cfreq.toNat with
  | 0 => 0x18000000
  | 1 => 0x14000000
  | 2 => 0x10000000
  | _ => 0x0C000000

/-- The strap takes CFREQ before a regulator is enabled (R419). -/
def Dev.setStrap (d : Dev) : Dev := { d with clk := { d.clk with strap := BitVec.ofNat 2 (d.rfld Reg.clk_CCFG 1 0) } }

/-- Copy `c` gets its regulator; its link end and the hub's start anew (R435, R227, R145). What the hub stored of
its equalizer stays (R104). -/
def Dev.copyOn (c : CopyId) (d : Dev) : Dev :=
  let old := d.link c
  let x : Copy := { Dev.copyReset with
    powered := true, time := { Dev.copyReset.time with rho := rhoNom d.clk.strap } }
  { d with
    copies := d.copies.set c x,
    links := d.links.set c { Dev.linkReset with eqStored := old.eqStored, eqRate := old.eqRate },
    clk := { d.clk with rhoNew := d.clk.rhoNew.set c none } }

/-- The copies that an image and the package allow (R6, R385). -/
def Dev.allowedCopies (d : Dev) : List CopyId := if d.boot.usePair || d.variant != 3 then [0, 1] else [0, 1, 2]

/-! Low power. -/

/-- A commit of PWR.REQ is applied (R391): PSTATE, and the ledger takes no new job. -/
def Dev.pwrApply (d : Dev) : Dev :=
  match d.rfld Reg.pwr_REQ 1 0 with
  | 1 => { d.setPstate 3 with ledgerStop := true }
  | 2 => { d.setPstate 5 with ledgerStop := true }
  | _ => d

/-- A controller stops (R381, R391): STATE stopped, its unfinished timely and bulk frames end ABSENT. -/
def Dev.canHalt (d : Dev) (n : CanId) : Dev :=
  let d1 := if d.lp.entered then d.canRefuseAll n 9 else d.canFlushSlots n 9
  (d1.updCan n (fun c => { c with stopping := false, internal := none, selected := none, active := none })).setCanSt n 0

/-- Low-power entry stops a controller: at once, or at the end of the frame in progress (R391 step 2). -/
def Dev.canPark (n : CanId) (d : Dev) : Dev :=
  let act := (d.canCh n).active
  let d1 := Dev.each (fun s d => if d.slotBusy n s && act != some s then d.slotRefuse n s 9 else d) slotIds d
  if d1.canSt n = 0 then d1.canRefuseAll n 9
  else if act.isSome then d1.canStopReq n
  else d1.canHalt n

/-- A link stores its equalizer settings and powers down with its copy (R391 step 3). -/
def Dev.linkPark (c : CopyId) (d : Dev) : Dev :=
  let was := d.lstate c == 7
  let rate : BitVec 2 := BitVec.ofNat 2 (d.rfld (Reg.linkx_STAT c.val) 27 26)
  (d.copyOff 0 c).updLink c (fun L => { L with eqStored := was, eqRate := rate })

/-- Steps 1 to 3 of R391. -/
def Dev.lowPowerEnter (d : Dev) : Dev :=
  let d1 := { d with cmp := [], lp := { d.lp with entered := true, stopping := false }, frames := false, cs := .idle }
  let d2 := Dev.each Dev.canPark canIds d1
  let d3 := (Dev.each Dev.linkPark d2.poweredCopies d2).dbgClear
  { d3 with agr := d3.agr.restart }

/-- Low power may stop HCLK: both controllers stopped and the journal's queue empty (R391 steps 2 and 4). -/
def Dev.stopReady (d : Dev) : Bool :=
  d.lp.entered && d.jrn.queue.isEmpty && d.jrn.waiting.isEmpty && d.canSt 0 == 0 && d.canSt 1 == 0

def wakeCode : WakeSrc → Nat
  | .pin => 1
  | .can0 => 2
  | .can1 => 3
  | .timer => 4

/-- A wake source that WAKECFG enables (R393). -/
def Dev.wakeOn (d : Dev) (w : WakeSrc) : Bool :=
  d.rbit Reg.pwr_WAKECFG (match w with | .pin => 0 | .can0 => 2 | .can1 => 3 | .timer => 4)

/-- Doze ends (R393, R394): LASTWAKE, PSTATE, and the HCLK source restarts. -/
def Dev.dozeWake (d : Dev) (w : WakeSrc) : Dev :=
  let d1 := (d.setFldR Reg.pwr_STAT 11 8 (wakeCode w)).setPstate 4
  { d1 with phase := .dozeWake, lp := { d1.lp with wakePend := none } }

/-- What is left in Hibernate: the retained items, and a hub that a WAKE reset restarts (R390, R397). -/
def Dev.hibernate (d : Dev) : Dev :=
  let d1 := d.hubReset (d.rfld Reg.rst_LAST 7 0)
  { (d1.setFldR Reg.pwr_STAT 3 0 7) with phase := .hibernating }

/-- HCLK stops (R391 step 5): the MODE entry is written first. A wake event that came during the entry ends Doze at
once. -/
def Dev.hclkStop (d : Dev) : Dev :=
  if d.pstate = 5 then ((d.setPstate 7).jDrain 64).hibernate
  else
    let d1 := (d.setPstate 6).jDrain 64
    let d2 := { d1 with phase := .dozing, lp := { d1.lp with entered := false } }
    match d2.lp.wakePend with
    | some w => d2.dozeWake w
    | none => d2

/-- AGE becomes 0 in every used partner-table entry (R396). -/
def Dev.partAges (d : Dev) : Dev :=
  Dev.each (fun e d => if d.rfld (Reg.part_ENT e) 31 30 = 0 then d else d.setFldR (Reg.part_PSTAT e) 31 16 0) (List.range 128) d

/-- HCLK runs again after Doze (R394 steps 2 and 3, R395, R396, R414). -/
def Dev.dozeRestore (d : Dev) (n : Nat) : Dev :=
  let t := d.now + (rneDiv ((n : Int) * 390625) 32).toNat
  let d1 := { d with time := BitVec.ofNat 64 t, phase := .run, ledgerStop := false,
                     puff := { d.puff with insvcFrom := d.puff.insvcFrom.map (fun f => f + (t - d.now)) } }
  let d2 := ((d1.setFldR Reg.pwr_REQ 1 0 0).partAges).setStrap
  let d3 := Dev.each (fun n d => if d.rbit (Reg.can_CFG n.val) 0 then d.canStart n else d) canIds d2
  let d4 := Dev.each Dev.copyOn d3.svcCopies d3
  { d4 with cs := .locking, csDue := d4.now + 80000,
            ledger := { d4.ledger with convAt := d4.now / 4000 * 4000, msAt := d4.now / 400000 * 400000 } }

/-! The HCLK source. -/

/-- A commit of CLK is applied (R420): with SRC = 1 the crystal starts, unless it is in use already. -/
def Dev.clkApply (d : Dev) : Dev :=
  if d.rbit Reg.clk_CFG 0 then
    let d1 := d.setBitR Reg.clk_STAT 2 false
    if d1.rbit Reg.clk_STAT 0 || d1.clk.starting || d1.clk.switchDue then d1
    else { d1.setBitR Reg.clk_STAT 1 false with clk := { d1.clk with starting := true, startedAt := d1.now } }
  else { d with clk := { d.clk with starting := false, switchDue := d.rbit Reg.clk_STAT 0 } }

/-- A controller whose bit timing breaks rule 4 of R381 stops as when EN = 0 is applied (R423). -/
def Dev.canRcCheck (n : CanId) (d : Dev) : Dev :=
  let ok := if (d.canCh n).puffTiming then decide (640 ≤ nbtOf (d.reg Reg.puff_DBTR)) else canRule4 d.reg n.val
  if ok then d else d.canStopReq n

/-- The multiplexer moves HCLK at a tick (R420); a commit of SRC = 0 moves it back (assumption 14). -/
def Dev.clkTick (d : Dev) : Dev :=
  if !d.clk.switchDue then d
  else
    let d1 := { d with clk := { d.clk with switchDue := false } }
    if d1.rbit Reg.clk_CFG 0 then (if d1.rbit Reg.clk_STAT 1 then d1.setBitR Reg.clk_STAT 0 true else d1)
    else (d1.setBitR Reg.clk_STAT 0 false).setBitR Reg.clk_STAT 1 false

/-- The crystal fails while it is the source (R423). -/
def Dev.crystalLost (d : Dev) : Dev :=
  let d1 := ((d.setBitR Reg.clk_STAT 0 false).setBitR Reg.clk_STAT 1 false).setBitR Reg.clk_STAT 2 true
  Dev.each Dev.canRcCheck canIds { d1 with clk := { d1.clk with switchDue := false, starting := false } }

end Sys2Proof.Machine
end

