-- ==== Sys2Proof/Machine/Effects.lean ====
section
/-! DEFINITION. Machine/Effects.lean: what an applied commit, an LV write, a safe-direction write and RELEASE.CLR do
beyond storing a value (R48, R53, R87, R103, R140, R259, R285 to R296, R323, R347, R350, R352, R378, R381, R404, R405,
R427, R441, R444, R455). -/

namespace Sys2Proof.Machine

open Sys2Proof

/-! Applied commits. -/

/-- The values of an accepted commit enter the applied set. -/
def Dev.applyVals (vals : List (Nat × Word)) (d : Dev) : Dev :=
  Dev.each (fun (e : Nat × Word) d => d.setReg e.1 (mergeMask (shMask e.1) e.2 (d.reg e.1))) vals d

/-- A CAN page: EN starts or stops the controller (R381). -/
def Dev.canApply (n : CanId) (d : Dev) : Dev := if d.rbit (Reg.can_CFG n.val) 0 then d.canStart n else d.canStopReq n

/-- The LINK page: PEND until the next full training, and LINKCFG to the copies (R103, R140). -/
def Dev.linkApply (before d : Dev) : Dev :=
  let d1 := if d.reg Reg.link_CFG &&& 0x31 ≠ before.reg Reg.link_CFG &&& 0x31 then d.setBitR Reg.link_CFG 31 true else d
  if d.reg Reg.link_TMR ≠ before.reg Reg.link_TMR then Dev.ctlSend (.linkcfg (d.reg Reg.link_TMR)) d1 else d1

/-- PART.PRES shows the entries that are PRESENT (R380). -/
def Dev.presSync (e : Nat) (d : Dev) : Dev :=
  d.setBitR (Reg.part_PRES (e / 32)) (e % 32) (d.rfld (Reg.part_PSTAT e) 1 0 == 2)

/-- A partner entry whose configuration words changed starts anew (R378). -/
def Dev.partApplyOne (before : Dev) (e : Nat) (d : Dev) : Dev :=
  let same (k : Nat) : Bool := before.reg k == d.reg k
  if same (Reg.part_ENT e) && same (Reg.part_IDHI e) && same (Reg.part_TIM e) then d
  else
    let st := if d.rfld (Reg.part_ENT e) 31 30 = 0 then 0 else 1
    (((d.setFldR (Reg.part_PSTAT e) 1 0 st).setFldR (Reg.part_PSTAT e) 15 8 0).setFldR (Reg.part_PSTAT e) 31 16 0).presSync e

/-- What applying page `p` does beyond its values. -/
def Dev.pageEffect (p : Nat) (before d : Dev) : Dev :=
  match p with
  | 2 => if d.reg Reg.ledger_CAPNF = before.reg Reg.ledger_CAPNF then d else d.setReg Reg.ledger_CMEAS 0
  | 3 => d.pwrApply
  | 4 => d.clkApply
  | 10 => d.senseApply
  | 13 => Dev.linkApply before d
  | 0x1B => d.canApply 0
  | 0x1C => d.canApply 1
  | 0x1D => Dev.each (Dev.partApplyOne before) (List.range 128) d
  | 0x1E => d.gpoApply (before.reg Reg.gpo_ON)
  | _ => d

/-- The entries of a commit of page `p` are complete in the ring (R48). -/
def Dev.commitComplete (d : Dev) (p : Nat) : Bool := !d.jrn.queue.any (fun e => e.forCommit && e.page.toNat == p)

/-- An accepted commit is applied (R48, R49, R68): the values, PG_CMTSTAT, PG_EVT.CMTAPP and the page's effect. -/
def Dev.applyCommit (d : Dev) (c : Commit) : Dev :=
  let p := c.page
  let d0 := { d with pages := { d.pages with commits := d.pages.commits.filter (· != c) } }
  let d1 := ((Dev.applyVals c.vals d0).setReg (Reg.pgCmtstat p) (cmtWord c.word 2 0 0)).evt p 29
  if c.stream then d1 else Dev.pageEffect p d d1

/-- The oldest accepted commit of an immediate page. -/
def Dev.nextApply (d : Dev) (p : Nat) : Option Commit :=
  if isFramePage p || !d.commitComplete p then none
  else d.pages.commits.find? (fun c => c.page == p && c.admitted)

/-! Read windows. -/

/-- The FLASH read window (R259): the raw word, its code and flags. Beyond the flash the window holds free values
(assumption 6). -/
def Dev.flashLatch (d : Dev) (v : Word) : Dev :=
  let a := v.toNat / 4 * 4
  if isFlash a then
    let chk := d.checkAt a
    let ce := match chk with | .corrected _ => true | _ => false
    let ue := chk == .bad
    let er := d.erased a
    let info := (d.code a).toNat % 128 + boolNat er * 256 + boolNat ce * 512 + boolNat ue * 1024
    let d1 := (d.setReg Reg.flash_RDWORD (d.word a)).setReg Reg.flash_RDINFO (toWord info)
    (d1.count Reg.flash_CECNT (boolNat ce)).count Reg.flash_UECNT (boolNat (ue && !er))
  else
    let (w, d1) := d.drawWord
    let (x, d2) := d1.drawWord
    (d2.setReg Reg.flash_RDWORD w).setReg Reg.flash_RDINFO (x &&& 0x77F)

/-- The OTP window (R444): the debug key reads 0 and HIDDEN. -/
def Dev.otpLatch (d : Dev) (v : Word) : Dev :=
  let o := fld v 11 2 * 4
  if 0x500 ≤ o ∧ o < 0x520 then (d.setReg Reg.otp_RDWORD 0).setReg Reg.otp_RDINFO 4
  else match d.checkAt (0x50000000 + o) with
    | .ok => (d.setReg Reg.otp_RDWORD (d.word (0x50000000 + o))).setReg Reg.otp_RDINFO 0
    | .corrected w => (d.setReg Reg.otp_RDWORD w).setReg Reg.otp_RDINFO 1
    | .bad => (d.setReg Reg.otp_RDWORD (d.word (0x50000000 + o))).setReg Reg.otp_RDINFO 2

/-! The capacitance check. -/

/-- GO (R404): a job of class timely or bulk with its declared energy; another class, or a check under way, is refused
CAPACITY (assumption 11). -/
def Dev.capGo (d : Dev) : Dev :=
  let c := d.reg Reg.ledger_CVCTL
  let cls := fld c 29 28
  let busy := d.ledger.jobs.any (fun j => j.kind == .capCheck)
  if (cls ≠ 1 ∧ cls ≠ 2) ∨ busy then
    (d.setReg Reg.ledger_JSTAT (toWord (5 * 256 + (stRefused 2).toNat))).setFldR Reg.ledger_CVSTAT 7 0 (stRefused 2).toNat
  else d.jobSubmit .capCheck cls (d.rfld Reg.pwr_HOLDSNS 15 0 * sinkMa c * fld c 15 8) none

/-! Safe-direction writes. -/

/-- The latches of RELEASE.LATCH that a safe-direction write names (R285). -/
def safeMask (k : Nat) (v : Word) : Nat :=
  if k = Reg.drv_SAFE 0 then 2 * fld v 0 0
  else if k = Reg.drv_SAFE 1 then 4 * fld v 0 0
  else if k = Reg.drv_SAFE 2 then 8 * fld v 0 0
  else if k = Reg.trip_SAFE then 2 * fld v 2 0 + 0xFF00 * fld v 3 3
  else if k = Reg.trip_REQ then 0x10000 * fld v 31 31
  else if k = Reg.fan_SAFE then 0x10 * fld v 3 0
  else if k = Reg.gpo_SAFE then 0x100 * fld v 7 0
  else if k = Reg.release_SAFE then fld v 0 0
  else 0

/-- The registers of R285. -/
def isSafeReg (k : Nat) : Bool :=
  k == Reg.drv_SAFE 0 || k == Reg.drv_SAFE 1 || k == Reg.drv_SAFE 2 || k == Reg.trip_SAFE || k == Reg.trip_REQ
    || k == Reg.fan_SAFE || k == Reg.gpo_SAFE || k == Reg.release_SAFE

/-- The latches of a mask set: DEV, the drives' SW, the fans, the switched outputs, TREQ in every drive (R285, R317). -/
def Dev.setLatches (m : Nat) (d : Dev) : Dev :=
  let has (b : Nat) : Bool := m / 2 ^ b % 2 == 1
  let d1 := Dev.each (fun n d => if has (1 + n.val) then d.drvLatch n 1 else d) drvIds d
  let d2 := Dev.each (fun (i : FanId) d => if has (4 + i.val) && !d.fanDesignated i.val then Dev.setFanLatch i.val d else d) fanIds d1
  let d3 := Dev.each (fun i d => if has (8 + i) then Dev.setGpoLatch i d else d) (List.range 8) d2
  let d4 := if has 16 then Dev.each (fun n d => d.drvLatch n 2) drvIds d3 else d3
  if has 0 then d4.setDev 2 0 else d4

/-- A safe-direction write executes (R285, R287): its latches, TRIP.REQSTAT, and its SAFE_WRITE entry with the latch
state before. -/
def Dev.safeWrite (d : Dev) (srcNo k : Nat) (v : Word) : Dev :=
  let prev := d.latchView
  let d1 := Dev.setLatches (safeMask k v) d
  let d2 := if k = Reg.trip_REQ ∧ bitOf v 31 then
      d1.setReg Reg.trip_REQSTAT (toWord (fld v 7 0 + srcNo * 256 + d.frnum.toNat % 65536 * 65536))
    else d1
  d2.jlog 5 (k / 0x1000) (k % 0x1000) srcNo v prev

/-! Leaving the safe state. -/

/-- Latches that safe-direction outputs of later CSNs have set already (R296). -/
def Dev.laterSafe (d : Dev) (csn : Option Word) : Nat :=
  match csn with
  | none => 0
  | some n => d.cmp.foldl (fun m e =>
      match e.arrival with
      | some a =>
        let later := (e.csn - n).toNat
        if e.safeDone && decide (0 < later) && decide (later < 2 ^ 31) then m ||| safeMask (a.req.addr.toNat - 0x40000000) a.req.data
        else m
      | none => m) 0

/-- The latches of drive `n` that its CLR bit clears (R323). -/
def Dev.clrBits (d : Dev) (n : DrvId) (keepSw : Bool) : Nat :=
  let oc := d.reg (Reg.drv_OCCFG n.val)
  let ov := d.reg (Reg.drv_OVCFG n.val)
  let x := d.drive n
  (if keepSw then 0 else 1) + 0x18
    + (if x.icode.toNat + fld oc 14 10 < fld oc 9 0 then 4 else 0) + (if x.vcode.toNat + fld ov 14 10 < fld ov 9 0 then 0x20 else 0)

/-- A fan latch clears (R347). -/
def Dev.clrFan (i : FanId) (d : Dev) : Dev :=
  if !d.rbit Reg.release_LATCH (4 + i.val) then d
  else
    let d1 := d.setBitR Reg.release_LATCH (4 + i.val) false
    let old := d1.fanMode i
    if old = 0 then d1
    else ((d1.setFldR (Reg.fan_CFG i.val) 1 0 0).fanOff i).jmode 0x19 (0x44 + 0x20 * i.val) 0 0 (toWord old)

/-- A switched output's latch clears (R352). -/
def Dev.clrGpo (i : Nat) (d : Dev) : Dev :=
  if !d.rbit Reg.release_LATCH (8 + i) then d
  else (d.setBitR Reg.release_LATCH (8 + i) false).setBitR Reg.gpo_ON i false

/-- DEV clears (R292, R323, R346). -/
def Dev.clrDev (d : Dev) : Dev :=
  let d1 := (d.setBitR Reg.release_LATCH 0 false).setFldR Reg.release_RSTCNT 3 0 0
  Dev.each Dev.fanUnhold fanIds (Dev.each (fun n d => d.drvClear n 0x40) drvIds d1)

/-- An accepted RELEASE.CLR (R295, R296, R323, R347, R352). -/
def Dev.releaseClear (d : Dev) (v : Word) (csn : Option Word) : Dev :=
  let later := d.laterSafe csn
  let kept (b : Nat) : Bool := later / 2 ^ b % 2 == 1
  let has (b : Nat) : Bool := bitOf v b && !kept b
  let d1 := Dev.each (fun n d => if bitOf v (1 + n.val) then d.drvClear n (d.clrBits n (kept (1 + n.val))) else d) drvIds d
  let d2 := Dev.each (fun (i : FanId) d => if has (4 + i.val) then Dev.clrFan i d else d) fanIds d1
  let d3 := Dev.each (fun i d => if has (8 + i) then Dev.clrGpo i d else d) (List.range 8) d2
  let d4 := if has 16 then Dev.each (fun n d => d.drvClear n 2) drvIds d3 else d3
  (if has 0 then d4.clrDev else d4).gpoSync

/-! LV writes. -/

/-- An LV or RW write takes effect (R53). -/
def Dev.lvEffect (d : Dev) (j : LvJob) : Dev :=
  let k := j.key
  if k = Reg.release_CLR then d.releaseClear j.raw j.csn
  else
    let d1 := d.setReg k (mergeMask (lvMask k) j.val (d.reg k))
    if k = Reg.jrnl_RDSEL then d1.jLatch j.val
    else if k = Reg.flash_RDADDR then d1.flashLatch j.val
    else if k = Reg.otp_RDADDR then d1.otpLatch j.val
    else if k = Reg.ledger_CVCTL then (if bitOf j.raw 31 then d1.capGo else d1)
    else if k % 0x1000 = 0x14 then d1.reqSync
    else d1

/-- LV write `id`, admitted, takes effect. -/
def Dev.lvRun (d : Dev) (id : Nat) : Dev :=
  match d.pages.lv.find? (fun j => j.id == id && j.admitted) with
  | none => d
  | some j => ({ d with pages := { d.pages with lv := d.pages.lv.filter (fun x => x.id != id) } }).lvEffect j

/-- The writes that act in the HCLK of their admission. -/
def Dev.lvAtOnceRun (d : Dev) : Dev :=
  Dev.each (fun (j : LvJob) d => if j.admitted && lvAtOnce j.key then d.lvRun j.id else d) d.pages.lv d

/-- Waiting groups are admitted, and what acts at once does so (R60). -/
def Dev.jServe1 (d : Dev) : Dev := d.jService.lvAtOnceRun

/-! The watchdog, resets and debug. -/

/-- The watchdog runs (R455, R442). -/
def Dev.wdogRuns (d : Dev) : Bool :=
  decide (0 < d.nSvc) && !d.puffActive && d.phase != .dozing && !(d.rbit Reg.dbg_STAT 0 && d.rbit Reg.dbg_CTRL 5)

/-- A watchdog fault (R451 code 0x0E, R455). -/
def Dev.wdogFault (d : Dev) (prev : Nat) : Dev :=
  (d.setFldR Reg.wdog_STAT 31 28 prev).reactS ⟨0x0E, 0x1F, 4, toWord prev, 1⟩ 8 0 (d.rfld Reg.sys_SVCLVL 10 8) 0x10

/-- A released kick (R455); of a kick that is both wrong and early, the value decides (assumption 17). -/
def Dev.wdogKick (d : Dev) (v : Half) : Dev :=
  if !d.wdogRuns then d
  else
    let st := d.reg Reg.wdog_STAT
    if v.toNat ≠ fld st 15 0 then d.wdogFault 3
    else if fld st 27 16 < fld d.wdCfg 27 16 then d.wdogFault 2
    else
      let next := if fld st 15 0 = 0x5AF0 then 0xA50F else 0x5AF0
      ((d.setFldR Reg.wdog_STAT 27 16 0).setFldR Reg.wdog_STAT 15 0 next).setReg Reg.wdog_KCNT (d.reg Reg.wdog_KCNT + 1)

/-- A software reset (R427). Other scopes than the two reset nothing. -/
def Dev.swReset (d : Dev) (scope : Nat) : Dev :=
  if scope = 1 then ((d.holdOutputs 8 0).safeLevel (d.rfld Reg.sys_SVCLVL 10 8) 0).restartStep 0x12 false
  else if scope = 2 then d.hubReset 6 else d

/-- RESUME and STEP after a debug write of SRAM or a flash job of the debug port invalidate both caches (R438). -/
def Dev.dbgCaches (d : Dev) (op : Byte) : Dev :=
  if d.dbg.inval ∧ (op = 7 ∨ op = 8) then
    { d with copies := d.copies.map (fun (x : Copy) => { x with dbgInval := true }), dbg := { d.dbg with inval := false } }
  else d

/-- A write of DBG.CMD while HALTED (R441): DBGCMD to every copy; STEP ends HALTED and sets STEPPING. -/
def Dev.dbgCmd (d : Dev) (op : Byte) (arg : Half) : Dev :=
  if !d.rbit Reg.dbg_STAT 0 then d
  else
    let id := d.dbg.dcid + 1
    let d1 := { d with dbg := { d.dbg with dcid := id, cmd := some (op, arg), answers := Tri.const none,
                                           reports := Tri.const false } }
    let d2 := Dev.ctlSend (.dbgcmd op id arg (d.reg Reg.dbg_DATA)) (d1.dbgCaches op)
    if op = 8 then d2.setFldR Reg.dbg_STAT 1 0 2 else d2

end Sys2Proof.Machine
end

