-- ==== Sys2Proof/Machine/Write.lean ====
section
/-! DEFINITION. Machine/Write.lean: a write to a hub register (R13, R14, R42, R43, R45, R50, R53, R57, R68, R294, R295,
R359, R365, R374, R427, R439, R441, R455). The answer is a status byte (R35), absent while the write waits for the
journal. -/

namespace Sys2Proof.Machine

open Sys2Proof

/-- A write's outcome. -/
abbrev Wrote := Dev × Option Byte

def Dev.served (d : Dev) : Wrote := (d, some stServed)

/-- The W1C bits of a register are cleared (R13). -/
def Dev.w1c (d : Dev) (k : Nat) (v : Word) : Dev := d.setReg k (d.reg k &&& ~~~(v &&& toWord (w1cMask k)))

/-- W1C writes, with SRAM's and RETN's UE (09_memories.md) and the falling requests of R168. -/
def Dev.w1cWrite (d : Dev) (k : Nat) (v : Word) : Dev :=
  let d1 := d.w1c k v
  if k = Reg.pgFault 0x12 ∧ bitOf v 0 then { d1.setReg Reg.sram_UEADDR 0 with scrubW := { d1.scrubW with seen := [] } }
  else if k = Reg.pgFault 0x13 ∧ bitOf v 0 then { d1.setReg Reg.retn_UEADDR 0 with refreshW := { d1.refreshW with seen := [] } }
  else if k % 0x1000 = 0x10 then d1.reqSync else d1

/-- RELEASE.CLR is accepted or refused (R295): BADKEY, SAFESTATE. -/
def Dev.clrWrite (d : Dev) (src : Src) (v : Word) (csn : Option Word) : Wrote :=
  if fld v 31 24 ≠ 0x3C then (d, some (stRefused 0x24))
  else if bitOf v 0 ∧ (d.rfld Reg.release_RSTCNT 31 16 < d.rfld Reg.release_RSTCFG 31 16 ∨ d.planExec = true) then
    (d, some (stRefused 8))
  else
    let r := d.lvQueue src Reg.release_CLR v d.latchView csn
    (r.1.lvAtOnceRun, r.2)

/-- A software reset by its key (R427). -/
def Dev.swrstWrite (d : Dev) (v : Word) : Wrote :=
  if fld v 31 24 ≠ 0xA5 then (d, some (stRefused 0x24)) else (d.swReset (fld v 1 0)).served

/-- PG_LOCK (R53, R68): set-only; a locked page refuses it as any RW write. -/
def Dev.lockWrite (d : Dev) (src : Src) (p : Nat) (v : Word) (csn : Option Word) : Wrote :=
  if d.rbit (Reg.pgLock p) 0 then (d, some (stRefused 7))
  else if !bitOf v 0 then d.served
  else
    let r := d.lvQueue src (Reg.pgLock p) 1 (d.reg (Reg.pgLock p)) csn
    (r.1.lvAtOnceRun, r.2)

/-- PG_CTRL (R43, R68): SHDISC, then the LV bits. -/
def Dev.ctrlWrite (d : Dev) (src : Src) (p : Nat) (v : Word) (csn : Option Word) : Wrote :=
  (if bitOf v 30 then d.shDiscard p else d).lvWrite src (Reg.pgCtrl p) v csn

/-- DBG.CTRL (R439): HALT, then the LV bits. -/
def Dev.dbgCtrlWrite (d : Dev) (src : Src) (v : Word) (csn : Option Word) : Wrote :=
  (if bitOf v 0 then d.updAgr (fun a => { a with dbgPend := true }) else d).lvWrite src Reg.dbg_CTRL v csn

/-- A CAN command register of controller `n` (R365, R366, R370, R374, R376); none for another register. -/
def Dev.canWrite (d : Dev) (src : Src) (n : CanId) (k : Nat) (v : Word) : Option Wrote :=
  let w := srcWorld src
  if k = Reg.can_TXCMD n.val then
    some (match fld v 9 8 with
      | 1 => (d.txSubmit n w (fld v 5 0)).served
      | 2 => (Dev.txCancel n (fld v 5 0) d).served
      | 3 => (d.canRecover n).served
      | _ => d.served)
  else if k = Reg.can_RXCMD n.val then some (if bitOf v 0 then (d.rxPop n w).served else d.served)
  else if Reg.can_TXSTG n.val 0 ≤ k ∧ k < Reg.can_TXSTG n.val 18 then some (d.setBankReg w k v).served
  else none

/-- A first write of GATECFG or of a fan's CFG, after whose apply the hub drives the group's pins (R301, R465). -/
def Dev.noteWritten (k : Nat) (d : Dev) : Dev :=
  let d1 := Dev.each (fun (n : DrvId) d => if k = Reg.drv_GATECFG n.val then d.updDrive n (fun x => { x with written := true }) else d)
    drvIds d
  Dev.each (fun (i : FanId) d => if k = Reg.fan_CFG i.val then d.updFan i (fun x => { x with written := true }) else d) fanIds d1

/-- LV bits after SH bits of one register, where it has both (R404 CVCTL). -/
def Dev.lvPart (d : Dev) (src : Src) (k : Nat) (v : Word) (csn : Option Word) : Wrote :=
  if lvMask k = 0 then d.served
  else
    let r := d.lvWrite src k v csn
    (r.1.lvAtOnceRun, r.2)

/-- SH, LV, RW and W1C fields. -/
def Dev.fieldWrite (d : Dev) (src : Src) (k : Nat) (v : Word) (csn : Option Word) : Wrote :=
  if shMask k ≠ 0 then
    let r := d.shWrite src k v
    if r.2 = some stServed then (r.1.noteWritten k).lvPart src k v csn else r
  else if w1cMask k ≠ 0 then (d.w1cWrite k v).served
  else d.lvPart src k v csn

/-- A permitted write to register `k` = page × 0x1000 + offset. -/
def Dev.permitted (d : Dev) (src : Src) (k : Nat) (v : Word) (csn : Option Word) : Wrote :=
  let p := k / 0x1000
  if isSafeReg k then (d.safeWrite (srcCode src) k v).served
  else if k = Reg.pgCtrl p then d.ctrlWrite src p v csn
  else if k = Reg.pgEvtset p then (d.setReg (Reg.pgEvt p) (d.reg (Reg.pgEvt p) ||| (v &&& 0xE0FFFFFF))).served
  else if k = Reg.pgLock p then d.lockWrite src p v csn
  else if k = Reg.release_CLR then d.clrWrite src v csn
  else if k = Reg.rst_SWRST then d.swrstWrite v
  else if k = Reg.jrnl_FLUSH then (if fld v 1 0 = 3 then d else d.flushRequest (fld v 1 0)).served
  else if k = Reg.wdog_KICK then (d.wdogKick (v.setWidth 16)).served
  else if k = Reg.dbg_CTRL then d.dbgCtrlWrite src v csn
  else if k = Reg.dbg_CMD then (d.dbgCmd (v.setWidth 8) (v.extractLsb' 16 16)).served
  else match d.canWrite src 0 k v, d.canWrite src 1 k v with
    | some r, _ => r
    | none, some r => r
    | none, none => d.fieldWrite src k v csn

/-- Sources that R294 and R359 hold back. -/
def Dev.heldBack (d : Dev) (src : Src) (k : Nat) : Bool :=
  match src with
  | .copies _ _ => d.level == 2 && !isSafeReg k
  | .jtag => (d.level == 2 && !isSafeReg k) || (d.puffActive && k / 0x1000 != 5)
  | _ => false

/-- A write to register `k` (R42, R45, R57, R294, R359): PG_COMMIT has its guard check inside the order of R45. -/
def Dev.regWrite (d : Dev) (src : Src) (k : Nat) (v : Word) (csn : Option Word) : Wrote :=
  let p := k / 0x1000
  if d.absentPage p then (d, some (stRefused 9))
  else if d.heldBack src k then (d, some (stRefused 8))
  else if k = Reg.pgCommit p then d.commitReq src p v csn
  else if !d.guardOk p src true then (d.deny p (k % 0x1000) src (srcCode src) v, some (stRefused 5))
  else d.permitted src k v csn

end Sys2Proof.Machine
end

