-- ==== Sys2Proof/Machine/JournalCmds.lean ====
section
/-! DEFINITION. Machine/JournalCmds.lean: the commands of the journal writer and its mirror (R59, R60, R65, R66). -/

namespace Sys2Proof.Machine

open Sys2Proof

/-- JOURNAL_ENTRY_WRITE (R59): one entry each 4 HCLK, and what waits for places is admitted. -/
def execJournalEntryWrite (s : State) : Host.Outcome State Fault Refusal :=
  s.run (fun d => dueIf (d.live && !d.jrn.queue.isEmpty) (fun d => ((d.at (d.jrn.wroteAt + 4)).jWriteOne).jServe1) d)

/-- JOURNAL_ENTRY_TIMEOUT (R60): 4 000 HCLK after the entry arose. -/
def execJournalEntryTimeout (s : State) : Host.Outcome State Fault Refusal :=
  s.run (fun d => match d.jrn.waiting.find? (fun w => w.what == .event) with
    | some w =>
      let d1 := d.at w.deadline
      ((d1.jDropWait w).jRefuseT w.entries.length).jServe1
    | none => d)

/-- Unmirrored entries have reached MIRCFG.AUTO (R66). -/
def Dev.autoFlushDue (d : Dev) : Bool :=
  let auto := d.rfld Reg.jrnl_MIRCFG 15 0
  d.live && auto != 0 && decide (auto ≤ d.unmirrored) && !d.ledger.jobs.any (fun j => j.kind == .flush)

/-- JOURNAL_AUTO_FLUSH (R66): in class bulk. -/
def execJournalAutoFlush (s : State) : Host.Outcome State Fault Refusal :=
  s.run (fun d => dueIf d.autoFlushDue (fun d => d.flushRequest 2) d)

/-- A plan step that waited for this flush has ended (R411). -/
def Dev.planFlushDone (d : Dev) (id : Nat) : Dev :=
  if d.ledger.planFlush = some id then
    { d with ledger := { d.ledger with planFlush := none, planBusyUntil := d.now } }
  else d

/-- The plan ends after its last step (R413); a restart that waited for its end runs. -/
def Dev.planDone (d : Dev) : Dev :=
  if d.planExec && d.ledger.planFlush.isNone && decide (d.rfld Reg.ledger_PLANCTL 19 16 ≤ d.ledger.planNext) then
    (d.setBitR Reg.ledger_PLANCTL 4 false).restartAfterPlan
  else d

/-- JOURNAL_FLUSH_END (R65, R66). -/
def execJournalFlushEnd (s : State) : Host.Outcome State Fault Refusal :=
  s.run (fun d => match d.ledger.jobs.find? (fun j => j.admitted && d.jrn.flushJob == some j.id) with
    | some j => ((((d.at (j.since + flushTime d.jrn.flushN d.jrn.flushX)).flushFinish j.id).planFlushDone j.id).planDone)
    | none => d)

end Sys2Proof.Machine
end

