-- ==== Sys2Proof/Machine/Memory.lean ====
section
/-! DEFINITION. Machine/Memory.lean: flash jobs unit by unit (R262, R263), the SRAM scrubber (R265), the retention
refresh (R267), and the loss of the retention supply (R268). -/

namespace Sys2Proof.Machine

open Sys2Proof

/-! Uncorrectable words. -/

/-- An uncorrectable SRAM word at `a` (R265): UECNT, and for an address not reported yet UEADDR and a FAULT entry. -/
def Dev.sramUe (d : Dev) (a : Nat) : Dev :=
  let d1 := d.count Reg.sram_UECNT 1
  if d1.scrubW.seen.contains a then d1
  else
    let d2 := { d1 with scrubW := { d1.scrubW with seen := a :: d1.scrubW.seen } }
    let d3 := if d2.rbit (Reg.pgFault 0x12) 0 then d2 else d2.setReg Reg.sram_UEADDR (toWord a)
    d3.fault 0x32 0x12 0 (toWord a) 1

/-- An uncorrectable word of retention memory at `a` (R267). -/
def Dev.retnUe (d : Dev) (a : Nat) : Dev :=
  if d.refreshW.seen.contains a then d
  else
    let d2 := { d with refreshW := { d.refreshW with seen := a :: d.refreshW.seen } }
    let d3 := if d2.rbit (Reg.pgFault 0x13) 0 then d2 else d2.setReg Reg.retn_UEADDR (toWord a)
    d3.fault 0x33 0x13 0 (toWord a) 1

/-! Flash jobs. -/

def isFlashKind : JobKind → Bool
  | .flashProgram => true
  | .flashErase => true
  | .flashBlank => true
  | _ => false

/-- The ledger's job of the flash job that runs. -/
def Dev.flashLedgerJob (d : Dev) : Option Job := d.ledger.jobs.find? (fun j => j.admitted && isFlashKind j.kind)

/-- HCLK of one unit: a row, or a sector; of a blank check the spec gives no time (assumption 18). -/
def flashUnit (op : BitVec 2) : Nat := if op = 1 then 3200 else if op = 2 then 800000 else 0

/-- nJ of one unit (R261). -/
def flashUnitEnergy (op : BitVec 2) : Nat := if op = 1 then 310 else if op = 2 then 12000 else 0

/-- Words that were programmed in place of those intended. -/
def overlayWords (prog want : List CWord) : List CWord := prog.take want.length ++ want.drop prog.length

/-- Words with their codes are stored from `a` on. -/
def Dev.putCWords : List CWord → Nat → Dev → Dev
  | [], _, d => d
  | w :: ws, a, d => Dev.putCWords ws (a + 4) (d.setWord a w.data w.ecc)

def Dev.flashResult (d : Dev) (j : FlashJob) (r : BitVec 3) : Dev := { d with flash := some { j with result := r } }

/-- A unit is complete: the count, and its share of the hold (R407). -/
def Dev.flashUnitOk (d : Dev) (j : FlashJob) : Dev :=
  let d1 := { d with flash := some { j with done := j.done + 1 } }
  match d1.flashLedgerJob with
  | some x => d1.updJob x.id (fun y => { y with hold := y.hold - flashUnitEnergy j.op })
  | none => d1

/-- The eight source words of a row, none where one is uncorrectable at its SRAM address (R262); the loader's row. -/
def Dev.rowSource (d : Dev) (j : FlashJob) : Option (List Word) :=
  let a := j.src.toNat + 32 * j.done
  let ws := (List.range 8).map (fun i => d.readWord (a + 4 * i))
  if !j.data.isEmpty then some j.data
  else if ws.any (fun (r : Word × Bool) => r.2) then none else some (ws.map (fun (r : Word × Bool) => r.1))

/-- Words with the codes of flash addresses from `a` on. -/
def codedFrom (a : Nat) : List Word → List CWord
  | [] => []
  | w :: ws => ⟨w, ecc w (toWord a)⟩ :: codedFrom (a + 4) ws

/-- One row: SRCUE, ENCODER, or programmed with its read-back compared (R262). -/
def Dev.programRow (d : Dev) (j : FlashJob) (prog : List CWord) (enc : Bool) : Dev :=
  match d.rowSource j with
  | none => d.flashResult j 2
  | some ws =>
    if !enc then d.flashResult j 3
    else
      let a := j.dst.toNat + 32 * j.done
      let want := codedFrom a ws
      let got := overlayWords prog want
      let d1 := Dev.putCWords got a d
      if got = want then d1.flashUnitOk j else d1.flashResult j 1

/-- One sector: erased, with every word checked (R262). -/
def Dev.eraseSector (d : Dev) (j : FlashJob) (left : List CWord) : Dev :=
  let a := j.dst.toNat + 4096 * j.done
  let d1 := Dev.putCWords (left.take 1024) a (d.eraseWords a 1024)
  if (left.take 1024).all (fun w => w == ⟨0xFFFFFFFF, 0x7F⟩) then d1.flashUnitOk j else d1.flashResult j 1

/-- The first word of a sector that is not erased. -/
def Dev.firstWritten (d : Dev) (a : Nat) : Option Nat :=
  ((List.range 1024).find? (fun i => !d.erased (a + 4 * i))).map (fun i => a + 4 * i)

/-- One sector of a blank check (R262). -/
def Dev.blankSector (d : Dev) (j : FlashJob) : Dev :=
  match d.firstWritten (j.dst.toNat + 4096 * j.done) with
  | none => d.flashUnitOk j
  | some a => (d.setReg Reg.flash_NBADDR (toWord a)).flashResult j 4

/-- A job has units left and no result yet. -/
def FlashJob.going (j : FlashJob) : Bool := j.running && j.result == 0 && decide (j.done < j.cnt)

/-- FLASH_JOB_UNIT_DONE (R262): `programmed` is what the read-back shows, from the unit's start on; what it does not
list reads as intended. -/
def execFlashJobUnitDone (programmed : List CWord) (enc : EncodersAgree) (s : State) : Host.Outcome State Fault Refusal :=
  s.run (fun d => match d.flash, d.flashLedgerJob with
    | some j, some x =>
      dueIf j.going (fun d =>
        let d1 := d.at (x.since + 8000 + (j.done + 1) * flashUnit j.op)
        if j.op = 1 then d1.programRow j programmed enc
        else if j.op = 2 then d1.eraseSector j programmed
        else d1.blankSector j) d
    | _, _ => d)

/-- FLASH_JOB_END (R262, R263, R407). -/
def execFlashJobEnd (s : State) : Host.Outcome State Fault Refusal :=
  s.run (fun d => match d.flash with
    | some j =>
      dueIf (j.running && !j.going) (fun d =>
        let w := d.reg Reg.flash_STAT
        let w1 := setFld (setFld (setBit w 31 false) 28 16 j.done) 10 8 j.result.toNat
        let d1 := { d.setReg Reg.flash_STAT w1 with
          flash := none, ledger := { d.ledger with jobs := d.ledger.jobs.filter (fun x => !(x.admitted && isFlashKind x.kind)) } }
        let d2 := (d1.floppClear).evt 0x11 0
        if j.result = 0 then d2 else d2.fault 0x34 0x11 0 (toWord j.result.toNat) 0) d
    | none => d)

/-! Scrubber and refresh. -/

/-- One word is read, and rewritten in corrected form where it can be. -/
def Dev.scrubWord (d : Dev) (a : Nat) : Dev :=
  match d.checkAt a with
  | .ok => d
  | .corrected w => (d.putWord a w).count Reg.sram_CECNT 1
  | .bad => d.sramUe a

/-- SRAM_SCRUB (R264, R265): every SCRUB.INT × 16 HCLK, in address order; a pass starts at the lowest address
(assumption 19). -/
def execSramScrub (s : State) : Host.Outcome State Fault Refusal :=
  s.run (fun d =>
    let int := d.rfld Reg.sram_SCRUB 7 0
    dueIf (d.live && decide (0 < int)) (fun d =>
      let d1 := d.at d.scrubW.due
      let a := 0x20000000 + 4 * d1.scrubW.next
      ({ d1 with scrubW := { d1.scrubW with next := (d1.scrubW.next + 1) % 245760, due := d1.now + 16 * int } }).scrubWord a) d)

/-- The refresh of one retention word (R267). -/
def Dev.refreshWord (d : Dev) (a : Nat) : Dev :=
  match d.checkAt a with
  | .ok => d
  | .corrected w => (d.putWord a w).count Reg.retn_CECNT 1
  | .bad =>
    if d.phase = .hibernating then { d with refreshW := { d.refreshW with late := d.refreshW.late ++ [a] } } else d.retnUe a

/-- The refresh runs in Run, Doze and Hibernate (R267). -/
def Dev.refreshes (d : Dev) : Bool :=
  match d.phase with
  | .run | .service | .imgCheck | .dozing | .dozeWake | .hibernating => true
  | _ => false

/-- RETENTION_REFRESH (R267): in Run one word each 24 414 HCLK; with HCLK stopped, the 32 kHz clock paces it. -/
def execRetentionRefresh (s : State) : Host.Outcome State Fault Refusal :=
  s.run (fun d => dueIf d.refreshes (fun d =>
    let d1 := if d.live then d.at d.refreshW.due else d
    let a := 0x30000000 + 4 * d1.refreshW.next
    ({ d1 with refreshW := { d1.refreshW with next := (d1.refreshW.next + 1) % 4096, due := d1.now + 24414 } }).refreshWord a) d)

/-- RETENTION_SUPPLY_LOSS (R268): the latch; what follows comes at the next power-on. -/
def execRetentionSupplyLoss (s : State) : Host.Outcome State Fault Refusal :=
  s.run (fun d => d.setBitR Reg.retn_STAT 0 true)

end Sys2Proof.Machine
end

