-- ==== Sys2Proof/Machine/Request.lean ====
section
/-! DEFINITION. Machine/Request.lean: compared requests from their arrival to the decision on their entry (R126 to R131,
R272 to R297): grants, re-issues, safe-direction outputs, the pair comparators with the gate, and the tables of R289. -/

namespace Sys2Proof.Machine

open Sys2Proof

/-! Arrival. -/

/-- A re-issued request whose vector differs: a compare mismatch of that copy (R131). -/
def Dev.copyMismatch (d : Dev) (c : CopyId) (csn : Word) : Dev :=
  ((d.cmpNote csn 0 (2 ^ c.val) false 0).count Reg.cmp_MISCNT 1).loseCopy c ⟨1, 0x0B, c.val + 1, csn, 1⟩

/-- A cached response is sent again (R131); it counts once among the responses (R128). -/
def Dev.resend (d : Dev) (c : CopyId) (cls : BitVec 2) (fs : List HubFlit) : Dev :=
  (d.updLink c (fun L => { (L.takePlace cls fs.length) with responses := L.responses - 1 })).sendFlits c cls fs

/-- The tag belongs to another request of the copy that has not been answered. -/
def Dev.tagBusy (d : Dev) (c : CopyId) (r : Req) : Bool :=
  d.cmp.any (fun e => e.csn != r.csn && !e.answered.get c &&
    (match e.arr.get c with | some a => a.req.tag == r.tag | none => false))

/-- The CSN is newer than any the copy has sent. -/
def Dev.csnNew (d : Dev) (c : CopyId) (csn : Word) : Bool :=
  let k := (csn - d.reg (Reg.linkx_CSN c.val)).toNat
  !(d.link c).anyReq || (decide (0 < k) && decide (k < 2 ^ 31))

/-- The page of a frame-tagged commit: a WRITE to PG_COMMIT of a frame page (R26). -/
def commitPage (ty : ReqType) (r : Req) : Option Nat :=
  let k := r.addr.toNat - 0x40000000
  if ty = .write ∧ isPages r.addr.toNat = true ∧ k % 0x1000 = 0x24 ∧ isFramePage (k / 0x1000) = true then some (k / 0x1000) else none

/-- A frame tag that names an earlier frame: counted as late (R27), and refused LATE under R46 once released (R26). -/
def Dev.tagLate (d : Dev) (ty : ReqType) (r : Req) : Bool :=
  match commitPage ty r with
  | some _ =>
    let k := (d.frnum.toNat + 65536 - fld r.data 15 0) % 65536
    d.frames && decide (0 < k) && decide (k < 32768)
  | none => false

/-- The response of a discarded entry (R297). -/
def lateFlits (ty : ReqType) (csn : Word) : List HubFlit := emptyFlits ty csn (stRefused 4)

/-- The peak skew in outputs and in time (R299). -/
def Dev.skewNote (d : Dev) (csn : Word) : Dev :=
  let ns := d.svcCopies.map (fun c => (d.link c).received)
  let out := satU 7 (ns.foldl max 0 - ns.foldl min (ns.foldl max 0))
  let k := Reg.cmp_SKEWPK
  let d1 := if d.rfld k 6 0 < out then d.setFldR k 6 0 out else d
  match d1.findCmp csn with
  | some e =>
    let ts := (d1.svcCopies.filterMap (fun c => e.arr.get c)).map Arrival.time
    let t := satU 12 (ts.foldl max 0 - e.first)
    if ts.length = d1.nSvc ∧ d1.rfld k 27 16 < t then d1.setFldR k 27 16 t else d1
  | none => d1

/-- A new arrival enters its copy's queue (R275). -/
def Dev.queueRequest (d : Dev) (c : CopyId) (ty : ReqType) (r : Req) : Dev :=
  let a : Arrival := ⟨ty, { r with reissue := false }, d.now + 2⟩
  match d.findCmp r.csn with
  | some _ => d.updCmp r.csn (fun e => { e with arr := e.arr.set c (some a) })
  | none =>
    let late := d.tagLate ty r
    let e : CmpEntry :=
      { csn := r.csn, first := d.now + 2, arr := (Tri.const none).set c (some a), agreed := Tri.const none,
        stage := .opened, winner := c, safeDone := false, relAt := 0, delayed := false, refusal := none, flits := [],
        answered := Tri.const false }
    let d1 := { d with cmp := d.cmp ++ [e] }
    if late then d1.count Reg.cmp_LATE 1 else d1

/-- A request that consumes a grant (R126, R128, R276): a protocol error without one, or with a tag in use. -/
def Dev.newRequest (d : Dev) (c : CopyId) (ty : ReqType) (r : Req) : Dev :=
  if (d.link c).grant ≤ (d.link c).received || d.tagBusy c r then d.linkLost c 0
  else
    let d1 := (d.updLink c (fun L => { L with received := L.received + 1, anyReq := true })).setReg (Reg.linkx_CSN c.val) r.csn
    (((d1.queueRequest c ty r).skewNote r.csn).settle r.csn)

/-- A request that arrives again at the transaction layer (R131). -/
def Dev.reissued (d : Dev) (c : CopyId) (ty : ReqType) (r : Req) : Dev :=
  let d1 := d.count (Reg.linkx_REISSUE c.val) 1
  let r0 : Req := { r with reissue := false }
  match (d1.link c).cache.find? (fun x => x.csn == r.csn), (d1.findCmp r.csn).bind (fun e => e.arr.get c) with
  | some x, _ => if x.digest = Req.digest ty r0 then d1.resend c r.cls (x.flits.map (HubFlit.withTag r.tag)) else d1.copyMismatch c r.csn
  | none, some a => if reqDiff ty a.ty r0 a.req = 0 then d1 else d1.copyMismatch c r.csn
  | none, none => if d1.csnNew c r.csn then d1.newRequest c ty r else d1.linkLost c 0

/-- A READ, WRITE or FETCH accepted from copy `c`. -/
def Dev.requestIn (d : Dev) (c : CopyId) (ty : ReqType) (r : Req) : Dev :=
  if !d.inSvc c then d
  else
    let d1 := d.sawRetire c r.retire
    if r.reissue || ((d1.findCmp r.csn).bind (fun e => e.arr.get c)).isSome then d1.reissued c ty r else d1.newRequest c ty r

/-- READ (R107, R114, R275). -/
def execRead (c : CopyId) (h : Hdr) (r : Req) (s : State) : Host.Outcome State Fault Refusal :=
  s.run (Dev.hubRx c h (fun d => d.requestIn c .read r))

/-- WRITE (R107, R114, R275, R297). -/
def execWrite (c : CopyId) (h : Hdr) (r : Req) (s : State) : Host.Outcome State Fault Refusal :=
  s.run (Dev.hubRx c h (fun d => d.requestIn c .write r))

/-- FETCH (R107, R114, R275). -/
def execFetch (c : CopyId) (h : Hdr) (r : Req) (s : State) : Host.Outcome State Fault Refusal :=
  s.run (Dev.hubRx c h (fun d => d.requestIn c .fetch r))

/-! Safe-direction outputs. -/

/-- The register of a safe-direction output: a full-word WRITE to one of R285. -/
def Arrival.safeKey (a : Arrival) : Option Nat :=
  let k := a.req.addr.toNat - 0x40000000
  if a.ty = .write ∧ a.req.be = 0xF ∧ isPages a.req.addr.toNat = true ∧ isSafeReg k = true then some k else none

def reqSrc (r : Req) : Src := .copies r.world r.ring

/-- The arrival passes its RCRC and its page guard (R286). -/
def Dev.safePasses (d : Dev) (a : Arrival) : Bool :=
  match a.safeKey with
  | some k => a.req.rcrc == rcrcOf a.req.addr a.req.data && d.guardOk (k / 0x1000) (reqSrc a.req) true
  | none => false

/-- The first arrival of an entry that passes, the lowest letter first among arrivals of one HCLK (R286). -/
def Dev.firstSafe (d : Dev) (e : CmpEntry) : Option CopyId :=
  copyIds.foldl (fun (b : Option CopyId) c =>
    match e.arr.get c with
    | some a =>
      if d.safePasses a then
        match b.bind (fun x => e.arr.get x) with
        | some y => if a.time < y.time then some c else b
        | none => some c
      else b
    | none => b) none

/-- The safe-direction output of entry `csn` executes at copy `c`'s arrival (R285 to R287). -/
def Dev.safeArrival (d : Dev) (c : CopyId) (e : CmpEntry) (a : Arrival) (k : Nat) : Dev :=
  let d1 := (d.updCmp e.csn (fun e => { e with safeDone := true })).count Reg.cmp_SAFECNT 1
  d1.safeWrite (c.val + 1) k a.req.data

/-- The command of a safe-direction output: it is due for the first arrival that passes, once (R286). -/
def Dev.safeCmd (c : CopyId) (csn : Word) (k : Nat) (d : Dev) : Dev :=
  match d.findCmp csn with
  | some e =>
    match e.arr.get c with
    | some a =>
      if !e.safeDone && a.safeKey == some k && d.firstSafe e == some c then (d.at (a.time + 2)).safeArrival c e a k else d
    | none => d
  | none => d

/-- DRV_SAFE_TRIP (R285, R286). -/
def execDrvSafeTrip (c : CopyId) (csn : Word) (n : DrvId) (s : State) : Host.Outcome State Fault Refusal :=
  s.run (Dev.safeCmd c csn (Reg.drv_SAFE n.val))

/-- TRIP_SAFE (R285, R286). -/
def execTripSafe (c : CopyId) (csn : Word) (s : State) : Host.Outcome State Fault Refusal :=
  s.run (Dev.safeCmd c csn Reg.trip_SAFE)

/-- TRIP_REQ (R285, R286). -/
def execTripReq (c : CopyId) (csn : Word) (s : State) : Host.Outcome State Fault Refusal :=
  s.run (Dev.safeCmd c csn Reg.trip_REQ)

/-- FAN_SAFE_STOP (R285, R286, R346). -/
def execFanSafeStop (c : CopyId) (csn : Word) (s : State) : Host.Outcome State Fault Refusal :=
  s.run (Dev.safeCmd c csn Reg.fan_SAFE)

/-- GPO_SAFE_OFF (R285, R286, R352). -/
def execGpoSafeOff (c : CopyId) (csn : Word) (s : State) : Host.Outcome State Fault Refusal :=
  s.run (Dev.safeCmd c csn Reg.gpo_SAFE)

/-- RELEASE_SAFE_ENTER (R285, R286, R293). -/
def execReleaseSafeEnter (c : CopyId) (csn : Word) (s : State) : Host.Outcome State Fault Refusal :=
  s.run (Dev.safeCmd c csn Reg.release_SAFE)

/-! Comparators and gate. -/

/-- The two copies of a pair. -/
def pairCopies (p : Fin 3) : CopyId × CopyId :=
  match p with
  | 0 => (0, 1)
  | 1 => (0, 2)
  | 2 => (1, 2)

/-- The successor of a pair code (R281). -/
def codeNext (c : Nat) : Nat := (c % 2) * 2 + (1 - c / 2 % 2)

def Dev.pairCode (d : Dev) (p : Nat) : Nat := d.rfld Reg.cmp_CODE (2 * p + 1) (2 * p)
def Dev.gateCode (d : Dev) (p : Nat) : Nat := d.rfld Reg.cmp_CODE (2 * p + 9) (2 * p + 8)

/-- Pairs whose comparison has been strobed and not completed (R278). -/
def Dev.strobed (d : Dev) (e : CmpEntry) : List (Fin 3) :=
  drvIds.filter (fun p =>
    let xy := pairCopies p
    (e.agreed.get p).isNone && (e.arr.get xy.1).isSome && (e.arr.get xy.2).isSome && d.inSvc xy.1 && d.inSvc xy.2)

/-- The vectors of a pair are equal. -/
def CmpEntry.pairEqual (e : CmpEntry) (p : Fin 3) : Bool :=
  match e.arr.get (pairCopies p).1, e.arr.get (pairCopies p).2 with
  | some x, some y => x.diff y == 0
  | _, _ => false

/-- The code that pair `p` shows when its strobe completes. -/
def Dev.shownCode (d : Dev) (e : CmpEntry) (p : Fin 3) (obs : CmpObs) : Nat :=
  match obs with
  | .code q v => if q = p then v.toNat else if e.pairEqual p then codeNext (d.pairCode p.val) else d.pairCode p.val
  | _ => if e.pairEqual p then codeNext (d.pairCode p.val) else d.pairCode p.val

/-- The gate classifies the strobed pairs one after another (R284): the first code that is neither ends in a comparator
fault. -/
def Dev.gateRun (csn : Word) (obs : CmpObs) : List (Fin 3) → Dev → Dev × Option (Nat × Nat × Nat)
  | [], d => (d, none)
  | p :: ps, d =>
    match d.findCmp csn with
    | none => (d, none)
    | some e =>
      let c := d.shownCode e p obs
      let x := d.gateCode p.val
      let d1 := d.setFldR Reg.cmp_CODE (2 * p.val + 1) (2 * p.val) c
      if c = codeNext x then
        Dev.gateRun csn obs ps ((d1.setFldR Reg.cmp_CODE (2 * p.val + 9) (2 * p.val + 8) c).updCmp csn
          (fun e => { e with agreed := e.agreed.set p (some true) }))
      else if c = x then
        Dev.gateRun csn obs ps (d1.updCmp csn (fun e => { e with agreed := e.agreed.set p (some false) }))
      else (d1, some (p.val, c, x))

/-! Decisions. -/

/-- What R289 decides on an entry. -/
inductive Verdict where
  | wait
  | release (w : CopyId)
  | lose (z w : CopyId) (dec : Nat)
  | restart (dec : Nat)
  | comparator (p : Fin 3)
deriving DecidableEq, Repr

def lowOf (x y : CopyId) : CopyId := if x ≤ y then x else y

/-- The table of two copies in service, `x` before `y` (R289). -/
def CmpEntry.verdict2 (e : CmpEntry) (x y : CopyId) : Verdict :=
  match e.agreed.get (pairOf x y) with
  | some true => .release (lowOf x y)
  | some false => .restart 2
  | none => .wait

/-- The table of three copies in service, with what has arrived (R289). -/
def CmpEntry.verdict3 (e : CmpEntry) : Verdict :=
  match e.agreed.a, e.agreed.b, e.agreed.c with
  | some true, some true, some true => .release 0
  | some true, some false, some false => .lose 2 0 5
  | some false, some true, some false => .lose 1 0 5
  | some false, some false, some true => .lose 0 1 5
  | some false, some false, some false => .restart 6
  | some true, some true, some false => .comparator 2
  | some true, some false, some true => .comparator 1
  | some false, some true, some true => .comparator 0
  | some true, none, none => .release 0
  | none, some true, none => .release 0
  | none, none, some true => .release 1
  | _, _, _ => .wait

def Dev.verdict (d : Dev) (e : CmpEntry) : Verdict :=
  match d.svcCopies with
  | [x, y] => e.verdict2 x y
  | [_, _, _] => e.verdict3
  | _ => .wait

/-- The entry is released from copy `w`'s vector 1 HCLK after the comparison (R278, R279). -/
def Dev.releaseEntry (d : Dev) (csn : Word) (w : CopyId) : Dev :=
  d.updCmp csn (fun e => if e.stage == .opened then { e with stage := .released, winner := w, relAt := d.now + 1 } else e)

/-- PREV of a comparator fault (R451 code 0x03). -/
def cmpFaultWord (p c x : Nat) : Word := toWord (c + 0x100 * x + 0x10000 * p)

/-- A comparator fault or a gate fault (R284, R451). -/
def Dev.compareFault (d : Dev) (e : CmpEntry) (code dec cause src : Nat) (detail : Word) (flag : Nat) : Dev :=
  (d.cmpNote e.csn e.fields 0 false dec).reactS ⟨code, 0x0B, 4, detail, flag⟩ cause 0 0 src

/-- The decision on entry `e` (R289). -/
def Dev.decideEntry (d : Dev) (e : CmpEntry) : Dev :=
  match d.verdict e with
  | .wait => d
  | .release w => (d.releaseEntry e.csn w).settle e.csn
  | .lose z w dec =>
    let d1 := ((d.releaseEntry e.csn w).cmpNote e.csn e.fields (2 ^ z.val) false dec).misNote e
    (d1.loseCopy z ⟨1, 0x0B, z.val + 1, e.csn, e.flagsOf 1⟩).settle e.csn
  | .restart dec =>
    let m := maskOf d.svcCopies
    ((d.cmpNote e.csn e.fields m false dec).misNote e).reactS ⟨1, 0x0B, 4, e.csn, e.flagsOf 1⟩ 3 0 m 0x13
  | .comparator p => d.compareFault e 3 7 5 0x13 (cmpFaultWord p.val (d.pairCode p.val) (d.gateCode p.val)) 4

/-- The strobe of the pairs `ps` completes. -/
def Dev.compareDone (d : Dev) (e : CmpEntry) (ps : List (Fin 3)) (obs : CmpObs) : Dev :=
  if obs = .gateDiffers then d.compareFault e 4 0 6 0x15 (toWord ((ps.head?.getD 0).val)) 8
  else
    let r := Dev.gateRun e.csn obs ps d
    match r.2 with
    | some (p, c, x) => r.1.compareFault e 3 0 5 0x13 (cmpFaultWord p c x) 4
    | none => match r.1.findCmp e.csn with
      | some e1 => r.1.decideEntry e1
      | none => r.1

/-- COMPARE_COMPLETE (R278, R281, R284, R289): 3 HCLK after the last arrival that was strobed. -/
def execCompareComplete (csn : Word) (obs : CmpObs) (s : State) : Host.Outcome State Fault Refusal :=
  s.run (fun d => match d.findCmp csn with
    | some e =>
      let ps := d.strobed e
      dueIf (!ps.isEmpty) (fun d =>
        let t := (d.svcCopies.filterMap (fun c => e.arr.get c)).foldl (fun m a => max m a.time) 0
        (d.at (t + 3)).compareDone e ps obs) d
    | none => d)

/-- Copies in service whose request for the entry has not arrived. -/
def Dev.absentOf (d : Dev) (e : CmpEntry) : List CopyId := d.svcCopies.filter (fun c => (e.arr.get c).isNone)

/-- The copies `zs` are absent at the timeout (R289). -/
def Dev.absent (d : Dev) (e : CmpEntry) (zs : List CopyId) : Dev :=
  match d.svcCopies.filter (fun c => (e.arr.get c).isSome), zs with
  | [_], [z] =>
    ((d.cmpNote e.csn e.fields (2 ^ z.val) true 3).absNote e).loseCopy z ⟨2, 0x0B, z.val + 1, e.csn, e.flagsOf 2⟩
  | [x, y], [z] =>
    if e.agreed.get (pairOf x y) = some true then
      (((d.cmpNote e.csn e.fields (2 ^ z.val) true 8).absNote e).loseCopy z
        ⟨2, 0x0B, z.val + 1, e.csn, e.flagsOf 2⟩).settle e.csn
    else
      ((d.cmpNote e.csn e.fields (maskOf [x, y]) true 9).misNote e).reactS ⟨1, 0x0B, 4, e.csn, e.flagsOf 1⟩ 3 0 (maskOf [x, y]) 0x13
  | xs, _ =>
    ((d.cmpNote e.csn e.fields (maskOf zs) true 10).absNote e).reactS ⟨2, 0x0B, 4, e.csn, e.flagsOf 2⟩ 4 (maskOf zs) (maskOf xs) 0x13

/-- COMPARE_TIMEOUT (R277, R289): 3 200 HCLK after the first arrival, with every strobe complete. -/
def execCompareTimeout (csn : Word) (s : State) : Host.Outcome State Fault Refusal :=
  s.run (fun d => match d.findCmp csn with
    | some e =>
      let zs := d.absentOf e
      dueIf (!zs.isEmpty && (d.strobed e).isEmpty) (fun d =>
        let d1 := (d.at (e.first + 3200)).reportsClose
        match d1.findCmp csn with
        | some e1 => if (d1.absentOf e1).isEmpty then d1 else d1.absent e1 (d1.absentOf e1)
        | none => d1) d
    | none => d)

end Sys2Proof.Machine
end

