-- ==== Sys2Proof/Machine/Execute.lean ====
section
/-! DEFINITION. Machine/Execute.lean: an agreed request from its response places to its response (R21, R42, R136, R137,
R179, R251 to R259, R280, R287, R298). -/

namespace Sys2Proof.Machine

open Sys2Proof

/-! Response places. -/

/-- Response flits that a request needs on a link (R136). -/
def reqPlaces : ReqType → Nat
  | .fetch => 2
  | _ => 1

/-- Guard places in use: reserved, and hub-originated guard flits that wait. -/
def HubLink.guardUsed (L : HubLink) : Nat :=
  L.resGuard + (L.side.queue.filter (fun x => x.1 == 0 && !x.2.isResponse)).length

/-- The link's response queue lacks `n` places for a class (R136). -/
def HubLink.lacks (L : HubLink) (cls : BitVec 2) (n : Nat) : Bool :=
  if cls = 0 then decide (80 < L.guardUsed + n)
  else decide (48 < L.resTimely + L.resBulk + n) || (cls == 2 && decide (32 < L.resBulk + n))

def CmpEntry.cls (e : CmpEntry) : BitVec 2 := match e.arrival with | some a => a.req.cls | none => 0

/-- The links that lack the places of an entry. -/
def Dev.lackers (d : Dev) (e : CmpEntry) : List CopyId := d.svcCopies.filter (fun c => (d.link c).lacks e.cls (reqPlaces e.ty))

/-- The service bound of a class for response places (R137) and at a port (R298). -/
def placeBound (cls : BitVec 2) : Nat := if cls = 0 then 40 else if cls = 1 then 200 else 400
def portBound (cls : BitVec 2) : Nat := if cls = 0 then 8 else if cls = 1 then 40 else 200

/-- The link whose pool of the class is fullest: the one that made a delayed request wait (assumption 20). -/
def Dev.fullest (d : Dev) (cls : BitVec 2) : List CopyId :=
  let use (c : CopyId) : Nat := if cls = 0 then (d.link c).guardUsed else (d.link c).resTimely + (d.link c).resBulk
  let m := (d.svcCopies.map use).foldl max 0
  d.svcCopies.filter (fun c => use c == m)

/-- The request obtains its places on every link in service and is released to the scheduler (R136, R137). -/
def Dev.reserve (d : Dev) (e : CmpEntry) : Dev :=
  let late := e.cls != 0 && decide (placeBound e.cls < d.now - e.relAt)
  let d1 := if late then Dev.each (fun c d => d.admDly c.val e.cls.toNat) (d.fullest e.cls) d else d
  let d2 := Dev.each (fun c d => d.updLink c (fun L => L.takePlace e.cls (reqPlaces e.ty))) d1.svcCopies d1
  d2.updCmp e.csn (fun x => { x with stage := .reserved, relAt := d.now, delayed := x.delayed || late })

/-- RESPONSE_RESERVE (R136, R137). -/
def execResponseReserve (csn : Word) (s : State) : Host.Outcome State Fault Refusal :=
  s.run (fun d => match d.findCmp csn with
    | some e => dueIf (e.stage == .released && (d.lackers e).isEmpty) (fun d => (d.at e.relAt).reserve e) d
    | none => d)

/-- An entry is refused without execution. -/
def Dev.refuseEntry (d : Dev) (e : CmpEntry) (st : Byte) (held : Bool) : Dev :=
  let d1 := if held then d else d.updCmp e.csn (fun x => { x with refusal := some st })
  d1.finishWith e.csn (emptyFlits e.ty e.csn st)

/-- RESPONSE_QUEUE_DEADLINE (R137): DEADLINE at 800 HCLK, CAPACITY at 2 000. -/
def execResponseQueueDeadline (csn : Word) (s : State) : Host.Outcome State Fault Refusal :=
  s.run (fun d => match d.findCmp csn with
    | some e =>
      dueIf (e.stage == .released && e.cls != 0 && !(d.lackers e).isEmpty) (fun d =>
        let d1 := d.at (e.relAt + (if e.cls = 1 then 800 else 2000))
        (Dev.each (fun c d => d.admRef c.val e.cls.toNat) (d1.lackers e) d1).refuseEntry e
          (stRefused (if e.cls = 1 then 1 else 2)) false) d
    | none => d)

/-- When a guard item on link `c` began to wait for a place (R137). -/
def Dev.guardSince (d : Dev) (c : CopyId) : Option Nat :=
  match (d.link c).guardWait with
  | some t => some t
  | none => (d.cmp.find? (fun e => e.stage == .released && e.cls == 0 && (d.link c).lacks 0 (reqPlaces e.ty))).map CmpEntry.relAt

/-- Guard items that wait on link `c`. -/
def Dev.guardItems (d : Dev) (c : CopyId) : Nat :=
  guardWaiting (d.link c).side.queue + (d.cmp.filter (fun e => e.stage == .released && e.cls == 0)).length

/-- LINK_GUARD_OVERRUN (R31, R137, R451 code 0x0F). -/
def execLinkGuardOverrun (c : CopyId) (s : State) : Host.Outcome State Fault Refusal :=
  s.run (fun d => match d.guardSince c with
    | some t =>
      let d1 := (d.at (t + 40)).count (Reg.linkx_ADM_GOVR c.val) 1
      d1.reactS ⟨0x0F, copyPage c, 0, toWord (d1.guardItems c), 0⟩ 8 0 (d1.rfld Reg.sys_SVCLVL 10 8) 0x15
    | none => d)

/-! Ports. -/

/-- What an execution gives: the status, and for a READ or FETCH the words. -/
structure Served where
  st : Byte
  ws : List CWord
deriving DecidableEq, Repr

def noWords (st : Byte) : Served := ⟨st, []⟩

/-- A flash bank that a job or a flush occupies (R258). -/
def Dev.bankBusyAt (d : Dev) (a : Nat) : Bool :=
  (d.rbit Reg.flash_STAT 31 && d.rfld Reg.flash_STAT 30 30 == a / 0x200000 % 2)
    || (d.jrn.flushJob.isSome && d.jrn.mirBase / 0x200000 % 2 == a / 0x200000 % 2)

/-- The hub's checker counts what it finds in a word that is read (R253, R259, R265). -/
def Dev.noteRead (a : Nat) (d : Dev) : Dev :=
  match d.checkAt a with
  | .ok => d
  | .corrected _ => if isFlash a then d.count Reg.flash_CECNT 1 else if isSram a then d.count Reg.sram_CECNT 1 else d
  | .bad =>
    if isFlash a then d.count Reg.flash_UECNT (boolNat (!d.erased a)) else if isSram a then d.sramUe a else d

/-- `n` words of flash, SRAM or the context area from `a` on (R253). -/
def Dev.readWords (d : Dev) (a n : Nat) : Dev × Served :=
  let as := (List.range n).map (fun i => a + 4 * i)
  (Dev.each Dev.noteRead as d, ⟨0, as.map d.cword⟩)

/-- A value that the hub encodes for the read (R253); a disagreement of its encoders is the cross-check of R256. -/
def encodedRead (a v : Word) (enc : Bool) : Served := if enc then ⟨0, [⟨v, ecc v a⟩]⟩ else noWords (stRefused 0x29)

/-- A READ. An address outside R176 is absent (assumption 21). -/
def Dev.doRead (d : Dev) (src : Src) (addr : Word) (enc : Bool) : Dev × Served :=
  let a := addr.toNat / 4 * 4
  if isFlash a then (if d.bankBusyAt a then (d, noWords (stRefused 0x28)) else d.readWords a 1)
  else if isSram a || isContext a then d.readWords a 1
  else if isWindow a then (d, encodedRead (toWord a) (d.word a) enc)
  else if isPages a then
    let r := d.pageRead src ((a - 0x40000000) / 0x1000) (a % 0x1000)
    (r.2.2, if r.2.1 = 0 then encodedRead (toWord a) r.1 enc else noWords r.2.1)
  else (d, noWords (stRefused 9))

/-- A FETCH of a line. -/
def Dev.doFetch (d : Dev) (addr : Word) : Dev × Served :=
  let a := addr.toNat / 32 * 32
  if isFlash a then (if d.bankBusyAt a then (d, noWords (stRefused 0x28)) else d.readWords a 8)
  else if isSram a then d.readWords a 8
  else (d, noWords (stRefused 9))

/-- A refused memory or register write (R254, R255): counted, with its FAULT entry where R451 has one. -/
def Dev.writeBad (d : Dev) (reason fault : Nat) (addr : Word) : Dev × Served :=
  let d1 := d.count Reg.sram_WRERR 1
  (if fault = 0 then d1 else d1.fault fault 0x12 0 addr 0, noWords (stRefused reason))

/-- `w` with the enabled bytes of `v`. -/
def mergeBytes (be : BitVec 4) (v w : Word) : Word :=
  let b (i : Nat) : Byte := if be.getLsbD i then v.extractLsb' (8 * i) 8 else w.extractLsb' (8 * i) 8
  bytesWord (b 0) (b 1) (b 2) (b 3)

/-- A WRITE to SRAM or the context area (R254). -/
def Dev.memWrite (d : Dev) (r : Req) (enc : Bool) : Dev × Served :=
  let a := r.addr.toNat / 4 * 4
  if r.be = 0xF then
    if ecc r.data r.addr = r.ecc then (d.setWord a r.data r.ecc, noWords 0) else d.writeBad 0x29 0x30 r.addr
  else match d.checkAt a with
    | .bad => ((d.count Reg.sram_UECNT 1).writeBad 0x2B 0 r.addr)
    | .ok => if enc then (d.putWord a (mergeBytes r.be r.data (d.word a)), noWords 0) else d.writeBad 0x29 0x30 r.addr
    | .corrected w =>
      let d1 := d.count Reg.sram_CECNT 1
      if enc then (d1.putWord a (mergeBytes r.be r.data w), noWords 0) else d1.writeBad 0x29 0x30 r.addr

/-- A register WRITE (R255, R287): none while it waits for the journal. A safe-direction output that no arrival has
executed yet executes now. -/
def Dev.pageWrite (d : Dev) (e : CmpEntry) (a : Arrival) : Dev × Option Served :=
  let r := a.req
  let k := r.addr.toNat - 0x40000000
  if r.be ≠ 0xF ∨ r.rcrc ≠ rcrcOf r.addr r.data then
    let x := d.writeBad 0x2A 0x31 r.addr
    (x.1, some x.2)
  else if isSafeReg k && d.guardOk (k / 0x1000) (reqSrc r) true then
    (if e.safeDone then d else d.safeArrival e.winner e a k, some (noWords 0))
  else
    let x := d.regWrite (reqSrc r) k r.data (some e.csn)
    (x.1, x.2.map noWords)

/-- The request of an entry at its target. -/
def Dev.perform (d : Dev) (e : CmpEntry) (a : Arrival) (enc : Bool) : Dev × Option Served :=
  match a.ty with
  | .read => let x := d.doRead (reqSrc a.req) a.req.addr enc; (x.1, some x.2)
  | .fetch => let x := d.doFetch a.req.addr; (x.1, some x.2)
  | .write =>
    let ad := a.req.addr.toNat
    if isSram ad || isContext ad then (let x := d.memWrite a.req enc; (x.1, some x.2))
    else if isPages ad then d.pageWrite e a
    else (d, some (noWords (stRefused 9)))

/-- The response flits of an executed request (R108). -/
def answerFlits (ty : ReqType) (csn : Word) (st : Byte) (ws : List CWord) : List HubFlit :=
  match ty, ws with
  | .read, [w] => [.rddata csn 0 st w]
  | .fetch, [w0, w1, w2, w3, w4, w5, w6, w7] => [.line false 0 st ⟨w0, w1, w2, w3⟩, .line true 0 st ⟨w4, w5, w6, w7⟩]
  | _, _ => emptyFlits ty csn st

/-- LV writes that were admitted have taken effect by the next request (R53). -/
def Dev.lvSettle (d : Dev) : Dev := Dev.each (fun (j : LvJob) d => if j.admitted then d.lvRun j.id else d) d.pages.lv d

/-- `x` stands before `n` in program order. -/
def csnBefore (x n : Word) : Bool := decide (0 < (n - x).toNat) && decide ((n - x).toNat < 2 ^ 31)

/-- Every earlier request has executed (R279, R298). -/
def Dev.csnTurn (d : Dev) (csn : Word) : Bool :=
  d.cmp.all (fun x => !csnBefore x.csn csn || x.stage == .executed || x.stage == .late)

/-- A reserved entry executes (R279, R280, R298). -/
def Dev.executeEntry (d : Dev) (e : CmpEntry) (enc : Bool) : Dev :=
  match e.arrival with
  | none => d
  | some a =>
    let late := e.cls != 0 && decide (portBound e.cls < d.now - e.relAt)
    let d1 := if late then d.admDly 3 e.cls.toNat else d
    let e1 : CmpEntry := { e with delayed := e.delayed || late }
    let d2 := d1.updCmp e.csn (fun x => { x with delayed := e1.delayed, stage := .waiting })
    let r := d2.perform e1 a enc
    match r.2 with
    | none => r.1
    | some x => r.1.finishWith e.csn (answerFlits a.ty e.csn (if isRefused x.st then x.st else e1.served) x.ws)

/-- REQUEST_EXECUTE (R179, R253 to R258, R298). -/
def execRequestExecute (csn : Word) (enc : EncodersAgree) (s : State) : Host.Outcome State Fault Refusal :=
  s.run (fun d => match d.findCmp csn with
    | some e => dueIf (e.stage == .reserved && d.csnTurn csn) (fun d => d.lvSettle.executeEntry e enc) d
    | none => d)

/-- SCHEDULER_DEADLINE (R298): DEADLINE at 400 HCLK, CAPACITY at 2 000. -/
def execSchedulerDeadline (csn : Word) (s : State) : Host.Outcome State Fault Refusal :=
  s.run (fun d => match d.findCmp csn with
    | some e =>
      dueIf (e.stage == .reserved && e.cls != 0) (fun d =>
        ((d.at (e.relAt + (if e.cls = 1 then 400 else 2000))).admRef 3 e.cls.toNat).refuseEntry e
          (stRefused (if e.cls = 1 then 1 else 2)) true) d
    | none => d)

/-- SCHEDULER_GUARD_OVERRUN (R31, R298, R451 code 0x0F): the oldest guard item that waits at a port. -/
def execSchedulerGuardOverrun (s : State) : Host.Outcome State Fault Refusal :=
  s.run (fun d => match d.cmp.find? (fun e => e.stage == .reserved && e.cls == 0) with
    | some e =>
      let d1 := (d.at (e.relAt + 8)).count Reg.cmp_ADM_GOVR 1
      let n := (d1.cmp.filter (fun x => x.stage == .reserved && x.cls == 0)).length
      d1.reactS ⟨0x0F, 0x0B, 0, toWord n, 0⟩ 8 0 (d1.rfld Reg.sys_SVCLVL 10 8) 0x15
    | none => d)

end Sys2Proof.Machine
end

