-- ==== Sys2Proof/Machine/Pages.lean ====
section
/-! DEFINITION. Machine/Pages.lean: the commands of the register pages (R43 to R58): commits, shadow and live writes,
split reads, and the writes that have rows of their own. A command whose source is the copies is a write that the
copies have agreed. -/

namespace Sys2Proof.Machine

open Sys2Proof

/-- Register key of a page and an offset. -/
def keyOf (p : PageId) (off : BitVec 12) : Nat := p.val * 0x1000 + off.toNat

/-- The debug port is open (R437, R443). -/
def Dev.portOpen (d : Dev) : Bool := d.rfld Reg.dbg_STAT 5 4 == 0 || d.rfld Reg.dbg_STAT 5 4 == 2

/-- A requester that can reach the pages: JTAG only through an open port (R437). -/
def Dev.canReach (d : Dev) (src : Src) : Bool := src != .jtag || d.portOpen

/-- A write that is not part of a compared request: nobody waits for its answer. -/
def Dev.plainWrite (src : Src) (k : Nat) (v : Word) (d : Dev) : Dev := if d.canReach src then (d.regWrite src k v none).1 else d

/-- PG_COMMIT (R45 to R47, R49 to R52). -/
def execPgCommit (src : Src) (page : PageId) (v : Word) (s : State) : Host.Outcome State Fault Refusal :=
  s.run (fun d => dueIf d.live (Dev.plainWrite src (Reg.pgCommit page.val) v) d)

/-- COMMIT_APPLY (R48). -/
def execCommitApply (page : PageId) (s : State) : Host.Outcome State Fault Refusal :=
  s.run (fun d => match d.nextApply page.val with
    | some c => dueIf d.live (fun d => d.applyCommit c) d
    | none => d)

/-- A commit whose entries found no places (R52, R60): refused JRNLFULL, and its shadow values stay to be committed. -/
def Dev.commitLate (d : Dev) (w : JWait) (p : Nat) : Dev :=
  match firstWaiting p d.pages.commits with
  | none => d.jDropWait w
  | some c =>
    let d1 := (d.jDropWait w).jRefuseT w.entries.length
    let d2 := { d1 with pages := { d1.pages with commits := d1.pages.commits.filter (· != c) } }
    let d3 := (d2.refuseCommit c.src p c.word 0x20 0).1
    ((if c.vals.isEmpty then d3 else d3.setTouched p true).answerCsn c.csn (stRefused 0x20)).jServe1

/-- COMMIT_JOURNAL_DEADLINE (R52, R60). -/
def execCommitJournalDeadline (page : PageId) (s : State) : Host.Outcome State Fault Refusal :=
  s.run (fun d => match d.jrn.waiting.find? (fun w => w.what == .commit page.val) with
    | some w => (d.at w.deadline).commitLate w page.val
    | none => d)

/-- SHADOW_WRITE (R43, R50, R53): of a register with SH fields. -/
def execShadowWrite (src : Src) (page : PageId) (off : BitVec 12) (v : Word) (s : State) : Host.Outcome State Fault Refusal :=
  s.run (fun d => dueIf (d.live && shMask (keyOf page off) != 0) (Dev.plainWrite src (keyOf page off) v) d)

/-- SHDISC (R43). -/
def execShdisc (src : Src) (page : PageId) (s : State) : Host.Outcome State Fault Refusal :=
  s.run (fun d => dueIf d.live (fun d =>
    Dev.plainWrite src (Reg.pgCtrl page.val) (setBit (d.reg (Reg.pgCtrl page.val)) 30 true) d) d)

/-- LV_WRITE (R53): of a register with LV or RW fields. -/
def execLvWrite (src : Src) (page : PageId) (off : BitVec 12) (v : Word) (s : State) : Host.Outcome State Fault Refusal :=
  s.run (fun d => dueIf (d.live && lvMask (keyOf page off) != 0) (Dev.plainWrite src (keyOf page off) v) d)

/-- LV_WRITE_APPLY (R53): the oldest admitted LV write takes effect. -/
def execLvWriteApply (s : State) : Host.Outcome State Fault Refusal :=
  s.run (fun d => match d.pages.lv.find? (fun j => j.admitted) with
    | some j => d.lvRun j.id
    | none => d)

/-- An LV write whose entry found no place (R60): refused JRNLFULL. -/
def Dev.lvLate (d : Dev) (w : JWait) (id : Nat) : Dev :=
  let d1 := (d.jDropWait w).jRefuseT 1
  let d2 := { d1 with pages := { d1.pages with lv := d1.pages.lv.filter (fun x => x.id != id) } }
  match d.pages.lv.find? (fun j => j.id == id) with
  | some j => (d2.answerCsn j.csn (stRefused 0x20)).jServe1
  | none => d2.jServe1

/-- The LV write a waiting group belongs to. -/
def JWait.lvId (w : JWait) : Option Nat :=
  match w.what with
  | .lvWrite id => some id
  | _ => none

/-- LV_WRITE_TIMEOUT (R53, R60). -/
def execLvWriteTimeout (s : State) : Host.Outcome State Fault Refusal :=
  s.run (fun d => match d.jrn.waiting.find? (fun w => w.lvId.isSome) with
    | some w => match w.lvId with
      | some id => (d.at w.deadline).lvLate w id
      | none => d
    | none => d)

/-- REGISTER_WRITE (R13, R14): by the access types of the register's fields. -/
def execRegisterWrite (src : Src) (page : PageId) (off : BitVec 12) (v : Word) (s : State) : Host.Outcome State Fault Refusal :=
  s.run (fun d => dueIf d.live (Dev.plainWrite src (keyOf page off) v) d)

/-- PG_EVTSET (R68). -/
def execPgEvtset (src : Src) (page : PageId) (v : Word) (s : State) : Host.Outcome State Fault Refusal :=
  s.run (fun d => dueIf d.live (Dev.plainWrite src (Reg.pgEvtset page.val) v) d)

/-- PG_LOCK (R53, R68). -/
def execPgLock (src : Src) (page : PageId) (v : Word) (s : State) : Host.Outcome State Fault Refusal :=
  s.run (fun d => dueIf d.live (Dev.plainWrite src (Reg.pgLock page.val) v) d)

/-- SPLIT_READ_LO (R55). -/
def execSplitReadLo (src : Src) (page : PageId) (off : BitVec 12) (s : State) : Host.Outcome State Fault Refusal :=
  s.run (fun d => dueIf (d.live && d.canReach src && isPairLo (keyOf page off)) (fun d => (d.pageRead src page.val off.toNat).2.2) d)

/-- SPLIT_READ_HI (R55). -/
def execSplitReadHi (src : Src) (page : PageId) (off : BitVec 12) (s : State) : Host.Outcome State Fault Refusal :=
  s.run (fun d => dueIf (d.live && d.canReach src && isPairHi (keyOf page off)) (fun d => (d.pageRead src page.val off.toNat).2.2) d)

/-! Writes with rows of their own. -/

/-- JRNL_RDSEL (R59, R69). -/
def execJrnlRdsel (src : Src) (seq : Word) (s : State) : Host.Outcome State Fault Refusal :=
  s.run (fun d => dueIf d.live (Dev.plainWrite src Reg.jrnl_RDSEL seq) d)

/-- JRNL_FLUSH (R66, R69). -/
def execJrnlFlush (src : Src) (v : Word) (s : State) : Host.Outcome State Fault Refusal :=
  s.run (fun d => dueIf d.live (Dev.plainWrite src Reg.jrnl_FLUSH v) d)

/-- FLASH_READ_WINDOW (R259). -/
def execFlashReadWindow (src : Src) (addr : Word) (s : State) : Host.Outcome State Fault Refusal :=
  s.run (fun d => dueIf d.live (Dev.plainWrite src Reg.flash_RDADDR addr) d)

/-- OTP_READ_WINDOW (R444). -/
def execOtpReadWindow (src : Src) (addr : Word) (s : State) : Host.Outcome State Fault Refusal :=
  s.run (fun d => dueIf d.live (Dev.plainWrite src Reg.otp_RDADDR addr) d)

/-- UE_CLEAR (R265, R267): PG_FAULT.UE of SRAM or RETN. -/
def execUeClear (src : Src) (retn : Bool) (s : State) : Host.Outcome State Fault Refusal :=
  s.run (fun d => dueIf d.live (Dev.plainWrite src (Reg.pgFault (if retn then 0x13 else 0x12)) 1) d)

/-- WDOG_KICK (R455). -/
def execWdogKick (src : Src) (v : Half) (s : State) : Host.Outcome State Fault Refusal :=
  s.run (fun d => dueIf d.live (Dev.plainWrite src Reg.wdog_KICK (v.setWidth 32)) d)

/-- WDOG_EXPIRY (R455): AGE has reached TMAX at the tick. -/
def execWdogExpiry (s : State) : Host.Outcome State Fault Refusal :=
  s.run (fun d => dueIf (d.wdogRuns && d.csRunning && decide (fld d.wdCfg 11 0 ≤ d.rfld Reg.wdog_STAT 27 16))
    (fun d => d.wdogFault 1) d)

/-- SWRST_CORESET (R427). -/
def execSwrstCoreset (src : Src) (v : Word) (s : State) : Host.Outcome State Fault Refusal :=
  s.run (fun d => dueIf (d.live && fld v 1 0 == 1) (Dev.plainWrite src Reg.rst_SWRST v) d)

/-- SWRST_HUB (R427). -/
def execSwrstHub (src : Src) (v : Word) (s : State) : Host.Outcome State Fault Refusal :=
  s.run (fun d => dueIf (d.live && fld v 1 0 == 2) (Dev.plainWrite src Reg.rst_SWRST v) d)

/-- CVCTL_GO (R404): a write of CVCTL with GO = 1. -/
def execCvctlGo (src : Src) (v : Word) (s : State) : Host.Outcome State Fault Refusal :=
  s.run (fun d => dueIf (d.live && bitOf v 31) (Dev.plainWrite src Reg.ledger_CVCTL v) d)

/-- RELEASE_CLR (R295, R296): `csn` is the write's own where it comes from the copies. -/
def execReleaseClr (src : Src) (csn : Word) (v : Word) (s : State) : Host.Outcome State Fault Refusal :=
  s.run (fun d => dueIf d.live (fun d =>
    (d.regWrite src Reg.release_CLR v (match src with | .copies _ _ => some csn | _ => none)).1) d)

/-- TXCMD_SUBMIT (R365, R366): the write of TXCMD by world `w`. -/
def execTxcmdSubmit (n : CanId) (w : World) (slot : BitVec 6) (s : State) : Host.Outcome State Fault Refusal :=
  s.run (fun d => dueIf d.live (fun d => d.txSubmit n w slot.toNat) d)

/-- TXCMD_CANCEL (R370). -/
def execTxcmdCancel (n : CanId) (slot : BitVec 6) (s : State) : Host.Outcome State Fault Refusal :=
  s.run (fun d => dueIf d.live (Dev.txCancel n slot.toNat) d)

/-- TXCMD_RECOVER (R376). -/
def execTxcmdRecover (n : CanId) (s : State) : Host.Outcome State Fault Refusal :=
  s.run (fun d => dueIf d.live (fun d => d.canRecover n) d)

/-- RXCMD_POP (R374). -/
def execRxcmdPop (n : CanId) (w : World) (s : State) : Host.Outcome State Fault Refusal :=
  s.run (fun d => dueIf d.live (fun d => d.rxPop n w) d)

end Sys2Proof.Machine
end

