-- ==== Sys2Proof/Machine/Ride.lean ====
section
/-! DEFINITION. Machine/Ride.lean: the ride-through plan (R411 to R413): admission, operation and end of a step. -/

namespace Sys2Proof.Machine

open Sys2Proof

/-- Words of step `k` of the plan. -/
def Dev.planStep (d : Dev) (k w : Nat) : Word := d.reg (stepKey k w)

/-- Step `k` starts no earlier than its DELAY after the declaration, and after the step before (R411). -/
def Dev.planStart (d : Dev) (k : Nat) : Nat :=
  max d.ledger.planBusyUntil (d.ledger.planFrom + 4000 * fld (d.planStep k 0) 31 16)

def Dev.planOp (d : Dev) (k : Nat) : Nat := fld (d.planStep k 0) 3 0

/-- The energy that step `k` asks for at its start (R412). -/
def Dev.planJ (d : Dev) (k : Nat) : Nat := if d.planOp k = 2 then d.flushEnergy else (d.planStep k 1).toNat

/-- The next step can start: the plan executes, no step waits for its flush, and another flush has ended. -/
def Dev.planDue (d : Dev) : Bool :=
  d.planExec && decide (d.ledger.planNext < d.rfld Reg.ledger_PLANCTL 19 16) && d.ledger.planFlush.isNone
    && d.pstate != 5 && (d.planOp d.ledger.planNext != 2 || !d.ledger.jobs.any (fun j => j.kind == .flush))

/-- The step counts as started: CUR, and the steps that H_plan still holds. -/
def Dev.planBegin (d : Dev) (k : Nat) : Dev :=
  { d.setFldR Reg.ledger_PLANCTL 11 8 k with
    ledger := { d.ledger with planNext := k + 1, planBusyUntil := d.now, planHold := 0 } }

/-- RIDE (R412). -/
def Dev.rideEntry (d : Dev) (k : Nat) (st : Byte) : Dev := d.jlog 0x10 2 (0x200 + 16 * k) 0 (toWord k) (toWord st.toNat)

/-- A refused step ends the plan if it says so (R412, R413). -/
def Dev.rideRefused (d : Dev) (k : Nat) (st : Byte) : Dev :=
  let d1 := d.rideEntry k st
  if bitOf (d1.planStep k 0) 6 then (d1.setBitR Reg.ledger_PLANCTL 4 false).restartAfterPlan else d1.planDone

/-- The ledger refuses a timely step (R409, R412). -/
def Dev.rideNoEnergy (d : Dev) (k : Nat) : Dev :=
  let s := (d.planJ k : Int) - d.freeOf 1
  let st := stRefused 3
  let d1 := ((d.setReg Reg.ledger_JSTAT (toWord ((0x10 + k) * 256 + st.toNat))).setReg Reg.ledger_JSHORT
    (toWord (ecode s))).evt 2 3
  let d2 := (d1.admRef admLedger 1).jlog 0x0A 2 0x88 0 (toWord (0x10 + k)) (toWord (satU 32 s.toNat))
  d2.rideRefused k st

/-- A WRITE step: the write, and its hold for 4 HCLK (R411, R412). A write that waits for the journal counts as made. -/
def Dev.rideWrite (d : Dev) (k : Nat) : Dev :=
  let d1 := { d with ledger := { d.ledger with planBusyUntil := d.now + 4, planHold := d.planJ k } }
  let r := d1.regWrite .hub ((d1.planStep k 2).toNat - 0x40000000) (d1.planStep k 3) none
  match r.2 with
  | some st => if isRefused st then r.1.rideRefused k st else (r.1.rideEntry k stServed).planDone
  | none => (r.1.rideEntry k stServed).planDone

/-- A FLUSH step: a flush job that is admitted already (R411, R412); without a mirror area it is refused ABSENT. -/
def Dev.rideFlush (d : Dev) (k : Nat) : Dev :=
  if !d.jrn.mirValid then d.rideRefused k (stRefused 9)
  else
    let n := d.unmirrored
    let j : Job := { id := d.ledger.nextJob, kind := .flush, cls := BitVec.ofNat 2 (fld (d.planStep k 0) 5 4),
                     energy := d.flushEnergy, hold := d.flushEnergy, admitted := true, since := d.now, overran := false,
                     flash := none }
    let d1 := { d with
      jrn := { d.jrn with flushN := n, flushX := d.flushErases n },
      ledger := { d.ledger with jobs := d.ledger.jobs ++ [j], nextJob := d.ledger.nextJob + 1, planFlush := some j.id } }
    (d1.flushStart j.id stServed).rideEntry k stServed

/-- A HIBERNATE step: R391 from its step 1, without waiting for a tick. -/
def Dev.rideHibernate (d : Dev) (k : Nat) : Dev :=
  let d1 := (d.rideEntry k stServed).setPstate 5
  { d1 with ledgerStop := true, lp := { d1.lp with stopping := true } }

/-- The operation of step `k` (R411). -/
def Dev.rideRun (d : Dev) (k : Nat) : Dev :=
  match d.planOp k with
  | 1 => d.rideWrite k
  | 2 => d.rideFlush k
  | 3 => d.rideHibernate k
  | _ => (d.rideEntry k stServed).planDone

/-- Step `k` starts: a guard step always runs, with a guard overrun where E does not cover it; a timely step runs if
F_timely does (R412). -/
def Dev.rideStart (d : Dev) (k : Nat) : Dev :=
  let d1 := d.planBegin k
  let j : Int := d1.planJ k
  if fld (d1.planStep k 0) 5 4 = 0 then
    let waiting := (d1.ledger.jobs.filter (fun x => !x.admitted && x.cls == 0)).length
    let d2 := if (d1.ledger.e : Int) - d1.hJobs < j then d1.guardOvr admLedger 2 (waiting + 1) else d1
    d2.rideRun k
  else if j ≤ d1.freeOf 1 then d1.rideRun k else d1.rideNoEnergy k

/-- RIDE_STEP_START (R411 to R413). -/
def execRideStepStart (s : State) : Host.Outcome State Fault Refusal :=
  s.run (fun d => dueIf d.planDue (fun d => (d.at (d.planStart d.ledger.planNext)).rideStart d.ledger.planNext) d)

end Sys2Proof.Machine
end

