-- ==== Sys2Proof/Machine/Frame.lean ====
section
/-! DEFINITION. Machine/Frame.lean: the tick (R27, R33, R47, R87, R95, R110, R119, R142, R143, R148 to R150, R168, R169,
R309, R341 to R345, R420, R460) and the sustained-overload flags (R33, R39). -/

namespace Sys2Proof.Machine

open Sys2Proof

/-! The end of a frame. -/

/-- How many frames before the current one the tag of a frame-tagged commit names, mod 2^16 (R26, R46). -/
def Dev.tagBehind (d : Dev) (e : CmpEntry) : Option Nat :=
  match e.arrival with
  | some a => if (commitPage a.ty a.req).isSome then some ((d.frnum.toNat + 65536 - fld a.req.data 15 0) % 65536) else none
  | none => none

/-- Entries of frame-tagged commits for the frame that closes, or for one closed before, that have not been released
(R27, R297). -/
def Dev.isTagged (d : Dev) (e : CmpEntry) : Bool :=
  (e.stage == .opened || e.stage == .released) && (match d.tagBehind e with | some k => decide (k < 32768) | none => false)

/-- One entry is discarded: it keeps its vector and answers LATE (R297). It counts once: a tag of an earlier frame was
counted at its arrival. -/
def Dev.discardLate (e : CmpEntry) (d : Dev) : Dev :=
  ((d.updCmp e.csn (fun x => { x with stage := .late, refusal := some (stRefused 4), flits := lateFlits e.ty e.csn })).count
    Reg.cmp_LATE (if d.tagBehind e = some 0 then 1 else 0)).settle e.csn

/-- A frame-page commit whose entries found no places by the boundary is refused (R52, R60). -/
def Dev.boundaryLate (w : JWait) (d : Dev) : Dev :=
  match w.what with
  | .commit p => if isFramePage p then d.commitLate w p else d
  | _ => d

/-- What closes with the frame (R27). -/
def Dev.frameClose (d : Dev) : Dev :=
  let d1 := Dev.each Dev.discardLate (d.cmp.filter d.isTagged) d
  let d2 := Dev.each Dev.boundaryLate d1.jrn.waiting d1
  d2.closeAll

/-! Pending sets. -/

/-- The pending set of frame page `p` (R47). -/
def Dev.pendingSet (d : Dev) (p : Nat) : Option Commit := d.pages.commits.find? (fun c => c.page == p && c.admitted)

/-- It is applied, if there is one. -/
def Dev.applyPending (p : Nat) (d : Dev) : Dev :=
  match d.pendingSet p with
  | some c => (d.applyCommit c).setBitR (Reg.pgStat p) 31 false
  | none => d

/-- Drive `n` at the tick (R301, R309): `before` is the device before any pending set was applied. -/
def Dev.drvFrame (before : Dev) (n : DrvId) (d : Dev) : Dev :=
  let p := drvPage n
  let missing := (before.pendingSet p).isNone
  let d1 := if missing then d else d.updDrive n (fun x => { x with configured := x.configured || x.written })
  d1.drvTick n (before.drvMode n) missing d.period.toNat (before.reg (Reg.drv_MSTAT n.val))

/-- The FAN page at the tick (R341 to R345, R348). -/
def Dev.fanFrame (before d : Dev) : Dev :=
  let missing := (before.pendingSet 0x19).isNone
  let d1 := d.fanHoldCheck missing
  let d2 := if missing then d1
    else Dev.each (fun i d => Dev.fanApply (before.fanMode i) (before.fanDuty i) i d) fanIds
      (d1.setBitR Reg.fan_HOLDSTAT 31 false)
  Dev.each (fun i d => d.updFan i (fun f => { f with edgesPrev := f.edgesNow, edgesNow := 0 })) fanIds d2

/-! What is published. -/

/-- One LSTAT frame report (R110, R141, R191). -/
def Dev.publishLstat (c : CopyId) (m : LstatFrame) (d : Dev) : Dev :=
  let k := c.val
  let pk := Reg.linkx_SPILLPK_C k
  let d1 := ((d.setReg (Reg.linkx_LSTFRM k) m.frame).setReg (Reg.clk_RHO k) m.rho).count (Reg.linkx_CRCERR_C k) m.crcerr.toNat
  let d2 := ((d1.count (Reg.linkx_DUP_C k) m.dup.toNat).count (Reg.linkx_OOS_C k) m.oos.toNat).count (Reg.linkx_TMO_C k) m.tmo.toNat
  let d3 := if d2.rfld pk 11 0 < m.spillpk.toNat then d2.setReg pk (m.spillpk.setWidth 32) else d2
  let d4 := ((d3.count (Reg.linkx_GRANTERR_C k) m.granterr.toNat).count (Reg.linkx_TICKLOST_C k) m.ticklost.toNat).count
    (Reg.linkx_SPILLUE k) m.spillue.toNat
  let d5 := ((d4.count (Reg.agree_ICCOR k) m.iccor.toNat).count (Reg.agree_ICREB k) m.icreb.toNat).count (Reg.agree_DCCOR k)
    m.dccor.toNat
  let d6 := ((d5.count (Reg.agree_DCUE k) m.dcue.toNat).count (Reg.agree_DCVMIS k) m.dcvmis.toNat).count (Reg.agree_DOVF k)
    m.dovf.toNat
  { d6 with clk := { d6.clk with rhoNew := d6.clk.rhoNew.set c (some m.rho) } }

/-- The reports of a link, and its timeouts of the frame against JCFG (R119, R139). -/
def Dev.linkFrame (c : CopyId) (d : Dev) : Dev :=
  let L := d.link c
  let d1 := Dev.each (Dev.publishLstat c) L.lstat d
  let n := L.side.frameTmo + L.tmoCopy
  let d2 := d1.updLink c (fun L => { L with lstat := [], tmoCopy := 0, side := { L.side with frameTmo := 0 } })
  if d2.rfld Reg.link_JCFG 7 0 < n then d2.linkEntry c 2 (toWord n) else d2

/-- The target frame of a SENSECFG commit has come (R87). -/
def Dev.cfgPendClear (d : Dev) : Dev :=
  if d.rbit Reg.sensecfg_CFGID 31 && d.rfld Reg.sensecfg_CFGID 15 0 == d.frnum.toNat % 65536 then
    d.setBitR Reg.sensecfg_CFGID 31 false else d

/-- The overload window of a queue (R33): refusals of the ended frame, consecutive frames with and without. -/
def ovlStep (x : Nat × Nat × Nat) : Nat × Nat × Nat :=
  if 0 < x.1 then (0, min 255 (x.2.1 + 1), 0) else (0, 0, min 255 (x.2.2 + 1))

/-! The allowances of R169 start anew. -/

def Dev.drainCfg (d : Dev) : Dev :=
  Dev.each Dev.cfgSend d.agr.cfgQueue (d.updAgr (fun a => { a with cfgbcUsed := 0, cfgQueue := [] }))

def Dev.drainCtl (d : Dev) : Dev :=
  Dev.each Dev.ctlSend d.agr.ctlQueue (d.updAgr (fun a => { a with ctlUsed := 0, ctlQueue := [] }))

def Dev.allowances (d : Dev) : Dev :=
  let d1 := d.updAgr (fun a => { a with
    drpUsed := 0, replUsed := 0, agreedUsed := 0, deferred := false, tckPend := a.tckPend || (d.csRunning && decide (0 < d.nSvc)) })
  let d2 := d1.drainCtl.drainCfg
  if d2.agr.replPend then d2.dlvReplace else d2

/-! The release of the copies. -/

/-- A BOOT entry with its milestone (R430). -/
def Dev.mile (d : Dev) (m : Nat) (detail : Word) : Dev := (d.setFldR Reg.boot_STAT 7 0 m).jlog 0x0F 6 0x40 0 (toWord m) detail

/-- The copies that are released: those whose links are active (R433). -/
def Dev.releaseSet (d : Dev) : List CopyId := copyIds.filter (fun c => d.lstate c == 7 || d.lstate c == 8)

/-- LEVEL at the release (R40, R359, R433). -/
def Dev.releaseLevel (d : Dev) : Nat := if d.puffActive then 3 else if d.boot.reduced then 1 else 0

/-- The COREREL tick (R40, R89, R148, R389, R430, R433, R455). -/
def Dev.corerel (d : Dev) : Dev :=
  let set := maskOf d.releaseSet
  let lev := d.releaseLevel
  let doze := d.pstate == 4
  let boot := d.pstate == 0
  let gen : Byte := BitVec.ofNat 8 (d.rfld Reg.sensecfg_CFGID 23 16)
  let d1 := Dev.ctlSend (.corerel d.frame32 (BitVec.ofNat 3 set) gen (BitVec.ofNat 2 lev)) d
  let d2 := ((d1.setFldR Reg.sensecfg_CFGID 15 0 (d.frnum.toNat % 65536)).setFldR Reg.release_RSTCNT 31 16 0).setSvc set lev 0
  let d3 := if doze || boot then d2.setPstate 1 else d2
  let d4 := if doze then d3 else d3.mile 7 (toWord set)
  let d5 := if boot then d4.setReg Reg.boot_TIME (toWord (d4.now - d4.boot.lockAt)) else d4
  let d6 := (d5.setFldR Reg.wdog_STAT 27 16 0).setFldR Reg.wdog_STAT 15 0 0x5AF0
  { d6 with
    cs := .running, puff := { d6.puff with insvcFrom := none },
    agr := { d6.agr with released3 := d6.releaseSet.length == 3, lastVal := List.replicate 12 none, maxRetire := 0,
                         outl := Tri.const (List.replicate 24 0), msgMissing := Tri.const 0, calNext := none } }

/-- The link timers in force reach copies that start with the reset ones (R140). -/
def Dev.timersOut (d : Dev) : Dev :=
  if d.reg Reg.link_TMR = regReset Reg.link_TMR then d else Dev.ctlSend (.linkcfg (d.reg Reg.link_TMR)) d

/-- What a tick does for copies that wait for their release (R89, R148), or that run (R299, R455). -/
def Dev.relTick (d : Dev) : Dev :=
  match d.cs with
  | .relWait 0 => { d.senseRelease.timersOut with cs := .relWait 1 }
  | .relWait 1 => { d with cs := .relWait 2 }
  | .relWait _ => d.corerel
  | .running =>
    let d1 := d.setFldR Reg.release_RSTCNT 31 16 (satU 16 (d.rfld Reg.release_RSTCNT 31 16 + 1))
    if d1.wdogRuns then d1.setFldR Reg.wdog_STAT 27 16 (satU 12 (d1.rfld Reg.wdog_STAT 27 16 + 1)) else d1
  | _ => d

/-! The tick. -/

/-- The frame number, the tick time and the period of the frame that starts (R142, R143). -/
def Dev.nextFrame (d : Dev) : Dev :=
  { d with frnum := d.frnum + 1, tickt := d.time, period := BitVec.ofNat 19 (d.rfld Reg.tbase_PERIOD 18 0),
           wdCfg := d.reg Reg.wdog_CFG }

/-- Pending sets, drives and fans (R47, R309). -/
def Dev.frameOutputs (before d : Dev) : Dev :=
  let d1 := Dev.each Dev.applyPending framePages d
  Dev.fanFrame before (Dev.each (Dev.drvFrame before) drvIds d1)

/-- One tick, at the time that the device shows. -/
def Dev.frameTick (d : Dev) : Dev :=
  let d1 := d.frameClose.nextFrame
  let d2 := Dev.frameOutputs d1 d1
  let d3 := ((Dev.each Dev.linkFrame copyIds d2.publishSense).cfgPendClear)
  let d4 := Dev.each (fun g d => d.ovlPut g (ovlStep (d.ovlGet g))) (List.range 10) d3
  let d5 := d4.clkTick.relTick.openExchanges.allowances
  if d5.pstate = 3 ∨ d5.pstate = 5 then { d5 with lp := { d5.lp with stopping := true } } else d5

/-- FRAME_TICK (R142): exactly one period after the tick before. -/
def execFrameTick (s : State) : Host.Outcome State Fault Refusal :=
  s.run (fun d => dueIf d.frames (fun d => ((d.at (d.tickt.toNat + d.period.toNat)).reportsClose).frameTick) d)

/-! Sustained overload. -/

/-- The OVERLOAD entry of queue `g` (R64): the counter is the group's refusals. -/
def Dev.ovlEntry (d : Dev) (g up : Nat) : Dev :=
  let b := admBase g
  d.jlog 0x0B (b / 0x1000) (b % 0x1000) 0 (toWord up) (toWord (satU 32 ((d.reg (b + 0xC)).toNat + (d.reg (b + 0x10)).toNat)))

/-- OVERLOAD_RAISE (R33, R39). -/
def execOverloadRaise (g : AdmId) (s : State) : Host.Outcome State Fault Refusal :=
  s.run (fun d =>
    let win := d.rfld (admBase g.val) 7 0
    dueIf (win != 0 && !d.rbit Reg.sys_OVLSUM g.val && decide (win ≤ (d.ovlGet g.val).2.1)) (fun d =>
      ((d.setBitR Reg.sys_OVLSUM g.val true).evt 0 0).ovlEntry g.val 1) d)

/-- OVERLOAD_FALL (R33). -/
def execOverloadFall (g : AdmId) (s : State) : Host.Outcome State Fault Refusal :=
  s.run (fun d =>
    let win := d.rfld (admBase g.val) 7 0
    dueIf (d.rbit Reg.sys_OVLSUM g.val && (win == 0 || decide (win ≤ (d.ovlGet g.val).2.2))) (fun d =>
      (d.setBitR Reg.sys_OVLSUM g.val false).ovlEntry g.val 0) d)

end Sys2Proof.Machine
end

