-- ==== Sys2Proof/Machine/Boot.lean ====
section
/-! DEFINITION. Machine/Boot.lean: the boot sequence and the core-set restart (R6, R62, R268 to R271, R354, R387, R389,
R426, R430 to R436, R444). -/

namespace Sys2Proof.Machine

open Sys2Proof

/-! Power and step 1. -/

/-- The sources that a return of VSUP_H shows: a brownout that retention memory survived, or power-on (R426). -/
def Dev.powerSource (d : Dev) : Nat := if d.boot.resetSrc = 2 ∧ d.rbit Reg.retn_STAT 0 = false then 2 else 1

/-- POWER_ON (R389, R293, R429, R443): everything but the retained items starts anew. -/
def execPowerOn (s : State) : Host.Outcome State Fault Refusal :=
  s.run (fun d => dueIf (d.phase == .off) (fun d =>
    (((d.hubReset d.powerSource).setReg Reg.pwr_STAT 0).setFldR Reg.dbg_STAT 9 8 0).setBitR Reg.pwr_SUPSTAT 0 false) d)

/-- REFERENCE_PLL_LOCK (R420, R436): step 1 begins; a LOADER held in the instruction register is noted. -/
def execReferencePllLock (s : State) : Host.Outcome State Fault Refusal :=
  s.run (fun d => dueIf (d.phase == .pllWait) (fun d =>
    let d1 := d.at d.phaseDue
    { d1 with phase := .otpLoad, phaseDue := d1.now + 4000, boot := { d1.boot with lockAt := d1.now, loaderHeld := d1.jtag.ir == 0x12 } }) d)

/-- The OTP word at an offset, corrected where it can be (R252, R444). -/
def Dev.otpWord (d : Dev) (off : Nat) : Word := (d.readWord (0x50000000 + off)).1

/-- The fuse word. -/
def Dev.fuses (d : Dev) : Word := d.otpWord 8

/-- DBG.STAT.LOCK after a HUB-scope reset (R443). -/
def Dev.lockAtReset (d : Dev) : Nat := if 3 ≤ d.rfld Reg.dbg_STAT 9 8 then 3 else if bitOf d.fuses 1 then 1 else 0

/-- OTP_LOAD_DONE (R14, R354, R355, R430, R444): the Puffball configuration, reserved bits 0, the lock state, and the INSVC timer. -/
def execOtpLoadDone (s : State) : Host.Outcome State Fault Refusal :=
  s.run (fun d => dueIf (d.phase == .otpLoad) (fun d =>
    let d1 := d.at d.phaseDue
    let d2 := ((((d1.setReg Reg.puff_CFG (d1.otpWord 0x40 &&& 0xFFFF0FFF)).setReg Reg.puff_DUTY (d1.otpWord 0x44)).setReg Reg.puff_DID
      (d1.otpWord 0x48 &&& 0x9FFFFFFF)).setReg Reg.puff_DPFX (d1.otpWord 0x4C &&& 0xFFFFFF)).setReg Reg.puff_DBTR (d1.otpWord 0x50)
    let d3 := d2.setFldR Reg.dbg_STAT 5 4 d2.lockAtReset
    { d3 with phase := .retCheck, phaseDue := d3.now + 2000, puff := { d3.puff with insvcFrom := some d3.now } }) d)

/-! Step 2. -/

/-- The copies in the package as a mask (R5). -/
def Dev.packageMask (d : Dev) : Nat := if d.variant = 3 then 7 else 3

/-- Retention memory is invalid (R268). -/
def Dev.retnInvalid (d : Dev) : Bool := d.rbit Reg.retn_STAT 0 || !d.pointersAgree

/-- Invalid retention memory: cleared, the journal started anew, and its RESET entry (R62, R268, R429). -/
def Dev.retnRestart (d : Dev) : Dev :=
  let d1 := (d.clearRetention.jRestart).setBitR Reg.retn_STAT 0 false
  ({ d1 with frnum := 0, refreshW := { d1.refreshW with late := [] } }).jlog 8 5 0x44 0 Config.retlostCode
    (toWord (1 + 256 * d1.packageMask))

/-- The MODE entry of a change into BOOT comes behind the RESET entry (R389). -/
def Dev.bootMode (d : Dev) (prev : Nat) : Dev :=
  { d with jrn := { d.jrn with queue := d.jrn.queue ++ [d.jEntry 6 3 0x4C 0 0 (toWord prev) d.frame32 false] } }

/-- What the boot journals once the journal runs (R263, R267, R389, R426, R430). -/
def Dev.bootEntries (d : Dev) : Dev :=
  let src := d.rfld Reg.rst_LAST 7 0
  let d1 := d.jlog 8 5 0x44 0 (toWord src) (toWord (1 + 256 * d.packageMask))
  let d2 := if src = 1 ∨ src = 2 then d1.bootMode 8 else if src = 4 then d1.bootMode 7 else d1
  let d3 := d2.mile 1 d2.fuses
  let d4 := if d3.flopp then { d3 with flopp := false }.fault 0x35 0x11 0 d3.floppDst 0 else d3
  Dev.each (fun a d => d.retnUe a) d4.refreshW.late { d4 with refreshW := { d4.refreshW with late := [] } }

/-- RETENTION_CHECK_DONE (R62, R263, R268, R430, R436). -/
def execRetentionCheckDone (s : State) : Host.Outcome State Fault Refusal :=
  s.run (fun d => dueIf (d.phase == .retCheck) (fun d =>
    let d1 := d.at d.phaseDue
    let d2 := (if d1.retnInvalid then d1.retnRestart else d1).bootEntries
    let d3 := { d2 with scrubW := { d2.scrubW with due := d2.now }, refreshW := { d2.refreshW with due := d2.now },
                        ledger := { d2.ledger with convAt := d2.now / 4000 * 4000, msAt := d2.now / 400000 * 400000 } }
    if d3.boot.loaderHeld then { d3 with phase := .service }.setBitR Reg.boot_STAT 16 true
    else { d3 with phase := .imgCheck, phaseDue := d3.now }) d)

/-! Step 3. -/

/-- Flash words, corrected; none where one is uncorrectable (R271). -/
def Dev.flashWords (d : Dev) (a n : Nat) : Option (List Word) :=
  let ws := (List.range n).map (fun i => d.readWord (a + 4 * i))
  if ws.any (fun (r : Word × Bool) => r.2) then none else some (ws.map (fun (r : Word × Bool) => r.1))

/-- The bytes of flash words. -/
def Dev.flashBytes (d : Dev) (a n : Nat) : Option (List Byte) := (d.flashWords a n).map (fun ws => ws.flatMap wordBytes)

/-- A word of the header sector (R269). -/
def Dev.hdr (d : Dev) (off : Nat) : Word := (d.readWord (0x3FF000 + off)).1
def Dev.hdrBad (d : Dev) (off : Nat) : Bool := (d.readWord (0x3FF000 + off)).2

def Dev.imgLen (d : Dev) : Nat := (d.hdr 8).toNat
def Dev.recLen (d : Dev) : Nat := (d.hdr 0x10).toNat

/-- The signature is checked (R431). -/
def Dev.sigChecked (d : Dev) : Bool := bitOf (d.hdr 0xC) 0 || bitOf d.fuses 0

/-- The records' bytes: RECLEN of them. -/
def Dev.recBytes (d : Dev) : Option (List Byte) := (d.flashBytes 0x3FF100 (ceilDiv d.recLen 4)).map (fun bs => bs.take d.recLen)

/-- Check 4: CRC-32C over the code region, the header to 0x07F and the records (R269). -/
def Dev.imgCrcOk (d : Dev) : Bool :=
  match d.flashBytes 0 (d.imgLen / 4), d.flashBytes 0x3FF000 32, d.recBytes with
  | some code, some hdr, some recs => !d.hdrBad 0x80 && crc32c (code ++ hdr ++ recs) == d.hdr 0x80
  | _, _, _ => false

/-- Check 5 (R269, R444). -/
def Dev.imgSigOk (d : Dev) : Bool :=
  let slot := fld (d.hdr 0xC) 3 1
  let keys := (List.range 16).map (fun i => d.readWord (0x50000400 + 0x40 * slot + 4 * i))
  if 3 < slot ∨ bitOf d.fuses (4 + slot) = true ∨ keys.any (fun (r : Word × Bool) => r.2) = true then false
  else
    match d.flashBytes 0 (d.imgLen / 4), d.flashBytes 0x3FF000 8, d.recBytes, d.flashBytes 0x3FF020 8, d.flashBytes 0x3FF040 16 with
    | some code, some hdr, some recs, some dig, some sig =>
      let kb := keys.flatMap (fun (r : Word × Bool) => wordBytes r.1)
      let h := sha256 (code ++ hdr ++ recs)
      h == dig && ecdsaVerify (natOfBE (kb.take 32), natOfBE (kb.drop 32)) (natOfBE h) (natOfBE (sig.take 32)) (natOfBE (sig.drop 32))
    | _, _, _, _, _ => false

/-- The first of checks 1 to 5 that fails, 0 if none does (R271). -/
def Dev.imgCheck (d : Dev) : Nat :=
  if d.hdrBad 0 ∨ d.hdr 0 ≠ 0x31524C4B then 1
  else if d.hdrBad 4 ∨ fld (d.hdr 4) 31 16 ≠ 1 then 2
  else if d.hdrBad 8 ∨ d.hdrBad 0x10 ∨ d.imgLen % 32 ≠ 0 ∨ 0x3F0000 < d.imgLen ∨ 0xF00 < d.recLen then 3
  else if d.imgCrcOk = false then 4
  else if d.sigChecked ∧ d.imgSigOk = false then 5
  else 0

/-- T_img (R431). -/
def Dev.imgTime (d : Dev) : Nat :=
  let br := d.imgLen + 256 + d.recLen
  let bh := d.imgLen + 32 + d.recLen
  let s := if d.sigChecked then ceilDiv bh 64 * 68 else 0
  6000 + max (ceilDiv br 32 * 12) s + if d.sigChecked then 1200000 else 0

/-! Step 4. -/

/-- The immediate commits that a record has made are applied, 4 × (n + 1) HCLK each (R48, R430); a write costs 4. -/
def Dev.recSettle (p : Nat) (d : Dev) : Dev :=
  let d1 := ((Dev.jDrain 64 d).jServe1).lvSettle
  let d2 := Dev.jDrain 64 d1
  match d2.nextApply p with
  | some c => { d2.applyCommit c with time := d2.time + BitVec.ofNat 64 (4 * (c.vals.length + 1)) }
  | none => { d2 with time := d2.time + 4 }

/-- A register write of a record, and whether it was refused (R270). -/
def Dev.recWrite (d : Dev) (addr v : Word) : Dev × Bool :=
  let a := addr.toNat
  if isPages a = false ∨ a % 4 ≠ 0 then (d, true)
  else
    let r := d.regWrite .hub (a - 0x40000000) v none
    match r.2 with
    | some st => if isRefused st then (r.1, true) else (r.1.recSettle (a / 0x1000 % 64), false)
    | none => (r.1.recSettle (a / 0x1000 % 64), false)

/-- A mirror area that a record may name (R270). -/
def Dev.mirrorOk (d : Dev) (base : Nat) : Bool :=
  base % 0x8000 == 0 && decide (d.imgLen ≤ base) && decide (base + 0x8000 ≤ 0x3FF000)

/-- How the records end: applied with their count, refused, or a trio image on JMD-2 (R6, R270). -/
inductive RecEnd where
  | applied (n : Nat)
  | refused
  | wrongVariant
deriving DecidableEq, Repr

/-- The variant declared (R6): absent for JMD-2 with *trio*. -/
def Dev.takeVariant (d : Dev) (v : BitVec 2) : Option Dev :=
  if v = 2 ∧ d.variant ≠ 3 then none else some { d with boot := { d.boot with variant := v, usePair := v == 1 } }

/-- The records from `a` up to `stop` are applied in order (R270); `n` have been. -/
def Dev.records : Nat → Nat → Nat → Nat → Dev → Dev × RecEnd
  | 0, _, _, n, d => (d, if d.boot.variant = 0 then .refused else .applied n)
  | fuel + 1, a, stop, n, d =>
    if stop ≤ a then (d, if d.boot.variant = 0 then .refused else .applied n)
    else
      let w := (d.readWord a).1
      let next := a + 4 + 4 * fld w 15 8
      let p0 := (d.readWord (a + 4)).1
      let p1 := (d.readWord (a + 8)).1
      match fld w 7 0 with
      | 0 => (d, if d.boot.variant = 0 then .refused else .applied n)
      | 1 =>
        if d.boot.variant ≠ 0 ∨ fld p0 1 0 = 0 then (d, .refused)
        else match d.takeVariant (BitVec.ofNat 2 (fld p0 1 0)) with
          | some d1 => Dev.records fuel next stop (n + 1) d1
          | none => (d, .wrongVariant)
      | 2 =>
        let r := d.recWrite p0 p1
        if r.2 then (r.1, .refused) else Dev.records fuel next stop (n + 1) r.1
      | 3 =>
        if d.mirrorOk p0.toNat then
          Dev.records fuel next stop (n + 1) (d.setMirror p0.toNat p1.toNat)
        else (d, .refused)
      | _ => (d, .refused)

/-- An image refusal (R434): the check that failed, and the loader is served. -/
def Dev.imgRefuse (d : Dev) (fail : Nat) : Dev :=
  let d1 := ((d.setFldR Reg.boot_STAT 15 8 fail).setBitR Reg.boot_STAT 16 true).mile 3 (toWord fail)
  { d1 with phase := .service }

/-- The regulators of the copies that the image allows and the supplies carry turn on (R6, R387, R430 step 5). -/
def Dev.powerCopies (d : Dev) : Dev :=
  let cs := d.allowedCopies.filter (fun c => !d.copyLow c)
  let d1 := Dev.each Dev.copyOn cs d.setStrap
  { d1.mile 5 (toWord (maskOf cs)) with cs := .locking, csDue := d1.now + 80000 }

/-- The records are applied: GUARD is locked, the frame generator starts unless it runs since an earlier step 4 (R436 BOOT),
and the copies get power (R430 steps 4, 5). -/
def Dev.imgAccept (d : Dev) (n : Nat) : Dev :=
  let d1 := ((d.setReg Reg.boot_IMGVER (d.hdr 4)).mile 4 (toWord n)).setBitR (Reg.pgLock 0x14) 0 true
  let d2 := { d1 with time := d1.time + 1, phase := .run, frames := true }
  if d.frames then d2.powerCopies else d2.frameTick.powerCopies

/-- An image whose checks 1 to 5 have passed (R270, R430). -/
def Dev.imgApply (d : Dev) : Dev :=
  let d1 := (d.at (d.phaseDue + d.imgTime)).mile 2 (d.hdr 4)
  let r := Dev.records 1024 0x3FF100 (0x3FF100 + d.recLen) 0 d1
  match r.2 with
  | .applied n => r.1.imgAccept n
  | .refused => r.1.imgRefuse 6
  | .wrongVariant => r.1.imgRefuse 7

/-- IMAGE_CHECK_DONE (R271, R430, R434). -/
def execImageCheckDone (s : State) : Host.Outcome State Fault Refusal :=
  s.run (fun d => dueIf (d.phase == .imgCheck) (fun d => if d.imgCheck = 0 then d.imgApply else d.imgRefuse d.imgCheck) d)

/-! Steps 5 and 6. -/

/-- COPY_POWER_ON (R387, R419, R435). -/
def execCopyPowerOn (s : State) : Host.Outcome State Fault Refusal :=
  s.run (fun d => dueIf (d.cs == .waiting) (fun d => (d.at d.csDue).powerCopies) d)

/-- A link starts: RESUME with stored settings, or full training (R103, R104). -/
def Dev.linkStart (resume : Bool) (c : CopyId) (d : Dev) : Dev :=
  if resume && (d.link c).eqStored then
    let d1 := d.trainEnter c 9
    ((d1.setFldR (Reg.linkx_STAT c.val) 27 26 (d.link c).eqRate.toNat).setBitR (Reg.linkx_STAT c.val) 25 (d.rbit Reg.link_CFG 0)).updLink
      c (fun L => { L with stateDue := d.now + 800 })
  else d.trainStart c

/-- COPY_PLL_LOCKED (R103, R104, R394, R430). -/
def execCopyPllLocked (s : State) : Host.Outcome State Fault Refusal :=
  s.run (fun d => dueIf (d.cs == .locking) (fun d =>
    let d1 := d.at d.csDue
    let resume := d1.pstate == 4 && !d1.rbit Reg.link_CFG 31
    let d2 := Dev.each (Dev.linkStart resume) d1.poweredCopies d1
    { (if resume then d2 else d2.setBitR Reg.link_CFG 31 false) with cs := .training }) d)

/-- Every powered copy is active or has been lost (R433). -/
def Dev.trainingOver (d : Dev) : Bool := d.poweredCopies.all d.liveLink

/-- How many copies must train, and whether fewer are released in reduced mode or reduce the variant (R433). -/
inductive Outcome where
  | full | variantReduced | reduced | none
deriving DecidableEq, Repr

def Dev.trainOutcome (d : Dev) : Outcome :=
  let n := d.liveLinks.length
  if n = d.allowedCopies.length then .full
  else if d.allowedCopies.length = 3 ∧ n = 2 then (if d.boot.variant = 3 then .variantReduced else .reduced)
  else .none

/-- No release (R433, R434). -/
def Dev.noRelease (d : Dev) : Dev :=
  let d1 := Dev.each (Dev.copyOff 0) d.poweredCopies d
  let d2 := ((d1.mile 9 0).setFldR Reg.boot_STAT 15 8 8).setBitR Reg.boot_STAT 16 true
  { d2 with cs := .held, phase := .service }

/-- The FAULT entry for the copy that is absent from a trio (R433, R451 code 0x02). -/
def Dev.absentFault (d : Dev) : Dev :=
  match d.allowedCopies.find? (fun c => !d.liveLink c) with
  | some c => d.fault 2 0x0B (c.val + 1) 0 0
  | none => d

/-- The copies wait for their release (R148, R430 step 7). -/
def Dev.toRelease (d : Dev) (reduced : Bool) : Dev :=
  let d1 := d.mile 6 (toWord (maskOf d.liveLinks))
  { d1 with cs := .relWait 0, boot := { d1.boot with reduced := reduced } }

/-- RELEASE_DECISION (R433, R394 step 5). -/
def execReleaseDecision (s : State) : Host.Outcome State Fault Refusal :=
  s.run (fun d => dueIf (d.cs == .training && d.trainingOver) (fun d =>
    if d.pstate = 4 then ({ d with cs := .relWait 0, frames := true }).frameTick
    else match d.trainOutcome with
      | .full => d.toRelease false
      | .variantReduced => (d.mile 8 (toWord (maskOf d.liveLinks))).toRelease false
      | .reduced => d.absentFault.toRelease true
      | .none => d.noRelease) d)

end Sys2Proof.Machine
end

