-- ==== Sys2Proof/Machine/CoreOps.lean ====
section
/-! DEFINITION. Machine/CoreOps.lean: what every instruction of the Zuster core shares: registers and status (R173, R201),
the address map (R176, R177), both caches with their protection (R180 to R185), requests (R127, R128, R178, R192), the
shadow stacks (R218, R220), trap entry (R194, R202, R213, R214, R222 to R224), fetch and retirement (R187, R217). -/

namespace Sys2Proof.Machine

open Sys2Proof

/-- What an instruction sees of the device around its copy: the time, stored words (none where uncorrectable),
DBG.CTRL.EBEN and IRQD.ROUTE. -/
structure Env where
  now : Nat
  mem : Nat → Option Word
  eben : Bool
  route : DWord

/-! Registers and status. -/

def Copy.xr (x : Copy) (r : BitVec 5) : Word := if r = 0 then 0 else x.x[r.toNat]
def Copy.setX (x : Copy) (r : BitVec 5) (v : Word) : Copy := if r = 0 then x else { x with x := x.x.set r.toNat v }

def Copy.bank (x : Copy) (w : World) : Bank :=
  match w with
  | .iron => x.iron
  | .tin => x.tin
def Copy.updBank (x : Copy) (w : World) (f : Bank → Bank) : Copy :=
  match w with
  | .iron => { x with iron := f x.iron }
  | .tin => { x with tin := f x.tin }

def worldBit : World → BitVec 1
  | .iron => 0
  | .tin => 1

def ringBits (r : Fin 4) : BitVec 2 := BitVec.ofNat 2 r.val
def bitsRing (r : BitVec 2) : Fin 4 := ⟨r.toNat, r.isLt⟩

/-- STATUS bits [5:0] (07_worlds_rings_traps.md). -/
def Copy.status6 (x : Copy) : BitVec 6 := x.bmode ++ BitVec.ofBool x.hush ++ ringBits x.ring ++ worldBit x.world

def status6World (v : BitVec 6) : World := if v.getLsbD 0 then .tin else .iron
def status6Ring (v : BitVec 6) : Fin 4 := bitsRing (v.extractLsb' 1 2)

def Copy.setStatus6 (x : Copy) (v : BitVec 6) : Copy :=
  { x with world := status6World v, ring := status6Ring v, hush := v.getLsbD 3, bmode := v.extractLsb' 4 2 }

/-- STATUS (07_worlds_rings_traps.md). -/
def Copy.status (x : Copy) : Word :=
  toWord (x.status6.toNat + 0x100 * boolNat x.ibusy + 0x200 * boolNat x.idflt + 0x400 * boolNat x.tbusy + 0x800 * boolNat x.tdflt)

def Copy.busy (x : Copy) : World → Bool
  | .iron => x.ibusy
  | .tin => x.tbusy
def Copy.dflt (x : Copy) : World → Bool
  | .iron => x.idflt
  | .tin => x.tdflt
def Copy.setBusy (x : Copy) (w : World) (b : Bool) : Copy :=
  match w with
  | .iron => { x with ibusy := b }
  | .tin => { x with tbusy := b }
def Copy.setDflt (x : Copy) (w : World) (b : Bool) : Copy :=
  match w with
  | .iron => { x with idflt := b }
  | .tin => { x with tdflt := b }

/-- The class of a world's requests (ACLS). -/
def Copy.clsOf (x : Copy) (w : World) : BitVec 2 :=
  match w with
  | .iron => x.acls.extractLsb' 0 2
  | .tin => x.acls.extractLsb' 2 2

/-- REQERR.CNT of a bank. -/
def Copy.refusals (x : Copy) (w : World) : Nat := fld (x.bank w).reqerr 15 8

/-- The hush limit of the current world (R217). -/
def Copy.hushLimit (x : Copy) : Nat :=
  match x.world with
  | .iron => fld x.hushmax 15 0
  | .tin => fld x.hushmax 31 16

/-! The address map (R176, R177). -/

def canFetch (a : Nat) : Bool := isFlash a || isSram a
def canLoad (a : Nat) : Bool := isFlash a || isSram a || isWindow a || isContext a || isPages a
def canStore (a : Nat) : Bool := isSram a || isContext a || isPages a
def isCached (a : Nat) : Bool := isFlash a || isSram a

def wordOf (a : Word) : Word := a &&& 0xFFFFFFFC
def lineOf (a : Word) : Word := a &&& 0xFFFFFFE0

/-! Caches. -/

def lineDflt {L : Type} (_ : Nat) : Option L := none
def plruDflt (_ : Nat) : BitVec 3 := 0

def Cache.at {L : Type} (c : Cache L) (slot : Nat) : Option L := mapGet lineDflt c.lines slot
def Cache.put {L : Type} [DecidableEq L] (c : Cache L) (slot : Nat) (l : Option L) : Cache L :=
  { c with lines := mapPut lineDflt c.lines slot l }

/-- Tree pseudo-LRU (R180): bit 0 points to the half, bits 1 and 2 to the way within it, that is replaced next. -/
def plruTouch (b : BitVec 3) (way : Nat) : BitVec 3 :=
  match way with
  | 0 => (b ||| 1) ||| 2
  | 1 => (b ||| 1) &&& 5
  | 2 => (b &&& 6) ||| 4
  | _ => b &&& 2

def plruVictim (b : BitVec 3) : Nat :=
  if b.getLsbD 0 then (if b.getLsbD 2 then 3 else 2) else if b.getLsbD 1 then 1 else 0

def Cache.touch {L : Type} (c : Cache L) (slot : Nat) : Cache L :=
  { c with plru := mapPut plruDflt c.plru (slot / 4) (plruTouch (mapGet plruDflt c.plru (slot / 4)) (slot % 4)) }

/-- The slot of the line of address `a` in a cache of `sets` sets. -/
def Cache.find {L : Type} (tag : L → Word) (sets : Nat) (c : Cache L) (a : Word) : Option (Nat × L) :=
  let s := a.toNat / 32 % sets * 4
  match [s, s + 1, s + 2, s + 3].find? (fun k => match c.at k with | some l => tag l == lineOf a | none => false) with
  | some k => (c.at k).map (fun l => (k, l))
  | none => none

/-- Where a new line goes: the lowest empty way, else the one that pseudo-LRU names. -/
def Cache.slotFor {L : Type} (sets : Nat) (c : Cache L) (a : Word) : Nat :=
  let s := a.toNat / 32 % sets * 4
  match [s, s + 1, s + 2, s + 3].find? (fun k => (c.at k).isNone) with
  | some k => k
  | none => s + plruVictim (mapGet plruDflt c.plru (s / 4))

def icSets : Nat := 256
def dcSets : Nat := 128

def Copy.icFind (x : Copy) (a : Word) : Option (Nat × ILine) := x.icache.find ILine.line icSets a
def Copy.dcFind (x : Copy) (a : Word) : Option (Nat × DLine) := x.dcache.find DLine.line dcSets a

/-! Instruction-cache protection (R181). -/

def cwordZero : CWord := ⟨0, 0⟩

/-- What a read of word `i` of a line finds. -/
inductive Repair where
  | fine
  | corrected (l : ILine)
  | rebuilt (l : ILine)
  | failed
deriving DecidableEq, Repr

def wordAddr (line : Word) (i : Nat) : Word := line + toWord (4 * i)

/-- The corrected values of a line's words but word `i`; none where one is uncorrectable. -/
def ILine.others (l : ILine) (i : Nat) : Option (List Word) :=
  let vs := (List.range 8).filterMap (fun j =>
    if j = i then none else some (checkVal (listGet cwordZero l.words j).data (listGet cwordZero l.words j).ecc (wordAddr l.line j)))
  if vs.all Option.isSome then some (vs.filterMap id) else none

def ILine.repair (l : ILine) (i : Nat) : Repair :=
  let w := listGet cwordZero l.words i
  let a := wordAddr l.line i
  match checkWord w.data w.ecc a with
  | .ok => .fine
  | .corrected v => .corrected { l with words := listSet l.words i ⟨v, ecc v a⟩ }
  | .bad =>
    match l.others i, checkVal l.parity.data l.parity.ecc l.line with
    | some vs, some p =>
      let v := vs.foldl (fun m y => m ^^^ y) p
      if checkVal v w.ecc a = some v then .rebuilt { l with words := listSet l.words i ⟨v, ecc v a⟩ } else .failed
    | _, _ => .failed

/-- The parity word of a line's values (R181). -/
def parityOf (line : Word) (ws : List CWord) : CWord :=
  let p := ws.foldl (fun m w => m ^^^ w.data) 0
  ⟨p, ecc p line⟩

/-! Requests. -/

/-- How many requests the grants allow now (R128). -/
def Copy.granted (x : Copy) : Nat :=
  let k := (x.grant - x.issued).toNat
  if k ≤ 64 then k else 0

/-- `n` requests can be sent now: tags and grants (R127, R128). -/
def Copy.room (x : Copy) (n : Nat) : Bool := decide (x.out.length + n ≤ 64) && decide (n ≤ x.granted)

/-- The lowest-numbered free tag (R192). -/
def Copy.freeTag (x : Copy) : BitVec 6 :=
  match (List.range 64).find? (fun t => !x.out.any (fun o => o.tag.toNat == t)) with
  | some t => BitVec.ofNat 6 t
  | none => 0

/-- A request is issued (R127, R192). -/
def Copy.issue (x : Copy) (now : Nat) (ty : ReqType) (w : World) (r : Fin 4) (be : BitVec 4) (addr data : Word) (code : BitVec 7)
    (rcrc : Byte) (use : RespUse) : Copy :=
  let req : Req := { csn := x.csn, retire := x.retire, tag := x.freeTag, world := w, ring := r, cls := x.clsOf w, reissue := false,
                     be := be, addr := addr, data := data, ecc := code, rcrc := rcrc }
  let o : Outst := ⟨req.tag, ty, req, use, none⟩
  Copy.send { x with csn := x.csn + 1, issued := x.issued + 1, out := x.out ++ [o] } now req.cls (.req ty req)

/-- A READ of the word that holds `a`. -/
def Copy.readReq (x : Copy) (now : Nat) (w : World) (r : Fin 4) (a : Word) (use : RespUse) : Copy :=
  x.issue now .read w r 0xF (wordOf a) 0 0 0 use

/-- A posted WRITE. -/
def Copy.writeReq (x : Copy) (now : Nat) (w : World) (r : Fin 4) (be : BitVec 4) (a data : Word) (spill : Bool) : Copy :=
  x.issue now .write w r be a data (ecc data a) (if isPages a.toNat then rcrcOf a data else 0) (.posted spill)

/-! The data cache. -/

def dcWord (l : DLine) (i : Nat) : Option CWord := listGet none l.words i

def wordIndex (a : Word) : Nat := a.toNat / 4 % 8

/-- The word at `a` in the data cache, with its slot and line. -/
def Copy.dcGet (x : Copy) (a : Word) : Option (Nat × DLine × CWord) :=
  match x.dcFind a with
  | some (k, l) => (dcWord l (wordIndex a)).map (fun w => (k, l, w))
  | none => none

/-- Word `a` of a present line becomes `w`, or invalid. -/
def Copy.dcSet (x : Copy) (k : Nat) (l : DLine) (a : Word) (w : Option CWord) : Copy :=
  { x with dcache := x.dcache.put k (some { l with words := listSet l.words (wordIndex a) w }) }

/-- The word at `a` is filled, its line allocated if it is absent (R183). -/
def Copy.dcFill (x : Copy) (a : Word) (w : CWord) : Copy :=
  match x.dcFind a with
  | some (k, l) => x.dcSet k l a (some w)
  | none =>
    let k := Cache.slotFor dcSets x.dcache a
    let y := x.dcSet k ⟨lineOf a, List.replicate 8 none⟩ a (some w)
    { y with dcache := y.dcache.touch k }

/-- Replacement state of a hit (R180, R183). -/
def Copy.dcTouch (x : Copy) (a : Word) : Copy :=
  match x.dcFind a with
  | some (k, _) => { x with dcache := x.dcache.touch k }
  | none => x

/-- A hit of a load (R184, R185): the word to use, corrected where it can be; an uncorrectable one is invalidated. -/
def Copy.dcLoad (x : Copy) (a : Word) : Copy × Option CWord :=
  match x.dcGet a with
  | none => (x, none)
  | some (k, l, w) =>
    match checkWord w.data w.ecc (wordOf a) with
    | .ok => (x.dcTouch a, some w)
    | .corrected v =>
      let cw : CWord := ⟨v, ecc v (wordOf a)⟩
      ({ (x.dcSet k l a (some cw)).dcTouch a with stats := { x.stats with dccor := x.stats.dccor + 1 } }, some cw)
    | .bad => ({ x.dcSet k l a none with stats := { x.stats with dcue := x.stats.dcue + 1 } }, none)

/-- The bytes that `be` enables, from `v`, over `w`. -/
def mergeLanes (be : BitVec 4) (v w : Word) : Word :=
  let b (i : Nat) : Byte := if be.getLsbD i then v.extractLsb' (8 * i) 8 else w.extractLsb' (8 * i) 8
  bytesWord (b 0) (b 1) (b 2) (b 3)

/-- A store updates the data cache (R183). Of a sub-word store into an uncorrectable word, the word is invalidated. -/
def Copy.dcStore (x : Copy) (be : BitVec 4) (a data : Word) : Copy :=
  if be = 0xF then (x.dcFill a ⟨data, ecc data (wordOf a)⟩).dcTouch a
  else
    match x.dcGet a with
    | none => x
    | some (k, l, w) =>
      match checkVal w.data w.ecc (wordOf a) with
      | some v =>
        let m := mergeLanes be data v
        (x.dcSet k l a (some ⟨m, ecc m (wordOf a)⟩)).dcTouch a
      | none => x.dcSet k l a none

/-- Data for the lanes from byte offset `a % 4` on (R192). -/
def laneData (a v : Word) (size : Nat) : Word := toWord (v.toNat % 2 ^ (8 * size) * 2 ^ (8 * (a.toNat % 4)))
def laneMask (a : Word) (size : Nat) : BitVec 4 := BitVec.ofNat 4 ((2 ^ size - 1) * 2 ^ (a.toNat % 4))

/-- A store of `size` bytes: the posted WRITE and the data cache (R183, R192). -/
def Copy.storeReq (x : Copy) (now : Nat) (w : World) (r : Fin 4) (a v : Word) (size : Nat) (spill : Bool) : Copy :=
  let be := laneMask a size
  let data := laneData a v size
  let y := x.writeReq now w r be a data spill
  if isSram a.toNat then y.dcStore be a data else y

/-! Shadow stacks (R218, R220). -/

def kindCode : EKind → Nat
  | .call => 0
  | .gpc => 1
  | .gstat => 2
  | .gsp => 3
  | .tsp => 4

def codeKind (n : Nat) : Option EKind :=
  match n with
  | 0 => some .call
  | 1 => some .gpc
  | 2 => some .gstat
  | 3 => some .gsp
  | 4 => some .tsp
  | _ => none

def Copy.stack (x : Copy) (w : World) (r : Fin 4) : SStack := (x.bank w).stk.get r
def Copy.updStack (x : Copy) (w : World) (r : Fin 4) (f : SStack → SStack) : Copy :=
  x.updBank w (fun b => { b with stk := b.stk.upd r f })

def SStack.cnt (s : SStack) : Nat := fld s.ssp 9 2
def SStack.base (s : SStack) : Word := s.ssp &&& 0xFFFFFC00
def SStack.setCnt (s : SStack) (n : Nat) : SStack := { s with ssp := setFld s.ssp 9 2 n }

/-- The address of record `d` (R220). -/
def SStack.recAddr (s : SStack) (d : Nat) : Word := s.base + toWord (8 * (d - 1))

def worldNo : World → Nat
  | .iron => 0
  | .tin => 1

/-- Word 1 of a record without its KIND (R220). -/
def recMeta (w : World) (r : Fin 4) (d : Nat) : Nat := 0x50000000 + worldNo w * 0x1000000 + r.val * 0x400000 + d

/-- Requests that `n` pushes need, and whether they pass record 128 (R220). -/
def SStack.pushNeed (s : SStack) (n : Nat) : Nat := if 32 < s.top.length + n then 16 else 0
def SStack.overflows (s : SStack) (n : Nat) : Bool := decide (32 < s.top.length + n) && decide (128 < s.cnt + 8)

/-- The records of a spill, oldest entry first, from depth `d` on. -/
def Copy.spillRecs (now : Nat) (w : World) (r : Fin 4) : List SEntry → Nat → Copy → Copy
  | [], _, x => x
  | e :: es, d, x =>
    let a := (x.stack w r).recAddr d
    let y := x.storeReq now w r a e.value 4 true
    let z := y.storeReq now w r (a + 4) (toWord (recMeta w r d + kindCode e.kind * 0x2000000)) 4 true
    Copy.spillRecs now w r es (d + 1) z

/-- The eight oldest entries go to the spill area. -/
def Copy.spill (x : Copy) (now : Nat) (w : World) (r : Fin 4) : Copy :=
  let s := x.stack w r
  let old := (s.top.drop (s.top.length - 8)).reverse
  (Copy.spillRecs now w r old (s.cnt + 1) x).updStack w r (fun s =>
    { s.setCnt (s.cnt + 8) with top := s.top.take (s.top.length - 8) })

/-- Entries are pushed, the last of the list newest; a full stack spills first. -/
def Copy.push (x : Copy) (now : Nat) (w : World) (r : Fin 4) (es : List SEntry) : Copy :=
  let y := if (x.stack w r).pushNeed es.length = 0 then x else x.spill now w r
  y.updStack w r (fun s => { s with top := es.reverse ++ s.top })

def Copy.pop (x : Copy) (w : World) (r : Fin 4) (n : Nat) : Copy := x.updStack w r (fun s => { s with top := s.top.drop n })

/-- Records to read when a pop needs more than the `have` entries on core (R220). -/
def SStack.fillCount (s : SStack) : Nat := min 8 s.cnt

/-- The READ requests of a fill: the newest records, newest first. -/
def Copy.fillReqs (now : Nat) (w : World) (r : Fin 4) : List Nat → Nat → Copy → Copy
  | [], _, x => x
  | d :: ds, i, x =>
    let a := (x.stack w r).recAddr d
    let y := x.readReq now w r a (.fillWord i)
    Copy.fillReqs now w r ds (i + 2) (y.readReq now w r (a + 4) (.fillWord (i + 1)))

def Copy.fill (x : Copy) (now : Nat) (w : World) (r : Fin 4) : Copy :=
  let s := x.stack w r
  let n := s.fillCount
  let ds := (List.range n).map (fun i => s.cnt - i)
  Copy.fillReqs now w r ds 0 { x with wait := .fill w r n (List.replicate (2 * n) none) }

/-! Traps. -/

/-- One entry report (R110, R226). -/
def Copy.event (x : Copy) (now : Nat) (cause : Byte) (detail : Word) : Copy := x.send now 2 (.lstatEvent cause x.retire detail)

/-- The LSTAT cause of an entry, 0 when it is not reported (R110, R226). -/
def reportCause (code : Nat) : Byte :=
  match code with
  | 0x09 => 0x11
  | 0x1F => 0x12
  | 0x06 => 0x13
  | 0x07 => 0x14
  | 0x0B => 0x15
  | _ => 0

def vectorOf (w : World) (code : Nat) : Word :=
  match w with
  | .iron => toWord (0x100 + 0x10 * code)
  | .tin => toWord (0x200100 + 0x10 * code)

/-- The copy stops for good (R181, R224, R126). -/
def Copy.halt (x : Copy) (why : Stop) : Copy := { x with stop := some why }

/-- A triple fault (R224). -/
def Copy.triple (x : Copy) (now code : Nat) : Copy := (x.event now 2 (toWord code)).halt .triple

/-- Ring 0 of `w` with HUSH 1 and BMODE 0, at a vector; entry is not complete (R213, R214). -/
def Copy.toVector (x : Copy) (w : World) (code : Nat) : Copy :=
  { x with world := w, ring := 0, hush := true, bmode := 0, entering := some w, pc := vectorOf w code }

/-- Double-fault entry of `w` (R222, R226): `addr` is the faulting instruction. -/
def Copy.double (x : Copy) (now : Nat) (w : World) (code : Nat) (addr : Word) : Copy :=
  let y := x.updBank w (fun b => { b with ecause := 0x1F, eval := toWord code, aux := addr.setWidth 64 })
  ((y.setDflt w true).toVector w 0x1F).event now 0x12 (toWord code)

/-- Entry 63 of a world's locked gate table: STACK, when SSW is 1 (R213 step 5). The outer none: a word is
uncorrectable. -/
def Copy.trapStack (x : Copy) (e : Env) (w : World) : Option (Option Word) :=
  let g := match w with | .iron => x.gtbaseI | .tin => x.gtbaseT
  if !bitOf g 0 then some none
  else
    let a := fld g 31 10 * 1024 + 16 * 63
    match e.mem (a + 4) with
    | some w1 => if bitOf w1 8 then (e.mem (a + 8)).map some else some none
    | none => none

/-- Step 5 of R213: the interrupted x2 is pushed and x2 loaded; a fault here is one during entry (R214). -/
def Copy.switchStack (x : Copy) (e : Env) (w : World) (pc : Word) : Copy :=
  match x.trapStack e w with
  | none => x.double e.now w 0x0A pc
  | some none => x
  | some (some sp) =>
    if (x.stack w 0).overflows 1 then x.double e.now w 7 pc
    else (x.push e.now w 0 [⟨.tsp, x.xr 2⟩]).setX 2 sp

/-- Steps 3 to 6 of R213. -/
def Copy.enter (x : Copy) (e : Env) (w : World) (code : Nat) (int : Bool) (eval : Word) (aux : DWord) : Copy :=
  let moved := x.world != w || x.ring != 0
  let y := x.updBank w (fun b => { b with
    estatus := x.status6, epc := x.pc &&& 0xFFFFFFFE, ecause := toWord (code + 0x80000000 * boolNat int), eval := eval, aux := aux })
  let z := (y.setBusy w true).toVector w code
  let z1 := if code = 9 ∧ int = false then { z with hushCnt := 0 } else z
  let z2 := if !int && reportCause code != 0 then z1.event e.now (reportCause code) eval else z1
  if moved then z2.switchStack e w x.pc else z2

/-- A synchronous cause enters `w`, or a double fault, or what DFLT makes of it (R213 step 2, R222, R223). -/
def Copy.enterIron (x : Copy) (e : Env) (code : Nat) (eval : Word) (aux : DWord) : Copy :=
  if x.idflt then x.triple e.now code
  else if x.ibusy then x.double e.now .iron code x.pc
  else x.enter e .iron code false eval aux

/-- Tin collapse (R223). -/
def Copy.collapse (x : Copy) (e : Env) (code : Nat) : Copy :=
  ({ x with tbusy := false, tdflt := false, entering := none }).enterIron e 0x0B (toWord code) (x.pc.setWidth 64)

def Copy.enterTin (x : Copy) (e : Env) (code : Nat) (eval : Word) (aux : DWord) : Copy :=
  if x.tdflt then x.collapse e code
  else if x.tbusy then x.double e.now .tin code x.pc
  else x.enter e .tin code false eval aux

def Copy.enterWorld (x : Copy) (e : Env) (w : World) (code : Nat) (eval : Word) (aux : DWord) : Copy :=
  match w with
  | .iron => x.enterIron e code eval aux
  | .tin => x.enterTin e code eval aux

/-- A fault during entry into `w` (R214, R223). -/
def Copy.entryFault (x : Copy) (e : Env) (w : World) (code : Nat) : Copy :=
  match w with
  | .iron => if x.idflt then x.triple e.now code else x.double e.now .iron code x.pc
  | .tin => if x.tdflt then x.collapse e code else x.double e.now .tin code x.pc

/-- The deferred-refusal trap of `w` (R194, R202, R228). -/
def Copy.deferred (x : Copy) (e : Env) (w : World) : Copy :=
  x.enterWorld e w 4 (x.bank w).reqerr (BitVec.ofNat 64 (x.refusals w))

/-- The world a synchronous cause enters: Iron for hush overrun and for what Tin cannot take any more (R223, R228). -/
def Copy.target (x : Copy) (code : Nat) : World :=
  if code = 9 then .iron else if x.world = .tin ∧ x.tdflt = true then .iron else x.world

/-- A synchronous cause, once no response is outstanding (R194, R202, R213 to R214, R223). -/
def Copy.syncEntry (x : Copy) (e : Env) (code : Nat) (eval : Word) (aux : DWord) : Copy :=
  match x.entering with
  | some w => x.entryFault e w code
  | none =>
    if code ≠ 4 ∧ x.refusals (x.target code) ≠ 0 then x.deferred e (x.target code)
    else if x.world = .tin ∧ x.tdflt = true then x.collapse e code
    else x.enterWorld e (x.target code) code eval aux

/-- An entry may begin: no tag is outstanding (R194), and a spill of the ring 0 stack it pushes to can be sent. -/
def Copy.drained (x : Copy) : Bool :=
  x.out.isEmpty && ((decide ((x.stack .iron 0).top.length < 32) && decide ((x.stack .tin 0).top.length < 32)) || x.room 16)

/-- A trap is raised: it enters now, or when the last response has arrived. -/
def Copy.raise (x : Copy) (e : Env) (code : Nat) (eval : Word) (aux : DWord) : Copy :=
  if x.drained then x.syncEntry e code eval aux else { x with wait := .trap code eval aux }

/-! Debug entry. -/

/-- Debug entry with its report (R111, R212, R439). -/
def Copy.enterDebug (x : Copy) (now : Nat) : Copy :=
  Copy.send { x with debug := true, dbg := false, step := none } now 0 (.dbgrsp 0 0 0 0 x.retire)

/-- A DBG event whose entry is due: the world's bank holds no refusal (R194, R212). -/
def Copy.dbgDue (x : Copy) : Bool := x.dbg && x.refusals x.world == 0

/-- What waits for the last outstanding response goes on. -/
def Copy.settle (x : Copy) (e : Env) : Copy :=
  match x.wait with
  | .trap code eval aux => if x.drained then ({ x with wait := .none }).syncEntry e code eval aux else x
  | .none => if x.dbgDue && x.out.isEmpty && x.stop.isNone then x.enterDebug e.now else x
  | _ => x

/-! Fetch. -/

/-- The addresses of an instruction's words. -/
def instrWords (pc : Word) (len : Nat) : List Word :=
  if pc.toNat % 4 = 2 ∧ len = 4 then [wordOf pc, wordOf pc + 4] else [wordOf pc]

/-- How a fetch ends: every word is there, or the copy does something else. -/
inductive Fetched where
  | ready
  | missing (line : Word)
  | fault (addr : Word)
  | failed (addr : Word)
deriving DecidableEq, Repr

/-- One instruction word is read from the instruction cache (R177, R181). -/
def Copy.fetchWord (x : Copy) (a : Word) : Copy × Fetched :=
  if !canFetch a.toNat then (x, .fault a)
  else
    match x.icFind a with
    | none => (x, .missing (lineOf a))
    | some (k, l) =>
      match l.repair (wordIndex a) with
      | .fine => (x, .ready)
      | .corrected l2 =>
        ({ x with icache := x.icache.put k (some l2), stats := { x.stats with iccor := x.stats.iccor + 1 } }, .ready)
      | .rebuilt l2 =>
        ({ x with icache := x.icache.put k (some l2), stats := { x.stats with icreb := x.stats.icreb + 1 } }, .ready)
      | .failed => (x, .failed a)

def Copy.fetchWords : List Word → Copy → Copy × Fetched
  | [], x => (x, .ready)
  | a :: as, x =>
    let r := x.fetchWord a
    if r.2 = .ready then Copy.fetchWords as r.1 else r

/-- A FETCH for a missing line (R178, R192), if it can be sent. -/
def Copy.fetchLine (x : Copy) (now : Nat) (line : Word) : Copy :=
  if x.room 1 then ({ x with wait := .fetch line }).issue now .fetch x.world x.ring 0 line 0 0 0 (.fetch line) else x

/-- The instruction cache cannot deliver a word (R110, R181). -/
def Copy.icFail (x : Copy) (now : Nat) (a : Word) : Copy := (x.event now 1 a).halt .icfail

/-! Running. -/

/-- The copy executes (R89, R164, R212, R224). -/
def Copy.runs (x : Copy) : Bool := x.powered && x.released && x.stop.isNone && !x.debug && x.step != some 0

/-- The copy has retired instruction D of an armed delivery and retires nothing further (R164). -/
def Copy.stalled (x : Copy) : Bool :=
  match x.armed with
  | some a => x.retire == a.d + 1
  | none => false

/-- The event that is taken next (R210): 0 TCK, 1 AGR, 2 Iron pages, 3 Tin pages. -/
def Copy.nextEvent (x : Copy) : Option Nat :=
  if x.hush then none
  else if x.tck.isSome then some 0
  else if x.agr then some 1
  else if x.iron.pages ≠ 0 then some 2
  else if x.world = .tin ∧ x.tin.pages ≠ 0 then some 3
  else none

/-- Hush overrun is due (R214, R217): judged after a retirement. -/
def Copy.hushDue (x : Copy) : Bool := x.hush && x.entering.isNone && decide (0 < x.hushCnt) && decide (x.hushLimit ≤ x.hushCnt)

/-- The next instruction may execute. -/
def Copy.ready (x : Copy) : Bool := x.runs && !x.stalled && x.nextEvent.isNone && !x.hushDue && !x.dbgDue

/-- An instruction of `len` bytes: fetched, then `body` (R177, R178, R181, R193). -/
def Copy.instr (x : Copy) (e : Env) (len : Nat) (body : Copy → Copy) : Copy :=
  if x.ready && x.wait == .none then
    let r := Copy.fetchWords (instrWords x.pc len) x
    match r.2 with
    | .ready => body r.1
    | .missing l => r.1.fetchLine e.now l
    | .fault a => r.1.raise e 1 (if wordOf x.pc = a then x.pc else a) 0
    | .failed a => r.1.icFail e.now a
  else x

/-! Retirement. -/

/-- Replacement state of the lines a retired instruction was fetched from (R180). -/
def Copy.icTouch (x : Copy) (a : Word) : Copy :=
  match x.icFind a with
  | some (k, _) => { x with icache := x.icache.touch k }
  | none => x

/-- An instruction retires (R161, R187, R214, R217). -/
def Copy.retireTo (x : Copy) (e : Env) (len : Nat) (pc : Word) : Copy :=
  let y := (instrWords x.pc len).foldl Copy.icTouch x
  let z := { y with pc := pc, retire := y.retire + 1, hushCnt := if y.hush then y.hushCnt + 1 else 0, entering := none,
                    step := y.step.map (fun n => n - 1) }
  let z1 := if z.retire.toNat % 64 = 0 then z.send e.now 0 (.retrep z.retire z.lastDrp 0) else z
  z1.settle e

/-- It retires and the next one follows. -/
def Copy.next (x : Copy) (e : Env) (len : Nat) : Copy := x.retireTo e len (x.pc + toWord len)

/-- The synchronization point of an instruction (R194): it waits for its responses, and a recorded refusal traps. -/
def Copy.syncPoint (x : Copy) (e : Env) (body : Copy → Copy) : Copy :=
  if !x.drained then x
  else if x.refusals x.world ≠ 0 then x.syncEntry e 4 (x.bank x.world).reqerr (BitVec.ofNat 64 (x.refusals x.world))
  else body x

/-- The illegal-instruction trap (R228). -/
def Copy.illegal (x : Copy) (e : Env) (iw : Word) : Copy := x.raise e 0 iw 0

/-- What copy `c` sees. -/
def Dev.env (d : Dev) : Env :=
  { now := d.now,
    mem := fun a => (match d.checkAt a with | .ok => some (d.word a) | .corrected w => some w | .bad => none),
    eben := d.rbit Reg.dbg_CTRL 4,
    route := d.reg Reg.irqd_ROUTE_HI ++ d.reg Reg.irqd_ROUTE_LO }

/-- An instruction of copy `c`. -/
def Dev.core (c : CopyId) (f : Env → Copy → Copy) (d : Dev) : Dev := d.updCopy c (f d.env)

end Sys2Proof.Machine
end

