-- ==== Sys2Proof/Machine/Operands.lean ====
section
/-! DEFINITION. Machine/Operands.lean: operand values of the core's instructions: immediates, the RV32IM operations (R173;
PRESUMED: the published RISC-V base and M extension, assumption 23), branch conditions, load extension, link forms (R219),
and the instruction words that trap registers record (R203, R228, R239 to R243). -/

namespace Sys2Proof.Machine

open Sys2Proof

def imm12 (i : BitVec 12) : Word := i.signExtend 32

/-- Division of RV32M: by zero gives all ones; the one overflow gives the dividend. -/
def divS (a b : Word) : Word := if b = 0 then 0xFFFFFFFF else BitVec.ofInt 32 (a.toInt.tdiv b.toInt)
def remS (a b : Word) : Word := if b = 0 then a else BitVec.ofInt 32 (a.toInt.tmod b.toInt)

def aluVal (op : AluOp) (a b : Word) : Word :=
  match op with
  | .add => a + b
  | .sub => a - b
  | .sll => a <<< (b.toNat % 32)
  | .slt => boolWord (a.slt b)
  | .sltu => boolWord (a.ult b)
  | .xor => a ^^^ b
  | .srl => a >>> (b.toNat % 32)
  | .sra => a.sshiftRight (b.toNat % 32)
  | .or => a ||| b
  | .and => a &&& b
  | .mul => a * b
  | .mulh => BitVec.ofInt 32 (a.toInt * b.toInt / 2 ^ 32)
  | .mulhsu => BitVec.ofInt 32 (a.toInt * (b.toNat : Int) / 2 ^ 32)
  | .mulhu => toWord (a.toNat * b.toNat / 2 ^ 32)
  | .div => divS a b
  | .divu => if b = 0 then 0xFFFFFFFF else a / b
  | .rem => remS a b
  | .remu => if b = 0 then a else a % b

/-- The register-immediate forms that exist: no subtraction and none of M; a shift has a 5-bit amount. -/
def immForm (op : AluOp) (imm : BitVec 12) : Bool :=
  match op with
  | .add | .slt | .sltu | .xor | .or | .and => true
  | .sll | .srl | .sra => decide (imm.toNat < 32)
  | _ => false

def branchTaken (op : BranchOp) (a b : Word) : Bool :=
  match op with
  | .beq => a == b
  | .bne => a != b
  | .blt => a.slt b
  | .bge => !a.slt b
  | .bltu => a.ult b
  | .bgeu => !a.ult b

def loadSize : LoadKind → Nat
  | .lb | .lbu => 1
  | .lh | .lhu => 2
  | .lw => 4

def storeSize : StoreKind → Nat
  | .sb => 1
  | .sh => 2
  | .sw => 4

/-- The value a load of kind `k` at `a` takes from the word that holds it. -/
def loadVal (k : LoadKind) (a w : Word) : Word :=
  let v := w >>> (8 * (a.toNat % 4))
  match k with
  | .lb => (v.extractLsb' 0 8).signExtend 32
  | .lbu => (v.extractLsb' 0 8).setWidth 32
  | .lh => (v.extractLsb' 0 16).signExtend 32
  | .lhu => (v.extractLsb' 0 16).setWidth 32
  | .lw => w

def instrLen (compressed : Bool) : Nat := if compressed then 2 else 4

/-! Calls and returns (R219). -/

def isLink (r : BitVec 5) : Bool := r == 1 || r == 5

/-- A JALR that pops. -/
def jalrPops (rd rs1 : BitVec 5) : Bool := isLink rs1 && (rd == 0 || (isLink rd && rd != rs1))
/-- A JALR that pushes only. -/
def jalrPushes (rd rs1 : BitVec 5) : Bool := isLink rd && !jalrPops rd rs1

/-! Instruction words. -/

/-- An I-type word. -/
def encI (imm rs1 f3 rd op : Nat) : Word := toWord (imm * 2 ^ 20 + rs1 * 2 ^ 15 + f3 * 2 ^ 12 + rd * 2 ^ 7 + op)

/-- A system instruction of custom-0 (R203). -/
def encSys (f3 imm rs1 : Nat) : Word := encI imm rs1 f3 0 0x0B

def csrF3 (f : CsrForm) : Nat :=
  (match f.op with | .rw => 1 | .rs => 2 | .rc => 3) + if f.useImm then 4 else 0

/-- A Zicsr word. -/
def encCsr (csr : Nat) (f : CsrForm) : Word := encI csr f.rs1.toNat (csrF3 f) f.rd.toNat 0x73

/-- An instruction of custom-1 (R239). -/
def encB1 (op6 : Nat) (s : Bool) (rs2 rs1 : BitVec 5) (rm : Nat) (rd : BitVec 5) : Word :=
  toWord (op6 * 2 ^ 26 + boolNat s * 2 ^ 25 + rs2.toNat * 2 ^ 20 + rs1.toNat * 2 ^ 15 + rm * 2 ^ 12 + rd.toNat * 2 ^ 7 + 0x2B)

/-- An I-type instruction of custom-2 (R240 to R242). -/
def encB2 (f3 imm : Nat) (rs1 rd : BitVec 5) : Word := encI imm rs1.toNat f3 rd.toNat 0x5B

/-- A FUNC instruction (R243). -/
def encFunc (f7 : Nat) (rs2 rs1 rd : BitVec 5) : Word := encI (f7 * 32 + rs2.toNat) rs1.toNat 2 rd.toNat 0x5B

end Sys2Proof.Machine
end

