-- ==== Sys2Proof/Machine/Flags.lean ====
section
/-! DEFINITION. Machine/Flags.lean: rounding (R235, R236), the range check with saturation or wrap and its flags (R237), and
the reference algorithms of SQRT, RECIP and EXP2 (R247 to R249). -/

namespace Sys2Proof.Machine

open Sys2Proof

/-- R(n, s) in mode 0 RNE, 1 RHA, 2 RTZ, 3 RDN (R235). -/
def roundMode (mode : Nat) (n : Int) (s : Nat) : Int :=
  if s = 0 then n
  else
    let q := n / (2 ^ s : Int)
    let r := (n % (2 ^ s : Int)).toNat
    let h := 2 ^ (s - 1)
    let up := match mode with
      | 0 => decide (h < r) || (r == h && q % 2 == 1)
      | 1 => if 0 ≤ n then decide (h ≤ r) else decide (h < r)
      | 2 => decide (n < 0) && r != 0
      | _ => false
    if up then q + 1 else q

/-- The mode of an RM field, none where it is reserved (R236). -/
def rmMode (rm : Nat) (bstat : Word) : Option Nat :=
  if rm < 4 then some rm else if rm = 7 then some (fld bstat 5 4) else none

/-- A value with the flags it sets: OVF bit 0, SAT bit 1, DOM bit 2 (BSTAT). -/
structure Flagged where
  val : Int
  flags : Nat
deriving DecidableEq, Repr

/-- The range check of a `bits`-bit signed destination (R237): clamped with S, else modulo 2^bits. -/
def rangeCheck (bits : Nat) (s : Bool) (x : Int) : Flagged :=
  if satS bits x = x then ⟨x, 0⟩ else if s then ⟨satS bits x, 3⟩ else ⟨sext bits (wrapU bits x), 1⟩

/-- Lanes of a Q1.15 pair (R234). -/
def laneH (w : Word) : Int := sext 16 (w.toNat / 65536)
def laneL (w : Word) : Int := sext 16 w.toNat

/-- A pair result: each lane is checked on its own, and the flags are the OR of both (R237). -/
def pairCheck (s : Bool) (h l : Int) : Word × Nat :=
  let a := rangeCheck 16 s h
  let b := rangeCheck 16 s l
  (toWord (wrapU 16 a.val * 65536 + wrapU 16 b.val), a.flags ||| b.flags)

/-- A Q1.31 result. -/
def wordCheck (s : Bool) (x : Int) : Word × Nat :=
  let a := rangeCheck 32 s x
  (intWord a.val, a.flags)

/-! Function instructions. -/

/-- The loop of SQRT (R247) from bit pair `i` - 1 on. -/
def sqrtSteps (n : Nat) : Nat → Nat → Nat → Nat × Nat
  | 0, r, m => (r, m)
  | i + 1, r, m =>
    let m1 := 4 * m + n / 2 ^ (2 * i) % 4
    let t := 4 * r + 1
    if t ≤ m1 then sqrtSteps n i (2 * r + 1) (m1 - t) else sqrtSteps n i (2 * r) m1

/-- SQRT of a Q1.31 value (R247). -/
def sqrtQ (x : Word) : Word × Nat :=
  if wordInt x < 0 then (0, 4)
  else
    let rm := sqrtSteps (x.toNat * 2 ^ 31) 31 0 0
    (toWord (if rm.1 < rm.2 then rm.1 + 1 else rm.1), 0)

/-- RECIP (R248). -/
def recipQ (x : Word) (k : Nat) : Word × Nat :=
  let v := wordInt x
  if v = 0 then (0x7FFFFFFF, 4)
  else wordCheck true (if 0 < v then rneDiv (2 ^ (62 - k)) v.toNat else -(rneDiv (2 ^ (62 - k)) (-v).toNat))

/-- The product of EXP2 (R249): bit 31 of u first, with C31. -/
def exp2Steps (u : Nat) : List Int → Nat → Int → Int
  | [], _, p => p
  | c :: cs, j, p => exp2Steps u cs (j - 1) (if u / 2 ^ j % 2 = 1 then rRne (p * c) 34 else p)

/-- EXP2 (R249). -/
def exp2Q (x : Word) : Word :=
  intWord (min 0x7FFFFFFF (rRne (exp2Steps (x ^^^ 0x80000000).toNat exp2C.reverse 31 (2 ^ 33)) 4))

end Sys2Proof.Machine
end

