-- ==== Sys2Proof/Machine/Bronze.lean ====
section
/-! DEFINITION. Machine/Bronze.lean: the Bronze instructions (R230 to R249). -/

namespace Sys2Proof.Machine

open Sys2Proof

/-! Shared. -/

/-- BMODE lets Bronze instructions execute (R230). -/
def Copy.bronzeOn (x : Copy) : Bool := x.bmode == 1 || x.bmode == 2

/-- The arithmetic trap is due (R238). -/
def Copy.bronzeTraps (x : Copy) (flags : Nat) : Bool := x.bmode == 2 && flags % 8 &&& 5 != 0

/-- The flags of a completed instruction are sticky (R237). -/
def Copy.stick (x : Copy) (flags : Nat) : Copy := { x with bstat := x.bstat ||| toWord (flags % 8) }

/-- A result for rd with its flags, or the arithmetic trap (R237, R238). -/
def Copy.toRd (x : Copy) (e : Env) (iw : Word) (rd : BitVec 5) (r : Word × Nat) : Copy :=
  if x.bronzeTraps r.2 then x.raise e 8 iw (BitVec.ofNat 64 (r.1.toNat + r.2 * 2 ^ 32))
  else ((x.setX rd r.1).stick r.2).next e 4

/-- The signed value of ACC. -/
def Copy.accInt (x : Copy) : Int := x.acc.toInt

/-- A result for ACC with its flags, or the arithmetic trap (R237, R238). -/
def Copy.toAcc (x : Copy) (e : Env) (iw : Word) (s : Bool) (v : Int) : Copy :=
  let r := rangeCheck 72 s v
  if x.bronzeTraps r.flags then x.raise e 8 iw (BitVec.ofNat 64 (r.flags * 2 ^ 32 + 2 ^ 35))
  else (Copy.stick { x with acc := BitVec.ofInt 72 r.val } r.flags).next e 4

/-- A Bronze instruction with word `iw` (R230). -/
def Dev.bronze (c : CopyId) (iw : Word) (body : Env → Copy → Copy) (d : Dev) : Dev :=
  Dev.core c (fun e x => x.instr e 4 (fun y => if y.bronzeOn then body e y else y.illegal e iw)) d

/-- One with a rounding field (R236). -/
def Dev.bronzeRm (c : CopyId) (iw : Word) (rm : BitVec 3) (body : Nat → Env → Copy → Copy) (d : Dev) : Dev :=
  Dev.bronze c iw (fun e x => match rmMode rm.toNat x.bstat with | some m => body m e x | none => x.illegal e iw) d

def Copy.qa (x : Copy) (r : BitVec 5) : Int := wordInt (x.xr r)

/-! Custom-1: scalars and pairs (R239). -/

/-- QADD. -/
def execQadd (c : CopyId) (sat : Bool) (rs2 rs1 rd : BitVec 5) (s : State) : Host.Outcome State Fault Refusal :=
  let iw := encB1 0 sat rs2 rs1 0 rd
  s.run (Dev.bronze c iw (fun e x => x.toRd e iw rd (wordCheck sat (x.qa rs1 + x.qa rs2))))

/-- QSUB. -/
def execQsub (c : CopyId) (sat : Bool) (rs2 rs1 rd : BitVec 5) (s : State) : Host.Outcome State Fault Refusal :=
  let iw := encB1 1 sat rs2 rs1 0 rd
  s.run (Dev.bronze c iw (fun e x => x.toRd e iw rd (wordCheck sat (x.qa rs1 - x.qa rs2))))

/-- QMUL. -/
def execQmul (c : CopyId) (sat : Bool) (rs2 rs1 : BitVec 5) (rm : BitVec 3) (rd : BitVec 5) (s : State) :
    Host.Outcome State Fault Refusal :=
  let iw := encB1 2 sat rs2 rs1 rm.toNat rd
  s.run (Dev.bronzeRm c iw rm (fun m e x => x.toRd e iw rd (wordCheck sat (roundMode m (x.qa rs1 * x.qa rs2) 31))))

/-- QSHL. -/
def execQshl (c : CopyId) (sat : Bool) (rs2 rs1 rd : BitVec 5) (s : State) : Host.Outcome State Fault Refusal :=
  let iw := encB1 3 sat rs2 rs1 0 rd
  s.run (Dev.bronze c iw (fun e x => x.toRd e iw rd (wordCheck sat (x.qa rs1 * 2 ^ ((x.xr rs2).toNat % 32)))))

/-- QSHR: it cannot overflow. -/
def execQshr (c : CopyId) (rs2 rs1 : BitVec 5) (rm : BitVec 3) (rd : BitVec 5) (s : State) : Host.Outcome State Fault Refusal :=
  let iw := encB1 4 false rs2 rs1 rm.toNat rd
  s.run (Dev.bronzeRm c iw rm (fun m e x =>
    x.toRd e iw rd (wordCheck false (roundMode m (x.qa rs1) ((x.xr rs2).toNat % 32)))))

/-- PACK. -/
def execPack (c : CopyId) (sat : Bool) (rs2 rs1 : BitVec 5) (rm : BitVec 3) (rd : BitVec 5) (s : State) :
    Host.Outcome State Fault Refusal :=
  let iw := encB1 5 sat rs2 rs1 rm.toNat rd
  s.run (Dev.bronzeRm c iw rm (fun m e x =>
    x.toRd e iw rd (pairCheck sat (roundMode m (x.qa rs1) 16) (roundMode m (x.qa rs2) 16))))

/-- PADD. -/
def execPadd (c : CopyId) (sat : Bool) (rs2 rs1 rd : BitVec 5) (s : State) : Host.Outcome State Fault Refusal :=
  let iw := encB1 8 sat rs2 rs1 0 rd
  s.run (Dev.bronze c iw (fun e x =>
    x.toRd e iw rd (pairCheck sat (laneH (x.xr rs1) + laneH (x.xr rs2)) (laneL (x.xr rs1) + laneL (x.xr rs2)))))

/-- PSUB. -/
def execPsub (c : CopyId) (sat : Bool) (rs2 rs1 rd : BitVec 5) (s : State) : Host.Outcome State Fault Refusal :=
  let iw := encB1 9 sat rs2 rs1 0 rd
  s.run (Dev.bronze c iw (fun e x =>
    x.toRd e iw rd (pairCheck sat (laneH (x.xr rs1) - laneH (x.xr rs2)) (laneL (x.xr rs1) - laneL (x.xr rs2)))))

/-- PMUL. -/
def execPmul (c : CopyId) (sat : Bool) (rs2 rs1 : BitVec 5) (rm : BitVec 3) (rd : BitVec 5) (s : State) :
    Host.Outcome State Fault Refusal :=
  let iw := encB1 0x0A sat rs2 rs1 rm.toNat rd
  s.run (Dev.bronzeRm c iw rm (fun m e x =>
    x.toRd e iw rd (pairCheck sat (roundMode m (laneH (x.xr rs1) * laneH (x.xr rs2)) 15)
      (roundMode m (laneL (x.xr rs1) * laneL (x.xr rs2)) 15))))

/-! Custom-1: the accumulator. -/

/-- MAC. -/
def execMac (c : CopyId) (sat : Bool) (rs2 rs1 : BitVec 5) (s : State) : Host.Outcome State Fault Refusal :=
  let iw := encB1 0x10 sat rs2 rs1 0 0
  s.run (Dev.bronze c iw (fun e x => x.toAcc e iw sat (x.accInt + x.qa rs1 * x.qa rs2)))

/-- MSU. -/
def execMsu (c : CopyId) (sat : Bool) (rs2 rs1 : BitVec 5) (s : State) : Host.Outcome State Fault Refusal :=
  let iw := encB1 0x11 sat rs2 rs1 0 0
  s.run (Dev.bronze c iw (fun e x => x.toAcc e iw sat (x.accInt - x.qa rs1 * x.qa rs2)))

/-- MUL0: it cannot overflow. -/
def execMul0 (c : CopyId) (rs2 rs1 : BitVec 5) (s : State) : Host.Outcome State Fault Refusal :=
  let iw := encB1 0x12 false rs2 rs1 0 0
  s.run (Dev.bronze c iw (fun e x => x.toAcc e iw false (x.qa rs1 * x.qa rs2)))

/-- The four lane products of two pairs: HH, LL, HL, LH. -/
def Copy.hh (x : Copy) (a b : BitVec 5) : Int := laneH (x.xr a) * laneH (x.xr b)
def Copy.ll (x : Copy) (a b : BitVec 5) : Int := laneL (x.xr a) * laneL (x.xr b)
def Copy.hl (x : Copy) (a b : BitVec 5) : Int := laneH (x.xr a) * laneL (x.xr b)
def Copy.lh (x : Copy) (a b : BitVec 5) : Int := laneL (x.xr a) * laneH (x.xr b)

/-- PMAC. -/
def execPmac (c : CopyId) (sat : Bool) (rs2 rs1 : BitVec 5) (s : State) : Host.Outcome State Fault Refusal :=
  let iw := encB1 0x14 sat rs2 rs1 0 0
  s.run (Dev.bronze c iw (fun e x => x.toAcc e iw sat (x.accInt + (x.hh rs1 rs2 + x.ll rs1 rs2) * 2 ^ 32)))

/-- PMSC. -/
def execPmsc (c : CopyId) (sat : Bool) (rs2 rs1 : BitVec 5) (s : State) : Host.Outcome State Fault Refusal :=
  let iw := encB1 0x15 sat rs2 rs1 0 0
  s.run (Dev.bronze c iw (fun e x => x.toAcc e iw sat (x.accInt + (x.hh rs1 rs2 - x.ll rs1 rs2) * 2 ^ 32)))

/-- PMACX. -/
def execPmacx (c : CopyId) (sat : Bool) (rs2 rs1 : BitVec 5) (s : State) : Host.Outcome State Fault Refusal :=
  let iw := encB1 0x16 sat rs2 rs1 0 0
  s.run (Dev.bronze c iw (fun e x => x.toAcc e iw sat (x.accInt + (x.hl rs1 rs2 + x.lh rs1 rs2) * 2 ^ 32)))

/-- PMSCX. -/
def execPmscx (c : CopyId) (sat : Bool) (rs2 rs1 : BitVec 5) (s : State) : Host.Outcome State Fault Refusal :=
  let iw := encB1 0x17 sat rs2 rs1 0 0
  s.run (Dev.bronze c iw (fun e x => x.toAcc e iw sat (x.accInt + (x.hl rs1 rs2 - x.lh rs1 rs2) * 2 ^ 32)))

/-! Custom-2: moves and extraction. -/

/-- ACCEXT's result (R241). -/
def Copy.extract (x : Copy) (imm : BitVec 12) (mode : Nat) : Word × Nat :=
  let v := roundMode mode x.accInt (imm.toNat % 64)
  let r := rangeCheck (if imm.getLsbD 10 then 16 else 32) (imm.getLsbD 6) v
  (intWord r.val, r.flags)

/-- ACCEXT (R241). -/
def execAccext (c : CopyId) (imm : BitVec 12) (rd : BitVec 5) (s : State) : Host.Outcome State Fault Refusal :=
  let iw := encB2 0 imm.toNat 0 rd
  s.run (Dev.bronzeRm c iw (imm.extractLsb' 7 3) (fun m e x =>
    let r := x.extract imm m
    if x.bronzeTraps r.2 || !imm.getLsbD 11 then x.toRd e iw rd r else Copy.toRd { x with acc := 0 } e iw rd r))

/-- ACCRDL (R242). -/
def execAccrdl (c : CopyId) (rd : BitVec 5) (s : State) : Host.Outcome State Fault Refusal :=
  s.run (Dev.bronze c (encB2 1 0 0 rd) (fun e x => (x.setX rd (x.acc.extractLsb' 0 32)).next e 4))

/-- ACCRDH (R242). -/
def execAccrdh (c : CopyId) (rd : BitVec 5) (s : State) : Host.Outcome State Fault Refusal :=
  s.run (Dev.bronze c (encB2 1 1 0 rd) (fun e x => (x.setX rd (x.acc.extractLsb' 32 32)).next e 4))

/-- ACCRDG (R242). -/
def execAccrdg (c : CopyId) (rd : BitVec 5) (s : State) : Host.Outcome State Fault Refusal :=
  s.run (Dev.bronze c (encB2 1 2 0 rd) (fun e x => (x.setX rd ((x.acc.extractLsb' 64 8).signExtend 32)).next e 4))

/-- ACCWRL (R242). -/
def execAccwrl (c : CopyId) (rs1 : BitVec 5) (s : State) : Host.Outcome State Fault Refusal :=
  s.run (Dev.bronze c (encB2 1 0x10 rs1 0) (fun e x =>
    Copy.next { x with acc := x.acc.extractLsb' 32 40 ++ x.xr rs1 } e 4))

/-- ACCWRH (R242). -/
def execAccwrh (c : CopyId) (rs1 : BitVec 5) (s : State) : Host.Outcome State Fault Refusal :=
  s.run (Dev.bronze c (encB2 1 0x11 rs1 0) (fun e x =>
    Copy.next { x with acc := x.acc.extractLsb' 64 8 ++ x.xr rs1 ++ x.acc.extractLsb' 0 32 } e 4))

/-- ACCWRG (R242). -/
def execAccwrg (c : CopyId) (rs1 : BitVec 5) (s : State) : Host.Outcome State Fault Refusal :=
  s.run (Dev.bronze c (encB2 1 0x12 rs1 0) (fun e x =>
    Copy.next { x with acc := (x.xr rs1).extractLsb' 0 8 ++ x.acc.extractLsb' 0 64 } e 4))

/-- ACCCLR (R242). -/
def execAccclr (c : CopyId) (s : State) : Host.Outcome State Fault Refusal :=
  s.run (Dev.bronze c (encB2 1 0x20 0 0) (fun e x => Copy.next { x with acc := 0 } e 4))

/-- ACCLDQ (R242). -/
def execAccldq (c : CopyId) (rs1 : BitVec 5) (s : State) : Host.Outcome State Fault Refusal :=
  s.run (Dev.bronze c (encB2 1 0x21 rs1 0) (fun e x => Copy.next { x with acc := BitVec.ofInt 72 (x.qa rs1 * 2 ^ 31) } e 4))

/-! Custom-2: functions (R243). -/

/-- SIN (R245). -/
def execSin (c : CopyId) (rs1 rd : BitVec 5) (s : State) : Host.Outcome State Fault Refusal :=
  let iw := encFunc 0 0 rs1 rd
  s.run (Dev.bronze c iw (fun e x => x.toRd e iw rd (intWord (sinQ (x.xr rs1)), 0)))

/-- COS (R245). -/
def execCos (c : CopyId) (rs1 rd : BitVec 5) (s : State) : Host.Outcome State Fault Refusal :=
  let iw := encFunc 1 0 rs1 rd
  s.run (Dev.bronze c iw (fun e x => x.toRd e iw rd (intWord (cosQ (x.xr rs1)), 0)))

/-- ATAN2 (R246): y in rs1, x in rs2. -/
def execAtan2 (c : CopyId) (rs2 rs1 rd : BitVec 5) (s : State) : Host.Outcome State Fault Refusal :=
  let iw := encFunc 2 rs2 rs1 rd
  s.run (Dev.bronze c iw (fun e x =>
    x.toRd e iw rd (if x.xr rs1 = 0 ∧ x.xr rs2 = 0 then (0, 4) else (atan2Q (x.qa rs1) (x.qa rs2), 0))))

/-- SQRT (R247). -/
def execSqrt (c : CopyId) (rs1 rd : BitVec 5) (s : State) : Host.Outcome State Fault Refusal :=
  let iw := encFunc 3 0 rs1 rd
  s.run (Dev.bronze c iw (fun e x => x.toRd e iw rd (sqrtQ (x.xr rs1))))

/-- RECIP (R248). -/
def execRecip (c : CopyId) (rs2 rs1 rd : BitVec 5) (s : State) : Host.Outcome State Fault Refusal :=
  let iw := encFunc 4 rs2 rs1 rd
  s.run (Dev.bronze c iw (fun e x => x.toRd e iw rd (recipQ (x.xr rs1) ((x.xr rs2).toNat % 32))))

/-- EXP2 (R249). -/
def execExp2 (c : CopyId) (rs1 rd : BitVec 5) (s : State) : Host.Outcome State Fault Refusal :=
  let iw := encFunc 5 0 rs1 rd
  s.run (Dev.bronze c iw (fun e x => x.toRd e iw rd (exp2Q (x.xr rs1), 0)))

end Sys2Proof.Machine
end

