-- ==== Sys2Proof/Machine/Fans.lean ====
section
/-! DEFINITION. Machine/Fans.lean: the commands of the fan channels (R335 to R348), the switched outputs (R349 to R352) and
Puffball (R355 to R358). -/

namespace Sys2Proof.Machine

open Sys2Proof

/-- The first time after `prev` at which TIME mod `len` is `base`, or the latest one that TIME `now` has passed. -/
def gridNext (base len prev now : Nat) : Nat :=
  let t := prev + (base + len - prev % len - 1) % len + 1
  if t ≤ now then now - (now + len - base) % len else t

/-! The PWM and the tach. -/

/-- FAN_PWM_PERIOD (R335): the duty of the period that starts. -/
def execFanPwmPeriod (i : FanId) (s : State) : Host.Outcome State Fault Refusal :=
  s.run (fun d => dueIf d.awake (fun d =>
    let d1 := d.at (gridNext (4000 * i.val) 16000 (d.fanCh i).pinAt d.now)
    d1.updFan i (fun f => { f with pinAt := d1.now, pinDuty := BitVec.ofNat 16 (d1.fanDuty i) })) d)

/-- A filtered rising edge (R336, R348): TREV and SPEED from the newest edge and the one PPR edges before it. -/
def Dev.tachEdge (d : Dev) (i : FanId) (t : DWord) : Dev :=
  let p := d.fanPpr i
  let f := d.fanCh i
  let es := (t :: f.edges).take 16
  let n := f.fresh + 1
  let d1 := d.updFan i (fun f => { f with edges := es, fresh := n, edgesNow := f.edgesNow + 1 })
  match es[p]? with
  | some u =>
    if p < n then
      let trev := t.toNat - u.toNat
      (d1.updFan i (fun f => { f with trev := trev })).setReg (Reg.fan_SPEED i.val) (speedOf trev)
    else d1
  | none => d1

/-- TACH_EDGE (R336): of an edge later than the last, and not in the future. -/
def execTachEdge (i : FanId) (t : DWord) (s : State) : Host.Outcome State Fault Refusal :=
  s.run (fun d => dueIf (d.live && decide (t.toNat ≤ d.now) &&
    (match (d.fanCh i).edges with | e :: _ => decide (e.toNat < t.toNat) | [] => true)) (fun d => d.tachEdge i t) d)

/-! The loop tick. -/

/-- SPEED becomes 0 and the history goes (R337). -/
def Dev.tachLost (d : Dev) (i : FanId) : Dev :=
  (d.updFan i (fun f => { f with edges := [], fresh := 0, trev := 0 })).setReg (Reg.fan_SPEED i.val) 0

/-- SPEED at a loop tick (R337). -/
def Dev.tachTick (d : Dev) (i : FanId) : Dev :=
  let f := d.fanCh i
  match f.edges with
  | [] => d.tachLost i
  | e :: _ =>
    let gap := d.now - e.toNat
    if 400000 * d.rfld (Reg.fan_CFG i.val) 31 16 < gap then d.tachLost i
    else if 0 < f.trev ∧ f.trev < d.fanPpr i * gap then d.setReg (Reg.fan_SPEED i.val) (speedOf (d.fanPpr i * gap))
    else d

/-- The proportional term, and e × KI (R340). -/
def Dev.loopTerms (d : Dev) (i : FanId) : Int × Int × Int :=
  let e : Int := (d.reg (Reg.fan_TARGET i.val)).toNat - (d.reg (Reg.fan_SPEED i.val)).toNat
  (e, rRne (e * (d.reg (Reg.fan_KP i.val)).toNat) 24, e * (d.reg (Reg.fan_KI i.val)).toNat)

/-- The speed loop at a tick in RUN under CLOSED (R340), with the preload of R341. -/
def Dev.loopTick (d : Dev) (i : FanId) : Dev :=
  let f := d.fanCh i
  let (e, p, ki) := d.loopTerms i
  if f.preload then
    d.updFan i (fun f => { f with preload := false, integ := satS 48 (((f.lastDuty.toNat : Int) - p) * 2 ^ 24), duty := f.lastDuty })
  else
    let lo : Int := d.rfld (Reg.fan_DLIM i.val) 15 0
    let hi : Int := d.rfld (Reg.fan_DLIM i.val) 31 16
    let i1 := satS 48 (f.integ + ki)
    let u1 := p + rRne i1 24
    let ig := if (hi < u1 ∧ 0 < e) ∨ (u1 < lo ∧ e < 0) then f.integ else i1
    let u := min (max (p + rRne ig 24) lo) hi
    d.updFan i (fun f => { f with integ := ig, duty := BitVec.ofNat 16 u.toNat })

/-- The stall timer and the count of good ticks (R342, R343). -/
def Dev.stallTick (d : Dev) (i : FanId) : Dev :=
  let slow := decide ((d.reg (Reg.fan_SPEED i.val)).toNat < d.rfld (Reg.fan_STALL i.val) 31 16 * 65536)
  d.updFan i (fun f => if slow then { f with stall := f.stall + 1, good := 0 } else { f with stall := 0, good := f.good + 1 })

/-- One channel at the loop tick (R337, R340 to R343). While DEV holds it its loop and timers stand still (R346), and
Puffball ignores them (R357). -/
def Dev.fanTick (i : FanId) (d : Dev) : Dev :=
  let d1 := d.tachTick i
  if d1.fanSt i ≠ 2 ∨ (d1.fanCh i).heldAt.isSome = true ∨ (d1.devLatch && !d1.fanDesignated i.val) = true ∨ d1.fanPuff i = true then d1
  else (if d1.fanMode i = 2 then d1.loopTick i else d1).stallTick i

/-- FAN_LOOP_TICK (R338): TIME mod 400 000 = 0. -/
def execFanLoopTick (s : State) : Host.Outcome State Fault Refusal :=
  s.run (fun d => dueIf d.live (fun d =>
    let d1 := d.at (gridNext 0 400000 d.fanLoopAt d.now)
    Dev.each Dev.fanTick fanIds { d1 with fanLoopAt := d1.now }) d)

/-! Stall, retry and kick. -/

/-- The stall timer has reached STALL_TIME. -/
def Dev.stallDue (d : Dev) (i : FanId) : Bool :=
  d.fanSt i == 2 && decide (0 < (d.fanCh i).stall) && decide (d.rfld (Reg.fan_STALL i.val) 15 0 ≤ (d.fanCh i).stall)

/-- SMODE's reaction to a stall (R342). -/
def Dev.stallReact (d : Dev) (i : FanId) : Dev :=
  let k := Reg.fan_STAT i.val
  let n := d.rfld k 15 8
  if !d.rbit (Reg.fan_CFG i.val) 3 then d.setFanSt i 4
  else if n < d.rfld (Reg.fan_RETRY i.val) 31 24 then
    ((d.setFldR k 15 8 (n + 1)).setFanSt i 3).fanTimer i (40000000 * d.rfld (Reg.fan_RETRY i.val) 7 0)
  else ((d.setFanSt i 5).evt 0x19 (4 + i.val)).fault 0x51 0x19 0 (toWord i.val) (2 ^ i.val)

/-- FAN_STALL (R342, R451 codes 0x50 and 0x51). -/
def execFanStall (i : FanId) (s : State) : Host.Outcome State Fault Refusal :=
  s.run (fun d => dueIf (d.stallDue i) (fun d =>
    ((d.evt 0x19 i.val).fault 0x50 0x19 0 (toWord i.val) (2 ^ i.val)).stallReact i) d)

/-- A channel's timer runs in state `st` (R343, R346). -/
def Dev.fanTimed (d : Dev) (i : FanId) (st : Nat) : Bool := d.fanSt i == st && (d.fanCh i).heldAt.isNone

/-- FAN_RETRYOFF_END (R343): KICK follows. -/
def execFanRetryoffEnd (i : FanId) (s : State) : Host.Outcome State Fault Refusal :=
  s.run (fun d => dueIf (d.fanTimed i 3) (fun d => (d.at (d.fanCh i).phaseEnd).fanKick i) d)

/-- FAN_KICK_END (R341, R343): RUN follows, the loop preloaded with the kick's duty. -/
def execFanKickEnd (i : FanId) (s : State) : Host.Outcome State Fault Refusal :=
  s.run (fun d => dueIf (d.fanTimed i 1) (fun d =>
    ((d.at (d.fanCh i).phaseEnd).fanPreload i (d.rfld (Reg.fan_RETRY i.val) 23 16 * 257)).setFanSt i 2) d)

/-- FAN_RCNT_CLEAR (R343). -/
def execFanRcntClear (i : FanId) (s : State) : Host.Outcome State Fault Refusal :=
  s.run (fun d => dueIf (d.fanSt i == 2 && decide (0 < (d.fanCh i).good)
      && decide (4 * d.rfld (Reg.fan_STALL i.val) 15 0 ≤ (d.fanCh i).good)) (fun d =>
    (d.setFldR (Reg.fan_STAT i.val) 15 8 0).updFan i (fun f => { f with good := 0 })) d)

/-! Overrun and plausibility. -/

/-- FAN_OVERRUN (R345, R451 code 0x52). -/
def execFanOverrun (s : State) : Host.Outcome State Fault Refusal :=
  s.run (fun d => dueIf d.fanOvrDue (fun d =>
    let d1 := (({ d with fanOvrDue := false }.setBitR Reg.fan_HOLDSTAT 31 true).evt 0x19 8).fault 0x52 0x19 0 0 0x100
    Dev.each Dev.fanOvrStop fanIds d1) d)

/-- A window closes (R348, R451 code 0x53): void, passed, or failed, the second in a row raising the fault. -/
def Dev.plausClose (d : Dev) (i : FanId) : Dev :=
  let f := d.fanCh i
  let k := Reg.fan_PLSTAT i.val
  let d1 := (d.setFldR k 7 0 (f.hcnt % 256)).setFldR k 15 8 (f.ccnt % 256)
  let d2 := d1.updFan i (fun f => { f with hcnt := 0, ccnt := 0, nwin := 0, voidWin := false })
  if f.voidWin then d2.setFldR k 31 16 (satU 16 (d2.rfld k 31 16 + 1))
  else
    let bad := decide (d.rfld (Reg.fan_PLAUS i.val) 7 0 < ((f.hcnt : Int) - f.ccnt).natAbs)
    let d3 := d2.updFan i (fun f => { f with failed := bad })
    if bad && f.failed then (d3.evt 0x19 9).fault 0x53 0x19 0 (toWord i.val) (2 ^ (4 + i.val)) else d3

/-- FAN_PLAUS_WINDOW (R348): after PLWIN exchanges. -/
def execFanPlausWindow (i : FanId) (s : State) : Host.Outcome State Fault Refusal :=
  s.run (fun d => dueIf (decide (0 < (d.fanCh i).nwin) && decide (d.rfld (Reg.fan_PLAUS i.val) 15 8 ≤ (d.fanCh i).nwin))
    (fun d => d.plausClose i) d)

/-! Switched outputs. -/

/-- GPO_BBM_ON (R350): the delay of an output whose partner turned off has passed. -/
def execGpoBbmOn (i : GpoId) (s : State) : Host.Outcome State Fault Refusal :=
  s.run (fun d => match (d.gpoCh i.val).bbmEnd with
    | some t => ((d.at t).updGpo i.val (fun g => { g with bbmEnd := none })).gpoSync
    | none => d)

/-- A mismatch has persisted (R351, R451 code 0x54): PG_EVT, the FAULT entry, RBACT's reaction. -/
def Dev.gpoMismatch (d : Dev) (i : Nat) : Dev :=
  let d1 := (d.evt 0x1E i).updGpo i (fun g => { g with told := true })
  let detail := toWord ((if (d.gpoCh i).on then 1 else 2) + 0x100 * i)
  match d1.rfld Reg.gpo_RBCFG (2 * i + 1) (2 * i) with
  | 1 => (d1.fault 0x54 0x1E 0 detail 0).setGpoLatch i
  | 2 => d1.reactH ⟨0x54, 0x1E, 0, detail, 0⟩
  | _ => d1.fault 0x54 0x1E 0 detail 0

/-- GPO_READBACK_MISMATCH (R351): the comparator shows `drainHigh`; a mismatch is reported once, RBDLY × 100 µs after the
last change at the pin. -/
def execGpoReadbackMismatch (i : GpoId) (drainHigh : Bool) (s : State) : Host.Outcome State Fault Refusal :=
  s.run (fun d => dueIf d.live (fun d =>
    let d1 := d.updGpo i.val (fun g => { g with drain := drainHigh, told := g.told && g.drain == drainHigh })
    if d1.gpoMis i.val && !(d1.gpoCh i.val).told then
      (d1.at ((d1.gpoCh i.val).since + 40000 * d1.rfld Reg.gpo_RBCFG 31 16)).gpoMismatch i.val
    else d1) d)

/-- GPO_OVERCURRENT (R352, R451 code 0x55): 20 µs above the limit, of an output that is on. -/
def execGpoOvercurrent (i : GpoId) (s : State) : Host.Outcome State Fault Refusal :=
  s.run (fun d => dueIf (d.gpoCh i.val).on (fun d =>
    (((d.at ((d.gpoCh i.val).since + 8000)).setGpoLatch i.val).evt 0x1E (8 + i.val)).fault 0x55 0x1E 0 (toWord i.val) 0) d)

/-! Puffball. -/

/-- PUFFBALL_ENTRY (R355, R356): INSVC has read 0 for ENTDLY × 10 ms. Reaction P enters it at once (R446). -/
def execPuffballEntry (s : State) : Host.Outcome State Fault Refusal :=
  s.run (fun d => match d.puff.insvcFrom with
    | some t => dueIf (d.awake && d.phase != .dozeWake && d.rbit Reg.puff_CFG 0 && !d.puffActive) (fun d =>
        (d.at (t + 4000000 * d.rfld Reg.puff_CFG 23 16)).puffEnter 1) d
    | none => d)

/-- PUFF_KICK_END (R357). -/
def execPuffKickEnd (s : State) : Host.Outcome State Fault Refusal :=
  s.run (fun d => dueIf (d.puffActive && d.puff.kicking) (fun d =>
    let d1 := d.at (d.puff.entered + 4000000 * d.rfld Reg.puff_CFG 31 24)
    { d1 with puff := { d1.puff with kicking := false } }) d)

/-- floor(rpm / 50) of a designated channel, 0 where none is (R358). -/
def Dev.distressSpeed (d : Dev) (en ch : Nat) : Byte :=
  let c := d.reg Reg.puff_CFG
  if bitOf c en then BitVec.ofNat 8 (min 255 ((d.reg (Reg.fan_SPEED (fld c (ch + 1) ch))).toNat / 3276800)) else 0

/-- The data of a distress frame (R358). -/
def Dev.distressData (d : Dev) : List Byte :=
  let p := d.reg Reg.puff_DPFX
  let n := d.rfld Reg.puff_STAT 31 16
  [p.extractLsb' 0 8, p.extractLsb' 8 8, p.extractLsb' 16 8, BitVec.ofNat 8 (d.rfld Reg.puff_STAT 7 4),
   d.distressSpeed 1 2, d.distressSpeed 4 5, BitVec.ofNat 8 n, BitVec.ofNat 8 (n / 256)]

/-- The controller of the distress frames, started with DBTR if the image did not start it and rule 4 holds (R358, R381). -/
def Dev.distressStart (d : Dev) (n : CanId) : Dev :=
  if d.canSt n ≠ 0 then d
  else
    let ok := d.rbit Reg.clk_STAT 0 || decide (640 ≤ nbtOf (d.reg Reg.puff_DBTR))
    if ok then (d.updCan n (fun c => { c with puffTiming := true })).canStart n else d

/-- The frame takes the internal slot; one that the last 100 ms did not send is dropped (R358, R371). DCNT counts both. -/
def Dev.distress (d : Dev) : Dev :=
  let n : CanId := if d.rbit Reg.puff_CFG 7 then 1 else 0
  let data := d.distressData
  let d1 := d.distressStart n
  let up := d1.canSt n != 0 && d1.canSt n != 4 && d1.canSt n != 5
  let d2 := d1.updCan n (fun c => if c.active = some 48 then c else { c with internal := if up then some data else none })
  { (d2.setFldR Reg.puff_STAT 31 16 (d2.rfld Reg.puff_STAT 31 16 + 1)) with
    puff := { d2.puff with nextDistress := d2.puff.nextDistress + 40000000 } }

/-- DISTRESS_FRAME (R358): every 40 000 000 HCLK from entry. -/
def execDistressFrame (s : State) : Host.Outcome State Fault Refusal :=
  s.run (fun d => dueIf (d.puffActive && d.awake) (fun d => (d.at d.puff.nextDistress).distress) d)

end Sys2Proof.Machine
end

