-- ==== Sys2Proof/Machine/Can.lean ====
section
/-! DEFINITION. Machine/Can.lean: the commands of the CAN FD controllers and the partner table (R361 to R381). The error
counters follow ISO 11898-1 (assumption 26). -/

namespace Sys2Proof.Machine

open Sys2Proof

/-! Frames. -/

/-- Data bytes of a DLC (R361). -/
def dlcLen (fd : Bool) (dlc : Nat) : Nat :=
  if dlc ≤ 8 then dlc
  else if !fd then 8
  else match dlc with
    | 9 => 12
    | 10 => 16
    | 11 => 20
    | 12 => 24
    | 13 => 32
    | 14 => 48
    | _ => 64

/-- The frame of a slot's staged words. -/
def stagedFrame (stg : List Word) (esi : Bool) : CanFrame :=
  let w0 := listGet 0 stg 0
  let w1 := listGet 0 stg 1
  let fd := bitOf w0 31
  { id := w0.setWidth 29, xtd := bitOf w0 29, rtr := bitOf w0 30, fdf := fd, brs := bitOf w1 4, esi := esi,
    dlc := w1.setWidth 4,
    data := if bitOf w0 30 then [] else ((stg.drop 2).flatMap wordBytes).take (dlcLen fd (fld w1 3 0)) }

/-- The bits of the arbitration field, the first highest (R367). -/
def arbValue (id : Nat) (xtd rtr : Bool) : Nat :=
  if xtd then id / 0x40000 * 0x200000 + 0x180000 + id % 0x40000 * 2 + boolNat rtr
  else id % 0x800 * 0x200000 + boolNat rtr * 0x100000

/-! Selection. -/

/-- Slots that the selection removes end *refused*: DEADLINE, or ABSENT for a partner that is ABSENT (R367). -/
def Dev.slotCull (n : CanId) (s : Nat) (d : Dev) : Dev :=
  let w1 := d.slotStg n s 1
  if d.slotSt n s ≠ 1 then d
  else if d.slotExpired n s then d.slotRefuse n s 1
  else if bitOf w1 12 && d.rfld (Reg.part_PSTAT (fld w1 19 13)) 1 0 == 3 then d.slotRefuse n s 9
  else d

/-- The order of R367: class, PRIO, arbitration value, slot. -/
def Dev.slotKey (d : Dev) (n : CanId) (s : Nat) : Nat :=
  let key (cls prio arb : Nat) : Nat := ((cls * 16 + prio) * 2 ^ 32 + arb) * 64 + s
  if s < 48 then
    let w0 := d.slotStg n s 0
    key (d.slotCls n s) (fld (d.slotStg n s 1) 11 8) (arbValue (fld w0 28 0) (bitOf w0 29) (bitOf w0 30))
  else key 0 0 (arbValue (d.rfld Reg.puff_DID 28 0) (d.rbit Reg.puff_DID 31) false)

/-- The slots that may be selected, the internal one among them. -/
def Dev.slotCands (d : Dev) (n : CanId) : List Nat :=
  slotIds.filter (fun s => d.slotSt n s == 1) ++ (if (d.canCh n).internal.isSome then [48] else [])

/-- The slot with the lowest key. -/
def minKey (key : Nat → Nat) : List Nat → Option Nat
  | [] => none
  | s :: ss => match minKey key ss with
    | some t => if key t < key s then some t else some s
    | none => some s

/-- The controller contends for the bus: error-active or error-passive, no frame of its own, not stopping, and neither
monitoring nor in restricted operation. -/
def Dev.canContends (d : Dev) (n : CanId) : Bool :=
  let c := d.canCh n
  (d.canSt n == 2 || d.canSt n == 3) && c.active.isNone && !c.stopping
    && !d.rbit (Reg.can_CFG n.val) 3 && !d.rbit (Reg.can_CFG n.val) 4

def Dev.txSelectSlot (d : Dev) (n : CanId) : Dev :=
  let d1 := Dev.each (Dev.slotCull n) slotIds d
  d1.updCan n (fun c => { c with selected := minKey (d1.slotKey n) (d1.slotCands n) })

/-- SOF: the selected slot is ACTIVE, and counts an attempt. -/
def Dev.txSof (d : Dev) (n : CanId) : Dev :=
  match (d.canCh n).selected with
  | some s =>
    let d1 := d.updCan n (fun c => { c with active := some s })
    if s < 48 then
      let k := Reg.can_SLOTST n.val s
      (d1.setSlotSt n s 2).setFldR k 31 16 (satU 16 (d1.rfld k 31 16 + 1))
    else d1
  | none => d

/-- TX_SELECT (R367): a contention point, with the controller's SOF at it or not. -/
def execTxSelect (n : CanId) (sof : Bool) (s : State) : Host.Outcome State Fault Refusal :=
  s.run (fun d => dueIf (d.canContends n) (fun d =>
    let d1 := d.txSelectSlot n
    if sof then d1.txSof n else d1) d)

/-! The error state. -/

/-- Error-active or error-passive by the counters. -/
def Dev.canByCount (d : Dev) (n : CanId) : Nat := if 127 < (d.canCh n).tecN ∨ 127 < (d.canCh n).recN then 3 else 2

/-- Entry into bus-off (R376, R451 code 0x60). -/
def Dev.canBusOff (d : Dev) (n : CanId) : Dev :=
  let d1 := (d.count (Reg.can_BOCNT n.val) 1).fault 0x60 (canPage n) 0 (toWord (d.canCh n).tecN) 0
  ((d1.updCan n (fun c => { c with boAt := some d.now, internal := none })).canFlushSlots n 0x2A).setCanSt n 4

/-- The counters change, and the error state with them. -/
def Dev.canErr (d : Dev) (n : CanId) (tec rec : Nat) : Dev :=
  let d1 := d.canCounters n tec rec
  if 255 < tec then d1.canBusOff n else d1.setCanSt n (d1.canByCount n)

def Dev.setLec (d : Dev) (n : CanId) (lec : BitVec 3) : Dev := d.setFldR (Reg.can_PSTAT n.val) 26 24 lec.toNat

/-! The partner table. -/

/-- An entry matches a frame (R377). -/
def Dev.partMatch (d : Dev) (n : CanId) (f : CanFrame) (e : Nat) : Bool :=
  let w := d.reg (Reg.part_ENT e)
  bitOf w (30 + n.val) && bitOf w 29 == f.xtd && decide (fld w 28 0 ≤ f.id.toNat)
    && decide (f.id.toNat ≤ d.rfld (Reg.part_IDHI e) 28 0)

/-- PARTNER joined or left (R380). -/
def Dev.partEntry (d : Dev) (e prev : Nat) : Dev :=
  d.jlog 0x0C 0x1D (0x40C + 16 * e) 0 (toWord (e + 0x80 * d.rfld (Reg.part_PSTAT e) 2 2)) (toWord prev)

def Dev.setPres (d : Dev) (e : Nat) (b : Bool) : Dev := d.setBitR (Reg.part_PRES (e / 32)) (e % 32) b

/-- The end of a matching frame (R378). -/
def Dev.partSeen (n : CanId) (f : CanFrame) (e : Nat) (d : Dev) : Dev :=
  if !d.partMatch n f e then d
  else
    let k := Reg.part_PSTAT e
    let d1 := d.setFldR k 2 2 n.val
    if d1.rfld k 1 0 = 2 then
      let hb := d1.rfld (Reg.part_TIM e) 15 0
      let d2 := if hb ≠ 0 ∧ hb ≤ d1.rfld k 31 16 then d1.setFldR k 15 8 (satU 8 (d1.rfld k 15 8 + 1)) else d1
      d2.setFldR k 31 16 0
    else ((((d1.setFldR k 1 0 2).setFldR k 31 16 0).setPres e true).partEntry e 1).evt 0x1D 0

def partIds : List Nat := List.range 128

/-- Controller `n` is in bus-off, or its applied EN is 0 (R379). -/
def Dev.canDeaf (d : Dev) (n : CanId) : Bool := d.canSt n == 4 || d.canSt n == 5 || !d.rbit (Reg.can_CFG n.val) 0

/-- An entry ages (R378, R379). -/
def Dev.partAges1 (e : Nat) (d : Dev) : Dev :=
  let k := Reg.part_PSTAT e
  match d.rfld (Reg.part_ENT e) 31 30 with
  | 0 => d
  | 1 => if d.canDeaf 0 then d else d.setFldR k 31 16 (satU 16 (d.rfld k 31 16 + 1))
  | 2 => if d.canDeaf 1 then d else d.setFldR k 31 16 (satU 16 (d.rfld k 31 16 + 1))
  | _ => d.setFldR k 31 16 (satU 16 (d.rfld k 31 16 + 1))

/-- PARTNER_AGE_TICK (R378). -/
def execPartnerAgeTick (s : State) : Host.Outcome State Fault Refusal :=
  s.run (fun d => dueIf d.live (fun d =>
    let d1 := d.at (gridNext 0 400000 d.partAt d.now)
    Dev.each Dev.partAges1 partIds { d1 with partAt := d1.now }) d)

/-- PARTNER_LEFT (R378, R380). -/
def execPartnerLeft (e : Fin 128) (s : State) : Host.Outcome State Fault Refusal :=
  s.run (fun d =>
    let k := Reg.part_PSTAT e.val
    dueIf (d.rfld k 1 0 == 2 && decide (d.rfld (Reg.part_TIM e.val) 31 16 ≤ d.rfld k 31 16)) (fun d =>
      (((d.setFldR k 1 0 3).setPres e.val false).partEntry e.val 0).evt 0x1D 1) d)

/-- Entries that only controller `n` serves start anew when it returns to error-active (R379). -/
def Dev.partFresh (d : Dev) (n : CanId) : Dev :=
  Dev.each (fun e d => if d.rfld (Reg.part_ENT e) 31 30 = n.val + 1 then d.setFldR (Reg.part_PSTAT e) 31 16 0 else d) partIds d

/-! Reception. -/

/-- The first enabled filter that a frame meets, with ACT and its class (R372). -/
def Dev.filterOf (d : Dev) (n : CanId) (f : CanFrame) : Option (Nat × Bool × BitVec 2) :=
  match (List.range 32).find? (fun i =>
      let w := d.reg (Reg.can_FID n.val i)
      bitOf w 30 && bitOf w 29 == f.xtd && (f.id ^^^ w.setWidth 29) &&& (d.reg (Reg.can_FMASK n.val i)).setWidth 29 == 0) with
  | some i =>
    let m := d.reg (Reg.can_FMASK n.val i)
    some (i, bitOf m 31, if fld m 30 29 = 3 then 2 else m.extractLsb' 29 2)
  | none => none

/-- A frame of class `cls` ends *refused* at the receiver (R373, R374). -/
def Dev.rxRefuse (d : Dev) (n : CanId) (cls : Nat) : Dev := (d.admRef (rxGroup n) cls).evt (canPage n) 4

/-- Place `i` is given up. -/
def Dev.rxEvict (d : Dev) (n : CanId) (i cls : Nat) : Dev := (d.rxDrop n i).rxRefuse n cls

def Dev.rxPut (d : Dev) (n : CanId) (x : RxItem) : Dev :=
  (d.updCan n (fun c => { c with rx := c.rx ++ [x] })).evt (canPage n) 1

/-- A place is free for the class (R373). -/
def Dev.rxFree (d : Dev) (n : CanId) (cls : Nat) : Bool :=
  let t := (d.canCh n).rx.length
  let low := d.rxHeld n 1 + d.rxHeld n 2
  decide (t < 64) && (cls == 0 || (decide (low < 56) && (cls == 1 || decide (d.rxHeld n 2 < 32))))

/-- A guard overrun of the receiver or the transmitter (R31, R373). -/
def Dev.canGovr (d : Dev) (n : CanId) (g waiting : Nat) : Dev := (d.guardOvr g (canPage n) waiting).evt (canPage n) 3

/-- An accepted frame is stored, evicts another, or is refused (R373). -/
def Dev.rxStore (d : Dev) (n : CanId) (x : RxItem) : Dev :=
  let cls := x.cls.toNat
  let rx := (d.canCh n).rx
  if d.rxFree n cls then d.rxPut n x
  else match cls, rxPlace 2 rx 0, rxPlace 1 rx 0 with
    | 0, some i, _ => (d.rxEvict n i 2).rxPut n x
    | 0, none, some i => (d.rxEvict n i 1).rxPut n x
    | 0, none, none => d.canGovr n (rxGroup n) (d.rxHeld n 0)
    | 1, some i, _ => (d.rxEvict n i 2).rxPut n x
    | _, _, _ => d.rxRefuse n cls

/-- Filters and storage (R372, R373). -/
def Dev.rxTake (d : Dev) (n : CanId) (f : CanFrame) (t : Word) : Dev :=
  match d.filterOf n f with
  | some (i, true, cls) => d.rxStore n ⟨f, i, cls, t, d.now, false⟩
  | _ => d.count (Reg.can_RXNOMATCH n.val) 1

/-- The controller receives: error-active or error-passive. -/
def Dev.canHears (d : Dev) (n : CanId) : Bool := d.canSt n == 2 || d.canSt n == 3

/-- REC after a valid reception: ISO 11898-1 lets it take a value from 119 to 127 when it was above 127. -/
def Dev.rxGood (d : Dev) (n : CanId) : Dev :=
  let c := d.canCh n
  if 127 < c.recN then
    let (w, d1) := d.drawWord
    d1.canErr n c.tecN (119 + w.toNat % 9)
  else d.canErr n c.tecN (c.recN - 1)

/-- RX_FRAME (R372, R373, R377, R378). -/
def execRxFrame (n : CanId) (f : CanFrame) (sofTime : Word) (s : State) : Host.Outcome State Fault Refusal :=
  s.run (fun d => dueIf (d.canHears n && (d.canCh n).active.isNone) (fun d =>
    (Dev.each (Dev.partSeen n f) partIds (d.rxGood n)).rxTake n f sofTime) d)

/-- RX_ERROR (R361, R376). -/
def execRxError (n : CanId) (k : RxErr) (s : State) : Host.Outcome State Fault Refusal :=
  s.run (fun d => dueIf (d.canHears n) (fun d => match k with
    | .error lec dom => (d.setLec n lec).canErr n (d.canCh n).tecN ((d.canCh n).recN + if dom then 8 else 1)
    | .protocolException => ((d.count (Reg.can_PXCNT n.val) 1).evt (canPage n) 5).setCanSt n 1) d)

/-! The end of a transmission. -/

/-- The frame in progress is over. -/
def Dev.txIdle (d : Dev) (n : CanId) : Dev := d.updCan n (fun c => { c with active := none, selected := none })

/-- A slot that completes (R368, R370). -/
def Dev.slotDone (d : Dev) (n : CanId) (s : Nat) : Dev :=
  let cls := d.slotCls n s
  let late := decide (d.txBound n cls < d.now - d.slotSubmit n s)
  let st := match d.txSlot n s with | some t => if t.cancel then 5 else 3 | none => 3
  let d1 := d.slotFinish n s st (if late then stDelayed else stServed)
  if late then d1.admDly (txGroup n) cls else d1

/-- Own frames come back in loopback (R361, R372). -/
def Dev.loopback (d : Dev) (n : CanId) (s : Nat) : Dev :=
  match d.txSlot n s with
  | some t => if d.rbit (Reg.can_CFG n.val) 5 then d.rxTake n (stagedFrame t.stg (d.canSt n == 3)) (lo32 d.now) else d
  | none => d

/-- TX_COMPLETE (R368). -/
def execTxComplete (n : CanId) (s : State) : Host.Outcome State Fault Refusal :=
  s.run (fun d => match (d.canCh n).active with
    | some k =>
      let d1 := if k < 48 then (d.loopback n k).slotDone n k else d.updCan n (fun c => { c with internal := none })
      (d1.txIdle n).canErr n ((d.canCh n).tecN - 1) (d.canCh n).recN
    | none => d)

/-- A frame that is not complete ends, or is PENDING again (R367, R369, R370): `st` and `why` of a cancelled one. -/
def Dev.slotBroken (d : Dev) (n : CanId) (s st why : Nat) : Dev :=
  if 48 ≤ s then d
  else
    let cancelled := match d.txSlot n s with | some t => t.cancel | none => false
    if cancelled then d.slotFinish n s st (stRefused why)
    else if bitOf (d.slotStg n s 1) 5 then d.slotRefuse n s 0x2D
    else if d.slotExpired n s then d.slotRefuse n s 1
    else d.setSlotSt n s 1

/-- TX_ARBITRATION_LOST (R367, R370). -/
def execTxArbitrationLost (n : CanId) (s : State) : Host.Outcome State Fault Refusal :=
  s.run (fun d => match (d.canCh n).active with
    | some k => (d.slotBroken n k 4 0x28).txIdle n
    | none => d)

/-- TX_ERROR (R367, R370, R376): an ACK error of an error-passive node leaves TEC. -/
def execTxError (n : CanId) (lec : BitVec 3) (s : State) : Host.Outcome State Fault Refusal :=
  s.run (fun d => match (d.canCh n).active with
    | some k =>
      let d1 := ((d.slotBroken n k 6 0x29).txIdle n).setLec n lec
      let c := d.canCh n
      d1.canErr n (if d.canSt n = 3 ∧ lec = 3 then c.tecN else c.tecN + 8) c.recN
    | none => d)

/-- TX_DEADLINE (R369). -/
def execTxDeadline (n : CanId) (slot : BitVec 6) (s : State) : Host.Outcome State Fault Refusal :=
  s.run (fun d =>
    let k := slot.toNat
    match d.slotDeadline n k with
    | some t => dueIf (decide (k < 48) && d.slotSt n k == 1) (fun d =>
        ((d.at t).updCan n (fun c => if c.selected = some k then { c with selected := none } else c)).slotRefuse n k 1) d
    | none => d)

/-- Guard frames that are PENDING or ACTIVE. -/
def Dev.guardSlots (d : Dev) (n : CanId) : Nat := (slotIds.filter (fun s => d.slotBusy n s && d.slotCls n s == 0)).length

/-- TX_GUARD_OVERRUN (R369): once for the frame, which keeps its place. -/
def execTxGuardOverrun (n : CanId) (slot : BitVec 6) (s : State) : Host.Outcome State Fault Refusal :=
  s.run (fun d =>
    let k := slot.toNat
    match d.txSlot n k with
    | some t => dueIf (d.slotBusy n k && d.slotCls n k == 0 && !t.overran) (fun d =>
        ((d.at (t.submit + d.txBound n 0)).setTxSlot n k (some { t with overran := true })).canGovr n (txGroup n) (d.guardSlots n)) d
    | none => d)

/-! Held frames. -/

/-- When a held frame's deadline, or its guard bound, runs out; none where it has none any more (R374). -/
def Dev.rxDue (d : Dev) (n : CanId) (guard : Bool) (x : RxItem) : Option Nat :=
  if guard then (if x.cls = 0 ∧ x.overran = false then some (x.stored + d.rxBound n 0) else none)
  else if x.cls = 1 then some (x.stored + 4000 * d.rfld (Reg.can_RXDL n.val) 15 0)
  else if x.cls = 2 then some (x.stored + 4000 * d.rfld (Reg.can_RXDL n.val) 31 16)
  else none

/-- The place whose time runs out first. -/
def firstDue (f : RxItem → Option Nat) : List RxItem → Nat → Option (Nat × Nat)
  | [], _ => none
  | x :: xs, i => match f x, firstDue f xs (i + 1) with
    | some t, some (u, j) => if u < t then some (u, j) else some (t, i)
    | some t, none => some (t, i)
    | none, r => r

/-- RX_DEADLINE (R374). -/
def execRxDeadline (n : CanId) (s : State) : Host.Outcome State Fault Refusal :=
  s.run (fun d => match firstDue (d.rxDue n false) (d.canCh n).rx 0 with
    | some (t, i) => (d.at t).rxEvict n i (match (d.canCh n).rx[i]? with | some x => x.cls.toNat | none => 2)
    | none => d)

/-- RX_GUARD_OVERRUN (R374): once for the frame, which is kept. -/
def execRxGuardOverrun (n : CanId) (s : State) : Host.Outcome State Fault Refusal :=
  s.run (fun d => match firstDue (d.rxDue n true) (d.canCh n).rx 0 with
    | some (t, i) =>
      let d1 := (d.at t).updCan n (fun c => { c with
        rx := match c.rx[i]? with | some x => c.rx.set i { x with overran := true } | none => c.rx })
      d1.canGovr n (rxGroup n) (d.rxHeld n 0)
    | none => d)

/-! Start, bus-off, stop. -/

/-- BUSOFF_RECOVERY_START (R376): BORDLY ms after bus-off, with ABOR = 1. -/
def execBusoffRecoveryStart (n : CanId) (s : State) : Host.Outcome State Fault Refusal :=
  s.run (fun d => match (d.canCh n).boAt with
    | some t => dueIf (d.canSt n == 4 && d.rbit (Reg.can_CFG n.val) 6) (fun d =>
        ((d.at (t + 400000 * d.rfld (Reg.can_CFG n.val) 15 8)).updCan n (fun c => { c with boAt := none })).setCanSt n 5) d
    | none => d)

/-- BUSOFF_RECOVERED (R376, R379): error-active, with the counters of a node that starts. -/
def execBusoffRecovered (n : CanId) (s : State) : Host.Outcome State Fault Refusal :=
  s.run (fun d => dueIf (d.canSt n == 5) (fun d => ((d.canCounters n 0 0).setCanSt n 2).partFresh n) d)

/-- BUS_INTEGRATION_END (R367, R376, R379, R381): the error state of the counters, and the first selection. -/
def execBusIntegrationEnd (n : CanId) (s : State) : Host.Outcome State Fault Refusal :=
  s.run (fun d => dueIf (d.canSt n == 1) (fun d =>
    let d1 := d.setCanSt n (d.canByCount n)
    let d2 := if d1.canSt n = 2 then d1.partFresh n else d1
    if d2.canContends n then d2.txSelectSlot n else d2) d)

/-- CAN_STOP (R381): at the end of the frame in progress. -/
def execCanStop (n : CanId) (s : State) : Host.Outcome State Fault Refusal :=
  s.run (fun d => dueIf ((d.canCh n).stopping && (d.canCh n).active.isNone) (fun d => d.canHalt n) d)

end Sys2Proof.Machine
end

