-- ==== Sys2Proof/Machine/Clocks.lean ====
section
/-! DEFINITION. Machine/Clocks.lean: the commands of the HCLK source, the clock monitors and the reset inputs (R420 to
R429). -/

namespace Sys2Proof.Machine

open Sys2Proof

/-- CRYSTAL_OK (R420): XOK; the multiplexer follows at the next tick. -/
def execCrystalOk (s : State) : Host.Outcome State Fault Refusal :=
  s.run (fun d => dueIf d.clk.starting (fun d =>
    { d.setBitR Reg.clk_STAT 1 true with clk := { d.clk with starting := false, switchDue := true } }) d)

/-- CRYSTAL_TIMEOUT (R420, R421, R451 code 0x0A): XFAIL; HCLK stays on, or a Doze exit completes on, the hub RC. -/
def execCrystalTimeout (s : State) : Host.Outcome State Fault Refusal :=
  s.run (fun d =>
    if d.clk.starting then
      let d1 := d.at (d.clk.startedAt + 4000000)
      { (d1.setBitR Reg.clk_STAT 2 true).fault 0x0A 4 0 0 0 with clk := { d1.clk with starting := false } }
    else if d.phase = .dozeWake ∧ d.rbit Reg.clk_STAT 0 then d.crystalLost.fault 0x0A 4 0 0 0
    else d)

/-- A copy's ratio is inside its window (R422); a copy that has not reported is not judged. -/
def Dev.rhoOff (d : Dev) (c : CopyId) : Int :=
  match d.clk.rhoNew.get c with
  | some r =>
    let nom : Int := ((rhoNom d.clk.strap).toNat : Int)
    let diff := (r.toNat : Int) - nom
    if (diff.natAbs : Int) ≤ rneDiv (3 * nom) 100 then 0 else diff
  | none => 0

/-- r_L is inside (R422). -/
def countInside (n : Nat) : Bool := decide (359375 ≤ n) && decide (n ≤ 421875)

/-- An LFCLK fault (R422, R424, R451 code 0x09). -/
def Dev.lfFault (d : Dev) : Dev := (d.setBitR Reg.clk_STAT 3 true).fault 9 4 0 (d.reg Reg.clk_MONH) 0

/-- An HCLK fault acts by source (R423, R451 code 0x08). On the hub RC its FAULT entry is written before the reset. -/
def Dev.hclkFault (d : Dev) : Dev :=
  let f : FaultInfo := ⟨8, 4, 0, d.reg Reg.clk_MONH, 0⟩
  if d.rbit Reg.clk_STAT 0 then d.crystalLost.reactS f 8 0 (d.rfld Reg.sys_SVCLVL 10 8) 0x14
  else ((d.raise f).jDrain 64).hubReset 5

/-- CLOCK_MONITOR_WINDOW (R422): the first matching row of the decision table. -/
def execClockMonitorWindow (count : Word) (s : State) : Host.Outcome State Fault Refusal :=
  s.run (fun d => dueIf d.live (fun d =>
    let bad := d.svcCopies.filter (fun c => d.rhoOff c != 0)
    let rl := countInside count.toNat
    let d1 := (d.setReg Reg.clk_MONH count).setFldR Reg.clk_STAT 10 8 (maskOf bad)
    if rl ∧ bad.isEmpty then d1
    else if bad.isEmpty then d1.lfFault
    else match rl, bad with
      | true, [c] => d1.loseCopy c ⟨7, 4, c.val + 1, (d1.clk.rhoNew.get c).getD 0, 0⟩
      | _, _ => d1.hclkFault) d)

/-- HCLK_STOP (R424): no HCLK edge for 2 LFCLK cycles in Run. -/
def execHclkStop (s : State) : Host.Outcome State Fault Refusal :=
  s.run (fun d => dueIf d.live (fun d => d.hubReset 5) d)

/-- LFCLK_STOP (R424): LFBAD rises with its FAULT entry. -/
def execLfclkStop (s : State) : Host.Outcome State Fault Refusal :=
  s.run (fun d => dueIf (d.live && !d.rbit Reg.clk_STAT 3) Dev.lfFault d)

/-- RST_N_ASSERT (R426): a HUB-scope reset. Hibernate ends only through WAKE or a power-on (R397). -/
def execRstNAssert (s : State) : Host.Outcome State Fault Refusal :=
  s.run (fun d => dueIf (d.phase != .off && d.phase != .hibernating) (fun d => d.hubReset 3) d)

end Sys2Proof.Machine
end

