-- ==== Sys2Proof/Machine/Link.lean ====
section
/-! DEFINITION. Machine/Link.lean: the commands of the Nerael Links (R100 to R141) and of a copy's tick and
configuration (R111, R145, R146). -/

namespace Sys2Proof.Machine

open Sys2Proof

/-! Training. -/

/-- TRAINING_STATE_TIMER (R100, R101, R102). -/
def execTrainingStateTimer (c : CopyId) (ok : Bool) (s : State) : Host.Outcome State Fault Refusal :=
  s.run (fun d =>
    let st := d.lstate c
    dueIf (decide (1 ≤ st) && decide (st ≤ 6)) (fun d => (d.at (d.link c).stateDue).trainStep c st ok) d)

/-- RESUME (R104): the 800 HCLK end with the state of R102, or full training follows. -/
def execResume (c : CopyId) (ok : Bool) (s : State) : Host.Outcome State Fault Refusal :=
  s.run (fun d => dueIf (d.lstate c == 9) (fun d =>
    let d1 := d.at (d.link c).stateDue
    if ok && (d1.copy c).calWhole then d1.linkActivate c else d1.trainStart c) d)

/-- TRAIN (R112): in ALIGN. -/
def execTrain (e : LinkEnd) (c : CopyId) (s : State) : Host.Outcome State Fault Refusal :=
  s.run (fun d => dueIf (d.inAlign c) (Dev.trainFlit e c) d)

/-- CONFIG (R102, R112, R124). -/
def execConfig (e : LinkEnd) (c : CopyId) (m : ConfigMsg) (s : State) : Host.Outcome State Fault Refusal :=
  s.run (fun d => dueIf (d.inConfig c) (Dev.configFlit e c m) d)

/-- CONFIG of a training or the RESUME, in which CAL flits travel. -/
def Dev.calTime (d : Dev) (c : CopyId) : Bool := d.lstate c == 6 || d.lstate c == 9

/-- CAL (R432). -/
def execCal (c : CopyId) (part : Fin 4) (ws : List Word) (s : State) : Host.Outcome State Fault Refusal :=
  s.run (fun d => dueIf (d.calTime c) (fun d =>
    d.updCopy c (fun x => { x with sense := x.sense.takeCal part ws })) d)

/-- PING (R112): the copy answers with ECHO. -/
def execPing (c : CopyId) (ptime : Word) (s : State) : Host.Outcome State Fault Refusal :=
  s.run (fun d => dueIf (d.calTime c) (fun d => d.updCopy c (fun x => { x with echo := some ptime })) d)

/-- ECHO (R102, R112): the round-trip delay is published. -/
def execEcho (c : CopyId) (ptime : Word) (rtt : Half) (s : State) : Host.Outcome State Fault Refusal :=
  s.run (fun d => dueIf (d.calTime c && (d.copy c).echo == some ptime) (fun d =>
    (d.updCopy c (fun x => { x with echo := none })).setReg (Reg.linkx_RTT c.val) (rtt.setWidth 32)) d)

/-! Reliable delivery. -/

/-- FLIT_CORRUPT (R114): none of the flit's fields is used. -/
def execFlitCorrupt (e : LinkEnd) (c : CopyId) (flit : BitVec 256) (s : State) : Host.Outcome State Fault Refusal :=
  s.run (fun d => dueIf (flitBad flit) (fun d =>
    if d.inAlign c || d.inConfig c then d.trainBreak e c
    else match e with
      | .hub => dueIf (d.lstate c == 7) (fun d => d.count (Reg.linkx_CRCERR_H c.val) 1) d
      | .copy => dueIf ((d.copy c).link == .active) (fun d =>
          d.updCopy c (fun x => { x with stats := { x.stats with crcerr := x.stats.crcerr + 1 } })) d) d)

/-- ACK_TIMER (R115). -/
def execAckTimer (e : LinkEnd) (c : CopyId) (s : State) : Host.Outcome State Fault Refusal :=
  s.run (fun d => match e with
    | .hub => match (d.link c).side.ackDue with
      | some t => dueIf (d.lstate c == 7) (fun d =>
          (d.at t).updLink c (fun L => { L with side := L.side.advertise })) d
      | none => d
    | .copy => match (d.copy c).side.ackDue with
      | some t => dueIf ((d.copy c).link == .active) (fun d =>
          (d.at t).updCopy c (fun x => { x with side := x.side.advertise })) d
      | none => d)

/-- The timeout that a sender counts, and the restarted timer (R118). -/
def LinkSide.timeout {F : Type} (x : LinkSide F) (now tmo : Nat) : LinkSide F :=
  { x with timeouts := x.timeouts + 1, replayDue := some (now + tmo), frameTmo := x.frameTmo + 1 }

/-- The hub's replay timer expires (R118, R119, R123). -/
def Dev.hubTimeout (d : Dev) (c : CopyId) : Dev :=
  if (d.link c).side.timeouts < tmrRepmax d.hubTmr then
    (d.count (Reg.linkx_TMO_H c.val) 1).updLink c (fun L => { L with side := L.side.timeout d.now (tmrTmo d.hubTmr) })
  else d.hubResync c 1

/-- A copy's replay timer expires. -/
def Copy.timeout (x : Copy) (now : Nat) : Copy :=
  if x.side.timeouts < tmrRepmax x.tmr then
    { x with side := x.side.timeout now (tmrTmo x.tmr), stats := { x.stats with tmo := x.stats.tmo + 1 } }
  else x.toResync

/-- REPLAY_TIMEOUT (R117, R118, R123): the unacknowledged flits are sent again as they are. -/
def execReplayTimeout (e : LinkEnd) (c : CopyId) (s : State) : Host.Outcome State Fault Refusal :=
  s.run (fun d => match e with
    | .hub => match (d.link c).side.replayDue with
      | some t => dueIf (d.lstate c == 7) (fun d => (d.at t).hubTimeout c) d
      | none => d
    | .copy => match (d.copy c).side.replayDue with
      | some t => dueIf ((d.copy c).link == .active) (fun d =>
          let d1 := d.at t
          d1.updCopy c (fun x => x.timeout d1.now)) d
      | none => d)

/-- LOSTIME_EXPIRY (R123). -/
def execLostimeExpiry (e : LinkEnd) (c : CopyId) (s : State) : Host.Outcome State Fault Refusal :=
  s.run (fun d => match e with
    | .hub => dueIf (d.lstate c == 7) (fun d =>
        (d.at ((d.link c).side.lastGood + tmrLostime d.hubTmr)).hubResync c 3) d
    | .copy => dueIf ((d.copy c).link == .active) (fun d =>
        (d.at ((d.copy c).side.lastGood + tmrLostime (d.copy c).tmr)).updCopy c Copy.toResync) d)

/-- RESYNC_STATE_TIMER (R124, R125, R134). -/
def execResyncStateTimer (c : CopyId) (ok : Bool) (s : State) : Host.Outcome State Fault Refusal :=
  s.run (fun d => dueIf (d.lstate c == 8) (fun d => (d.at (d.link c).stateDue).resyncStep c ok) d)

/-- RESYNC_PATTERN_DETECT (R124): the other end joins. -/
def execResyncPatternDetect (e : LinkEnd) (c : CopyId) (s : State) : Host.Outcome State Fault Refusal :=
  s.run (fun d => match e with
    | .hub => dueIf (d.lstate c == 7 && (d.copy c).link == .resync) (fun d => d.hubResync c (d.copy c).resyncWhy) d
    | .copy => dueIf (d.lstate c == 8 && (d.copy c).link == .active) (fun d => d.updCopy c Copy.toResync) d)

/-- COPY_REPLAY_STORE_ERROR (R121, R134): also while the copy is in RESYNC already. -/
def execCopyReplayStoreError (c : CopyId) (seq : BitVec 12) (s : State) : Host.Outcome State Fault Refusal :=
  s.run (fun d =>
    let x := d.copy c
    dueIf ((x.link == .active || x.link == .resync) && x.side.unacked.any (fun e => e.1 == seq)) (fun d =>
      d.updCopy c (fun x =>
        { (x.toResync) with restart := true, stats := { x.stats with spillue := x.stats.spillue + 1 } })) d)

/-- HUB_REPLAY_STORE_ERROR (R121, R125, R135): a response is rebuilt with its content from the cache; of any other
flit the loss loses the link. -/
def execHubReplayStoreError (c : CopyId) (seq : BitVec 12) (s : State) : Host.Outcome State Fault Refusal :=
  s.run (fun d => match (d.link c).side.unacked.find? (fun e => e.1 == seq) with
    | some e =>
      dueIf (d.liveLink c) (fun d =>
        let d1 := d.count (Reg.linkx_SPILLUE c.val) 1
        if e.2.isResponse then d1.linkEntry c 5 (seq.setWidth 32) else d1.linkLost c 0) d
    | none => d)

/-- GRANT_SEND_TIMER (R129). -/
def execGrantSendTimer (c : CopyId) (s : State) : Host.Outcome State Fault Refusal :=
  s.run (fun d => match (d.link c).grantDue with
    | some t => dueIf (d.lstate c == 7) (fun d =>
        (d.at t).updLink c (fun L => { L with lastGrant := L.grant, grantDue := none })) d
    | none => d)

/-! Link-control flits. -/

/-- A copy takes a GRANT value (R129). -/
def Copy.takeGrant (x : Copy) (g : Half) : Copy :=
  let k := (g - x.grant).toNat
  if k = 0 then x
  else if k ≤ 32767 then { x with grant := g }
  else { x with stats := { x.stats with granterr := x.stats.granterr + 1 } }

/-- A GRANT value has reached a copy: the hub has sent it (R129). -/
def Dev.grantSeen (c : CopyId) (g : Half) (d : Dev) : Dev :=
  d.updLink c (fun L =>
    if g.toNat = L.grant % 65536 then { L with lastGrant := L.grant, grantDue := none } else L)

/-- IDLE or GRANT at a copy. -/
def Dev.copyGrant (c : CopyId) (h : Hdr) (g : Half) (d : Dev) : Dev :=
  let x := d.copy c
  if x.powered && x.link == .active then
    (d.updCopy c (fun x => (x.takeAck h.ack d.now).takeGrant g)).grantSeen c g
  else d

/-- A copy that sees its hub: power, and a link that is active. -/
def Copy.linked (x : Copy) : Bool := x.powered && x.link == .active

/-- TICK (R144, R145): a frame that the copy extrapolated before takes the tick's instant only (assumption 16). -/
def execTick (c : CopyId) (frame : Word) (_tdep : DWord) (per : BitVec 19) (lat : Half) (tofs : Byte) (a : Nat) (s : State) :
    Host.Outcome State Fault Refusal :=
  s.run (fun d => dueIf (d.copy c).linked (fun d => d.updCopy c (fun x =>
    let t := x.time.tick frame per lat.toNat tofs.toNat a
    if x.time.valid && x.time.frame == frame then
      let same : CTime := { x.time with c := t.c, per := per, accepted := true }
      { x with time := same, side := { x.side with lastGood := d.now } }
    else ({ x with side := { x.side with lastGood := d.now } }).newFrame d.now t)) d)

/-- TICK_EXTRAPOLATE (R146): of a copy that has a tick to carry forward. -/
def execTickExtrapolate (c : CopyId) (s : State) : Host.Outcome State Fault Refusal :=
  s.run (fun d => dueIf ((d.copy c).powered && (d.copy c).time.valid) (fun d => d.updCopy c (fun x =>
    ({ x with stats := { x.stats with ticklost := x.stats.ticklost + 1 } }).newFrame d.now x.time.extrapolate)) d)

/-! Hub-originated messages and reports. -/

/-- CFGBC (R87, R111). -/
def execCfgbc (c : CopyId) (h : Hdr) (part : Fin 6) (gen : Byte) (target : Half) (body : BitVec 160) (s : State) :
    Host.Outcome State Fault Refusal :=
  s.run (Dev.copyRx c h (fun d => d.updCopy c (fun x => { x with sense := x.sense.takePart part gen target body })))

/-- LINKCFG (R140): the new timers hold from the next restart of each. -/
def execLinkcfg (c : CopyId) (h : Hdr) (tmr : Word) (s : State) : Host.Outcome State Fault Refusal :=
  s.run (Dev.copyRx c h (fun d => d.updCopy c (fun x => { x with tmr := tmr })))

/-- LSTAT_FRAME_REPORT (R110): published at the next tick. -/
def execLstatFrameReport (c : CopyId) (h : Hdr) (m : LstatFrame) (s : State) : Host.Outcome State Fault Refusal :=
  s.run (Dev.hubRx c h (fun d => d.updLink c (fun L => { L with lstat := L.lstat ++ [m], tmoCopy := L.tmoCopy + m.tmo.toNat })))

end Sys2Proof.Machine
end

