-- ==== Sys2Proof/Machine/Zuster.lean ====
section
/-! DEFINITION. Machine/Zuster.lean: RV32IMC computation, branches, loads, stores, calls and returns, fences, and the
instruction-cache scrubber (R173 to R188, R219, R220). -/

namespace Sys2Proof.Machine

open Sys2Proof

/-! Computation, branches and jumps that are neither calls nor returns. -/

/-- An IntOp that is an INTEGER_OP: a form that exists and neither pushes nor pops. -/
def intForm (op : IntOp) : Bool :=
  match op with
  | .imm o _ _ i => immForm o i
  | .jal rd _ => !isLink rd
  | .jalr rd rs1 _ => !isLink rd && !jalrPops rd rs1
  | _ => true

/-- The address that `rs1 + off` names, bit 0 cleared. -/
def Copy.jumpTarget (x : Copy) (rs1 : BitVec 5) (off : BitVec 12) : Word := (x.xr rs1 + imm12 off) &&& 0xFFFFFFFE

def Copy.intOp (x : Copy) (e : Env) (op : IntOp) (len : Nat) : Copy :=
  match op with
  | .lui rd i => (x.setX rd (i.setWidth 32 <<< 12)).next e len
  | .auipc rd i => (x.setX rd (x.pc + (i.setWidth 32 <<< 12))).next e len
  | .reg o rd a b => (x.setX rd (aluVal o (x.xr a) (x.xr b))).next e len
  | .imm o rd a i => (x.setX rd (aluVal o (x.xr a) (imm12 i))).next e len
  | .branch o a b off =>
    x.retireTo e len (if branchTaken o (x.xr a) (x.xr b) then x.pc + off.signExtend 32 else x.pc + toWord len)
  | .jal rd off => (x.setX rd (x.pc + toWord len)).retireTo e len (x.pc + off.signExtend 32)
  | .jalr rd a off => (x.setX rd (x.pc + toWord len)).retireTo e len (x.jumpTarget a off)

/-- INTEGER_OP (R173). -/
def execIntegerOp (c : CopyId) (op : IntOp) (compressed : Bool) (s : State) : Host.Outcome State Fault Refusal :=
  s.run (dueIf (intForm op) (Dev.core c (fun e x =>
    x.instr e (instrLen compressed) (fun y => y.intOp e op (instrLen compressed)))))

/-! Loads. -/

/-- A load completes with the word that holds its address (R184). -/
def Copy.loadDone (x : Copy) (e : Env) (k : LoadKind) (rd : BitVec 5) (a : Word) (len : Nat) (w : Word) : Copy :=
  (x.setX rd (loadVal k a w)).next e len

/-- A load whose READ can be sent (R184, R185). -/
def Copy.loadAt (x : Copy) (e : Env) (k : LoadKind) (rd : BitVec 5) (a : Word) (len : Nat) : Copy :=
  let cached := isCached a.toNat
  let r := if cached then x.dcLoad a else (x, none)
  match r.2 with
  | some w => (r.1.readReq e.now x.world x.ring a (.loadHit (wordOf a) w)).loadDone e k rd a len w.data
  | none => { r.1.readReq e.now x.world x.ring a (.loadWait k rd a cached) with wait := .load len }

def Copy.load (x : Copy) (e : Env) (k : LoadKind) (rd rs1 : BitVec 5) (off : BitVec 12) (len : Nat) : Copy :=
  let a := x.xr rs1 + imm12 off
  if a.toNat % loadSize k ≠ 0 then x.raise e 2 a 0
  else if !canLoad a.toNat then x.raise e 3 a 0
  else if x.room 1 then x.loadAt e k rd a len else x

/-- LOAD (R175, R177, R184). -/
def execLoad (c : CopyId) (k : LoadKind) (rd rs1 : BitVec 5) (off : BitVec 12) (compressed : Bool) (s : State) :
    Host.Outcome State Fault Refusal :=
  s.run (Dev.core c (fun e x => x.instr e (instrLen compressed) (fun y => y.load e k rd rs1 off (instrLen compressed))))

/-! Stores. -/

def Copy.store (x : Copy) (e : Env) (k : StoreKind) (rs1 rs2 : BitVec 5) (off : BitVec 12) (len : Nat) : Copy :=
  let a := x.xr rs1 + imm12 off
  if a.toNat % storeSize k ≠ 0 then x.raise e 2 a 0
  else if !canStore a.toNat then x.raise e 3 a 0
  else if x.room 1 then (x.storeReq e.now x.world x.ring a (x.xr rs2) (storeSize k) false).next e len else x

/-- STORE (R175, R177, R183, R192). -/
def execStore (c : CopyId) (k : StoreKind) (rs1 rs2 : BitVec 5) (off : BitVec 12) (compressed : Bool) (s : State) :
    Host.Outcome State Fault Refusal :=
  s.run (Dev.core c (fun e x => x.instr e (instrLen compressed) (fun y => y.store e k rs1 rs2 off (instrLen compressed))))

/-! Calls and returns. -/

/-- A push of the current ring: overflow faults, a spill waits for its grants (R220). -/
def Copy.pushCall (x : Copy) (e : Env) (es : List SEntry) (body : Copy → Copy) : Copy :=
  let s := x.stack x.world x.ring
  if s.overflows es.length then x.raise e 7 1 ((s.recAddr (s.cnt + 1)).setWidth 64)
  else if x.room (s.pushNeed es.length) then body (x.push e.now x.world x.ring es) else x

def callForm : CallForm → Bool
  | .jal rd _ => isLink rd
  | .jalr rd rs1 _ => jalrPushes rd rs1

def Copy.call (x : Copy) (e : Env) (f : CallForm) (len : Nat) : Copy :=
  let link := x.pc + toWord len
  match f with
  | .jal rd off => x.pushCall e [⟨.call, link⟩] (fun y => (y.setX rd link).retireTo e len (x.pc + off.signExtend 32))
  | .jalr rd rs1 off => x.pushCall e [⟨.call, link⟩] (fun y => (y.setX rd link).retireTo e len (x.jumpTarget rs1 off))

/-- CALL (R219). -/
def execCall (c : CopyId) (f : CallForm) (compressed : Bool) (s : State) : Host.Outcome State Fault Refusal :=
  s.run (dueIf (callForm f) (Dev.core c (fun e x =>
    x.instr e (instrLen compressed) (fun y => y.call e f (instrLen compressed)))))

/-- The control-flow fault (R219, R228): the jump target and the entry found, if there is one. -/
def Copy.flowFault (x : Copy) (e : Env) (target : Word) (found : Option SEntry) : Copy :=
  match found with
  | some en => x.raise e 6 target (BitVec.ofNat 64 (en.value.toNat + kindCode en.kind * 2 ^ 32))
  | none => x.raise e 6 target (BitVec.ofNat 64 (2 ^ 35))

/-- A pop that needs `n` entries of the current ring: a fill first, if records are left (R220). -/
def Copy.havingEntries (x : Copy) (e : Env) (n : Nat) (body : Copy → Copy) : Copy :=
  let s := x.stack x.world x.ring
  if n ≤ s.top.length ∨ s.cnt = 0 then body x
  else if x.room (2 * s.fillCount) then x.fill e.now x.world x.ring else x

/-- Pop and check, then push for the form that does both (R219). -/
def Copy.ret (x : Copy) (e : Env) (rd rs1 : BitVec 5) (off : BitVec 12) (len : Nat) : Copy :=
  let target := x.jumpTarget rs1 off
  let link := x.pc + toWord len
  x.havingEntries e 1 (fun y =>
    match (y.stack y.world y.ring).top with
    | [] => y.flowFault e target none
    | en :: _ =>
      if en.kind = .call ∧ en.value = target then
        let z := y.pop y.world y.ring 1
        let z1 := if isLink rd then z.push e.now y.world y.ring [⟨.call, link⟩] else z
        (z1.setX rd link).retireTo e len target
      else y.flowFault e target (some en))

/-- RETURN (R219). -/
def execRet (c : CopyId) (rd rs1 : BitVec 5) (off : BitVec 12) (compressed : Bool) (s : State) : Host.Outcome State Fault Refusal :=
  s.run (dueIf (jalrPops rd rs1) (Dev.core c (fun e x =>
    x.instr e (instrLen compressed) (fun y => y.ret e rd rs1 off (instrLen compressed)))))

/-! Fences. -/

/-- FENCE (R194). -/
def execFence (c : CopyId) (s : State) : Host.Outcome State Fault Refusal :=
  s.run (Dev.core c (fun e x => x.instr e 4 (fun y => y.syncPoint e (fun z => z.next e 4))))

/-- FENCE.I (R186, R194): both caches are invalidated. -/
def execFenceI (c : CopyId) (s : State) : Host.Outcome State Fault Refusal :=
  s.run (Dev.core c (fun e x => x.instr e 4 (fun y => y.syncPoint e (fun z =>
    { z.next e 4 with icache := ⟨[], []⟩, dcache := ⟨[], []⟩ }))))

/-! The scrubber. -/

/-- Word `i` of the line in slot `k` is read by the scrubber (R181, R182). -/
def Copy.scrubWord (now k : Nat) (i : Nat) (x : Copy) : Copy :=
  match x.icache.at k with
  | none => x
  | some l =>
    match l.repair i with
    | .fine => x
    | .corrected l2 => { x with icache := x.icache.put k (some l2), stats := { x.stats with iccor := x.stats.iccor + 1 } }
    | .rebuilt l2 => { x with icache := x.icache.put k (some l2), stats := { x.stats with icreb := x.stats.icreb + 1 } }
    | .failed => if x.stop.isSome then x else x.icFail now (wordAddr l.line i)

/-- A corrected parity word is written back. -/
def Copy.scrubParity (k : Nat) (x : Copy) : Copy :=
  match x.icache.at k with
  | none => x
  | some l =>
    match checkWord l.parity.data l.parity.ecc l.line with
    | .corrected v =>
      { x with icache := x.icache.put k (some { l with parity := ⟨v, ecc v l.line⟩ }), stats := { x.stats with iccor := x.stats.iccor + 1 } }
    | _ => x

/-- ICACHE_SCRUB (R182): one line, in order, without a change of replacement state. -/
def execIcacheScrub (c : CopyId) (s : State) : Host.Outcome State Fault Refusal :=
  s.run (Dev.core c (fun e x =>
    if x.powered && x.released && x.stop.isNone then
      let k := x.scrub.toNat
      let y := Copy.scrubParity k ((List.range 8).foldl (fun y i => Copy.scrubWord e.now k i y) x)
      { y with scrub := y.scrub + 1 }
    else x))

end Sys2Proof.Machine
end

