-- ==== Sys2Proof/Machine/Traps.lean ====
section
/-! DEFINITION. Machine/Traps.lean: the system instructions, gates, returns, WSWITCH, HUSH, event entry, hush overrun and
the control registers (R189, R194, R196, R197, R201 to R229, R440). -/

namespace Sys2Proof.Machine

open Sys2Proof

/-! Gates. -/

def Copy.gtbase (x : Copy) (w : World) : Word := match w with | .iron => x.gtbaseI | .tin => x.gtbaseT

/-- The address of word `i` of entry `n` of a world's gate table (R204). -/
def Copy.gateAddr (x : Copy) (n : Nat) (i : Nat) : Word := toWord (fld (x.gtbase x.world) 31 10 * 1024 + 16 * n + 4 * i)

/-- The detail code of the first check of R206 that fails, 0 if none does. -/
def gateDetail (w : World) (ring n : Nat) (locked : Bool) (w0 w1 : Word) : Nat :=
  let tring := fld w1 1 0
  let xw := bitOf w1 2
  let badRing := (w == .tin && !xw && tring != 0 && tring != 3) || (!xw && decide (ring < tring))
  if !locked then 1
  else if n = 63 ∨ bitOf w1 3 = false then 2
  else if bitOf w1 (4 + ring) = false then 3
  else if (w = .iron ∧ xw = true) ∨ badRing = true then 4
  else if bitOf w1 11 = true ∧ tring ≠ 0 then 5
  else if canFetch (w0 &&& 0xFFFFFFFE).toNat = false then 6
  else 0

/-- The gate frame (R206 step 4), oldest entry first. -/
def Copy.gateFrame (x : Copy) (ssw : Bool) : List SEntry :=
  [⟨.gpc, x.pc + 4⟩, ⟨.gstat, x.status6.setWidth 32⟩] ++ if ssw then [⟨.gsp, x.xr 2⟩] else []

/-- Step 5 of R206. -/
def Copy.gateGo (x : Copy) (e : Env) (tw : World) (w0 w1 w2 : Word) : Copy :=
  let y := if bitOf w1 8 then x.setX 2 w2 else x
  let z := { y with world := tw, ring := bitsRing (w1.extractLsb' 0 2), hush := y.hush || bitOf w1 11, bmode := w1.extractLsb' 9 2 }
  z.retireTo e 4 (w0 &&& 0xFFFFFFFE)

/-- Steps 3 to 5 of R206, with the words of entry `n`. -/
def Copy.gateDo (x : Copy) (e : Env) (n : Nat) (w0 w1 w2 : Word) : Copy :=
  let det := gateDetail x.world x.ring.val n (bitOf (x.gtbase x.world) 0) w0 w1
  let y := { x with wait := .none }
  if det ≠ 0 then y.raise e 5 (toWord n) (BitVec.ofNat 64 det)
  else
    let tw : World := if bitOf w1 2 then .iron else x.world
    let tr := bitsRing (w1.extractLsb' 0 2)
    let fr := x.gateFrame (bitOf w1 8)
    let s := x.stack tw tr
    if s.overflows fr.length then y.raise e 7 1 ((s.recAddr (s.cnt + 1)).setWidth 64)
    else if x.room (s.pushNeed fr.length) then (y.push e.now tw tr fr).gateGo e tw w0 w1 w2 else x

/-- The loads of step 2 of R206: words found in the data cache, and READs for all. -/
def Copy.gateReads (e : Env) (n : Nat) : List (Fin 4) → Copy → Copy × List (Option Word)
  | [], x => (x, [])
  | i :: is, x =>
    let a := x.gateAddr n i.val
    let r := x.dcLoad a
    let y := match r.2 with
      | some w => r.1.readReq e.now x.world x.ring a (.loadHit a w)
      | none => r.1.readReq e.now x.world x.ring a (.gateWord i)
    let z := Copy.gateReads e n is y
    (z.1, r.2.map (fun (w : CWord) => w.data) :: z.2)

/-- GATE `n` from its synchronization point on (R206). -/
def Copy.gateStart (x : Copy) (e : Env) (n : BitVec 6) : Copy :=
  if !x.room 4 then x
  else
    let r := Copy.gateReads e n.toNat [0, 1, 2, 3] x
    match r.2 with
    | [some w0, some w1, some w2, some _] => r.1.gateDo e n.toNat w0 w1 w2
    | [g0, g1, g2, g3] => { r.1 with wait := .gate n ⟨g0, g1, g2, g3⟩ }
    | _ => r.1

/-- GATE: begun, or gone on with once its words are there. -/
def Copy.gate (x : Copy) (e : Env) (n : BitVec 6) : Copy :=
  match x.wait with
  | .gate m ⟨some w0, some w1, some w2, some _⟩ => if m = n ∧ x.runs then x.gateDo e n.toNat w0 w1 w2 else x
  | _ => x.instr e 4 (fun y => y.syncPoint e (fun z => z.gateStart e n))

/-- GATE (R203, R206). -/
def execGate (c : CopyId) (n : BitVec 6) (s : State) : Host.Outcome State Fault Refusal :=
  s.run (Dev.core c (fun e x => x.gate e n))

/-- ECALL (R173): GATE 0. -/
def execEcall (c : CopyId) (s : State) : Host.Outcome State Fault Refusal :=
  s.run (Dev.core c (fun e x => x.gate e 0))

/-! EBREAK and other encodings. -/

/-- EBREAK (R194, R440, R228): it does not retire. -/
def Copy.ebreak (x : Copy) (e : Env) (compressed : Bool) : Copy :=
  if e.eben then x.syncPoint e (fun y => y.enterDebug e.now)
  else x.illegal e (if compressed then 0x9002 else 0x00100073)

/-- EBREAK. -/
def execEbreak (c : CopyId) (compressed : Bool) (s : State) : Host.Outcome State Fault Refusal :=
  s.run (Dev.core c (fun e x => x.instr e (instrLen compressed) (fun y => y.ebreak e compressed)))

/-- The length that the low bits of an instruction word show. -/
def wordLen (iw : Word) : Nat := if iw.toNat % 4 = 3 then 4 else 2

/-- ILLEGAL_INSTRUCTION (R173, R228). -/
def execIllegalInstruction (c : CopyId) (iw : Word) (s : State) : Host.Outcome State Fault Refusal :=
  s.run (Dev.core c (fun e x => x.instr e (wordLen iw) (fun y => y.illegal e iw)))

/-! Returns. -/

/-- XRET 0 once its stack is at hand (R208). -/
def Copy.xret0 (x : Copy) (e : Env) (es : BitVec 6) : Copy :=
  let w := x.world
  let away := status6World es != w || status6Ring es != 0
  let y := match (x.stack w x.ring).top with
    | en :: _ => if away && en.kind == EKind.tsp then (x.pop w x.ring 1).setX 2 en.value else x
    | [] => x
  (((y.setBusy w false).setDflt w false).setStatus6 es).retireTo e 4 (x.bank w).epc

/-- ESTATUS of the current world; Tin's WORLD reads 1 (R201). -/
def Copy.estatus (x : Copy) : BitVec 6 :=
  match x.world with
  | .iron => x.iron.estatus
  | .tin => x.tin.estatus ||| 1

/-- ESTATUS names the Tin world with ring 1 or 2 (R208). -/
def badTinRing (es : BitVec 6) : Bool := status6World es == .tin && (status6Ring es == 1 || status6Ring es == 2)

def Copy.xretTrap (x : Copy) (e : Env) : Copy :=
  let es := x.estatus
  if x.ring ≠ 0 ∨ badTinRing es = true then x.illegal e (encSys 1 0 0)
  else if status6World es != x.world || status6Ring es != 0 then x.havingEntries e 1 (fun y => y.xret0 e es)
  else x.xret0 e es

/-- XRET_TRAP (R194, R208). -/
def execXretTrap (c : CopyId) (s : State) : Host.Outcome State Fault Refusal :=
  s.run (Dev.core c (fun e x => x.instr e 4 (fun y => y.syncPoint e (fun z => z.xretTrap e))))

/-- The status a gate return may restore (R207). -/
def Copy.mayReturn (x : Copy) (v : BitVec 6) : Bool :=
  (status6World v == x.world && decide (x.ring.val ≤ (status6Ring v).val)) || (x.world == .iron && status6World v == .tin)

/-- Status, x2 and the PC of a gate frame are restored in one step (R207). -/
def Copy.gateBack (x : Copy) (e : Env) (n : Nat) (sp : Option Word) (gstat gpc : SEntry) : Copy :=
  if gstat.kind ≠ .gstat then x.flowFault e 0 (some gstat)
  else if gpc.kind ≠ .gpc then x.flowFault e 0 (some gpc)
  else
    let v : BitVec 6 := gstat.value.setWidth 6
    if !x.mayReturn v then x.flowFault e gpc.value (some gstat)
    else
      let y := x.pop x.world x.ring n
      let z := match sp with | some s => y.setX 2 s | none => y
      (z.setStatus6 v).retireTo e 4 gpc.value

/-- XRET 1 with its entries at hand. -/
def Copy.xret1 (x : Copy) (e : Env) : Copy :=
  match (x.stack x.world x.ring).top with
  | ⟨.gsp, sp⟩ :: a :: b :: _ => x.gateBack e 3 (some sp) a b
  | ⟨.gsp, _⟩ :: _ => x.flowFault e 0 none
  | a :: b :: _ => x.gateBack e 2 none a b
  | [a] => if a.kind = .gstat then x.flowFault e 0 none else x.flowFault e 0 (some a)
  | [] => x.flowFault e 0 none

/-- Entries that XRET 1 pops: three with a GSP on top (R207). -/
def Copy.frameSize (x : Copy) : Nat :=
  match (x.stack x.world x.ring).top with
  | [] => 1
  | en :: _ => if en.kind = .gsp then 3 else 2

/-- XRET_GATE (R194, R207). -/
def execXretGate (c : CopyId) (s : State) : Host.Outcome State Fault Refusal :=
  s.run (Dev.core c (fun e x => x.instr e 4 (fun y => y.syncPoint e (fun z =>
    z.havingEntries e z.frameSize (fun v => v.xret1 e)))))

/-! World switch and HUSH. -/

/-- Both Tin stacks without entries and records (R209). -/
def Copy.dropTinStacks (x : Copy) : Copy :=
  let clear (s : SStack) : SStack := { s.setCnt 0 with top := [] }
  (x.updStack .tin 0 clear).updStack .tin 3 clear

/-- WSWITCH in Iron ring 0 (R209). -/
def Copy.wswitch (x : Copy) (e : Env) (target : Word) (ring bmode : BitVec 2) : Copy :=
  Copy.retireTo { x.dropTinStacks with
    world := .tin, ring := bitsRing ring, bmode := bmode, hush := false, ibusy := false, tbusy := false, tdflt := false }
    e 4 (target &&& 0xFFFFFFFE)

/-- WSWITCH (R203, R209): the rings of Tin are 0 and 3, and BMODE 0b11 is reserved. -/
def execWswitch (c : CopyId) (rs1 : BitVec 5) (ring bmode : BitVec 2) (s : State) : Host.Outcome State Fault Refusal :=
  s.run (Dev.core c (fun e x => x.instr e 4 (fun y => y.syncPoint e (fun z =>
    if z.world ≠ .iron ∨ z.ring ≠ 0 ∨ ring = 1 ∨ ring = 2 ∨ bmode = 3 then
      z.illegal e (encSys 2 (bmode.toNat * 16 + ring.toNat) rs1.toNat)
    else z.wswitch e (z.xr rs1) ring bmode))))

/-- HUSH (R203, R216, R225). -/
def execHush (c : CopyId) (s : State) : Host.Outcome State Fault Refusal :=
  s.run (Dev.core c (fun e x => x.instr e 4 (fun y =>
    if y.ring ≠ 0 ∨ (y.world = .tin ∧ fld y.hushmax 31 16 = 0) then y.illegal e (encSys 3 0 0)
    else Copy.next { y with hush := true } e 4)))

/-- UNHUSH (R203, R216). -/
def execUnhush (c : CopyId) (s : State) : Host.Outcome State Fault Refusal :=
  s.run (Dev.core c (fun e x => x.instr e 4 (fun y =>
    if y.ring ≠ 0 then y.illegal e (encSys 4 0 0) else Copy.next { y with hush := false } e 4)))

/-! Events. -/

/-- The lowest page of a set. -/
def lowestPage (p : DWord) : Nat :=
  match (List.range 64).find? (fun i => p.getLsbD i) with
  | some i => i
  | none => 0

/-- CAUSE_AUX of AGR: bits [159:124] of the AGREED payload (R167). -/
def agreedAux (m : AgreedMsg) : DWord := (m.gen ++ m.amiss ++ m.dmiss ++ m.groups).setWidth 64

/-- Event `k` is entered (R210, R213, R228). -/
def Copy.takeEvent (x : Copy) (e : Env) (k : Nat) : Copy :=
  match k, x.tck with
  | 0, some t => Copy.enter { x with tck := none } e .iron 0x10 true t.1 (t.2.setWidth 64)
  | 1, _ => Copy.enter { x with agr := false } e .iron 0x11 true x.agreed.w0 (agreedAux x.agreed)
  | 2, _ =>
    (x.updBank .iron (fun b => { b with pages := 0 })).enter e .iron 0x12 true (toWord (lowestPage x.iron.pages)) x.iron.pages
  | 3, _ => (x.updBank .tin (fun b => { b with pages := 0 })).enter e .tin 0x12 true (toWord (lowestPage x.tin.pages)) x.tin.pages
  | _, _ => x

/-- An event, with its synchronization point (R194, R202, R213). -/
def Copy.eventEntry (x : Copy) (e : Env) : Copy :=
  match x.nextEvent with
  | none => x
  | some k =>
    let w : World := if k = 3 then .tin else .iron
    if !x.drained then x
    else if x.refusals w ≠ 0 then x.deferred e w
    else x.takeEvent e k

/-- EVENT_ENTRY (R210, R213, R215). -/
def execEventEntry (c : CopyId) (s : State) : Host.Outcome State Fault Refusal :=
  s.run (Dev.core c (fun e x => if x.runs && x.wait == .none && !x.stalled && !x.dbgDue then x.eventEntry e else x))

/-- HUSH_OVERRUN (R217, R228). -/
def execHushOverrun (c : CopyId) (s : State) : Host.Outcome State Fault Refusal :=
  s.run (Dev.core c (fun e x =>
    if x.runs && x.wait == .none && !x.stalled && !x.dbgDue && x.hushDue then
      x.raise e 9 (toWord x.hushCnt) (BitVec.ofNat 64 (worldNo x.world))
    else x))

/-! Control registers. -/

/-- Access of R196: 0 none, 1 read, 2 read and write, in the world and ring that execute. -/
def csrAccess (w : World) (ring : Fin 4) (csr : Nat) : Nat :=
  let r0 := if ring = 0 then 2 else 0
  let iron0 := if w = .iron ∧ ring = 0 then 2 else 0
  match csr with
  | 0x7C0 => if ring = 0 then 2 else 1
  | 0x7C1 | 0x7C2 => r0
  | 0x7C3 | 0x7C4 | 0x7C5 | 0x7C6 => if ring = 0 then 1 else 0
  | 0x7C8 | 0x7C9 => iron0
  | 0x7CC | 0x7CF => r0
  | 0x7CD | 0x7CE => iron0
  | 0x7D0 => iron0
  | 0x7D4 => 2
  | 0x7D8 | 0x7D9 => 1
  | 0x7DA | 0x7DB => r0
  | _ => 0

/-- The value a control register reads as. -/
def Copy.csrGet (x : Copy) (csr : Nat) : Word :=
  let b := x.bank x.world
  match csr with
  | 0x7C0 => x.status
  | 0x7C1 => x.estatus.setWidth 32
  | 0x7C2 => b.epc
  | 0x7C3 => b.ecause
  | 0x7C4 => b.eval
  | 0x7C5 => b.aux.extractLsb' 0 32
  | 0x7C6 => b.aux.extractLsb' 32 32
  | 0x7C8 => x.gtbaseI
  | 0x7C9 => x.gtbaseT
  | 0x7CC => (b.stk.get 0).ssp
  | 0x7CD => (b.stk.get 1).ssp
  | 0x7CE => (b.stk.get 2).ssp
  | 0x7CF => (b.stk.get 3).ssp
  | 0x7D0 => x.hushmax
  | 0x7D4 => x.bstat
  | 0x7D8 => x.retire.extractLsb' 0 32
  | 0x7D9 => b.retireLatch.setWidth 32
  | 0x7DA => x.acls
  | 0x7DB => b.reqerr
  | _ => 0

/-- A ring 0 write of STATUS (07_worlds_rings_traps.md): BMODE, and BUSY and DFLT bits that clear. -/
def Copy.writeStatus (x : Copy) (v : Word) : Copy :=
  let y := if fld v 5 4 = 3 then x else { x with bmode := v.extractLsb' 4 2 }
  let z := { y with tbusy := y.tbusy && bitOf v 10, tdflt := y.tdflt && bitOf v 11 }
  if x.world = .iron then { z with ibusy := z.ibusy && bitOf v 8, idflt := z.idflt && bitOf v 9 } else z

/-- A write of GTBASE (R205): not while locked, nor a base outside flash. -/
def gtbaseNext (old v : Word) : Word :=
  if bitOf old 0 || !isFlash (fld v 31 10 * 1024) then old else v &&& 0xFFFFFC01

/-- A write of SSPn (R221, R229): of a legal base and count; the ring's entries on core are discarded. -/
def Copy.writeSsp (x : Copy) (r : Fin 4) (v : Word) : Copy :=
  if isSram (fld v 31 10 * 1024) && decide (fld v 9 2 ≤ 128) then
    x.updStack x.world r (fun _ => ⟨[], v &&& 0xFFFFFFFC⟩)
  else x.updStack x.world r (fun s => { s with top := [] })

/-- A write of ACLS (06_zuster_core.md). -/
def Copy.writeAcls (x : Copy) (v : Word) : Copy :=
  let t := if fld v 3 2 = 1 ∨ fld v 3 2 = 2 then fld v 3 2 else fld x.acls 3 2
  let i := if x.world = .iron ∧ fld v 1 0 ≠ 3 then fld v 1 0 else fld x.acls 1 0
  { x with acls := toWord (4 * t + i) }

/-- A write of HUSHMAX (07_worlds_rings_traps.md). -/
def Copy.writeHushmax (x : Copy) (v : Word) : Copy :=
  { x with hushmax := if fld v 15 0 = 0 then setFld v 15 0 (fld x.hushmax 15 0) else v }

def Copy.csrSet (x : Copy) (csr : Nat) (v : Word) : Copy :=
  match csr with
  | 0x7C0 => x.writeStatus v
  | 0x7C1 => x.updBank x.world (fun b => { b with estatus := if x.world = .tin then v.setWidth 6 ||| 1 else v.setWidth 6 })
  | 0x7C2 => x.updBank x.world (fun b => { b with epc := v &&& 0xFFFFFFFE })
  | 0x7C8 => { x with gtbaseI := gtbaseNext x.gtbaseI v }
  | 0x7C9 => { x with gtbaseT := gtbaseNext x.gtbaseT v }
  | 0x7CC => x.writeSsp 0 v
  | 0x7CD => x.writeSsp 1 v
  | 0x7CE => x.writeSsp 2 v
  | 0x7CF => x.writeSsp 3 v
  | 0x7D0 => x.writeHushmax v
  | 0x7D4 => { x with bstat := v &&& 0x37 }
  | 0x7DA => x.writeAcls v
  | 0x7DB => x.updBank x.world (fun b => { b with reqerr := 0 })
  | _ => x

/-- A Zicsr form reads, or writes, its register. -/
def csrReads (f : CsrForm) : Bool := f.op != .rw || f.rd != 0
def csrWrites (f : CsrForm) : Bool := f.op == .rw || f.rs1 != 0

/-- The value a form writes. -/
def csrNew (f : CsrForm) (old operand : Word) : Word :=
  match f.op with
  | .rw => operand
  | .rs => old ||| operand
  | .rc => old &&& ~~~operand

/-- A permitted access: the read with its latch (R189), the write, rd. -/
def Copy.csrDo (x : Copy) (e : Env) (csr : Nat) (f : CsrForm) : Copy :=
  let old := x.csrGet csr
  let operand : Word := if f.useImm then f.rs1.setWidth 32 else x.xr f.rs1
  let y := if csr = 0x7D8 ∧ (csrReads f) = true then
      x.updBank x.world (fun b => { b with retireLatch := x.retire.extractLsb' 32 16 }) else x
  let z := if (csrWrites f) then y.csrSet csr (csrNew f old operand) else y
  (if (csrReads f) then z.setX f.rd old else z).next e 4

/-- A Zicsr instruction (R196): a read of REQERR is a synchronization point. -/
def Copy.csrInstr (x : Copy) (e : Env) (csr : Nat) (f : CsrForm) : Copy :=
  let acc := csrAccess x.world x.ring csr
  if acc = 0 ∨ ((csrWrites f) = true ∧ acc ≠ 2) then x.illegal e (encCsr csr f)
  else if csr = 0x7DB ∧ (csrReads f) = true then x.syncPoint e (fun y => y.csrDo e csr f)
  else x.csrDo e csr f

/-- RETIRE_LO_READ (R189). -/
def execRetireLoRead (c : CopyId) (f : CsrForm) (s : State) : Host.Outcome State Fault Refusal :=
  s.run (Dev.core c (fun e x => x.instr e 4 (fun y => y.csrInstr e 0x7D8 f)))

/-- REQERR_READ (R194). -/
def execReqerrRead (c : CopyId) (f : CsrForm) (s : State) : Host.Outcome State Fault Refusal :=
  s.run (dueIf (csrReads f) (Dev.core c (fun e x => x.instr e 4 (fun y => y.csrInstr e 0x7DB f))))

/-- REQERR_WRITE (06_zuster_core.md, REQERR). -/
def execReqerrWrite (c : CopyId) (f : CsrForm) (s : State) : Host.Outcome State Fault Refusal :=
  s.run (dueIf (csrWrites f) (Dev.core c (fun e x => x.instr e 4 (fun y => y.csrInstr e 0x7DB f))))

/-- SSP_WRITE (R221, R229). -/
def execSspWrite (c : CopyId) (n : Fin 4) (f : CsrForm) (s : State) : Host.Outcome State Fault Refusal :=
  s.run (dueIf (csrWrites f) (Dev.core c (fun e x => x.instr e 4 (fun y => y.csrInstr e (0x7CC + n.val) f))))

/-- GTBASE_WRITE (R205). -/
def execGtbaseWrite (c : CopyId) (tin : Bool) (f : CsrForm) (s : State) : Host.Outcome State Fault Refusal :=
  s.run (dueIf (csrWrites f) (Dev.core c (fun e x => x.instr e 4 (fun y => y.csrInstr e (0x7C8 + boolNat tin) f))))

/-- CSR_WRITE (R196): every Zicsr instruction, of a register that exists or not. -/
def execCsrWrite (c : CopyId) (csr : BitVec 12) (f : CsrForm) (s : State) : Host.Outcome State Fault Refusal :=
  s.run (Dev.core c (fun e x => x.instr e 4 (fun y => y.csrInstr e csr.toNat f)))

end Sys2Proof.Machine
end

