-- ==== Sys2Proof/Machine/CopySide.lean ====
section
/-! DEFINITION. Machine/CopySide.lean: what a copy does with the response channel: responses (R127, R183, R184, R193, R194,
R202, R220), grants, agreed data and deliveries (R161 to R167), its release (R148, R227) and debug (R212, R438 to R441);
and the hub's side of event reports (R224, R226) and of debug replies. -/

namespace Sys2Proof.Machine

open Sys2Proof

/-! Responses. -/

/-- A refused posted request is recorded in the bank of its world (R194, R202, REQERR of 06_zuster_core.md). -/
def Copy.recordRefusal (x : Copy) (q : Req) (status : Byte) : Copy :=
  x.updBank q.world (fun b =>
    let n := fld b.reqerr 15 8
    { b with reqerr :=
        if n = 0 then toWord (q.csn.toNat % 65536 * 65536 + 256 + status.toNat) else setFld b.reqerr 15 8 (min 255 (n + 1)) })

/-- The trap of a refused request that was waited for (R193). -/
def refusedAux (csn : Word) (status : Byte) : DWord := BitVec.ofNat 64 (csn.toNat * 2 ^ 32 + status.toNat)
/-- The trap of a word that fails its end-to-end code (R253). -/
def integrityAux (csn : Word) : DWord := BitVec.ofNat 64 (csn.toNat * 2 ^ 32)

/-- The word as stored, or corrected (R252). -/
def fixWord (w : CWord) (v a : Word) : CWord := if w.data = v then w else ⟨v, ecc v a⟩

/-- The load ends (R184, R193, R253). -/
def Copy.loadReply (x : Copy) (e : Env) (o : Outst) (k : LoadKind) (rd : BitVec 5) (a : Word) (cached : Bool) (status : Byte)
    (w : CWord) : Copy :=
  match x.wait with
  | .load len =>
    let y := { x with wait := .none }
    if isRefused status then y.raise e 3 a (refusedAux o.req.csn status)
    else
      match checkVal w.data w.ecc (wordOf a) with
      | none => y.raise e 0x0A a (integrityAux o.req.csn)
      | some v => (if cached then y.dcFill (wordOf a) (fixWord w v (wordOf a)) else y).loadDone e k rd a len v
  | _ => x

/-- The READ of a load hit (R184, R194): a refusal is recorded, a differing word replaces the cached one. -/
def Copy.hitReply (x : Copy) (o : Outst) (a : Word) (used : CWord) (status : Byte) (w : CWord) : Copy :=
  if isRefused status then x.recordRefusal o.req status
  else if w = used then x
  else
    let y := { x with stats := { x.stats with dcvmis := x.stats.dcvmis + 1 } }
    match y.dcGet a with
    | some (k, l, c) => if c = used then y.dcSet k l a (some w) else y
    | none => y

/-- A word of a gate entry (R206, R193, R253). -/
def Copy.gateReply (x : Copy) (e : Env) (o : Outst) (i : Fin 4) (status : Byte) (w : CWord) : Copy :=
  match x.wait with
  | .gate n got =>
    let y := { x with wait := .none }
    let a := o.req.addr
    if isRefused status then y.raise e 3 a (refusedAux o.req.csn status)
    else
      match checkVal w.data w.ecc a with
      | none => y.raise e 0x0A a (integrityAux o.req.csn)
      | some v => { (x.dcFill a (fixWord w v a)) with wait := .gate n (four (fun j => if j = i.val then some v else fourGet got j)) }
  | _ => x

/-- The entry that a record holds, if it passes its check (R220). -/
def fillEntry (w : World) (r : Fin 4) (d : Nat) (v m : Word) : Option SEntry :=
  if m.toNat - fld m 27 25 * 0x2000000 = recMeta w r d then (codeKind (fld m 27 25)).map (fun k => ⟨k, v⟩) else none

/-- The entries of a fill, newest first, from depth `d` down; the depth of the first record that fails its check. -/
def fillEntries (w : World) (r : Fin 4) : List Word → Nat → List SEntry ⊕ Nat
  | v :: m :: rest, d =>
    match fillEntry w r d v m, fillEntries w r rest (d - 1) with
    | some s, .inl ss => .inl (s :: ss)
    | some _, .inr n => .inr n
    | none, _ => .inr d
  | _, _ => .inl []

/-- Every word of a fill is there (R220). -/
def Copy.fillDone (x : Copy) (e : Env) (w : World) (r : Fin 4) (n : Nat) (ws : List Word) : Copy :=
  let s := x.stack w r
  let y := { x with wait := .none }
  match fillEntries w r ws s.cnt with
  | .inr d => y.raise e 7 2 ((s.recAddr d).setWidth 64)
  | .inl ss => y.updStack w r (fun s => { s.setCnt (s.cnt - n) with top := s.top ++ ss })

/-- A word of the records of a fill (R220, R228). -/
def Copy.fillReply (x : Copy) (e : Env) (o : Outst) (i : Nat) (status : Byte) (c : CWord) : Copy :=
  match x.wait with
  | .fill w r n got =>
    let y := { x with wait := .none }
    let a := o.req.addr
    if isRefused status then y.raise e 7 3 (BitVec.ofNat 64 (status.toNat * 2 ^ 32 + (a.toNat - a.toNat % 8)))
    else
      match checkVal c.data c.ecc a with
      | none => y.raise e 0x0A a (integrityAux o.req.csn)
      | some v =>
        let got1 := listSet got i (some v)
        if got1.all Option.isSome then x.fillDone e w r n (got1.filterMap id) else { x with wait := .fill w r n got1 }
  | _ => x

/-- RDDATA for the request `o` (R184, R193, R194, R206, R220). -/
def Copy.readReply (x : Copy) (e : Env) (o : Outst) (status : Byte) (w : CWord) : Copy :=
  match o.use with
  | .loadWait k rd a cached => x.loadReply e o k rd a cached status w
  | .loadHit a used => x.hitReply o a used status w
  | .gateWord i => x.gateReply e o i status w
  | .fillWord i => x.fillReply e o i status w
  | .posted _ => x
  | .fetch _ => x

/-- The outstanding request with a tag. -/
def Copy.owner (x : Copy) (tag : BitVec 6) : Option Outst := x.out.find? (fun o => o.tag == tag)
def Copy.freed (x : Copy) (tag : BitVec 6) : Copy := { x with out := x.out.filter (fun o => o.tag != tag) }

/-- A response that belongs to request `o` of type `ty`, or a protocol error (R126, R127). A copy that has stopped only
frees the tag. -/
def Copy.response (x : Copy) (e : Env) (tag : BitVec 6) (ty : ReqType) (last : Bool) (body : Outst → Copy → Copy) : Copy :=
  match x.owner tag with
  | none => x.halt .protocol
  | some o =>
    if o.ty ≠ ty then x.halt .protocol
    else
      let y := if last then x.freed tag else x
      if y.stop.isSome then y else (body o y).settle e

/-- RDDATA (R127, R183 to R185, R193, R194, R253). -/
def execRddata (c : CopyId) (h : Hdr) (csn : Word) (tag : BitVec 6) (status : Byte) (w : CWord) (s : State) :
    Host.Outcome State Fault Refusal :=
  s.run (Dev.copyRx c h (Dev.core c (fun e x => x.response e tag .read true (fun o y =>
    if o.req.csn = csn then y.readReply e o status w else y.halt .protocol))))

/-- WRACK (R127, R194). -/
def execWrack (c : CopyId) (h : Hdr) (csn : Word) (tag : BitVec 6) (status : Byte) (s : State) : Host.Outcome State Fault Refusal :=
  s.run (Dev.copyRx c h (Dev.core c (fun e x => x.response e tag .write true (fun o y =>
    if o.req.csn ≠ csn then y.halt .protocol
    else if isRefused status then y.recordRefusal o.req status else y))))

/-- LINE0 (R107, R127): the first four words of a FETCH. -/
def execLine0 (c : CopyId) (h : Hdr) (tag : BitVec 6) (status : Byte) (ws : Four CWord) (s : State) : Host.Outcome State Fault Refusal :=
  s.run (Dev.copyRx c h (Dev.core c (fun e x => x.response e tag .fetch false (fun _ y =>
    { y with out := y.out.map (fun (o : Outst) => if o.tag = tag then { o with line0 := some (status, ws) } else o) }))))

/-- A line's words with what R252 corrects, or the first word that fails its code. -/
def checkLine (line : Word) : List CWord → Nat → List CWord ⊕ Word
  | [], _ => .inl []
  | w :: ws, i =>
    let a := wordAddr line i
    match checkVal w.data w.ecc a, checkLine line ws (i + 1) with
    | some v, .inl r => .inl (fixWord w v a :: r)
    | some _, .inr b => .inr b
    | none, _ => .inr a

/-- A line enters the instruction cache with its parity word (R180, R181). -/
def Copy.icFill (x : Copy) (line : Word) (ws : List CWord) : Copy :=
  { x with icache := x.icache.put (Cache.slotFor icSets x.icache line) (some ⟨line, ws, parityOf line ws⟩) }

/-- The FETCH is answered (R178, R193, R253). -/
def Copy.lineReply (x : Copy) (e : Env) (o : Outst) (line : Word) (status : Byte) (ws : List CWord) : Copy :=
  let y := { x with wait := .none }
  let a := if lineOf x.pc = line then x.pc else line
  if isRefused status then y.raise e 1 a (refusedAux o.req.csn status)
  else
    match checkLine line ws 0 with
    | .inr b => y.raise e 0x0A b (integrityAux o.req.csn)
    | .inl cs => y.icFill line cs

/-- LINE1 (R107, R127): the FETCH is complete; without its LINE0 it is none. -/
def execLine1 (c : CopyId) (h : Hdr) (tag : BitVec 6) (status : Byte) (ws : Four CWord) (s : State) : Host.Outcome State Fault Refusal :=
  s.run (Dev.copyRx c h (Dev.core c (fun e x => x.response e tag .fetch true (fun o y =>
    match o.use, o.line0 with
    | .fetch line, some (st0, lo) => y.lineReply e o line (if isRefused st0 then st0 else status) (fourList lo ++ fourList ws)
    | _, _ => y.halt .protocol))))

/-! Grants. -/

/-- IDLE (R108, R116, R129). -/
def execIdle (e : LinkEnd) (c : CopyId) (h : Hdr) (grant : Half) (s : State) : Host.Outcome State Fault Refusal :=
  s.run (fun d => match e with
    | .hub => dueIf (d.lstate c == 7) (Dev.hubAck c h.ack) d
    | .copy => (d.copyGrant c h grant).core c (fun e x => x.settle e))

/-- GRANT (R129). -/
def execGrant (c : CopyId) (h : Hdr) (g : Half) (s : State) : Host.Outcome State Fault Refusal :=
  s.run (fun d => (d.copyGrant c h g).core c (fun e x => x.settle e))

/-! Deliveries. -/

/-- AGREED (R167): the data of the AGR that follows. -/
def execAgreed (c : CopyId) (h : Hdr) (m : AgreedMsg) (s : State) : Host.Outcome State Fault Refusal :=
  s.run (Dev.copyRx c h (fun d => d.updCopy c (fun x => { x with agreedIn := m })))

/-- PROPOSE or REPLACE (R161, R164): the copy arms if its retire count is at most D, and answers. -/
def Copy.propose (x : Copy) (now : Nat) (id : Byte) (pt : BitVec 48) (ev : Events) : Copy :=
  let ok := retireLe x.retire pt
  Copy.send { x with armed := if ok then some ⟨id, pt, ev, false⟩ else none, lastDrp := id } now 0
    (.retrep x.retire id (if ok then 1 else 2))

/-- DRP_PROPOSE (R164). -/
def execDrpPropose (c : CopyId) (h : Hdr) (drpid : Byte) (d : BitVec 48) (ev : Events) (s : State) : Host.Outcome State Fault Refusal :=
  s.run (Dev.copyRx c h (fun dv => dv.updCopy c (fun x => x.propose dv.now drpid d ev)))

/-- DRP_REPLACE (R164, R165). -/
def execDrpReplace (c : CopyId) (h : Hdr) (drpid : Byte) (d : BitVec 48) (ev : Events) (s : State) : Host.Outcome State Fault Refusal :=
  s.run (Dev.copyRx c h (fun dv => dv.updCopy c (fun x => x.propose dv.now drpid d ev)))

/-- DRP_CONFIRM (R166): of the delivery that is armed. -/
def execDrpConfirm (c : CopyId) (h : Hdr) (drpid : Byte) (s : State) : Host.Outcome State Fault Refusal :=
  s.run (Dev.copyRx c h (fun d => d.updCopy c (fun x =>
    { x with lastDrp := drpid,
             armed := x.armed.map (fun a => if a.id = drpid then { a with confirmed := true } else a) })))

/-- The armed delivery is confirmed, and instruction D has retired (R166). -/
def Copy.atPoint (x : Copy) : Bool :=
  match x.armed with
  | some a => a.confirmed && x.retire == a.d + 1 && x.runs
  | none => false

/-- The events of the delivery become pending, each page in the world that IRQD.ROUTE names (R162, R166). -/
def Copy.markEvents (x : Copy) (e : Env) (a : Armed) : Copy :=
  let tin := a.ev.pages &&& e.route
  let iron := a.ev.pages &&& ~~~e.route
  { x with
    tck := if a.ev.tck then some (x.time.frame, a.d) else x.tck
    agr := x.agr || a.ev.agr
    agreed := if a.ev.agr then x.agreedIn else x.agreed
    iron := { x.iron with pages := x.iron.pages ||| iron }
    tin := { x.tin with pages := x.tin.pages ||| tin }
    dbg := x.dbg || a.ev.dbg
    armed := none }

/-- Debug entry comes first, and ignores HUSH; a recorded refusal is taken before it (R194, R212). -/
def Copy.debugEvent (x : Copy) (e : Env) : Copy :=
  if !x.dbg || !x.drained then x
  else if x.refusals x.world ≠ 0 then x.deferred e x.world
  else x.enterDebug e.now

/-- DELIVERY_RETIRE_POINT (R166, R210, R212). -/
def execDeliveryRetirePoint (c : CopyId) (s : State) : Host.Outcome State Fault Refusal :=
  s.run (Dev.core c (fun e x => match x.armed with
    | some a => if x.atPoint then (x.markEvents e a).debugEvent e else x
    | none => x))

/-! The release. -/

/-- The state of R227 and R231; the link, the copy's time, its grants and its sense block go on. -/
def Copy.atRelease (x : Copy) : Copy :=
  { Dev.copyReset with
    powered := x.powered, released := true, grant := x.grant, link := x.link, side := x.side, tmr := x.tmr,
    restart := x.restart, echo := x.echo, time := x.time, stats := x.stats, sense := x.sense }

/-- COREREL (R148, R227): a copy of RELSET executes from the reset vector. -/
def execCorerel (c : CopyId) (h : Hdr) (_frame : Word) (relset : BitVec 3) (_gen : Byte) (_level : BitVec 2) (s : State) :
    Host.Outcome State Fault Refusal :=
  s.run (Dev.copyRx c h (fun d => dueIf (relset.getLsbD c.val) (fun d => d.updCopy c Copy.atRelease) d))

/-! Event reports at the hub. -/

/-- The fault code of a report (R110, R451). -/
def eventCode (cause : Byte) : Option Nat :=
  match cause.toNat with
  | 0x01 => some 0x16
  | 0x02 => some 0x05
  | 0x11 => some 0x11
  | 0x12 => some 0x12
  | 0x13 => some 0x13
  | 0x14 => some 0x14
  | 0x15 => some 0x15
  | _ => none

/-- One report joins its group; the first TRIPLE enters the safe state (R224). -/
def Dev.eventIn (d : Dev) (c : CopyId) (code : Nat) (retire : BitVec 48) : Dev :=
  let here (g : EventGroup) : Bool := g.code.toNat == code && g.retire == retire
  let d1 := if code = 5 then d.setDev 7 (2 ^ c.val) else d
  if d1.agr.reports.any here then
    d1.updAgr (fun a => { a with reports := a.reports.map (fun g => if here g then { g with reported := g.reported.set c true } else g) })
  else
    d1.updAgr (fun a => { a with
      reports := a.reports ++ [⟨BitVec.ofNat 8 code, retire, (Tri.const false).set c true, d.now + 3200⟩] })

/-- LSTAT_EVENT_REPORT (R110, R224, R226). -/
def execLstatEventReport (c : CopyId) (h : Hdr) (cause : Byte) (retire : BitVec 48) (_detail : Word) (s : State) :
    Host.Outcome State Fault Refusal :=
  s.run (Dev.hubRx c h (fun d => match eventCode cause with
    | some code => dueIf (d.inSvc c) (fun d => (d.eventIn c code retire).reportsClose) d
    | none => d))

/-! Debug at a copy. -/

/-- The result and value of a command that reads or writes a control register, and its effect (R441, R196). -/
def Copy.dbgCsr (x : Copy) (csr : Nat) (write : Bool) (v : Word) : Copy × BitVec 2 × Word :=
  let acc := csrAccess x.world x.ring csr
  if acc = 0 ∨ (write = true ∧ acc ≠ 2) then (x, 1, 0)
  else if write then (x.csrSet csr v, 0, 0)
  else
    let y := if csr = 0x7D8 then x.updBank x.world (fun b => { b with retireLatch := x.retire.extractLsb' 32 16 }) else x
    (y, 0, x.csrGet csr)

/-- Both caches lose their lines when the debug port has written memory (R438). -/
def Copy.dbgFlush (x : Copy) : Copy :=
  if x.dbgInval then { x with icache := ⟨[], []⟩, dcache := ⟨[], []⟩, dbgInval := false } else x

/-- One debug command (R441). -/
def Copy.dbgDo (x : Copy) (op : Byte) (arg : Half) (v : Word) : Copy × BitVec 2 × Word :=
  let r : BitVec 5 := arg.setWidth 5
  match op.toNat with
  | 1 => (x, 0, x.xr r)
  | 2 => (x.setX r v, 0, 0)
  | 3 => x.dbgCsr arg.toNat false 0
  | 4 => x.dbgCsr arg.toNat true v
  | 5 => (x, 0, x.pc)
  | 6 => ({ x with pc := v &&& 0xFFFFFFFE }, 0, 0)
  | 7 => ({ x.dbgFlush with debug := false, step := none }, 0, 0)
  | 8 => ({ x.dbgFlush with debug := false, step := some arg.toNat }, 0, 0)
  | _ => (x, 2, 0)

/-- DBGCMD (R111, R441): a copy in debug answers every command. -/
def execDbgcmd (c : CopyId) (h : Hdr) (op : Byte) (dcid : Byte) (arg : Half) (data : Word) (s : State) :
    Host.Outcome State Fault Refusal :=
  s.run (Dev.copyRx c h (fun d => d.updCopy c (fun x =>
    if x.debug then
      let r := x.dbgDo op arg data
      r.1.send d.now 0 (.dbgrsp op dcid r.2.1 r.2.2 x.retire)
    else x)))

/-- DEBUG_STEP_DONE (R441): the steps have retired, and the copy enters debug as at any debug entry (R194). -/
def execDebugStepDone (c : CopyId) (s : State) : Host.Outcome State Fault Refusal :=
  s.run (Dev.core c (fun e x =>
    if x.step = some 0 ∧ x.powered = true ∧ x.stop.isNone = true ∧ x.debug = false ∧ x.drained = true then
      if x.refusals x.world ≠ 0 then x.deferred e x.world else x.enterDebug e.now
    else x))

/-! Debug at the hub. -/

/-- Three replies of which two agree: the copy that differs (R441, R289). -/
def oddReply {α : Type} [DecidableEq α] (a b c : α) : Option CopyId :=
  if a = b ∧ b ≠ c then some 2 else if a = c ∧ a ≠ b then some 1 else if b = c ∧ a ≠ b then some 0 else none

/-- The replies of three copies in service (R441, R289). -/
def Dev.trioReplies (d : Dev) : Dev :=
  match d.dbg.answers.a, d.dbg.answers.b, d.dbg.answers.c with
  | some a, some b, some c =>
    if a = b ∧ b = c then d.dbgServed a
    else
      match oddReply a b c with
      | some z =>
        let keep := d.dbg.answers
        let d1 := d.dbgDiffer (2 ^ z.val) 5
        ({ d1 with dbg := { d1.dbg with answers := keep, cmd := d.dbg.cmd } }).loseCopy z ⟨1, 0x0B, z.val + 1, 0, 1⟩
      | none => (d.dbgDiffer (maskOf d.svcCopies) 6).reactS ⟨1, 0x0B, 4, 0, 1⟩ 3 0 (maskOf d.svcCopies) 0x13
  | _, _, _ => d

/-- A reply to the open command (R441). -/
def Dev.dbgReply (d : Dev) (c : CopyId) (a : Byte × BitVec 2 × Word) : Dev :=
  let d1 := { d with dbg := { d.dbg with answers := d.dbg.answers.set c (some a) } }
  if d1.nSvc = 3 then d1.trioReplies else d1.pairReplies

/-- DBGRSP (R111, R439, R441): an entry report, or the reply to the open command. -/
def execDbgrsp (c : CopyId) (h : Hdr) (op : Byte) (dcid : Byte) (result : BitVec 2) (value : Word) (retire : BitVec 48) (s : State) :
    Host.Outcome State Fault Refusal :=
  s.run (Dev.hubRx c h (fun d => dueIf (d.inSvc c) (fun d =>
    if op = 0 then
      ({ d with dbg := { d.dbg with reports := d.dbg.reports.set c true, haltAt := retire } }).haltedCheck
    else if dcid = d.dbg.dcid ∧ d.dbg.cmd.isSome = true then d.dbgReply c (op, result, value) else d) d))

end Sys2Proof.Machine
end

