-- ==== Sys2Proof/Machine/Drives.lean ====
section
/-! DEFINITION. Machine/Drives.lean: the commands of the drive channels (R302, R309, R314, R317, R319, R322, R326, R327, R331). -/

namespace Sys2Proof.Machine

open Sys2Proof

/-! PWM. -/

/-- The next period start of drive `n` (R302): the first after the period in force, or the latest one that TIME has passed. -/
def Dev.nextPeriod (d : Dev) (n : DrvId) : Nat :=
  let len : Int := (max 1 (2 * d.rfld (Reg.drv_PWMCTL n.val) 15 0) : Nat)
  let base : Int := ((d.tickt.toNat + d.rfld (Reg.drv_PHOFS n.val) 16 0 : Nat) : Int)
  let after (t : Int) : Int := base + ((t - base) / len + 1) * len
  let first := after ((d.drive n).periodAt : Int)
  (if first ≤ (d.now : Int) then after (d.now : Int) - len else first).toNat

/-- A period starts: compare values, half period, and whether the mode drives the switches (R302, R309, R311). -/
def Dev.periodStart (d : Dev) (n : DrvId) : Dev :=
  let k := n.val
  let cmp (r : Nat) : BitVec 21 := (d.reg r).setWidth 21
  d.gateChange n (32 * d.now) (fun d => d.updDrive n (fun v =>
    { v with periodAt := d.now, periodHp := (d.reg (Reg.drv_PWMCTL k)).setWidth 16,
             periodCmp := ⟨cmp (Reg.drv_CMPU k), cmp (Reg.drv_CMPV k), cmp (Reg.drv_CMPW k)⟩,
             periodOn := d.rbit (Reg.drv_PWMCTL k) 31 && d.drvMode n != 0 && !d.drvTripped n }))

/-- PWM_PERIOD_START (R302, R309). -/
def execPwmPeriodStart (n : DrvId) (s : State) : Host.Outcome State Fault Refusal :=
  s.run (fun d => dueIf (d.frames && (d.drive n).configured) (fun d => (d.at (d.nextPeriod n)).periodStart n) d)

/-! Overrun and observer loss. -/

/-- DRIVE_OVERRUN (R314, R317): at the tick that passes HOLDMAX. -/
def execDriveOverrun (n : DrvId) (s : State) : Host.Outcome State Fault Refusal :=
  s.run (fun d => dueIf (d.drive n).ovrDue (fun d =>
    ((d.updDrive n (fun v => { v with ovrDue := false })).evt (drvPage n) 2).drvFault n 4 0x42 4) d)

/-- OBSERVER_LOSS (R331): 4 HCLK after the tick, with the reason in LOSSWHY. -/
def execObserverLoss (n : DrvId) (s : State) : Host.Outcome State Fault Refusal :=
  s.run (fun d => dueIf ((d.drive n).obsDue != 0) (fun d =>
    let d1 := (d.at (d.tickt.toNat + 4)).setFldR (Reg.drv_TSTAT n.val) 9 8 (d.drive n).obsDue.toNat
    ((d1.updDrive n (fun v => { v with obsDue := 0 })).evt (drvPage n) 1).drvFault n 3 0x41 2) d)

/-! The comparators. -/

/-- The OC comparator shows `code` (R317, R322): outside blanking a value above the threshold latches OC; within it the end
of the blanking decides. -/
def Dev.ocChange (d : Dev) (n : DrvId) (code : BitVec 10) : Dev :=
  let d1 := d.updDrive n (fun v => { v with icode := code, blankEnd := none })
  if !d1.ocHigh n then d1
  else if d1.ocBlanked n d1.now then
    d1.updDrive n (fun v => { v with blankEnd := some (d1.lastEdge n d1.now + d1.rfld (Reg.drv_OCCFG n.val) 23 16) })
  else d1.drvFault n 2 0x40 1

/-- OC_COMPARATOR (R317, R321, R322). -/
def execOcComparator (n : DrvId) (code : BitVec 10) (s : State) : Host.Outcome State Fault Refusal :=
  s.run (fun d => dueIf d.awake (fun d => d.ocChange n code) d)

/-- OC_BLANKING_END (R322): a current still above the threshold latches OC, unless another edge began a new blanking. -/
def execOcBlankingEnd (n : DrvId) (s : State) : Host.Outcome State Fault Refusal :=
  s.run (fun d => match (d.drive n).blankEnd with
    | some t => (d.at t).ocChange n (d.drive n).icode
    | none => d)

/-- OV_COMPARATOR (R317, R319). -/
def execOvComparator (n : DrvId) (code : BitVec 10) (s : State) : Host.Outcome State Fault Refusal :=
  s.run (fun d => dueIf d.awake (fun d => (d.updDrive n (fun v => { v with vcode := code })).ovCheck n) d)

/-! The tracker. -/

/-- An event is later than the last one, and not in the future. -/
def Dev.evtDue (d : Dev) (n : DrvId) (t : DWord) : Bool :=
  d.live && decide (t.toNat ≤ d.now) &&
    (match (d.drive n).lastEvts with | e :: _ => decide (e.time.toNat < t.toNat) | [] => true)

/-- One event (R326, R327), with SEQERR and TRKVALID (R334 table). -/
def Dev.trackEvent (d : Dev) (n : DrvId) (e : TrkEvent) : Dev :=
  let v := d.drive n
  let v1 := if v.trkValid && v.stale e.time.toNat then v.trackLost else v
  let r := v1.track e
  let k := Reg.drv_TRKSTAT n.val
  let d1 := d.updDrive n (fun _ => r.1)
  let d2 := if r.2 then (d1.setFldR k 31 16 (satU 16 (d1.rfld k 31 16 + 1))).setBitR (Reg.pgFault (drvPage n)) 4 true else d1
  if r.1.trkValid && !v1.trkValid then d2.evt (drvPage n) 4 else d2

/-- TRACKER_EVENT (R325 to R327). -/
def execTrackerEvent (n : DrvId) (ph : Phase3) (rising : Bool) (t : DWord) (s : State) : Host.Outcome State Fault Refusal :=
  s.run (fun d => dueIf (d.evtDue n t) (fun d => d.trackEvent n ⟨evtIdx ph rising, t⟩) d)

/-- TRACKER_INVALID (R327): more than T6 / 2 since the last event. -/
def execTrackerInvalid (n : DrvId) (s : State) : Host.Outcome State Fault Refusal :=
  s.run (fun d => match (d.drive n).lastEvts with
    | e :: _ => dueIf (d.drive n).trkValid (fun d =>
        (d.at (e.time.toNat + (d.drive n).t6 / 2 + 1)).updDrive n Drive.trackLost) d
    | [] => d)

end Sys2Proof.Machine
end

