-- ==== Sys2Proof/Machine/Pins.lean ====
section
/-! DEFINITION. Machine/Pins.lean: the level of every output ball (R301, R335, R349, R353, R388, R453, R464 to R469, R472,
R479). A ball's level is a function of the device's state. The bits of a CAN frame in progress and TDO while it
shifts are named, not timed. -/

namespace Sys2Proof.Machine

open Sys2Proof

/-- The level of an output ball. `frame` is a CAN transmitter's while it sends. -/
inductive Level where
  | highZ | low | high | frame
deriving DecidableEq, Repr

def Level.ofBool (b : Bool) : Level := if b then .high else .low

/-- Output balls are high impedance: unpowered, in reset up to the end of boot step 1, in Hibernate, or after reaction X
(R446, R465, R467). -/
def Dev.pinsDead (d : Dev) : Bool :=
  match d.phase with
  | .off | .pllWait | .otpLoad | .hibernating | .dead => true
  | _ => false

/-- HCLK stands still in Doze, and until the exit has restarted it (R391, R394). -/
def Dev.dozes (d : Dev) : Bool := d.phase == .dozing || d.phase == .dozeWake

/-- DO balls have no supply: VIO below its brownout threshold, whose detector does not act in Doze (R468). -/
def Dev.vioDead (d : Dev) : Bool := d.rbit Reg.pwr_SUPSTAT 4 && !d.dozes

/-- EXTEST or CLAMP: the boundary register has its balls (R479). -/
def Dev.boundary (d : Dev) : Bool := d.jtag.ir == 3 || d.jtag.ir == 5

/-- A DO ball that the hub drives with `v`, or the boundary register with its cell. -/
def Dev.doBall (d : Dev) (cell : Option (Fin 7)) (v : Level) : Level :=
  if d.pinsDead || d.vioDead then .highZ
  else match cell with
    | some i => if d.boundary then Level.ofBool (d.jtag.preload.getLsbD i.val) else v
    | none => v

/-- The trip state of a drive whose balls EXTEST or CLAMP holds: the one in force, else the one DEV selects (R317, R479). -/
def Dev.tripOf (d : Dev) (n : DrvId) : Nat :=
  if d.tstate n ≠ 0 then d.tstate n
  else
    let w := d.rfld (Reg.drv_TRIPCFG n.val) 1 0
    (if w = 3 then d.autoNow n else w) + 1

/-- A switch is on at its ball (R301, R465, R479): in Doze every switch is off. -/
def Dev.switchOn (d : Dev) (n : DrvId) (x : Fin 3) (hi : Bool) : Bool :=
  if d.dozes then false
  else if d.boundary then (if hi then d.tripOf n == 3 else d.tripOf n == 2)
  else d.gateOn n x hi (32 * d.now)

/-- A gate ball (R301, R465, R466): high impedance until the first GATECFG is applied. -/
def Dev.gateBall (d : Dev) (n : DrvId) (x : Fin 3) (hi : Bool) : Level :=
  if !(d.drive n).configured then .highZ
  else d.doBall none (Level.ofBool (d.switchOn n x hi == d.rbit (Reg.drv_GATECFG n.val) (if hi then 0 else 1)))

/-- A fan's PWM is in its active interval (R335); a stop takes it to the off level at once (R292, R346). -/
def Dev.fanActive (d : Dev) (i : FanId) : Bool :=
  let f := d.fanCh i
  !d.fanStopped i && !d.dozes && decide (d.now - f.pinAt < (rneDiv ((f.pinDuty.toNat : Int) * 16000) 65536).toNat)

/-- A fan's ball (R335, R357, R465, R466, R472): driven from its first applied CFG on, or by Puffball, active high. -/
def Dev.fanBall (d : Dev) (i : FanId) : Level :=
  let cell : Option (Fin 7) := some ⟨i.val, by omega⟩
  if d.fanPuff i then d.doBall cell (Level.ofBool (d.fanActive i))
  else if (d.fanCh i).configured then d.doBall cell (Level.ofBool (d.fanActive i == d.rbit (Reg.fan_CFG i.val) 2))
  else if d.boundary then d.doBall cell .highZ else .highZ

/-- A switched output's drain: it sinks, or is off, which counts as high impedance (R349, R465, R479). -/
def Dev.gpoBall (d : Dev) (i : GpoId) : Level :=
  if d.pinsDead || d.dozes || d.boundary || !(d.gpoCh i.val).on then .highZ else .low

/-- SAFE_n (R353, R465, R479): low while DEV is set or Puffball is in control. -/
def Dev.safeBall (d : Dev) : Level := d.doBall none (Level.ofBool !(d.devLatch || d.puffActive || d.boundary))

/-- CANn_TX (R362, R465): recessive but while the controller sends. -/
def Dev.canBall (d : Dev) (n : CanId) : Level :=
  d.doBall (some ⟨4 + n.val, by omega⟩) (if (d.canCh n).active.isSome && !d.dozes then .frame else .high)

/-- TDO under EXTEST or CLAMP; the test access port drives it at other times only while it shifts (R465, R479). -/
def Dev.tdoBall (d : Dev) : Level := d.doBall (some 6) .highZ

/-- VREF_OUT is driven while EN is 1 in Run, ride-through included (R388, R389, R465). -/
def Dev.vrefDriven (d : Dev) : Bool := d.phase == .run && (d.pstate == 1 || d.pstate == 2) && d.rbit Reg.pwr_VREFCTL 0

/-- What SAMPLE/PRELOAD samples. -/
def Dev.boundarySample (d : Dev) : BitVec 7 :=
  let b (l : Level) (i : Nat) : Nat := if l = .high then 2 ^ i else 0
  BitVec.ofNat 7 (fanIds.foldl (fun (s : Nat) (i : FanId) => s + b (d.fanBall i) i.val) 0
    + canIds.foldl (fun (s : Nat) (n : CanId) => s + b (d.canBall n) (4 + n.val)) 0 + b d.tdoBall 6)

end Sys2Proof.Machine
end

