-- ==== Sys2Proof/Machine/Jtag.lean ====
section
/-! DEFINITION. Machine/Jtag.lean: the JTAG instructions, debug access, the unlock and the debug commands (R437 to R441,
R443, R479), and the loader (R436). -/

namespace Sys2Proof.Machine

open Sys2Proof

/-! The instruction register. -/

/-- The test logic has its supply and its balls. -/
def Dev.jtagOn (d : Dev) : Bool :=
  match d.phase with
  | .off | .hibernating | .dead => false
  | _ => true

/-- The port is open or unlocked, which the fuses show after boot step 1 (R437, R443). -/
def Dev.jtagFull (d : Dev) : Bool := d.portOpen && d.phase != .pllWait && d.phase != .otpLoad

/-- The instructions that are available (R437); UNLOCK is not while locked-out (R443). -/
def Dev.jtagAvail (d : Dev) (ir : BitVec 5) : Bool :=
  match ir.toNat with
  | 1 | 2 | 0x12 => true
  | 3 | 5 | 0x10 | 0x11 => d.jtagFull
  | 0x13 => d.rfld Reg.dbg_STAT 5 4 != 3
  | _ => false

def Dev.updJtag (d : Dev) (f : Jtag → Jtag) : Dev := { d with jtag := f d.jtag }

/-- An instruction is selected; one that is not available selects BYPASS, whose bit captures 0 (R437). -/
def Dev.jtagSelect (d : Dev) (ir : BitVec 5) : Dev :=
  d.updJtag (fun t => if d.jtagAvail ir then { t with ir := ir } else { t with ir := 0x1F, bypass := false })

/-- An instruction is selected and acts with `f` if it is available. -/
def Dev.jtagDo (d : Dev) (ir : BitVec 5) (f : Dev → Dev) : Dev :=
  dueIf d.jtagOn (fun d => if d.jtagAvail ir then f (d.jtagSelect ir) else d.jtagSelect ir) d

/-- What the data register returns: the status of the command, and its words. -/
def Dev.jtagOut (d : Dev) (st : Option Byte) (ws : List Word) : Dev := d.updJtag (fun t => { t with status := st, dataOut := ws })

/-- JTAG_IDCODE (R437). -/
def execJtagIdcode (s : State) : Host.Outcome State Fault Refusal :=
  s.run (fun d => d.jtagDo 1 (fun d => d.updJtag (fun t => { t with dataOut := [Config.jtagIdcode] })))

/-- JTAG_SAMPLE_PRELOAD (R437): the boundary register samples its balls and takes `bits`. -/
def execJtagSamplePreload (bits : BitVec 7) (s : State) : Host.Outcome State Fault Refusal :=
  s.run (fun d => d.jtagDo 2 (fun d => d.updJtag (fun t => { t with sample := d.boundarySample, preload := bits })))

/-- JTAG_EXTEST (R437, R479): what it does to the balls is in Machine/Pins.lean. -/
def execJtagExtest (s : State) : Host.Outcome State Fault Refusal := s.run (fun d => d.jtagDo 3 id)

/-- JTAG_CLAMP (R437, R479). -/
def execJtagClamp (s : State) : Host.Outcome State Fault Refusal := s.run (fun d => d.jtagDo 5 id)

/-- JTAG_BYPASS (R437): of BYPASS, and of every code that is not available. -/
def execJtagBypass (ir : BitVec 5) (s : State) : Host.Outcome State Fault Refusal :=
  s.run (fun d => dueIf (d.jtagOn && !d.jtagAvail ir) (fun d => d.jtagSelect ir) d)

/-! Debug access. -/

/-- DBGACC_READ (R438): one word of the copy address map. -/
def execDbgaccRead (addr : Word) (s : State) : Host.Outcome State Fault Refusal :=
  s.run (fun d => d.jtagDo 0x10 (fun d => dueIf d.live (fun d =>
    let r := d.doRead .jtag addr true
    r.1.jtagOut (some r.2.st) (r.2.ws.map CWord.data)) d))

/-- A debug write of SRAM or of the context area (R294, R359, R438): the hub forms the code. -/
def Dev.dbgMemWrite (d : Dev) (a : Nat) (v : Word) : Dev × Byte :=
  if d.level = 2 then (d, stRefused 8)
  else if !isSram a then (d.putWord a v, stServed)
  else if d.rbit Reg.dbg_STAT 0 then ({ d.putWord a v with dbg := { d.dbg with inval := true } }, stServed)
  else (d, stRefused 7)

/-- DBGACC_WRITE (R438): a write that waits for the journal reads as delayed; outside R176 it is absent (assumption 21). -/
def execDbgaccWrite (addr : Word) (v : Word) (s : State) : Host.Outcome State Fault Refusal :=
  s.run (fun d => d.jtagDo 0x10 (fun d => dueIf d.live (fun d =>
    let a := addr.toNat / 4 * 4
    if isSram a || isContext a then
      let r := d.dbgMemWrite a v
      r.1.jtagOut (some r.2) []
    else if isPages a then
      let r := d.regWrite .jtag (a - 0x40000000) v none
      r.1.jtagOut (some (r.2.getD stDelayed)) []
    else d.jtagOut (some (stRefused 9)) []) d))

/-! Unlock. -/

/-- The lock state changes, with its MODE entry (R443). -/
def Dev.setLock (d : Dev) (lock : Nat) : Dev :=
  let old := d.rfld Reg.dbg_STAT 5 4
  if old = lock then d else (d.setFldR Reg.dbg_STAT 5 4 lock).jmode 0x20 0x44 0 (toWord lock) (toWord old)

/-- UNLOCK_CHALLENGE (R443): `noise` is what the ring-oscillator source gives. -/
def execUnlockChallenge (noise : DWord) (s : State) : Host.Outcome State Fault Refusal :=
  s.run (fun d => d.jtagDo 0x13 (fun d => dueIf d.live (fun d =>
    { d.jtagOut (some stServed) [noise.extractLsb' 0 32, noise.extractLsb' 32 32] with
      dbg := { d.dbg with challenge := some noise } }) d))

/-- The message: C ‖ SERIAL ‖ DEVID, big-endian (R443). -/
def Dev.unlockMsg (d : Dev) (c : DWord) : List Byte :=
  natBytesBE 8 c.toNat ++ wordBytesBE (d.otpWord 4) ++ wordBytesBE (d.otpWord 0) ++ wordBytesBE (d.reg Reg.sys_DEVID)

/-- The debug key (R444). -/
def Dev.debugKey (d : Dev) : List Byte := (List.range 8).flatMap (fun i => wordBytes (d.otpWord (0x500 + 4 * i)))

/-- The response expected to challenge `c` (R443). -/
def Dev.unlockAnswer (d : Dev) (c : DWord) : Nat := natOfBE ((hmacSha256 d.debugKey (d.unlockMsg c)).take 8)

/-- A wrong response (R443): the third one since power-on locks the port out. -/
def Dev.wrongTry (d : Dev) : Dev :=
  let n := d.rfld Reg.dbg_STAT 9 8 + 1
  let d1 := d.setFldR Reg.dbg_STAT 9 8 (min 3 n)
  if 3 ≤ n then d1.setLock 3 else d1

/-- UNLOCK_RESPONSE (R443): it answers the challenge drawn last, which holds for one attempt. -/
def execUnlockResponse (r : DWord) (s : State) : Host.Outcome State Fault Refusal :=
  s.run (fun d => d.jtagDo 0x13 (fun d => match d.dbg.challenge with
    | none => d
    | some c => dueIf d.live (fun d =>
      let d1 := { d with dbg := { d.dbg with challenge := none } }
      if r.toNat = d.unlockAnswer c then (if d1.rfld Reg.dbg_STAT 5 4 = 1 then d1.setLock 2 else d1) else d1.wrongTry) d))

/-! Debug commands. -/

/-- DBG_HALT (R439): a write of DBG.CTRL with HALT; the LV bits keep their values. -/
def execDbgHalt (src : Src) (s : State) : Host.Outcome State Fault Refusal :=
  s.run (fun d => dueIf d.live (fun d => Dev.plainWrite src Reg.dbg_CTRL (setBit (d.reg Reg.dbg_CTRL) 0 true) d) d)

/-- A write of DBG.CMD (R441). -/
def Dev.dbgWrite (src : Src) (op : Nat) (arg : Half) (d : Dev) : Dev :=
  dueIf d.live (Dev.plainWrite src Reg.dbg_CMD (toWord (op + arg.toNat * 65536))) d

/-- DBG_READ_REG (R441). -/
def execDbgReadReg (src : Src) (n : Half) (s : State) : Host.Outcome State Fault Refusal := s.run (Dev.dbgWrite src 1 n)
/-- DBG_WRITE_REG (R441). -/
def execDbgWriteReg (src : Src) (n : Half) (s : State) : Host.Outcome State Fault Refusal := s.run (Dev.dbgWrite src 2 n)
/-- DBG_READ_CSR (R441). -/
def execDbgReadCsr (src : Src) (n : Half) (s : State) : Host.Outcome State Fault Refusal := s.run (Dev.dbgWrite src 3 n)
/-- DBG_WRITE_CSR (R441). -/
def execDbgWriteCsr (src : Src) (n : Half) (s : State) : Host.Outcome State Fault Refusal := s.run (Dev.dbgWrite src 4 n)
/-- DBG_READ_PC (R441). -/
def execDbgReadPc (src : Src) (s : State) : Host.Outcome State Fault Refusal := s.run (Dev.dbgWrite src 5 0)
/-- DBG_WRITE_PC (R441). -/
def execDbgWritePc (src : Src) (s : State) : Host.Outcome State Fault Refusal := s.run (Dev.dbgWrite src 6 0)
/-- DBG_RESUME (R438, R441). -/
def execDbgResume (src : Src) (s : State) : Host.Outcome State Fault Refusal := s.run (Dev.dbgWrite src 7 0)
/-- DBG_STEP (R441). -/
def execDbgStep (src : Src) (n : Half) (s : State) : Host.Outcome State Fault Refusal := s.run (Dev.dbgWrite src 8 n)

/-! The loader. -/

/-- The boot ROM serves the loader (R436). -/
def Dev.loaderServed (d : Dev) : Bool := d.phase == .service && d.rbit Reg.boot_STAT 16

/-- One command of the LOADER data register (R436): the instruction is selected in any case. -/
def Dev.loaderDo (f : Dev → Dev) (d : Dev) : Dev := d.jtagDo 0x12 (fun d => dueIf d.loaderServed f d)

/-- The STATUS that the next update of the LOADER register shows (R436). -/
def Dev.loaderStatus (d : Dev) : Byte :=
  match d.jtag.status with
  | some st => st
  | none => d.rfld Reg.flash_STAT 7 0 |> BitVec.ofNat 8

/-- The first refusal of three answers, else the last. -/
def firstRefused (a b c : Option Byte) : Byte :=
  if isRefused (a.getD 0) then a.getD 0 else if isRefused (b.getD 0) then b.getD 0 else c.getD stDelayed

/-- LOADER_LEDGER (R436): two shadow writes and a commit of LEDGER. -/
def execLoaderLedger (capnf vmin : Word) (s : State) : Host.Outcome State Fault Refusal :=
  s.run (Dev.loaderDo (fun d =>
    let r1 := d.regWrite .hub Reg.ledger_CAPNF capnf none
    let r2 := r1.1.regWrite .hub Reg.ledger_VMIN vmin none
    let r3 := r2.1.regWrite .hub (Reg.pgCommit 2) 0xC5000000 none
    r3.1.jtagOut (some (firstRefused r1.2 r2.2 r3.2)) []))

/-- A flash job of the loader (R261, R436). -/
def Dev.loaderJob (op : Nat) (dst : Nat) (data : List Word) (d : Dev) : Dev :=
  if isFlash dst then (d.flashSubmit op 1 1 (toWord dst) 0 false data).jtagOut none []
  else d.jtagOut (some (stRefused 9)) []

/-- LOADER_ERASE (R436): the sector at ADDR. -/
def execLoaderErase (addr : Word) (s : State) : Host.Outcome State Fault Refusal :=
  s.run (Dev.loaderDo (Dev.loaderJob 2 (addr.toNat / 4096 * 4096) []))

/-- Eight words of DATA. -/
def eightWords (ws : List Word) : List Word := (ws ++ List.replicate 8 0).take 8

/-- LOADER_PROGRAM (R436): the row at ADDR. -/
def execLoaderProgram (addr : Word) (data : List Word) (s : State) : Host.Outcome State Fault Refusal :=
  s.run (Dev.loaderDo (Dev.loaderJob 1 (addr.toNat / 32 * 32) (eightWords data)))

/-- A word through the FLASH read window (R259), behind those read so far. -/
def Dev.windowWord (r : Dev × List Word) (a : Nat) : Dev × List Word :=
  let d1 := (r.1.setReg Reg.flash_RDADDR (toWord a)).flashLatch (toWord a)
  (d1, r.2 ++ [d1.reg Reg.flash_RDWORD])

/-- LOADER_READ (R436): the row at ADDR, through the FLASH read window. -/
def execLoaderRead (addr : Word) (s : State) : Host.Outcome State Fault Refusal :=
  s.run (Dev.loaderDo (fun d =>
    let a := addr.toNat / 32 * 32
    let r := ((List.range 8).map (fun i => a + 4 * i)).foldl Dev.windowWord (d, [])
    r.1.jtagOut (some stServed) r.2))

/-- LOADER_OTPWRITE (R436, R444): bits go from 0 to 1 only; an offset outside the OTP is absent. -/
def execLoaderOtpwrite (addr : Word) (w : Word) (s : State) : Host.Outcome State Fault Refusal :=
  s.run (Dev.loaderDo (fun d =>
    let a := 0x50000000 + addr.toNat / 4 * 4
    if isOtp a then (d.putWord a (d.word a ||| w)).jtagOut (some stServed) [] else d.jtagOut (some (stRefused 9)) []))

/-- LOADER_JREAD (R436). -/
def execLoaderJread (seq : Word) (s : State) : Host.Outcome State Fault Refusal :=
  s.run (Dev.loaderDo (fun d =>
    if d.holdsEntry seq then d.jtagOut (some stServed) (d.readRecord (slotAddr (d.slotOf seq))).1
    else d.jtagOut (some (stRefused 9)) []))

/-- LOADER_BOOT (R436): step 3 onward. Puffball keeps control until a reset, so BOOT waits for one (15_clocks_reset_boot.md,
When things coincide). -/
def execLoaderBoot (s : State) : Host.Outcome State Fault Refusal :=
  s.run (Dev.loaderDo (fun d =>
    if d.puffActive then d.jtagOut (some (stRefused 8)) []
    else
      let d1 := ((d.setBitR Reg.boot_STAT 16 false).setFldR Reg.boot_STAT 15 8 0).jtagOut (some stServed) []
      { d1 with phase := .imgCheck, phaseDue := d1.now, cs := .idle,
                boot := { d1.boot with variant := 0, usePair := false } }))

/-! Cross-checks. -/

/-- The page of a duplicated block (R36, R457); the commit checker has none, and is journaled on SYS. -/
def blockPage : HubBlock → Nat
  | .releaseGate => 0x0B
  | .releaseLatches => 0x0C
  | .driveTrip n => 0x15 + n.val
  | .fanOut _ => 0x19
  | .gpoPath => 0x1E
  | .puffball => 0x1A
  | .watchdog => 0x1F
  | .clockMonitors => 4
  | .supplySupervisors => 3
  | .pageGuards => 0x14
  | .commitChecker => 0
  | .ledger => 2

/-- A block whose failure leaves Puffball unable to act (R451 code 0x10). -/
def Dev.blockDead (d : Dev) (b : HubBlock) : Bool :=
  match b with
  | .puffball => true
  | .fanOut i => d.fanDesignated i.val
  | _ => false

/-- HUB_CROSSCHECK_FAULT (R446, R451 codes 0x04 and 0x10, R457): of the release gate, S, with the pair left open; else
Puffball takes control, or the hub is dead; with Puffball disabled the hub holds the safe state (R354). -/
def execHubCrosscheckFault (b : HubBlock) (s : State) : Host.Outcome State Fault Refusal :=
  s.run (fun d => dueIf d.awake (fun d =>
    let p := blockPage b
    if b = .releaseGate then
      let r := d.drawWord
      r.2.reactS ⟨4, 0x0B, 4, toWord (r.1.toNat % 3), 8⟩ 6 0 0 0x15
    else
      let d1 := d.fault 0x10 p 0 (toWord p) (if b = .watchdog then 2 else 0)
      if d.blockDead b then d1.hubDead
      else if d1.rbit Reg.puff_CFG 0 then d1.puffEnter 2
      else (d1.holdOutputs 8 0).safeLevel (d1.rfld Reg.sys_SVCLVL 10 8) 0) d)

end Sys2Proof.Machine
end

