-- ==== Sys2Proof/Machine/Power.lean ====
section
/-! DEFINITION. Machine/Power.lean: the commands of supplies, the energy ledger, mains loss, low power and Doze
(R386 to R410), but for the writes of CVCTL and the ride-through steps (Machine/Ride.lean). -/

namespace Sys2Proof.Machine

open Sys2Proof

/-! Supplies. -/

/-- VSUP_H_BROWNOUT (R386, R389, R390): the whole hub is reset and off; the next power-on finds the source. -/
def execVsupHBrownout (s : State) : Host.Outcome State Fault Refusal :=
  s.run (fun d => dueIf (d.phase != .off) (fun d => { (d.supSet 0 0).hubReset 2 with phase := .off }) d)

/-- COPY_SUPPLY_BROWNOUT (R386): the flag; a copy in service is lost. A parked copy has no detector reaction. -/
def execCopySupplyBrownout (c : CopyId) (mv : Half) (s : State) : Host.Outcome State Fault Refusal :=
  s.run (fun d => dueIf (d.awake && !d.copyLow c) (fun d =>
    let v : Word := mv.setWidth 32
    let d1 := (d.setReg (Reg.pwr_VSUPA + 4 * c.val) v).supSet (1 + c.val) 0
    if d.inSvc c then d1.loseCopy c ⟨0x0B, 3, c.val + 1, v, 0⟩ else d1) d)

/-- The overvoltage flags of SUPSTAT as a mask (R386, R451). -/
def Dev.ovMask (d : Dev) : Nat := d.rfld Reg.pwr_SUPSTAT 7 4

/-- SUPPLY_OVERVOLTAGE (R386, R451 code 0x0C). VIO has no overvoltage detector. -/
def execSupplyOvervoltage (i : Supply) (mv : Half) (s : State) : Host.Outcome State Fault Refusal :=
  s.run (fun d => dueIf (d.awake && decide (i ≠ .vio) && !d.rbit Reg.pwr_SUPSTAT (4 + supplyNo i)) (fun d =>
    let d1 := (d.setReg (supplyReg i) (mv.setWidth 32)).supSet (4 + supplyNo i) 1
    d1.fault 0x0C 3 0 (toWord d1.ovMask) 0) d)

/-- VIO_BROWNOUT (R386, R451 code 0x0D): reaction H. -/
def execVioBrownout (mv : Half) (s : State) : Host.Outcome State Fault Refusal :=
  s.run (fun d => dueIf (d.awake && !d.rbit Reg.pwr_SUPSTAT 8) (fun d =>
    ((d.setReg Reg.pwr_VIO (mv.setWidth 32)).supSet 8 0).reactH ⟨0x0D, 3, 0, mv.setWidth 32, 0⟩) d)

/-- SUPPLY_BACK_IN_RANGE (R386 SUPSTAT): the flags of the supply fall; the sticky copies stay. -/
def execSupplyBackInRange (i : Supply) (mv : Half) (s : State) : Host.Outcome State Fault Refusal :=
  s.run (fun d => dueIf d.awake (fun d =>
    let d1 := d.setReg (supplyReg i) (mv.setWidth 32)
    match i with
    | .vio => d1.setBitR Reg.pwr_SUPSTAT 8 false
    | _ => (d1.setBitR Reg.pwr_SUPSTAT (supplyNo i) false).setBitR Reg.pwr_SUPSTAT (4 + supplyNo i) false) d)

/-! Measurement. -/

/-- ECNT of input `i` as a 64-bit count (R400). -/
def Dev.ecnt (d : Dev) (i : Nat) : Nat := (d.reg (Reg.ledger_ECNT (2 * i))).toNat + 2 ^ 32 * (d.reg (Reg.ledger_ECNT (2 * i + 1))).toNat

def Dev.setEcnt (d : Dev) (i n : Nat) : Dev :=
  (d.setReg (Reg.ledger_ECNT (2 * i)) (lo32 n)).setReg (Reg.ledger_ECNT (2 * i + 1)) (hi32 (n % 2 ^ 64))

/-- One input's energy of a sample (R400): the count and its residue. -/
def Dev.ecntAdd (x : SupplySample) (i : Fin 4) (d : Dev) : Dev :=
  let r := d.ledger.resid.get i + x.mv * x.ua
  let d1 := d.setEcnt i.val (d.ecnt i.val + r / 100000)
  { d1 with ledger := { d1.ledger with resid := d1.ledger.resid.set i (r % 100000) } }

/-- E of R401. -/
def Dev.energyNow (d : Dev) : Nat :=
  let h := d.rfld Reg.pwr_HOLDSNS 15 0
  let v := d.rfld Reg.ledger_VMIN 15 0
  if v < h then d.ceff * (h * h - v * v) / 2000000 else 0

/-- The runs of conversions below MLTHR and at or above MRTHR (R410). -/
def Dev.mainsCount (d : Dev) : Dev :=
  let h := d.rfld Reg.pwr_HOLDSNS 15 0
  let low := decide (h < d.rfld Reg.ledger_MLCFG 15 0)
  let high := decide (d.rfld Reg.ledger_MLCFG 31 16 ≤ h)
  { d with ledger := { d.ledger with below := if low then d.ledger.below + 1 else 0,
                                     above := if high then d.ledger.above + 1 else 0 } }

/-- HCLK runs and the ledger measures (R390, R399). -/
def Dev.measures (d : Dev) : Bool := d.live

/-- One conversion (R399 to R401). -/
def Dev.convert (d : Dev) (mv : Nat) (q : Quad SupplySample) : Dev :=
  let conv := (d.ledger.conv ++ [mv]).drop 1
  let hv := (rneDiv (conv.foldl (fun a x => a + x) 0 : Nat) 8).toNat
  let d1 := { d with ledger := { d.ledger with conv := conv } }
  let d2 := d1.setReg Reg.pwr_HOLDSNS (toWord (satU 16 hv))
  let d3 := (((d2.setReg Reg.pwr_VSUPH (toWord (satU 16 q.a.mv))).setReg Reg.pwr_VSUPA (toWord (satU 16 q.b.mv))).setReg
    Reg.pwr_VSUPB (toWord (satU 16 q.c.mv))).setReg Reg.pwr_VSUPC (toWord (satU 16 q.d.mv))
  let d4 := (((d3.ecntAdd q.a 0).ecntAdd q.b 1).ecntAdd q.c 2).ecntAdd q.d 3
  ({ d4 with ledger := { d4.ledger with e := d4.energyNow } }).mainsCount

/-- HOLDSNS_CONVERSION (R399 to R401, R410): every 4 000 HCLK. -/
def execHoldsnsConversion (mv : Half) (q : Quad SupplySample) (s : State) : Host.Outcome State Fault Refusal :=
  s.run (fun d => dueIf d.measures (fun d =>
    let d1 := d.at (d.ledger.convAt + 4000)
    ({ d1 with ledger := { d1.ledger with convAt := d1.now / 4000 * 4000 } }).convert mv.toNat q) d)

/-- The sum of the four counts. -/
def Dev.ecntTotal (d : Dev) : Nat := d.ecnt 0 + d.ecnt 1 + d.ecnt 2 + d.ecnt 3

/-- P_own, P_cap, PDRAW and HRZ (R402). A draw that PDRAW's 16 bits do not hold leaves the field a free value
(assumption 6). -/
def Dev.powerTick (d : Dev) : Dev :=
  let l := d.ledger
  let own := (rneDiv ((d.ecntTotal + 2 ^ 66 - l.ecntPrev) % 2 ^ 64 : Nat) 1000).toNat
  let cap := (rneDiv (l.ePrev - l.e : Nat) 1000).toNat
  let draw := max (own + d.rfld Reg.ledger_BLOAD 15 0) cap
  let hrz := if draw = 0 then 0xFFFFFFFF else min (l.e / draw) 0xFFFFFFFF
  let (free, d1) := if draw < 65536 then (toWord draw, d) else d.drawWord
  { (d1.setReg Reg.ledger_PDRAW (free &&& 0xFFFF)).setReg Reg.ledger_HRZ (toWord hrz) with
    ledger := { l with ePrev := l.e, ecntPrev := d.ecntTotal } }

/-- LEDGER_MS_TICK (R402): TIME mod 400 000 = 0. -/
def execLedgerMsTick (s : State) : Host.Outcome State Fault Refusal :=
  s.run (fun d => dueIf d.measures (fun d =>
    let d1 := d.at (d.ledger.msAt + 400000)
    ({ d1 with ledger := { d1.ledger with msAt := d1.now / 400000 * 400000 } }).powerTick) d)

/-! Mains. -/

def Dev.latchMl (d : Dev) : Dev :=
  (d.setReg Reg.ledger_ML_LO (lo32 d.now)).setReg Reg.ledger_ML_HI (hi32 d.now)

/-- Mains loss is due (R410): in RUN, with a threshold, after MLFILT conversions below it. -/
def Dev.mainsLost (d : Dev) : Bool :=
  d.pstate == 1 && d.rfld Reg.ledger_MLCFG 15 0 != 0 && decide (d.rfld Reg.ledger_MLFILT 7 0 ≤ d.ledger.below)

/-- MAINS_LOSS (R410, R411, R389). -/
def execMainsLoss (s : State) : Host.Outcome State Fault Refusal :=
  s.run (fun d => dueIf d.mainsLost (fun d =>
    let d1 := (d.latchMl.evt 2 0).setPstate 2
    let d2 := { d1 with ledger := { d1.ledger with above := 0 } }
    if d2.rbit Reg.ledger_PLANCTL 0 then
      { (d2.setBitR Reg.ledger_PLANCTL 4 true).setFldR Reg.ledger_PLANCTL 11 8 0 with
        ledger := { d2.ledger with planNext := 0, planFrom := d2.now, planBusyUntil := d2.now, planFlush := none, planHold := 0 } }
    else d2) d)

/-- The plan executes no further (R413); a restart that waited for its end runs. -/
def Dev.planEnd (d : Dev) : Dev := (d.setBitR Reg.ledger_PLANCTL 4 false).restartAfterPlan

/-- MAINS_RETURN (R410, R413, R389). -/
def execMainsReturn (s : State) : Host.Outcome State Fault Refusal :=
  s.run (fun d => dueIf (d.pstate == 2 && decide (d.rfld Reg.ledger_MLFILT 7 0 ≤ d.ledger.above)) (fun d =>
    let d1 := (d.latchMl.evt 2 1).setPstate 1
    let d2 := { d1 with ledger := { d1.ledger with below := 0 } }
    if d2.planExec then d2.planEnd else d2) d)

/-! Jobs. -/

/-- LEDGER_ADMIT (R408): the waiting job that is next in class order, then in submission order, and fits. -/
def execLedgerAdmit (s : State) : Host.Outcome State Fault Refusal :=
  s.run (fun d => match nextFit d d.ledger.jobs none with
    | some j => d.jobAdmit j true
    | none => d)

/-- The waiting timely or bulk job that does not fit and whose wait ends first. -/
def nextLate (d : Dev) : List Job → Option Job → Option Job
  | [], r => r
  | j :: js, r =>
    let mine := !j.admitted && j.cls != 0 && !d.jobFits j
    let first := match r with
      | none => true
      | some x => decide (j.since + d.jobWait j.cls.toNat < x.since + d.jobWait x.cls.toNat)
    nextLate d js (if mine && first then some j else r)

/-- LEDGER_WAIT_TIMEOUT (R408): refused ENERGY, with the shortfall at that instant. -/
def execLedgerWaitTimeout (s : State) : Host.Outcome State Fault Refusal :=
  s.run (fun d => match nextLate d d.ledger.jobs none with
    | some j => (d.at (j.since + d.jobWait j.cls.toNat)).jobRefuse j 3
    | none => d)

/-- LEDGER_GUARD_OVERRUN (R408, R31): once for a guard job that waits for 1 ms; it keeps waiting. -/
def execLedgerGuardOverrun (s : State) : Host.Outcome State Fault Refusal :=
  s.run (fun d => match d.ledger.jobs.find? (fun j => !j.admitted && j.cls == 0 && !j.overran && !d.jobFits j) with
    | some j =>
      let d1 := (d.at (j.since + 400000)).updJob j.id (fun x => { x with overran := true })
      d1.guardOvr admLedger 2 (d1.ledger.jobs.filter (fun x => !x.admitted && x.cls == 0)).length
    | none => d)

/-! The capacitance check. -/

/-- CAP_CHECK_SINK_ON (R404): V1 is read and the sink turns on. -/
def execCapCheckSinkOn (s : State) : Host.Outcome State Fault Refusal :=
  s.run (fun d => match d.ledger.cap with
    | some k =>
      dueIf (k.stage == 1) (fun d =>
        let d1 := d.at k.due
        let k2 : CapCheck := { k with stage := 2, v1 := d1.rfld Reg.pwr_HOLDSNS 15 0, due := d1.now + 400000 * k.step }
        { d1 with ledger := { d1.ledger with sink := true, cap := some k2 } }) d
    | none => d)

/-- The result of a check (R404, R405): CMEAS or FAIL, and the capacitance fault. A quotient that CMEAS does not hold
is a free value (assumption 6). -/
def Dev.capResult (d : Dev) (k : CapCheck) : Dev :=
  let v2 : Int := (d.rfld Reg.pwr_HOLDSNS 15 0 : Nat)
  let delta : Int := ((k.v1 : Int) - v2) - ((k.v0 : Int) - k.v1)
  if delta ≤ 0 then d.setBitR Reg.ledger_CVSTAT 8 true
  else
    let m := (rneDiv (k.amps * k.step * 1000000 : Nat) delta.toNat).toNat
    let (w, d1) := if m < 2 ^ 32 then (toWord m, d) else d.drawWord
    let d2 := (d1.setBitR Reg.ledger_CVSTAT 8 false).setReg Reg.ledger_CMEAS w
    let cap := d2.reg Reg.ledger_CAPNF
    if w.toNat * 100 < cap.toNat * (100 - d2.rfld Reg.ledger_CVCTL 23 16) then
      let f := d2.reg (Reg.pgFault 2)
      (d2.setReg (Reg.pgFault 2) (setFld (setBit f 0 true) 23 16 (min 255 (fld f 23 16 + 1)))).jlog 0x07 2 0x7C 0 w cap
    else d2

/-- CAP_CHECK_END (R404, R405, R407): the sink turns off, the result, the end of the job. -/
def execCapCheckEnd (s : State) : Host.Outcome State Fault Refusal :=
  s.run (fun d => match d.ledger.cap with
    | some k =>
      dueIf (k.stage == 2) (fun d =>
        let d1 := d.at k.due
        let jobs := d1.ledger.jobs.filter (fun j => !(j.admitted && j.kind == .capCheck))
        let d2 := { d1 with ledger := { d1.ledger with sink := false, cap := none, jobs := jobs } }
        (d2.capResult k).evt 2 2) d
    | none => d)

/-! Low power. -/

/-- LOW_POWER_ENTRY (R391 steps 1 to 3): at the tick after the apply, or at once for a HIBERNATE step. -/
def execLowPowerEntry (s : State) : Host.Outcome State Fault Refusal :=
  s.run (fun d => dueIf (d.lp.stopping && (d.pstate == 3 || d.pstate == 5)) Dev.lowPowerEnter d)

/-- LOW_POWER_STOP (R391 steps 4 and 5). -/
def execLowPowerStop (s : State) : Host.Outcome State Fault Refusal :=
  s.run (fun d => dueIf d.stopReady Dev.hclkStop d)

/-- DOZE_WAKE (R393): in Doze; during the entry it is kept for its end. -/
def execDozeWake (w : WakeSrc) (s : State) : Host.Outcome State Fault Refusal :=
  s.run (fun d => dueIf (d.wakeOn w) (fun d =>
    if d.phase = .dozing then d.dozeWake w
    else if d.awake ∧ d.pstate = 3 then { d with lp := { d.lp with wakePend := some w } } else d) d)

/-- DOZE_CLOCK_RESTORED (R394, R395): after `n` cycles of the 32 kHz clock. -/
def execDozeClockRestored (n : Nat) (s : State) : Host.Outcome State Fault Refusal :=
  s.run (fun d => dueIf (d.phase == .dozeWake) (fun d => d.dozeRestore n) d)

/-- HIBERNATE_WAKE (R397): a WAKE reset, then the boot. -/
def execHibernateWake (s : State) : Host.Outcome State Fault Refusal :=
  s.run (fun d => dueIf (d.phase == .hibernating) (fun d => (d.hubReset 4).setFldR Reg.pwr_STAT 11 8 1) d)

end Sys2Proof.Machine
end

