-- ==== Sys2Proof/Machine/Sense.lean ====
section
/-! DEFINITION. Machine/Sense.lean: the commands of the sense blocks (R74, R82, R90, R93). -/

namespace Sys2Proof.Machine

open Sys2Proof

/-- A sense block works: the copy has power, is released and has a tick (R73, R89). -/
def Copy.senses (x : Copy) : Bool := x.powered && x.released && x.time.valid

/-- A group conversion ends (R74): the calibration conversions of a run, then the sample message. -/
def Copy.groupEnd (x : Copy) (now : Nat) (g : GroupId) (codes cal : Four Half) (temp : Half) : Copy :=
  let s := x.sense
  let s1 := match s.runAge x.time.frame with
    | some age => if age < 8 ∧ s.runGroups.get g = true then s.calAdd g age cal else s
    | none => s
  let m := s1.sampleMsg x.time.frame g codes temp
  ({ x with sense := { s1 with sumv := s1.sumv.set g false } }).send now 0 (.sample m)

/-- GROUP_CONVERSION_END (R74, R76, R83, R109). -/
def execGroupConversionEnd (c : CopyId) (g : GroupId) (x cal : Four Half) (temp : Half) (s : State) :
    Host.Outcome State Fault Refusal :=
  s.run (fun d => dueIf ((d.copy c).senses && (d.copy c).sense.grpEn g.val)
    (fun d => d.updCopy c (fun y => y.groupEnd d.now g x cal temp)) d)

/-- A calibration run is due in this frame (R82). -/
def Dev.calDue (d : Dev) : Bool :=
  d.frames && d.csRunning &&
    (match d.agr.calNext with | none => true | some t => decide (t ≤ d.tickt.toNat))

/-- CALIBRATION_START (R82 to R84): the current frame is f0. -/
def execCalibrationStart (s : State) : Host.Outcome State Fault Refusal :=
  s.run (fun d => dueIf d.calDue (fun d =>
    let d1 := Dev.each (fun c d => d.updCopy c (fun y => { y with sense := y.sense.startRun d.frnum })) d.svcCopies d
    d1.updAgr (fun a => { a with calNext := some (d.tickt.toNat + 4000000000) })) d)

/-- An edge on a digital input after the glitch filter (R90 to R92). -/
def Copy.dinEdge (x : Copy) (i : Fin 12) (rising : Bool) (e : Nat) : Copy :=
  let s := x.sense
  let lvl : BitVec 12 := if rising then s.lvl ||| BitVec.twoPow 12 i.val else s.lvl &&& ~~~(BitVec.twoPow 12 i.val)
  let t := x.time.hubTime ((e : Int) - 12 * fld (s.reg Reg.sensecfg_DINCFG) 23 20)
  if edgeQualifies (s.edgeSel i.val) rising then
    let r := s.edge i.val rising t x.time.prevPer.toNat
    { x with sense := { r.1 with lvl := lvl }, stats := { x.stats with dovf := x.stats.dovf + boolNat r.2 } }
  else { x with sense := { s with lvl := lvl } }

/-- The edge lies in the frame that the copy is in: an edge of the next one waits for its tick (R91). -/
def Copy.edgeDue (x : Copy) (e : Nat) : Bool :=
  x.senses && x.sense.dinEn
    && decide (x.time.hubTime ((e : Int) - 12 * fld (x.sense.reg Reg.sensecfg_DINCFG) 23 20) < x.time.per.toNat)

/-- DIN_EDGE (R90 to R92). -/
def execDinEdge (c : CopyId) (i : Fin 12) (rising : Bool) (e : Nat) (s : State) : Host.Outcome State Fault Refusal :=
  s.run (fun d => dueIf ((d.copy c).edgeDue e) (fun d => d.updCopy c (fun y => y.dinEdge i rising e)) d)

/-- The copy reported a temperature above TLIM in eight consecutive frames (R93). -/
def Dev.tooHot (d : Dev) (c : CopyId) : Bool := d.inSvc c && d.agr.tempHot.get c == 8

/-- OVER_TEMPERATURE (R93, R451 code 0x18). -/
def execOverTemperature (c : CopyId) (s : State) : Host.Outcome State Fault Refusal :=
  s.run (fun d => dueIf (d.tooHot c) (fun d =>
    (d.updAgr (fun a => { a with tempHot := a.tempHot.set c 9 })).reactH
      ⟨0x18, 9, c.val + 1, d.reg (Reg.agree_TEMP c.val), 0⟩) d)

/-- DIGITAL_APERTURE (R90, R109, R150): the levels, and the edge records of the previous frame. -/
def execDigitalAperture (c : CopyId) (lvl : BitVec 12) (s : State) : Host.Outcome State Fault Refusal :=
  s.run (fun d => dueIf ((d.copy c).senses && (d.copy c).sense.dinEn) (fun d =>
    d.updCopy c (fun y =>
      let m (p : Fin 3) : CopyFlit := .dinrec p (y.sense.dinMsg y.time.frame lvl p.val)
      let y1 := { y with sense := { y.sense with lvl := lvl } }
      ((y1.send d.now 0 (m 0)).send d.now 0 (m 1)).send d.now 0 (m 2))) d)

end Sys2Proof.Machine
end

