-- ==== Sys2Proof/Machine/Dispatch.lean ====
section
/-! DEFINITION. Machine/Dispatch.lean: one arm per command, each one direct call of its meaning. -/

namespace Sys2Proof.Machine

def exec (i : Instr) (s : State) : Host.Outcome State Fault Refusal :=
  match i with
  | .powerOn => Sys2Proof.Machine.execPowerOn s
  | .referencePllLock => Sys2Proof.Machine.execReferencePllLock s
  | .otpLoadDone => Sys2Proof.Machine.execOtpLoadDone s
  | .retentionCheckDone => Sys2Proof.Machine.execRetentionCheckDone s
  | .imageCheckDone => Sys2Proof.Machine.execImageCheckDone s
  | .copyPowerOn => Sys2Proof.Machine.execCopyPowerOn s
  | .copyPllLocked => Sys2Proof.Machine.execCopyPllLocked s
  | .releaseDecision => Sys2Proof.Machine.execReleaseDecision s
  | .frameTick => Sys2Proof.Machine.execFrameTick s
  | .overloadRaise g => Sys2Proof.Machine.execOverloadRaise g s
  | .overloadFall g => Sys2Proof.Machine.execOverloadFall g s
  | .pgCommit src page v => Sys2Proof.Machine.execPgCommit src page v s
  | .commitApply page => Sys2Proof.Machine.execCommitApply page s
  | .commitJournalDeadline page => Sys2Proof.Machine.execCommitJournalDeadline page s
  | .shadowWrite src page off v => Sys2Proof.Machine.execShadowWrite src page off v s
  | .shdisc src page => Sys2Proof.Machine.execShdisc src page s
  | .lvWrite src page off v => Sys2Proof.Machine.execLvWrite src page off v s
  | .lvWriteApply => Sys2Proof.Machine.execLvWriteApply s
  | .lvWriteTimeout => Sys2Proof.Machine.execLvWriteTimeout s
  | .registerWrite src page off v => Sys2Proof.Machine.execRegisterWrite src page off v s
  | .pgEvtset src page v => Sys2Proof.Machine.execPgEvtset src page v s
  | .pgLock src page v => Sys2Proof.Machine.execPgLock src page v s
  | .splitReadLo src page off => Sys2Proof.Machine.execSplitReadLo src page off s
  | .splitReadHi src page off => Sys2Proof.Machine.execSplitReadHi src page off s
  | .journalEntryWrite => Sys2Proof.Machine.execJournalEntryWrite s
  | .journalEntryTimeout => Sys2Proof.Machine.execJournalEntryTimeout s
  | .jrnlRdsel src seq => Sys2Proof.Machine.execJrnlRdsel src seq s
  | .jrnlFlush src v => Sys2Proof.Machine.execJrnlFlush src v s
  | .journalAutoFlush => Sys2Proof.Machine.execJournalAutoFlush s
  | .journalFlushEnd => Sys2Proof.Machine.execJournalFlushEnd s
  | .groupConversionEnd c g x cal temp => Sys2Proof.Machine.execGroupConversionEnd c g x cal temp s
  | .calibrationStart => Sys2Proof.Machine.execCalibrationStart s
  | .dinEdge c ix rising e => Sys2Proof.Machine.execDinEdge c ix rising e s
  | .overTemperature c => Sys2Proof.Machine.execOverTemperature c s
  | .trainingStateTimer c ok => Sys2Proof.Machine.execTrainingStateTimer c ok s
  | .resume c ok => Sys2Proof.Machine.execResume c ok s
  | .train e c => Sys2Proof.Machine.execTrain e c s
  | .config e c m => Sys2Proof.Machine.execConfig e c m s
  | .cal c part ws => Sys2Proof.Machine.execCal c part ws s
  | .ping c ptime => Sys2Proof.Machine.execPing c ptime s
  | .echo c ptime rtt => Sys2Proof.Machine.execEcho c ptime rtt s
  | .flitCorrupt e c flit => Sys2Proof.Machine.execFlitCorrupt e c flit s
  | .ackTimer e c => Sys2Proof.Machine.execAckTimer e c s
  | .replayTimeout e c => Sys2Proof.Machine.execReplayTimeout e c s
  | .lostimeExpiry e c => Sys2Proof.Machine.execLostimeExpiry e c s
  | .resyncStateTimer c ok => Sys2Proof.Machine.execResyncStateTimer c ok s
  | .copyReplayStoreError c seq => Sys2Proof.Machine.execCopyReplayStoreError c seq s
  | .hubReplayStoreError c seq => Sys2Proof.Machine.execHubReplayStoreError c seq s
  | .grantSendTimer c => Sys2Proof.Machine.execGrantSendTimer c s
  | .read c h r => Sys2Proof.Machine.execRead c h r s
  | .write c h r => Sys2Proof.Machine.execWrite c h r s
  | .fetch c h r => Sys2Proof.Machine.execFetch c h r s
  | .drvSafeTrip c csn n => Sys2Proof.Machine.execDrvSafeTrip c csn n s
  | .tripSafe c csn => Sys2Proof.Machine.execTripSafe c csn s
  | .tripReq c csn => Sys2Proof.Machine.execTripReq c csn s
  | .fanSafeStop c csn => Sys2Proof.Machine.execFanSafeStop c csn s
  | .gpoSafeOff c csn => Sys2Proof.Machine.execGpoSafeOff c csn s
  | .releaseSafeEnter c csn => Sys2Proof.Machine.execReleaseSafeEnter c csn s
  | .compareComplete csn obs => Sys2Proof.Machine.execCompareComplete csn obs s
  | .compareTimeout csn => Sys2Proof.Machine.execCompareTimeout csn s
  | .requestExecute csn enc => Sys2Proof.Machine.execRequestExecute csn enc s
  | .schedulerDeadline csn => Sys2Proof.Machine.execSchedulerDeadline csn s
  | .responseReserve csn => Sys2Proof.Machine.execResponseReserve csn s
  | .responseQueueDeadline csn => Sys2Proof.Machine.execResponseQueueDeadline csn s
  | .releaseClr src csn v => Sys2Proof.Machine.execReleaseClr src csn v s
  | .sample c h m => Sys2Proof.Machine.execSample c h m s
  | .dinrec c h part m => Sys2Proof.Machine.execDinrec c h part m s
  | .analogExchangeClose g => Sys2Proof.Machine.execAnalogExchangeClose g s
  | .digitalExchangeClose => Sys2Proof.Machine.execDigitalExchangeClose s
  | .plausibilityFault ch => Sys2Proof.Machine.execPlausibilityFault ch s
  | .outlierFault c ch => Sys2Proof.Machine.execOutlierFault c ch s
  | .missingSamplesFault c => Sys2Proof.Machine.execMissingSamplesFault c s
  | .deliveryOpen => Sys2Proof.Machine.execDeliveryOpen s
  | .agreed c h m => Sys2Proof.Machine.execAgreed c h m s
  | .drpPropose c h drpid d ev => Sys2Proof.Machine.execDrpPropose c h drpid d ev s
  | .drpReplace c h drpid d ev => Sys2Proof.Machine.execDrpReplace c h drpid d ev s
  | .drpConfirm c h drpid => Sys2Proof.Machine.execDrpConfirm c h drpid s
  | .deliveryRetirePoint c => Sys2Proof.Machine.execDeliveryRetirePoint c s
  | .retrepPeriodic c h retire drpid => Sys2Proof.Machine.execRetrepPeriodic c h retire drpid s
  | .retrepAccept c h retire drpid => Sys2Proof.Machine.execRetrepAccept c h retire drpid s
  | .retrepOverrun c h retire drpid => Sys2Proof.Machine.execRetrepOverrun c h retire drpid s
  | .tick c frame tdep per lat tofs a => Sys2Proof.Machine.execTick c frame tdep per lat tofs a s
  | .tickExtrapolate c => Sys2Proof.Machine.execTickExtrapolate c s
  | .cfgbc c h part gen target body => Sys2Proof.Machine.execCfgbc c h part gen target body s
  | .corerel c h frame relset gen level => Sys2Proof.Machine.execCorerel c h frame relset gen level s
  | .linkcfg c h tmr => Sys2Proof.Machine.execLinkcfg c h tmr s
  | .idle e c h grant => Sys2Proof.Machine.execIdle e c h grant s
  | .grant c h g => Sys2Proof.Machine.execGrant c h g s
  | .rddata c h csn tag status w => Sys2Proof.Machine.execRddata c h csn tag status w s
  | .wrack c h csn tag status => Sys2Proof.Machine.execWrack c h csn tag status s
  | .line0 c h tag status ws => Sys2Proof.Machine.execLine0 c h tag status ws s
  | .line1 c h tag status ws => Sys2Proof.Machine.execLine1 c h tag status ws s
  | .lstatFrameReport c h m => Sys2Proof.Machine.execLstatFrameReport c h m s
  | .lstatEventReport c h cause retire detail => Sys2Proof.Machine.execLstatEventReport c h cause retire detail s
  | .dbgcmd c h op dcid arg data => Sys2Proof.Machine.execDbgcmd c h op dcid arg data s
  | .dbgrsp c h op dcid result value retire => Sys2Proof.Machine.execDbgrsp c h op dcid result value retire s
  | .integerOp c op compressed => Sys2Proof.Machine.execIntegerOp c op compressed s
  | .load c k rd rs1 off compressed => Sys2Proof.Machine.execLoad c k rd rs1 off compressed s
  | .store c k rs1 rs2 off compressed => Sys2Proof.Machine.execStore c k rs1 rs2 off compressed s
  | .call c f compressed => Sys2Proof.Machine.execCall c f compressed s
  | .ret c rd rs1 off compressed => Sys2Proof.Machine.execRet c rd rs1 off compressed s
  | .fence c => Sys2Proof.Machine.execFence c s
  | .fenceI c => Sys2Proof.Machine.execFenceI c s
  | .ecall c => Sys2Proof.Machine.execEcall c s
  | .ebreak c compressed => Sys2Proof.Machine.execEbreak c compressed s
  | .gate c n => Sys2Proof.Machine.execGate c n s
  | .xretTrap c => Sys2Proof.Machine.execXretTrap c s
  | .xretGate c => Sys2Proof.Machine.execXretGate c s
  | .wswitch c rs1 ring bmode => Sys2Proof.Machine.execWswitch c rs1 ring bmode s
  | .hush c => Sys2Proof.Machine.execHush c s
  | .unhush c => Sys2Proof.Machine.execUnhush c s
  | .eventEntry c => Sys2Proof.Machine.execEventEntry c s
  | .hushOverrun c => Sys2Proof.Machine.execHushOverrun c s
  | .retireLoRead c f => Sys2Proof.Machine.execRetireLoRead c f s
  | .reqerrRead c f => Sys2Proof.Machine.execReqerrRead c f s
  | .reqerrWrite c f => Sys2Proof.Machine.execReqerrWrite c f s
  | .sspWrite c n f => Sys2Proof.Machine.execSspWrite c n f s
  | .gtbaseWrite c tin f => Sys2Proof.Machine.execGtbaseWrite c tin f s
  | .csrWrite c csr f => Sys2Proof.Machine.execCsrWrite c csr f s
  | .icacheScrub c => Sys2Proof.Machine.execIcacheScrub c s
  | .qadd c sv rs2 rs1 rd => Sys2Proof.Machine.execQadd c sv rs2 rs1 rd s
  | .qsub c sv rs2 rs1 rd => Sys2Proof.Machine.execQsub c sv rs2 rs1 rd s
  | .qmul c sv rs2 rs1 rm rd => Sys2Proof.Machine.execQmul c sv rs2 rs1 rm rd s
  | .qshl c sv rs2 rs1 rd => Sys2Proof.Machine.execQshl c sv rs2 rs1 rd s
  | .qshr c rs2 rs1 rm rd => Sys2Proof.Machine.execQshr c rs2 rs1 rm rd s
  | .pack c sv rs2 rs1 rm rd => Sys2Proof.Machine.execPack c sv rs2 rs1 rm rd s
  | .padd c sv rs2 rs1 rd => Sys2Proof.Machine.execPadd c sv rs2 rs1 rd s
  | .psub c sv rs2 rs1 rd => Sys2Proof.Machine.execPsub c sv rs2 rs1 rd s
  | .pmul c sv rs2 rs1 rm rd => Sys2Proof.Machine.execPmul c sv rs2 rs1 rm rd s
  | .mac c sv rs2 rs1 => Sys2Proof.Machine.execMac c sv rs2 rs1 s
  | .msu c sv rs2 rs1 => Sys2Proof.Machine.execMsu c sv rs2 rs1 s
  | .mul0 c rs2 rs1 => Sys2Proof.Machine.execMul0 c rs2 rs1 s
  | .pmac c sv rs2 rs1 => Sys2Proof.Machine.execPmac c sv rs2 rs1 s
  | .pmsc c sv rs2 rs1 => Sys2Proof.Machine.execPmsc c sv rs2 rs1 s
  | .pmacx c sv rs2 rs1 => Sys2Proof.Machine.execPmacx c sv rs2 rs1 s
  | .pmscx c sv rs2 rs1 => Sys2Proof.Machine.execPmscx c sv rs2 rs1 s
  | .accext c imm rd => Sys2Proof.Machine.execAccext c imm rd s
  | .accrdl c rd => Sys2Proof.Machine.execAccrdl c rd s
  | .accrdh c rd => Sys2Proof.Machine.execAccrdh c rd s
  | .accrdg c rd => Sys2Proof.Machine.execAccrdg c rd s
  | .accwrl c rs1 => Sys2Proof.Machine.execAccwrl c rs1 s
  | .accwrh c rs1 => Sys2Proof.Machine.execAccwrh c rs1 s
  | .accwrg c rs1 => Sys2Proof.Machine.execAccwrg c rs1 s
  | .accclr c => Sys2Proof.Machine.execAccclr c s
  | .accldq c rs1 => Sys2Proof.Machine.execAccldq c rs1 s
  | .sin c rs1 rd => Sys2Proof.Machine.execSin c rs1 rd s
  | .cos c rs1 rd => Sys2Proof.Machine.execCos c rs1 rd s
  | .atan2 c rs2 rs1 rd => Sys2Proof.Machine.execAtan2 c rs2 rs1 rd s
  | .sqrt c rs1 rd => Sys2Proof.Machine.execSqrt c rs1 rd s
  | .recip c rs2 rs1 rd => Sys2Proof.Machine.execRecip c rs2 rs1 rd s
  | .exp2 c rs1 rd => Sys2Proof.Machine.execExp2 c rs1 rd s
  | .flashJobUnitDone programmed enc => Sys2Proof.Machine.execFlashJobUnitDone programmed enc s
  | .flashJobEnd => Sys2Proof.Machine.execFlashJobEnd s
  | .flashReadWindow src addr => Sys2Proof.Machine.execFlashReadWindow src addr s
  | .sramScrub => Sys2Proof.Machine.execSramScrub s
  | .retentionRefresh => Sys2Proof.Machine.execRetentionRefresh s
  | .ueClear src retn => Sys2Proof.Machine.execUeClear src retn s
  | .pwmPeriodStart n => Sys2Proof.Machine.execPwmPeriodStart n s
  | .driveOverrun n => Sys2Proof.Machine.execDriveOverrun n s
  | .observerLoss n => Sys2Proof.Machine.execObserverLoss n s
  | .ocComparator n code => Sys2Proof.Machine.execOcComparator n code s
  | .ocBlankingEnd n => Sys2Proof.Machine.execOcBlankingEnd n s
  | .ovComparator n code => Sys2Proof.Machine.execOvComparator n code s
  | .trackerEvent n ph rising t => Sys2Proof.Machine.execTrackerEvent n ph rising t s
  | .trackerInvalid n => Sys2Proof.Machine.execTrackerInvalid n s
  | .fanPwmPeriod ix => Sys2Proof.Machine.execFanPwmPeriod ix s
  | .tachEdge ix t => Sys2Proof.Machine.execTachEdge ix t s
  | .fanLoopTick => Sys2Proof.Machine.execFanLoopTick s
  | .fanStall ix => Sys2Proof.Machine.execFanStall ix s
  | .fanRetryoffEnd ix => Sys2Proof.Machine.execFanRetryoffEnd ix s
  | .fanKickEnd ix => Sys2Proof.Machine.execFanKickEnd ix s
  | .fanRcntClear ix => Sys2Proof.Machine.execFanRcntClear ix s
  | .fanOverrun => Sys2Proof.Machine.execFanOverrun s
  | .fanPlausWindow ix => Sys2Proof.Machine.execFanPlausWindow ix s
  | .gpoBbmOn ix => Sys2Proof.Machine.execGpoBbmOn ix s
  | .gpoReadbackMismatch ix drainHigh => Sys2Proof.Machine.execGpoReadbackMismatch ix drainHigh s
  | .gpoOvercurrent ix => Sys2Proof.Machine.execGpoOvercurrent ix s
  | .puffballEntry => Sys2Proof.Machine.execPuffballEntry s
  | .puffKickEnd => Sys2Proof.Machine.execPuffKickEnd s
  | .distressFrame => Sys2Proof.Machine.execDistressFrame s
  | .txcmdSubmit n w slot => Sys2Proof.Machine.execTxcmdSubmit n w slot s
  | .txcmdCancel n slot => Sys2Proof.Machine.execTxcmdCancel n slot s
  | .txcmdRecover n => Sys2Proof.Machine.execTxcmdRecover n s
  | .txSelect n sof => Sys2Proof.Machine.execTxSelect n sof s
  | .txComplete n => Sys2Proof.Machine.execTxComplete n s
  | .txArbitrationLost n => Sys2Proof.Machine.execTxArbitrationLost n s
  | .txError n lec => Sys2Proof.Machine.execTxError n lec s
  | .txDeadline n slot => Sys2Proof.Machine.execTxDeadline n slot s
  | .txGuardOverrun n slot => Sys2Proof.Machine.execTxGuardOverrun n slot s
  | .rxFrame n f sofTime => Sys2Proof.Machine.execRxFrame n f sofTime s
  | .rxError n k => Sys2Proof.Machine.execRxError n k s
  | .rxcmdPop n w => Sys2Proof.Machine.execRxcmdPop n w s
  | .rxDeadline n => Sys2Proof.Machine.execRxDeadline n s
  | .rxGuardOverrun n => Sys2Proof.Machine.execRxGuardOverrun n s
  | .busoffRecoveryStart n => Sys2Proof.Machine.execBusoffRecoveryStart n s
  | .busoffRecovered n => Sys2Proof.Machine.execBusoffRecovered n s
  | .canStop n => Sys2Proof.Machine.execCanStop n s
  | .partnerAgeTick => Sys2Proof.Machine.execPartnerAgeTick s
  | .partnerLeft e => Sys2Proof.Machine.execPartnerLeft e s
  | .vsupHBrownout => Sys2Proof.Machine.execVsupHBrownout s
  | .copySupplyBrownout c mv => Sys2Proof.Machine.execCopySupplyBrownout c mv s
  | .supplyOvervoltage ix mv => Sys2Proof.Machine.execSupplyOvervoltage ix mv s
  | .vioBrownout mv => Sys2Proof.Machine.execVioBrownout mv s
  | .holdsnsConversion mv sv => Sys2Proof.Machine.execHoldsnsConversion mv sv s
  | .ledgerMsTick => Sys2Proof.Machine.execLedgerMsTick s
  | .mainsLoss => Sys2Proof.Machine.execMainsLoss s
  | .mainsReturn => Sys2Proof.Machine.execMainsReturn s
  | .rideStepStart => Sys2Proof.Machine.execRideStepStart s
  | .ledgerAdmit => Sys2Proof.Machine.execLedgerAdmit s
  | .ledgerWaitTimeout => Sys2Proof.Machine.execLedgerWaitTimeout s
  | .ledgerGuardOverrun => Sys2Proof.Machine.execLedgerGuardOverrun s
  | .cvctlGo src v => Sys2Proof.Machine.execCvctlGo src v s
  | .capCheckSinkOn => Sys2Proof.Machine.execCapCheckSinkOn s
  | .capCheckEnd => Sys2Proof.Machine.execCapCheckEnd s
  | .lowPowerEntry => Sys2Proof.Machine.execLowPowerEntry s
  | .lowPowerStop => Sys2Proof.Machine.execLowPowerStop s
  | .dozeWake w => Sys2Proof.Machine.execDozeWake w s
  | .dozeClockRestored n => Sys2Proof.Machine.execDozeClockRestored n s
  | .hibernateWake => Sys2Proof.Machine.execHibernateWake s
  | .crystalOk => Sys2Proof.Machine.execCrystalOk s
  | .crystalTimeout => Sys2Proof.Machine.execCrystalTimeout s
  | .clockMonitorWindow count => Sys2Proof.Machine.execClockMonitorWindow count s
  | .hclkStop => Sys2Proof.Machine.execHclkStop s
  | .lfclkStop => Sys2Proof.Machine.execLfclkStop s
  | .rstNAssert => Sys2Proof.Machine.execRstNAssert s
  | .swrstCoreset src v => Sys2Proof.Machine.execSwrstCoreset src v s
  | .swrstHub src v => Sys2Proof.Machine.execSwrstHub src v s
  | .loaderLedger capnf vmin => Sys2Proof.Machine.execLoaderLedger capnf vmin s
  | .loaderErase addr => Sys2Proof.Machine.execLoaderErase addr s
  | .loaderProgram addr data => Sys2Proof.Machine.execLoaderProgram addr data s
  | .loaderRead addr => Sys2Proof.Machine.execLoaderRead addr s
  | .loaderOtpwrite addr w => Sys2Proof.Machine.execLoaderOtpwrite addr w s
  | .loaderJread seq => Sys2Proof.Machine.execLoaderJread seq s
  | .loaderBoot => Sys2Proof.Machine.execLoaderBoot s
  | .jtagIdcode => Sys2Proof.Machine.execJtagIdcode s
  | .jtagSamplePreload bits => Sys2Proof.Machine.execJtagSamplePreload bits s
  | .jtagExtest => Sys2Proof.Machine.execJtagExtest s
  | .jtagClamp => Sys2Proof.Machine.execJtagClamp s
  | .jtagBypass ir => Sys2Proof.Machine.execJtagBypass ir s
  | .dbgaccRead addr => Sys2Proof.Machine.execDbgaccRead addr s
  | .dbgaccWrite addr v => Sys2Proof.Machine.execDbgaccWrite addr v s
  | .unlockChallenge noise => Sys2Proof.Machine.execUnlockChallenge noise s
  | .unlockResponse r => Sys2Proof.Machine.execUnlockResponse r s
  | .dbgHalt src => Sys2Proof.Machine.execDbgHalt src s
  | .dbgReadReg src n => Sys2Proof.Machine.execDbgReadReg src n s
  | .dbgWriteReg src n => Sys2Proof.Machine.execDbgWriteReg src n s
  | .dbgReadCsr src n => Sys2Proof.Machine.execDbgReadCsr src n s
  | .dbgWriteCsr src n => Sys2Proof.Machine.execDbgWriteCsr src n s
  | .dbgReadPc src => Sys2Proof.Machine.execDbgReadPc src s
  | .dbgWritePc src => Sys2Proof.Machine.execDbgWritePc src s
  | .dbgResume src => Sys2Proof.Machine.execDbgResume src s
  | .dbgStep src n => Sys2Proof.Machine.execDbgStep src n s
  | .debugStepDone c => Sys2Proof.Machine.execDebugStepDone c s
  | .otpReadWindow src addr => Sys2Proof.Machine.execOtpReadWindow src addr s
  | .wdogKick src v => Sys2Proof.Machine.execWdogKick src v s
  | .wdogExpiry => Sys2Proof.Machine.execWdogExpiry s
  | .hubCrosscheckFault b => Sys2Proof.Machine.execHubCrosscheckFault b s
  | .supplyBackInRange ix mv => Sys2Proof.Machine.execSupplyBackInRange ix mv s
  | .retentionSupplyLoss => Sys2Proof.Machine.execRetentionSupplyLoss s
  | .illegalInstruction c iw => Sys2Proof.Machine.execIllegalInstruction c iw s
  | .resyncPatternDetect e c => Sys2Proof.Machine.execResyncPatternDetect e c s
  | .busIntegrationEnd n => Sys2Proof.Machine.execBusIntegrationEnd n s
  | .linkGuardOverrun c => Sys2Proof.Machine.execLinkGuardOverrun c s
  | .schedulerGuardOverrun => Sys2Proof.Machine.execSchedulerGuardOverrun s
  | .digitalAperture c lvl => Sys2Proof.Machine.execDigitalAperture c lvl s

end Sys2Proof.Machine
end

