-- ==== Sys2Proof/Safety.lean ====
section
/-! DEFINITION. Safety.lean: what a safe state of the device is, in the terms that the statements use (R292, R293, R453,
R465). -/

namespace Sys2Proof.Machine

open Sys2Proof

/-- No switch of drive `n` is commanded on by its PWM: the drive is tripped, or its PWM does not run. -/
def Dev.driveHeld (d : Dev) (n : DrvId) : Bool := d.tstate n != 0 || !(d.drive n).periodOn

/-- Every output group is held as R453 says for DEV: the drives tripped, the fans that Puffball does not own at their off
level, every switched output off, SAFE_n not high. -/
def Dev.outputsHeld (d : Dev) : Bool :=
  drvIds.all d.driveHeld && fanIds.all (fun i => d.fanDesignated i.val || d.fanStopped i)
    && (List.range 8).all (fun i => !(d.gpoCh i).on) && d.safeBall != .high

/-- Every memory and register store is in its canonical form. -/
def Dev.storesWf (d : Dev) : Bool :=
  d.memWf && mapWf regReset d.regs && mapWf regReset d.shadow && mapWf regReset d.banked

/-- The device has no power, or is dead after reaction X (R389, R446). -/
def Dev.inert (d : Dev) : Bool := d.phase == .off || d.phase == .dead

/-! The words of the statements about the cores. -/

/-- Command `i` completes: its answer is a next state whose queue is as it was and whose device satisfies `P`. -/
def Completes (i : Instr) (s : State) (P : Dev → Prop) : Prop :=
  ∃ d, exec i s = .next { s with dev := d } ∧ P d

/-- Command `i` completes, and of the whole device only copy `c` is another: it becomes a `y` that satisfies `P`. -/
def CopyStep (i : Instr) (s : State) (c : CopyId) (P : Copy → Prop) : Prop :=
  ∃ y, exec i s = .next { s with dev := s.dev.updCopy c (fun _ => y) } ∧ P y

/-- The copy executes an instruction of `len` bytes now: it may execute, waits for nothing, and its instruction cache
delivers every word of the instruction (R177, R178, R181, R193). -/
def Copy.fetched (x : Copy) (len : Nat) : Prop :=
  x.ready = true ∧ x.wait = .none ∧ (Copy.fetchWords (instrWords x.pc len) x).2 = .ready

/-- The copy without what every retirement may change: the general registers, the PC, the instruction count, the hush
count, the entry mark, the step count, the instruction cache, the report counters and the link's send side. -/
def Copy.masked (x : Copy) : Copy :=
  { x with x := Vector.replicate 32 0, pc := 0, retire := 0, hushCnt := 0, entering := none, step := none,
           icache := ⟨[], []⟩, stats := Dev.statsReset, side := Dev.sideReset CopyFlit }

/-- From `x` to `y` register `rd` takes `v`, x0 stays 0, and every other register is as it was (R173). -/
def Copy.wrote (x y : Copy) (rd : BitVec 5) (v : Word) : Prop :=
  ∀ r, y.xr r = if r = 0 then 0 else if r = rd then v else x.xr r

/-- From `x` to `y` one instruction has retired and the next is at `pc` (R187, R217); the link's send side changes only at
a RETREP, every 64 instructions. -/
def Copy.retired (x y : Copy) (pc : Word) : Prop :=
  y.pc = pc ∧ y.retire = x.retire + 1 ∧ y.hushCnt = (if y.hush then x.hushCnt + 1 else 0) ∧ y.entering = none
    ∧ ((x.retire + 1).toNat % 64 ≠ 0 → y.side = x.side)

/-- The instruction ends by writing `v` to `rd` and going on at `pc`, and changes nothing else. -/
def WritesRd (i : Instr) (s : State) (c : CopyId) (rd : BitVec 5) (v pc : Word) : Prop :=
  CopyStep i s c (fun y => (s.dev.copy c).wrote y rd v ∧ (s.dev.copy c).retired y pc ∧ y.masked = (s.dev.copy c).masked)

/-- The instruction retires with the next one behind it and leaves the registers; `x1` is the copy with what it changes
besides. -/
def RetiresAs (i : Instr) (s : State) (c : CopyId) (len : Nat) (x1 : Copy) : Prop :=
  CopyStep i s c (fun y => (s.dev.copy c).wrote y 0 0 ∧ (s.dev.copy c).retired y ((s.dev.copy c).pc + toWord len)
    ∧ y.masked = x1.masked)

/-- The copy can take a synchronous cause in its own world at once: no response is outstanding, the entry before is over,
no refusal is recorded, and the world's bank is free (R194, R202, R213, R222). -/
def Copy.canTrap (x : Copy) : Prop :=
  x.drained = true ∧ x.entering = none ∧ x.refusals x.world = 0 ∧ x.busy x.world = false ∧ x.dflt x.world = false

/-- Step 5 of R213 changes nothing on an entry into `w`: the copy is in ring 0 of `w`, or the locked gate table of `w`
names no stack. -/
def Copy.keepsStack (x : Copy) (e : Env) (w : World) : Prop :=
  (x.world = w ∧ x.ring = 0) ∨ x.trapStack e w = some none

/-- The copy has entered `w` with `code` (R213): what the trap registers hold, status, PC, and what stays. -/
def Copy.entered (x y : Copy) (w : World) (code : Nat) (int : Bool) (eval : Word) (aux : DWord) : Prop :=
  y.world = w ∧ y.ring = 0 ∧ y.hush = true ∧ y.bmode = 0 ∧ y.pc = vectorOf w code ∧ y.busy w = true
    ∧ (y.bank w).estatus = x.status6 ∧ (y.bank w).epc = x.pc &&& 0xFFFFFFFE
    ∧ (y.bank w).ecause = toWord (code + 0x80000000 * boolNat int) ∧ (y.bank w).eval = eval ∧ (y.bank w).aux = aux
    ∧ y.retire = x.retire ∧ y.acc = x.acc ∧ y.bstat = x.bstat ∧ y.csn = x.csn ∧ y.dcache = x.dcache
    ∧ (y.bank w).reqerr = (x.bank w).reqerr ∧ (y.bank w).retireLatch = (x.bank w).retireLatch
    ∧ (∀ r, y.xr r = x.xr r)

/-- The instruction ends in the synchronous entry of its own world with `code`, and does not retire. -/
def TrapsWith (i : Instr) (s : State) (c : CopyId) (code : Nat) (eval : Word) (aux : DWord) : Prop :=
  (s.dev.copy c).canTrap → (s.dev.copy c).keepsStack s.dev.env (s.dev.copy c).world →
    CopyStep i s c (fun y => (s.dev.copy c).entered y (s.dev.copy c).world code false eval aux)

/-- A Bronze instruction that may execute (R230) with result `r` for `rd`: without OVF and DOM, or with BMODE 0b01, rd takes
the result and the flags become sticky; with BMODE 0b10 an OVF or DOM traps with nothing written (R237, R238). -/
def BronzeRd (i : Instr) (s : State) (c : CopyId) (iw : Word) (rd : BitVec 5) (r : Word × Nat) : Prop :=
  let x := s.dev.copy c
  ((x.bmode = 1 ∨ (x.bmode = 2 ∧ r.2 % 2 = 0 ∧ r.2 / 4 % 2 = 0)) →
    CopyStep i s c (fun y => x.wrote y rd r.1 ∧ x.retired y (x.pc + 4)
      ∧ y.masked = ({ x with bstat := x.bstat ||| toWord (r.2 % 8) } : Copy).masked))
  ∧ ((x.bmode = 2 ∧ ¬ (r.2 % 2 = 0 ∧ r.2 / 4 % 2 = 0)) →
    TrapsWith i s c 8 iw (BitVec.ofNat 64 (r.1.toNat + r.2 * 2 ^ 32)))

/-- The same for a result `v` of ACC, checked against 72 bits (R237, R238). -/
def BronzeAcc (i : Instr) (s : State) (c : CopyId) (iw : Word) (sat : Bool) (v : Int) : Prop :=
  let x := s.dev.copy c
  let r := rangeCheck 72 sat v
  ((x.bmode = 1 ∨ (x.bmode = 2 ∧ r.flags % 2 = 0)) →
    CopyStep i s c (fun y => x.wrote y 0 0 ∧ x.retired y (x.pc + 4)
      ∧ y.masked = ({ x with acc := BitVec.ofInt 72 r.val, bstat := x.bstat ||| toWord r.flags } : Copy).masked))
  ∧ ((x.bmode = 2 ∧ r.flags % 2 = 1) →
    TrapsWith i s c 8 iw (BitVec.ofNat 64 (r.flags * 2 ^ 32 + 2 ^ 35)))

/-- The data cache holds word `w` for address `a` (R183). -/
def Copy.holdsWord (x : Copy) (a : Word) (w : CWord) : Prop := ∃ k l, x.dcGet a = some (k, l, w)

/-- The current ring's stack of the copy. -/
def Copy.curStack (x : Copy) : SStack := x.stack x.world x.ring

/-- Nothing stops the copy at a synchronization point of its own world: every response is there and none was refused
(R194). -/
def Copy.settled (x : Copy) : Prop := x.drained = true ∧ x.refusals x.world = 0

/-- The copy could execute (R89, R164, R212, R224), waits for nothing, and no debug entry is due. -/
def Copy.idleReady (x : Copy) : Prop := x.runs = true ∧ x.wait = .none ∧ x.stalled = false ∧ x.dbgDue = false

/-- The request that the copy issues next for the instruction that executes (R127, R192): its next CSN, its lowest free tag,
the instruction's retire count, world and ring, and the class of the world. -/
def Copy.nextReq (x : Copy) (ty : ReqType) (be : BitVec 4) (addr data : Word) (code : BitVec 7) (rcrc : Byte) (use : RespUse) :
    Outst :=
  { tag := x.freeTag, ty := ty, use := use, line0 := none,
    req := ⟨x.csn, x.retire, x.freeTag, x.world, x.ring, x.clsOf x.world, false, be, addr, data, code, rcrc⟩ }

/-! The words of the statements about the links. -/

/-- Command `i` completes, and of the whole device only the hub's end of link `c` is another. -/
def LinkStep (i : Instr) (s : State) (c : CopyId) (P : HubLink → Prop) : Prop :=
  ∃ L, exec i s = .next { s with dev := s.dev.updLink c (fun _ => L) } ∧ P L

/-- Copy `c` accepts a sequenced flit with header `h`: its link is active and the SEQ is the expected one (R114). -/
def Dev.copyAccepts (d : Dev) (c : CopyId) (h : Hdr) : Prop :=
  (d.copy c).powered = true ∧ (d.copy c).link = .active ∧ h.seq = (d.copy c).side.expSeq

/-- Copy `c` after it has taken the header of an accepted flit (R114 to R116). -/
def Dev.acceptedCopy (d : Dev) (c : CopyId) (h : Hdr) : Copy :=
  let x := (d.copy c).takeAck h.ack d.now
  { x with side := x.side.accept d.now (tmrAckt x.tmr) }

/-- The hub accepts a sequenced flit of copy `c` with header `h` (R114). -/
def Dev.hubAccepts (d : Dev) (c : CopyId) (h : Hdr) : Prop :=
  d.lstate c = 7 ∧ h.seq = (d.link c).side.expSeq

/-- The device after the hub has taken the header of an accepted flit of copy `c` (R114 to R116). -/
def Dev.acceptedHub (d : Dev) (c : CopyId) (h : Hdr) : Dev :=
  let d1 := d.hubAck c h.ack
  d1.updLink c (fun L => { L with side := L.side.accept d1.now (tmrAckt d1.hubTmr) })

/-! The words of the statements about deliveries, pages and debug. -/

/-- The sender keeps flit `f` until it is acknowledged: it waits in the queue or is unacknowledged (R117, R120). -/
def LinkSide.holds {F : Type} (x : LinkSide F) (f : F) : Prop := (∃ c, (c, f) ∈ x.queue) ∨ ∃ q, (q, f) ∈ x.unacked

/-- A write of `src` to register `k` reaches the register: the hub runs, the port is open to a JTAG requester, the page
exists, no safe state holds the writer back, and the page's guard permits it (R42, R57, R294, R359, R437). -/
def Dev.letsWrite (d : Dev) (src : Src) (k : Nat) : Prop :=
  d.live = true ∧ d.canReach src = true ∧ d.absentPage (k / 0x1000) = false ∧ d.heldBack src k = false
    ∧ d.guardOk (k / 0x1000) src true = true

/-- Every register but those of `ks` is as it was. -/
def Dev.keepsRegs (d e : Dev) (ks : List Nat) : Prop := ∀ k, k ∉ ks → e.reg k = d.reg k


/-! The words of the statements about the hub's units. -/

/-- The journal has taken an entry of this kind and page: it is in the queue, or it waits for its place (R60, R63). -/
def Dev.journaled (d : Dev) (kind page : Nat) (new prev : Word) : Prop :=
  ∃ e : JEntry, (e ∈ d.jrn.queue ∨ ∃ w ∈ d.jrn.waiting, e ∈ w.entries) ∧ e.kind = BitVec.ofNat 8 kind
    ∧ e.page = BitVec.ofNat 6 page ∧ e.new = new ∧ e.prev = prev

/-- The page shows `code` as its last fault, and the journal has its FAULT entry (R68, R450). -/
def Dev.faulted (d : Dev) (page code : Nat) (detail : Word) : Prop :=
  d.rfld (Reg.pgFault page) 31 24 = code ∧ d.journaled 7 page (toWord code) detail

/-- A HUB-scope reset with source `src` (R390, R425, R426, R429): what it keeps, and that everything else starts anew. -/
def Dev.restarted (d e : Dev) (src : Nat) : Prop :=
  e.rfld Reg.rst_LAST 7 0 = src ∧ e.now = 0 ∧ e.phaseDue = 8000 ∧ e.cs = .idle ∧ e.frames = false ∧ e.frnum = d.frnum
    ∧ (∀ c, e.copy c = Dev.copyReset) ∧ (∀ c, e.link c = Dev.linkReset) ∧ e.cmp = [] ∧ e.flash = none ∧ e.ledger.jobs = []
    ∧ (∀ a, keepsMem a = true → e.byte a = d.byte a ∧ e.code a = d.code a)
    ∧ (∀ a, isSram a = true → e.byte a = Config.sramPowerOn a)
    ∧ (∀ k, k ∉ retainedKeys → e.reg k = regReset k)
    ∧ e.reg Reg.jrnl_HEAD = d.reg Reg.jrnl_HEAD ∧ e.reg Reg.jrnl_COUNT = d.reg Reg.jrnl_COUNT
    ∧ (∀ i : Fin 8, e.reg (Reg.ledger_ECNT i.val) = d.reg (Reg.ledger_ECNT i.val))

/-- The device has no power (R389): everything is at rest, and only what a loss of power keeps may differ from reset (R390,
R426). -/
def Dev.unpowered (d : Dev) : Prop :=
  d.phase = .off ∧ (∀ k, k ∉ retainedKeys → d.reg k = regReset k)
    ∧ d = { Dev.reset with regs := d.regs, shadow := d.shadow, mem := d.mem, codes := d.codes, freeCtr := d.freeCtr, frnum := d.frnum, jdup := d.jdup, flopp := d.flopp, floppDst := d.floppDst, refreshW := d.refreshW, phaseDue := d.phaseDue, jtag := d.jtag, ledger := { Dev.ledgerReset with resid := d.ledger.resid }, boot := { Dev.reset.boot with resetSrc := d.boot.resetSrc } }

/-- The device has no power, and no command that waits gives it any. -/
def State.dark (s : State) : Prop := s.dev.unpowered ∧ .powerOn ∉ s.pending

/-- Copy `c` has its regulator on and is in reset (R227, R435). -/
def Dev.copyStarts (d : Dev) (c : CopyId) : Prop :=
  (d.copy c).powered = true ∧ (d.copy c).released = false ∧ (d.copy c).time.rho = rhoNom d.clk.strap
    ∧ (d.link c).cache = [] ∧ (d.link c).grant = 0

end Sys2Proof.Machine
end

