-- ==== Sys2Proof/Certificates/Slice0/Obligations.lean ====
section
/-! DEFINITION. Certificates/Slice0/Obligations.lean: the statements about the block. A command of a block is what the rules
call by its mnemonic; `Completes`, `CopyStep` and `LinkStep` say that it answers a next state, and what that state holds. -/

open Sys2Proof Sys2Proof.Machine

/-- A step takes the command at the front of the queue and is that command's effect on the device, with the queue's
rest; a step of an empty queue with HCLK stopped changes nothing, and with HCLK running and no event report waiting to
be judged it counts TIME on by one and changes nothing else (that an HCLK passes on an empty queue is the model's
choice, assumption 1). -/
def Obligations.StepRunsFront : Prop :=
  (∀ (c : Instr) (s : State), step { s with pending := c :: s.pending } = exec c s) ∧
  (∀ (c : Instr) (s : State), ∃ d, exec c s = .next { s with dev := d }) ∧
  (∀ s : State, s.pending = [] → s.dev.clockRuns = false → step s = .next s) ∧
  (∀ s : State, s.pending = [] → s.dev.clockRuns = true → s.dev.agr.reports = [] →
    step s = .next { s with dev := { s.dev with time := s.dev.time + 1 } })

/-- After reset no command waits, the device has no power, and a register reads the value that its table gives for
reset: one register of each kind of page shows it; memory lists nothing, and journal memory reads as the model chooses
(assumption 5). That reset is the state before the first power is the model's reading (assumption 1). The device after
reset has no power, no command gives it any, and its memories are in their canonical form. -/
def Obligations.ResetState : Prop :=
  ((State.reset.pending = [] ∧ State.reset.dev.phase = .off ∧ State.reset.dev.mem = [] ∧ State.reset.dev.codes = [] ∧
  State.reset.dev.level = 2 ∧ State.reset.dev.devLatch = true ∧
  (∀ e ∈ [(Reg.sys_SVCLVL, 2#32), (Reg.jrnl_ADM_WIN, 0x10), (Reg.ledger_VMIN, 4000), (Reg.ledger_HRZ, 0xFFFFFFFF),
      (Reg.pwr_WAKECFG, 3), (Reg.link_TMR, 0x32045190), (Reg.link_CFG, 0x21), (Reg.agree_CFG, 0x01000041),
      (Reg.release_LATCH, 1), (Reg.release_RSTCFG, 0x00100003), (Reg.flash_OPCTL, 0x20000000), (Reg.guard_ACC 0, 0x101),
      (Reg.drv_TSTAT 0, 0x40), (Reg.drv_DTCTL 1, 0x3200), (Reg.drv_MSTAT 2, 0x18), (Reg.fan_CFG 3, 0x01F4F204),
      (Reg.can_NBTR 0, 0x1EFC7C00), (Reg.wdog_CFG, 64), (Reg.wdog_STAT, 0x5AF0)],
    State.reset.dev.reg e.1 = e.2)) ∧
  (State.reset.dark ∧ State.reset.dev.storesWf = true))

/-- A device without power stays without power: whatever command waits, but POWER_ON, a step leaves everything at rest,
every memory and every register but RETN.STAT as it was, and time does not pass (R389, R390, R430). -/
def Obligations.DarkStays : Prop :=
  ∀ s t : State, s.dark → step s = .next t → t.dark ∧ t.dev.mem = s.dev.mem ∧ t.dev.codes = s.dev.codes ∧
    s.dev.keepsRegs t.dev [Reg.retn_STAT] ∧ t.dev.frnum = s.dev.frnum ∧ t.dev.jtag = s.dev.jtag

/-- The stored code: the checker decides by the syndrome as R252 says, and so every single wrong bit of a word or of its
code is corrected, and every two wrong bits of a word and every wrong bit of its address are found uncorrectable. What
an erased flash word is, R259 says, and the model reads it as uncorrectable (assumption 8): it is left out here. -/
def Obligations.StoredCode : Prop :=
  ∀ (w a : Word) (c : BitVec 7),
    let erased (v : Word) (k : BitVec 7) : Prop := a.toNat < 0x400000 ∧ v = 0xFFFFFFFF ∧ k = 0x7F
    let s := c ^^^ ecc w a
    let own := ecc w a
    let dc (i : Nat) : BitVec 7 := BitVec.ofNat 7 (listGet 0 dcTable i)
    (¬ erased w c →
      (s = 0 → checkWord w c a = .ok) ∧ (∀ j : Fin 7, s = 1#7 <<< j.val → checkWord w c a = .corrected w) ∧
      (∀ i : Fin 32, s = dc i.val → checkWord w c a = .corrected (w ^^^ 1#32 <<< i.val)) ∧
      (s ≠ 0 → (∀ j : Fin 7, s ≠ 1#7 <<< j.val) → (∀ i : Fin 32, s ≠ dc i.val) → checkWord w c a = .bad)) ∧
    (∀ i : Fin 32, ¬ erased (w ^^^ 1#32 <<< i.val) own → checkWord (w ^^^ 1#32 <<< i.val) own a = .corrected w) ∧
    (∀ i j : Fin 32, i ≠ j → checkWord (w ^^^ 1#32 <<< i.val ^^^ 1#32 <<< j.val) own a = .bad) ∧
    (∀ k : Fin 32, 2 ≤ k.val → checkWord w own (a ^^^ 1#32 <<< k.val) = .bad) ∧
    (∀ k : Fin 32, k.val < 2 → ecc w (a ^^^ 1#32 <<< k.val) = own)

/-- INTEGER_OP completes whenever the copy executes it: rd takes the value that RV32IM gives the operation, the branch
or jump goes where it says, and everything else of the copy, of the other copies and of the device stays (R173, R187).
The arithmetic of the M extension: the two halves of a product are the exact product, a quotient and its remainder
rebuild the dividend, and a division by zero does not trap (model's reading of the published RV32M, assumption 23). -/
def Obligations.IntegerOps : Prop :=
  ((∀ (s : State) (c : CopyId) (b : Bool), (s.dev.copy c).fetched (instrLen b) →
    let x := s.dev.copy c
    let n := x.pc + toWord (instrLen b)
    (∀ rd imm, WritesRd (.integerOp c (.lui rd imm) b) s c rd (imm.setWidth 32 <<< 12) n) ∧
    (∀ rd imm, WritesRd (.integerOp c (.auipc rd imm) b) s c rd (x.pc + (imm.setWidth 32 <<< 12)) n) ∧
    (∀ op rd rs1 rs2, WritesRd (.integerOp c (.reg op rd rs1 rs2) b) s c rd (aluVal op (x.xr rs1) (x.xr rs2)) n) ∧
    (∀ op rd rs1 imm, immForm op imm = true →
      WritesRd (.integerOp c (.imm op rd rs1 imm) b) s c rd (aluVal op (x.xr rs1) (imm.signExtend 32)) n) ∧
    (∀ op rs1 rs2 off, WritesRd (.integerOp c (.branch op rs1 rs2 off) b) s c 0 0
      (if branchTaken op (x.xr rs1) (x.xr rs2) then x.pc + off.signExtend 32 else n)) ∧
    (∀ rd off, isLink rd = false → WritesRd (.integerOp c (.jal rd off) b) s c rd n (x.pc + off.signExtend 32)) ∧
    (∀ rd rs1 off, isLink rd = false → jalrPops rd rs1 = false →
      WritesRd (.integerOp c (.jalr rd rs1 off) b) s c rd n ((x.xr rs1 + off.signExtend 32) &&& 0xFFFFFFFE))) ∧
  (∀ a b : Word,
    (aluVal .mulhu a b ++ aluVal .mul a b : BitVec 64).toNat = a.toNat * b.toNat ∧
    (aluVal .mulh a b ++ aluVal .mul a b : BitVec 64).toInt = a.toInt * b.toInt ∧
    (aluVal .mulhsu a b ++ aluVal .mul a b : BitVec 64).toInt = a.toInt * b.toNat ∧
    aluVal .divu a b * b + aluVal .remu a b = a ∧ aluVal .div a b * b + aluVal .rem a b = a ∧
    (b ≠ 0 → (aluVal .remu a b).toNat < b.toNat) ∧
    (b = 0 → aluVal .div a b = 0xFFFFFFFF ∧ aluVal .divu a b = 0xFFFFFFFF)))

/-- LOAD: a hit in the data cache writes rd at once and still sends its READ; a miss or an uncached address sends the
READ and waits; a misaligned address and one outside R176 trap. STORE: a posted WRITE with the lanes, the data and the
code of the word goes out, the instruction retires, and no register changes; a store to SRAM also updates the data
cache; a misaligned address and one outside R176 trap. -/
def Obligations.LoadsAndStores : Prop :=
  ((∀ (s : State) (c : CopyId) (k : LoadKind) (rd rs1 : BitVec 5) (off : BitVec 12) (b : Bool),
    (s.dev.copy c).fetched (instrLen b) →
    let x := s.dev.copy c
    let a := x.xr rs1 + off.signExtend 32
    let i : Instr := .load c k rd rs1 off b
    let o (u : RespUse) : Outst := x.nextReq .read 0xF (a &&& 0xFFFFFFFC) 0 0 0 u
    (a.toNat % loadSize k = 0 → canLoad a.toNat = true → x.room 1 = true →
      (∀ w, isCached a.toNat = true → (x.dcLoad a).2 = some w →
        CopyStep i s c (fun y => x.wrote y rd (loadVal k a w.data) ∧ y.pc = x.pc + toWord (instrLen b) ∧
          y.retire = x.retire + 1 ∧ y.wait = .none ∧ y.csn = x.csn + 1 ∧ y.issued = x.issued + 1 ∧
          y.out = x.out ++ [o (.loadHit (a &&& 0xFFFFFFFC) w)])) ∧
      ((isCached a.toNat = true → (x.dcLoad a).2 = none) →
        CopyStep i s c (fun y => x.wrote y 0 0 ∧ y.pc = x.pc ∧ y.retire = x.retire ∧ y.wait = .load (instrLen b) ∧
          y.csn = x.csn + 1 ∧ y.issued = x.issued + 1 ∧
          y.out = x.out ++ [o (.loadWait k rd a (isCached a.toNat))]))) ∧
    (a.toNat % loadSize k ≠ 0 → TrapsWith i s c 2 a 0) ∧
    (a.toNat % loadSize k = 0 → canLoad a.toNat = false → TrapsWith i s c 3 a 0)) ∧
  (∀ (s : State) (c : CopyId) (k : StoreKind) (rs1 rs2 : BitVec 5) (off : BitVec 12) (b : Bool),
    (s.dev.copy c).fetched (instrLen b) →
    let x := s.dev.copy c
    let a := x.xr rs1 + off.signExtend 32
    let v := laneData a (x.xr rs2) (storeSize k)
    let i : Instr := .store c k rs1 rs2 off b
    (a.toNat % storeSize k = 0 → canStore a.toNat = true → x.room 1 = true →
      CopyStep i s c (fun y => x.wrote y 0 0 ∧ y.pc = x.pc + toWord (instrLen b) ∧ y.retire = x.retire + 1 ∧
        y.wait = .none ∧ y.csn = x.csn + 1 ∧ y.issued = x.issued + 1 ∧
        y.out = x.out ++ [x.nextReq .write (laneMask a (storeSize k)) a v (ecc v a)
          (if isPages a.toNat then rcrcOf a v else 0) (.posted false)] ∧
        (isSram a.toNat = false → y.dcache = x.dcache) ∧
        (isSram a.toNat = true → laneMask a (storeSize k) = 0xF → (∀ j l, x.dcFind a = some (j, l) → l.words.length = 8) →
          y.holdsWord a ⟨v, ecc v (a &&& 0xFFFFFFFC)⟩))) ∧
    (a.toNat % storeSize k ≠ 0 → TrapsWith i s c 2 a 0) ∧
    (a.toNat % storeSize k = 0 → canStore a.toNat = false → TrapsWith i s c 3 a 0)))

/-- CALL: the return address goes to rd and on top of the ring's shadow stack, and the copy goes on at the target; a
full stack first spills its eight oldest entries as sixteen posted writes; an overflow past record 128 faults with cause
7 (R219, R220, R228). RETURN: the top entry is popped and compared; a call entry with the target's address retires and
goes there, pushing again where rd is the other link register; another entry, or none, is a control-flow fault that pops
nothing; records that are left in memory are read first (R219, R220, R228). -/
def Obligations.CallsAndReturns : Prop :=
  ((∀ (s : State) (c : CopyId) (f : CallForm) (b : Bool), (s.dev.copy c).fetched (instrLen b) → callForm f = true →
    let x := s.dev.copy c
    let link := x.pc + toWord (instrLen b)
    let st := x.curStack
    let full : Bool := decide (32 < st.top.length + 1)
    let rd : BitVec 5 := match f with | .jal rd _ => rd | .jalr rd _ _ => rd
    let target : Word := match f with
      | .jal _ off => x.pc + off.signExtend 32
      | .jalr _ rs1 off => (x.xr rs1 + off.signExtend 32) &&& 0xFFFFFFFE
    (full = false → x.room 0 = true → CopyStep (.call c f b) s c (fun y => x.wrote y rd link ∧ x.retired y target ∧
        y.masked = (x.updStack x.world x.ring (fun t => { t with top := ⟨.call, link⟩ :: t.top })).masked)) ∧
    (full = true → st.cnt + 8 ≤ 128 → x.room 16 = true →
      CopyStep (.call c f b) s c (fun y => x.wrote y rd link ∧ y.pc = target ∧ y.retire = x.retire + 1 ∧
        y.csn = x.csn + 16 ∧ y.issued = x.issued + 16 ∧ y.out.length = x.out.length + 16 ∧
        (y.stack x.world x.ring).cnt = st.cnt + 8 ∧
        (y.stack x.world x.ring).top = ⟨.call, link⟩ :: st.top.take (st.top.length - 8))) ∧
    (full = true → 128 < st.cnt + 8 →
      TrapsWith (.call c f b) s c 7 1 ((st.base + toWord (8 * st.cnt)).setWidth 64))) ∧
  (∀ (s : State) (c : CopyId) (rd rs1 : BitVec 5) (off : BitVec 12) (b : Bool),
    (s.dev.copy c).fetched (instrLen b) → jalrPops rd rs1 = true →
    let x := s.dev.copy c
    let link := x.pc + toWord (instrLen b)
    let target := (x.xr rs1 + off.signExtend 32) &&& 0xFFFFFFFE
    let i : Instr := .ret c rd rs1 off b
    (∀ rest, x.curStack.top = ⟨.call, target⟩ :: rest → rest.length < 32 →
      CopyStep i s c (fun y => x.wrote y rd link ∧ x.retired y target ∧
        y.masked = (x.updStack x.world x.ring (fun t =>
          { t with top := if isLink rd then ⟨.call, link⟩ :: rest else rest })).masked)) ∧
    (∀ en rest, x.curStack.top = en :: rest → ¬ (en.kind = .call ∧ en.value = target) →
      TrapsWith i s c 6 target (BitVec.ofNat 64 (en.value.toNat + kindCode en.kind * 2 ^ 32))) ∧
    (x.curStack.top = [] → x.curStack.cnt = 0 → TrapsWith i s c 6 target (BitVec.ofNat 64 (2 ^ 35))) ∧
    (x.curStack.top = [] → x.curStack.cnt ≠ 0 → x.room (2 * min 8 x.curStack.cnt) = true →
      CopyStep i s c (fun y => x.wrote y 0 0 ∧ y.pc = x.pc ∧ y.retire = x.retire ∧
        y.out.length = x.out.length + 2 * min 8 x.curStack.cnt ∧
        y.wait = .fill x.world x.ring (min 8 x.curStack.cnt) (List.replicate (2 * min 8 x.curStack.cnt) none)))))

/-- FENCE retires once every response has arrived, FENCE.I also empties both caches, and neither changes a register;
while a response is missing neither does anything; a recorded refusal traps instead; one scrub step reads one line, in
order, and changes no register, no request and no replacement state (R182, R186, R194). -/
def Obligations.FencesAndScrub : Prop :=
  ∀ (s : State) (c : CopyId),
    let x := s.dev.copy c
    (x.fetched 4 → x.settled → RetiresAs (.fence c) s c 4 x) ∧
    (x.fetched 4 → x.settled → CopyStep (.fenceI c) s c (fun y =>
      x.wrote y 0 0 ∧ x.retired y (x.pc + 4) ∧ y.icache = ⟨[], []⟩ ∧
      y.masked = ({ x with dcache := ⟨[], []⟩ } : Copy).masked)) ∧
    (x.fetched 4 → x.drained = false →
      CopyStep (.fence c) s c (fun y => y.pc = x.pc ∧ y.retire = x.retire ∧ y.masked = x.masked) ∧
      CopyStep (.fenceI c) s c (fun y => y.pc = x.pc ∧ y.retire = x.retire ∧ y.masked = x.masked)) ∧
    (x.fetched 4 → x.drained = true → x.refusals x.world ≠ 0 → x.entering = none → x.busy x.world = false →
      x.dflt x.world = false → x.keepsStack s.dev.env x.world →
      CopyStep (.fence c) s c (fun y => x.entered y x.world 4 false (x.bank x.world).reqerr
        (BitVec.ofNat 64 (x.refusals x.world)))) ∧
    (x.powered = true → x.released = true → x.stop = none → CopyStep (.icacheScrub c) s c (fun y =>
      y.scrub = x.scrub + 1 ∧ x.wrote y 0 0 ∧ y.pc = x.pc ∧ y.retire = x.retire ∧ y.csn = x.csn ∧ y.out = x.out ∧
      y.icache.plru = x.icache.plru ∧ y.dcache = x.dcache))

/-- GATE, with its entry's words at hand and every check of R206 passed: the gate frame goes on the target ring's shadow
stack, world, ring, BMODE and HUSH become those of the entry, x2 is loaded where the entry says so, and the copy goes on
at the entry point; ECALL is GATE 0; a check that fails is the gate fault with its detail code; GATE begins with the
reads of the entry's four words. -/
def Obligations.GateEnters : Prop :=
  ∀ (s : State) (c : CopyId),
    let x := s.dev.copy c
    (∀ (n : BitVec 6) (w0 w1 w2 w3 : Word), x.wait = .gate n ⟨some w0, some w1, some w2, some w3⟩ → x.runs = true → x.dbg = false → x.room 0 = true →
      let det := gateDetail x.world x.ring.val n.toNat (bitOf (x.gtbase x.world) 0) w0 w1
      let tw : World := if bitOf w1 2 then .iron else x.world
      let tr := bitsRing (w1.extractLsb' 0 2)
      let frame : List SEntry := [⟨.gpc, x.pc + 4⟩, ⟨.gstat, x.status6.setWidth 32⟩] ++
        if bitOf w1 8 then [⟨.gsp, x.xr 2⟩] else []
      (det = 0 → (x.stack tw tr).top.length + frame.length ≤ 32 →
        CopyStep (.gate c n) s c (fun y =>
          y.world = tw ∧ y.ring = tr ∧ y.bmode = w1.extractLsb' 9 2 ∧ y.hush = (x.hush || bitOf w1 11) ∧
          y.pc = w0 &&& 0xFFFFFFFE ∧ y.retire = x.retire + 1 ∧ y.wait = .none ∧
          (y.stack tw tr).top = frame.reverse ++ (x.stack tw tr).top ∧ (y.stack tw tr).ssp = (x.stack tw tr).ssp ∧
          (∀ r, y.xr r = if bitOf w1 8 && r == 2 then w2 else x.xr r) ∧
          y.acc = x.acc ∧ y.bstat = x.bstat ∧ y.csn = x.csn ∧ y.out = x.out ∧ y.dcache = x.dcache)) ∧
      (det ≠ 0 → x.canTrap → x.keepsStack s.dev.env x.world →
        CopyStep (.gate c n) s c (fun y => x.entered y x.world 5 false (toWord n.toNat) (BitVec.ofNat 64 det)))) ∧
    (∀ n : BitVec 6, x.fetched 4 → x.settled → x.room 4 = true → (∀ j : Fin 4, x.dcFind (x.gateAddr n.toNat j.val) = none) →
      CopyStep (.gate c n) s c (fun y => x.wrote y 0 0 ∧ y.pc = x.pc ∧ y.retire = x.retire ∧ y.csn = x.csn + 4 ∧
        y.wait = .gate n ⟨none, none, none, none⟩ ∧
        y.out.map (fun (o : Outst) => o.req.addr) = x.out.map (fun (o : Outst) => o.req.addr) ++
          [wordOf (x.gateAddr n.toNat 0), wordOf (x.gateAddr n.toNat 1), wordOf (x.gateAddr n.toNat 2),
           wordOf (x.gateAddr n.toNat 3)])) ∧
    CopyStep (.gate c 0) s c (fun y => exec (.ecall c) s = .next { s with dev := s.dev.updCopy c (fun _ => y) })

/-- XRET_TRAP restores status and PC from the current world's bank in one step and clears its BUSY and DFLT, taking x2
from a TSP on top of the stack when it leaves ring 0 of the world; outside ring 0, and with ESTATUS naming a Tin ring
that does not exist, it is illegal (R202, R208). XRET_GATE pops an optional GSP, GSTAT and GPC and restores status, x2
and PC in one step; entries of other kinds, a status that it may not return to, and an empty stack are control-flow
faults that pop nothing (R207, R228). -/
def Obligations.TrapAndGateReturns : Prop :=
  ((∀ (s : State) (c : CopyId), (s.dev.copy c).fetched 4 → (s.dev.copy c).settled → (s.dev.copy c).dbg = false →
    let x := s.dev.copy c
    let es : BitVec 6 := match x.world with | .iron => x.iron.estatus | .tin => x.tin.estatus ||| 1
    let away := status6World es != x.world || status6Ring es != 0
    let i : Instr := .xretTrap c
    let back (y : Copy) : Prop := y.world = status6World es ∧ y.ring = status6Ring es ∧ y.hush = es.getLsbD 3 ∧
      y.bmode = es.extractLsb' 4 2 ∧ y.pc = (x.bank x.world).epc ∧ y.retire = x.retire + 1 ∧
      y.busy x.world = false ∧ y.dflt x.world = false ∧ y.acc = x.acc ∧ y.bstat = x.bstat ∧ y.out = x.out ∧
      (∀ w, w ≠ x.world → y.busy w = x.busy w ∧ y.dflt w = x.dflt w ∧ y.bank w = x.bank w)
    (x.ring = 0 → badTinRing es = false →
      (away = false → CopyStep i s c (fun y => back y ∧ y.bank x.world = x.bank x.world ∧ x.wrote y 0 0)) ∧
      (∀ en rest, away = true → x.curStack.top = en :: rest → en.kind = .tsp →
        CopyStep i s c (fun y => back y ∧ x.wrote y 2 en.value ∧ (y.stack x.world x.ring).top = rest)) ∧
      (∀ en rest, away = true → x.curStack.top = en :: rest → en.kind ≠ .tsp →
        CopyStep i s c (fun y => back y ∧ x.wrote y 0 0 ∧ (y.stack x.world x.ring).top = en :: rest)) ∧
      (away = true → x.curStack.top = [] → x.curStack.cnt = 0 →
        CopyStep i s c (fun y => back y ∧ x.wrote y 0 0 ∧ (y.stack x.world x.ring).top = []))) ∧
    (x.ring ≠ 0 ∨ badTinRing es = true → TrapsWith i s c 0 0x0000100B 0)) ∧
  (∀ (s : State) (c : CopyId), (s.dev.copy c).fetched 4 → (s.dev.copy c).settled → (s.dev.copy c).dbg = false →
    let x := s.dev.copy c
    let i : Instr := .xretGate c
    let ok (v : BitVec 6) : Bool := (status6World v == x.world && decide (x.ring.val ≤ (status6Ring v).val)) ||
      (x.world == .iron && status6World v == .tin)
    let back (st pc : Word) (rest : List SEntry) (y : Copy) : Prop :=
      y.world = status6World (st.setWidth 6) ∧ y.ring = status6Ring (st.setWidth 6) ∧ y.hush = bitOf st 3 ∧
      y.bmode = st.extractLsb' 4 2 ∧ y.pc = pc ∧ y.retire = x.retire + 1 ∧ (y.stack x.world x.ring).top = rest ∧
      (y.stack x.world x.ring).ssp = x.curStack.ssp ∧ y.acc = x.acc ∧ y.bstat = x.bstat ∧ y.out = x.out ∧
      y.ibusy = x.ibusy ∧ y.idflt = x.idflt ∧ y.tbusy = x.tbusy ∧ y.tdflt = x.tdflt
    (∀ (st pc : Word) (rest : List SEntry), x.curStack.top = ⟨.gstat, st⟩ :: ⟨.gpc, pc⟩ :: rest →
      (ok (st.setWidth 6) = true → CopyStep i s c (fun y => back st pc rest y ∧ x.wrote y 0 0)) ∧
      (ok (st.setWidth 6) = false → TrapsWith i s c 6 pc (BitVec.ofNat 64 (st.toNat + 2 * 2 ^ 32)))) ∧
    (∀ (sp st pc : Word) (rest : List SEntry), x.curStack.top = ⟨.gsp, sp⟩ :: ⟨.gstat, st⟩ :: ⟨.gpc, pc⟩ :: rest → ok (st.setWidth 6) = true →
      CopyStep i s c (fun y => back st pc rest y ∧ x.wrote y 2 sp)) ∧
    (∀ (v : Word) (rest : List SEntry) (en : SEntry), x.curStack.top = ⟨.call, v⟩ :: en :: rest →
      TrapsWith i s c 6 0 (BitVec.ofNat 64 v.toNat)) ∧
    (x.curStack.top = [] → x.curStack.cnt = 0 → TrapsWith i s c 6 0 (BitVec.ofNat 64 (2 ^ 35)))))

/-- WSWITCH in Iron ring 0 starts Tin: status, PC, the three cleared bits and the emptied Tin stacks; elsewhere, and
with a ring or BMODE that does not exist, it is illegal (R209). HUSH and UNHUSH in ring 0 set and clear the HUSH bit and
retire; outside ring 0, and HUSH in Tin with HUSHMAX.TIN 0, they are illegal (R216, R225). -/
def Obligations.WorldAndHush : Prop :=
  ((∀ (s : State) (c : CopyId) (rs1 : BitVec 5) (ring bmode : BitVec 2),
    (s.dev.copy c).fetched 4 → (s.dev.copy c).settled → (s.dev.copy c).dbg = false →
    let x := s.dev.copy c
    (x.world = .iron → x.ring = 0 → (ring = 0 ∨ ring = 3) → bmode ≠ 3 →
      CopyStep (.wswitch c rs1 ring bmode) s c (fun y =>
        y.world = .tin ∧ y.ring = bitsRing ring ∧ y.bmode = bmode ∧ y.hush = false ∧
        y.pc = x.xr rs1 &&& 0xFFFFFFFE ∧ y.retire = x.retire + 1 ∧
        y.ibusy = false ∧ y.tbusy = false ∧ y.tdflt = false ∧ y.idflt = x.idflt ∧
        (y.stack .tin 0).top = [] ∧ (y.stack .tin 0).cnt = 0 ∧ (y.stack .tin 0).base = (x.stack .tin 0).base ∧
        (y.stack .tin 3).top = [] ∧ (y.stack .tin 3).cnt = 0 ∧ (y.stack .tin 3).base = (x.stack .tin 3).base ∧
        y.iron = x.iron ∧ y.acc = x.acc ∧ y.bstat = x.bstat ∧ y.out = x.out ∧ x.wrote y 0 0)) ∧
    ((x.world ≠ .iron ∨ x.ring ≠ 0 ∨ ring = 1 ∨ ring = 2 ∨ bmode = 3) →
      TrapsWith (.wswitch c rs1 ring bmode) s c 0 (encSys 2 (bmode.toNat * 16 + ring.toNat) rs1.toNat) 0)) ∧
  (∀ (s : State) (c : CopyId), (s.dev.copy c).fetched 4 →
    let x := s.dev.copy c
    (x.ring = 0 → ¬ (x.world = .tin ∧ fld x.hushmax 31 16 = 0) → RetiresAs (.hush c) s c 4 { x with hush := true }) ∧
    (x.ring = 0 → RetiresAs (.unhush c) s c 4 { x with hush := false }) ∧
    (x.ring ≠ 0 ∨ (x.world = .tin ∧ fld x.hushmax 31 16 = 0) → TrapsWith (.hush c) s c 0 0x0000300B 0) ∧
    (x.ring ≠ 0 → TrapsWith (.unhush c) s c 0 0x0000400B 0)))

/-- ILLEGAL_INSTRUCTION enters cause 0x00 with the instruction word; EBREAK does the same while DBG.CTRL.EBEN is 0, and
enters debug, without retiring, while it is 1 (R173, R213, R228, R440). With BMODE 0b00 every encoding of custom-1 and
custom-2 is illegal, and so is a reserved rounding field in any BMODE: one instruction of each family shows it (R230,
R236). -/
def Obligations.IllegalInstructions : Prop :=
  ((∀ (s : State) (c : CopyId),
    let x := s.dev.copy c
    (∀ iw, x.fetched (wordLen iw) → TrapsWith (.illegalInstruction c iw) s c 0 iw 0) ∧
    (∀ b, x.fetched (instrLen b) → s.dev.rbit Reg.dbg_CTRL 4 = false →
      TrapsWith (.ebreak c b) s c 0 (if b then 0x9002 else 0x00100073) 0) ∧
    (∀ b, x.fetched (instrLen b) → s.dev.rbit Reg.dbg_CTRL 4 = true → x.settled →
      CopyStep (.ebreak c b) s c (fun y => y.debug = true ∧ y.pc = x.pc ∧ y.retire = x.retire ∧ x.wrote y 0 0 ∧
        y.masked = ({ x with debug := true, dbg := false } : Copy).masked))) ∧
  (∀ (s : State) (c : CopyId) (sat : Bool) (rs2 rs1 rd : BitVec 5) (rm : BitVec 3), (s.dev.copy c).fetched 4 →
    let x := s.dev.copy c
    (x.bmode = 0 →
      TrapsWith (.qadd c sat rs2 rs1 rd) s c 0 (encB1 0x00 sat rs2 rs1 0 rd) 0 ∧
      TrapsWith (.qmul c sat rs2 rs1 rm rd) s c 0 (encB1 0x02 sat rs2 rs1 rm.toNat rd) 0 ∧
      TrapsWith (.mac c sat rs2 rs1) s c 0 (encB1 0x10 sat rs2 rs1 0 0) 0 ∧
      TrapsWith (.accclr c) s c 0 (encB2 1 0x20 0 0) 0 ∧
      TrapsWith (.sqrt c rs1 rd) s c 0 (encFunc 3 0 rs1 rd) 0) ∧
    (rm.toNat = 4 ∨ rm.toNat = 5 ∨ rm.toNat = 6 →
      TrapsWith (.qmul c sat rs2 rs1 rm rd) s c 0 (encB1 0x02 sat rs2 rs1 rm.toNat rd) 0 ∧
      TrapsWith (.pmul c sat rs2 rs1 rm rd) s c 0 (encB1 0x0A sat rs2 rs1 rm.toNat rd) 0)))

/-- EVENT_ENTRY takes the first of TCK, AGR, Iron pages and Tin pages while HUSH is 0: the event's pending state is
cleared and the world entered with the cause and values of R228; HUSH_OVERRUN enters Iron with cause 0x09 once the hush
count has reached the world's limit (R210, R213, R217, R228). -/
def Obligations.EventsEnter : Prop :=
  ∀ (s : State) (c : CopyId), (s.dev.copy c).idleReady → (s.dev.copy c).drained = true →
    let x := s.dev.copy c
    let i : Instr := .eventEntry c
    (∀ f t, x.hush = false → x.tck = some (f, t) → x.refusals .iron = 0 → x.keepsStack s.dev.env .iron →
      CopyStep i s c (fun y => x.entered y .iron 0x10 true f (t.setWidth 64) ∧ y.tck = none ∧ y.agr = x.agr ∧
        y.iron.pages = x.iron.pages ∧ y.tin = x.tin)) ∧
    (x.hush = false → x.tck = none → x.agr = true → x.refusals .iron = 0 → x.keepsStack s.dev.env .iron →
      CopyStep i s c (fun y => x.entered y .iron 0x11 true x.agreed.w0
        ((x.agreed.gen ++ x.agreed.amiss ++ x.agreed.dmiss ++ x.agreed.groups).setWidth 64) ∧ y.agr = false ∧
        y.iron.pages = x.iron.pages ∧ y.tin = x.tin)) ∧
    (∀ p : Fin 64, x.hush = false → x.tck = none → x.agr = false → x.iron.pages.getLsbD p.val = true →
      (∀ q, q < p.val → x.iron.pages.getLsbD q = false) → x.refusals .iron = 0 → x.keepsStack s.dev.env .iron →
      CopyStep i s c (fun y => x.entered y .iron 0x12 true (toWord p.val) x.iron.pages ∧ y.iron.pages = 0 ∧
        y.tin = x.tin)) ∧
    (∀ p : Fin 64, x.hush = false → x.tck = none → x.agr = false → x.iron.pages = 0 → x.world = .tin →
      x.tin.pages.getLsbD p.val = true → (∀ q, q < p.val → x.tin.pages.getLsbD q = false) → x.refusals .tin = 0 →
      x.keepsStack s.dev.env .tin →
      CopyStep i s c (fun y => x.entered y .tin 0x12 true (toWord p.val) x.tin.pages ∧ y.tin.pages = 0 ∧
        y.iron = x.iron)) ∧
    (x.hush = true → CopyStep i s c (fun y => y = x)) ∧
    (x.hushDue = true → x.refusals .iron = 0 → x.ibusy = false → x.idflt = false → (x.world = .tin → x.tdflt = false) →
      x.keepsStack s.dev.env .iron →
      CopyStep (.hushOverrun c) s c (fun y => x.entered y .iron 9 false (toWord x.hushCnt)
        (BitVec.ofNat 64 (match x.world with | .iron => 0 | .tin => 1)) ∧ y.hushCnt = 0))

/-- The control-register rows complete: rd takes the old value, and the register takes what the form writes: RETIRE_LO
latches the high half, a read of REQERR waits for the responses and a write clears it, SSPn discards the ring's entries
and takes a legal value only, GTBASE takes a flash base only while it is not locked, and EPC, ESTATUS, BSTAT and HUSHMAX
take their fields (R189, R194, R196, R205, R221, R229). -/
def Obligations.ControlRegisters : Prop :=
  ∀ (s : State) (c : CopyId) (f : CsrForm), (s.dev.copy c).fetched 4 → (s.dev.copy c).dbg = false →
    let x := s.dev.copy c
    let operand : Word := if f.useImm then f.rs1.setWidth 32 else x.xr f.rs1
    let new (old : Word) : Word := match f.op with
      | .rw => operand | .rs => old ||| operand | .rc => old &&& ~~~operand
    let done (i : Instr) (old : Word) (x1 : Copy) : Prop := CopyStep i s c (fun y =>
      x.wrote y f.rd (if csrReads f then old else x.xr f.rd) ∧ x.retired y (x.pc + 4) ∧ y.masked = x1.masked)
    (csrWrites f = false →
      done (.retireLoRead c f) (x.retire.extractLsb' 0 32)
        (x.updBank x.world (fun b => { b with retireLatch := x.retire.extractLsb' 32 16 }))) ∧
    (x.ring = 0 → csrReads f = true → csrWrites f = false → x.settled →
      done (.reqerrRead c f) (x.bank x.world).reqerr x) ∧
    (x.ring = 0 → csrReads f = false → csrWrites f = true →
      done (.reqerrWrite c f) 0 (x.updBank x.world (fun b => { b with reqerr := 0 }))) ∧
    (∀ n : Fin 4, x.ring = 0 → (n.val = 1 ∨ n.val = 2 → x.world = .iron) → csrWrites f = true →
      let v := new (x.stack x.world n).ssp
      let legal : Bool := isSram (fld v 31 10 * 1024) && decide (fld v 9 2 ≤ 128)
      done (.sspWrite c n f) (x.stack x.world n).ssp
        (x.updStack x.world n (fun t => ⟨[], if legal then v &&& 0xFFFFFFFC else t.ssp⟩))) ∧
    (x.world = .iron → x.ring = 0 → csrWrites f = true →
      let g (old : Word) : Word :=
        if bitOf old 0 || !isFlash (fld (new old) 31 10 * 1024) then old else new old &&& 0xFFFFFC01
      done (.gtbaseWrite c false f) x.gtbaseI { x with gtbaseI := g x.gtbaseI } ∧
      done (.gtbaseWrite c true f) x.gtbaseT { x with gtbaseT := g x.gtbaseT }) ∧
    (csrWrites f = true → done (.csrWrite c 0x7D4 f) x.bstat { x with bstat := new x.bstat &&& 0x37 }) ∧
    (x.ring = 0 → csrWrites f = true → done (.csrWrite c 0x7C2 f) (x.bank x.world).epc
      (x.updBank x.world (fun b => { b with epc := new (x.bank x.world).epc &&& 0xFFFFFFFE }))) ∧
    (x.world = .iron → x.ring = 0 → csrWrites f = true → fld (new x.hushmax) 15 0 ≠ 0 →
      done (.csrWrite c 0x7D0 f) x.hushmax { x with hushmax := new x.hushmax }) ∧
    (∀ csr : BitVec 12, (csrAccess x.world x.ring csr.toNat = 0 ∨
        (csrWrites f = true ∧ csrAccess x.world x.ring csr.toNat = 1)) →
      TrapsWith (.csrWrite c csr f) s c 0 (encCsr csr.toNat f) 0)

/-- The Bronze scalar and pair instructions: each computes its exact result, rounds it as its field says, checks it
against the range of the register or lane, and either writes it with sticky flags or traps (R235 to R239). The Bronze
accumulator instructions: ACC takes the exact sum of products, checked against 72 bits, with sticky flags, or the
instruction traps with nothing written; MUL0 never sets a flag (R234, R237 to R239). The moves between ACC and the
registers, which set no flag and never trap under R238, and ACCEXT, which rounds, checks, writes and may clear ACC
(R241, R242). -/
def Obligations.BronzeArithmetic : Prop :=
  ((∀ (s : State) (c : CopyId) (sat : Bool) (rs2 rs1 rd : BitVec 5), (s.dev.copy c).fetched 4 →
    let x := s.dev.copy c
    let a := wordInt (x.xr rs1)
    let b := wordInt (x.xr rs2)
    let ah := laneH (x.xr rs1)
    let al := laneL (x.xr rs1)
    let bh := laneH (x.xr rs2)
    let bl := laneL (x.xr rs2)
    let n := (x.xr rs2).toNat % 32
    let z : BitVec 3 := 0
    BronzeRd (.qadd c sat rs2 rs1 rd) s c (encB1 0x00 sat rs2 rs1 z.toNat rd) rd (wordCheck sat (a + b)) ∧
    BronzeRd (.qsub c sat rs2 rs1 rd) s c (encB1 0x01 sat rs2 rs1 z.toNat rd) rd (wordCheck sat (a - b)) ∧
    BronzeRd (.qshl c sat rs2 rs1 rd) s c (encB1 0x03 sat rs2 rs1 z.toNat rd) rd (wordCheck sat (a * 2 ^ n)) ∧
    BronzeRd (.padd c sat rs2 rs1 rd) s c (encB1 0x08 sat rs2 rs1 z.toNat rd) rd (pairCheck sat (ah + bh) (al + bl)) ∧
    BronzeRd (.psub c sat rs2 rs1 rd) s c (encB1 0x09 sat rs2 rs1 z.toNat rd) rd (pairCheck sat (ah - bh) (al - bl)) ∧
    (∀ (rm : BitVec 3) (m : Nat), rmMode rm.toNat x.bstat = some m →
      BronzeRd (.qmul c sat rs2 rs1 rm rd) s c (encB1 0x02 sat rs2 rs1 rm.toNat rd) rd
        (wordCheck sat (roundMode m (a * b) 31)) ∧
      BronzeRd (.qshr c rs2 rs1 rm rd) s c (encB1 0x04 false rs2 rs1 rm.toNat rd) rd
        (wordCheck false (roundMode m a n)) ∧
      BronzeRd (.pack c sat rs2 rs1 rm rd) s c (encB1 0x05 sat rs2 rs1 rm.toNat rd) rd
        (pairCheck sat (roundMode m a 16) (roundMode m b 16)) ∧
      BronzeRd (.pmul c sat rs2 rs1 rm rd) s c (encB1 0x0A sat rs2 rs1 rm.toNat rd) rd
        (pairCheck sat (roundMode m (ah * bh) 15) (roundMode m (al * bl) 15)))) ∧
  (∀ (s : State) (c : CopyId) (sat : Bool) (rs2 rs1 : BitVec 5), (s.dev.copy c).fetched 4 →
    let x := s.dev.copy c
    let a := wordInt (x.xr rs1)
    let b := wordInt (x.xr rs2)
    let ah := laneH (x.xr rs1)
    let al := laneL (x.xr rs1)
    let bh := laneH (x.xr rs2)
    let bl := laneL (x.xr rs2)
    let q := x.acc.toInt
    BronzeAcc (.mac c sat rs2 rs1) s c (encB1 0x10 sat rs2 rs1 0 0) sat (q + a * b) ∧
    BronzeAcc (.msu c sat rs2 rs1) s c (encB1 0x11 sat rs2 rs1 0 0) sat (q - a * b) ∧
    ((x.bmode = 1 ∨ x.bmode = 2) → RetiresAs (.mul0 c rs2 rs1) s c 4 { x with acc := BitVec.ofInt 72 (a * b) }) ∧
    BronzeAcc (.pmac c sat rs2 rs1) s c (encB1 0x14 sat rs2 rs1 0 0) sat (q + (ah * bh + al * bl) * 2 ^ 32) ∧
    BronzeAcc (.pmsc c sat rs2 rs1) s c (encB1 0x15 sat rs2 rs1 0 0) sat (q + (ah * bh - al * bl) * 2 ^ 32) ∧
    BronzeAcc (.pmacx c sat rs2 rs1) s c (encB1 0x16 sat rs2 rs1 0 0) sat (q + (ah * bl + al * bh) * 2 ^ 32) ∧
    BronzeAcc (.pmscx c sat rs2 rs1) s c (encB1 0x17 sat rs2 rs1 0 0) sat (q + (ah * bl - al * bh) * 2 ^ 32)) ∧
  (∀ (s : State) (c : CopyId) (r : BitVec 5), (s.dev.copy c).fetched 4 →
    let x := s.dev.copy c
    let n := x.pc + 4
    let v := x.xr r
    ((x.bmode = 1 ∨ x.bmode = 2) →
      WritesRd (.accrdl c r) s c r (x.acc.extractLsb' 0 32) n ∧
      WritesRd (.accrdh c r) s c r (x.acc.extractLsb' 32 32) n ∧
      WritesRd (.accrdg c r) s c r ((x.acc.extractLsb' 64 8).signExtend 32) n ∧
      RetiresAs (.accwrl c r) s c 4 { x with acc := x.acc.extractLsb' 32 40 ++ v } ∧
      RetiresAs (.accwrh c r) s c 4 { x with acc := x.acc.extractLsb' 64 8 ++ v ++ x.acc.extractLsb' 0 32 } ∧
      RetiresAs (.accwrg c r) s c 4 { x with acc := v.extractLsb' 0 8 ++ x.acc.extractLsb' 0 64 } ∧
      RetiresAs (.accclr c) s c 4 { x with acc := 0 } ∧
      RetiresAs (.accldq c r) s c 4 { x with acc := BitVec.ofInt 72 (wordInt v * 2 ^ 31) }) ∧
    (∀ (imm : BitVec 12) (m : Nat), rmMode (imm.extractLsb' 7 3).toNat x.bstat = some m →
      let q := rangeCheck (if imm.getLsbD 10 then 16 else 32) (imm.getLsbD 6)
        (roundMode m x.acc.toInt (imm.extractLsb' 0 6).toNat)
      let i : Instr := .accext c imm r
      ((x.bmode = 1 ∨ (x.bmode = 2 ∧ q.flags % 2 = 0)) →
        CopyStep i s c (fun y => x.wrote y r (intWord q.val) ∧ x.retired y n ∧
          y.masked = ({ x with acc := if imm.getLsbD 11 then 0 else x.acc, bstat := x.bstat ||| toWord q.flags } :
            Copy).masked)) ∧
      (x.bmode = 2 → q.flags % 2 = 1 →
        TrapsWith i s c 8 (encB2 0 imm.toNat 0 r) (BitVec.ofNat 64 ((intWord q.val).toNat + q.flags * 2 ^ 32))))))

/-- The Bronze functions write the value of their reference algorithm; ATAN2 of the zero vector, SQRT of a negative
value and RECIP of 0 are domain errors with the result the rule names (R243 to R249). -/
def Obligations.BronzeFunctions : Prop :=
  ∀ (s : State) (c : CopyId) (rs2 rs1 rd : BitVec 5), (s.dev.copy c).fetched 4 →
    let x := s.dev.copy c
    let a := x.xr rs1
    let b := x.xr rs2
    BronzeRd (.sin c rs1 rd) s c (encFunc 0 0 rs1 rd) rd (intWord (sinQ a), 0) ∧
    BronzeRd (.cos c rs1 rd) s c (encFunc 1 0 rs1 rd) rd (intWord (cosQ a), 0) ∧
    BronzeRd (.atan2 c rs2 rs1 rd) s c (encFunc 2 rs2 rs1 rd) rd
      (if a = 0 ∧ b = 0 then (0, 4) else (atan2Q (wordInt a) (wordInt b), 0)) ∧
    (wordInt a < 0 → BronzeRd (.sqrt c rs1 rd) s c (encFunc 3 0 rs1 rd) rd (0, 4)) ∧
    (0 ≤ wordInt a → BronzeRd (.sqrt c rs1 rd) s c (encFunc 3 0 rs1 rd) rd (sqrtQ a)) ∧
    (a = 0 → BronzeRd (.recip c rs2 rs1 rd) s c (encFunc 4 rs2 rs1 rd) rd (0x7FFFFFFF, 4)) ∧
    (0 < wordInt a → BronzeRd (.recip c rs2 rs1 rd) s c (encFunc 4 rs2 rs1 rd) rd
      (wordCheck true (rneDiv (2 ^ (62 - b.toNat % 32)) (wordInt a).toNat))) ∧
    (wordInt a < 0 → BronzeRd (.recip c rs2 rs1 rd) s c (encFunc 4 rs2 rs1 rd) rd
      (wordCheck true (-(rneDiv (2 ^ (62 - b.toNat % 32)) (-wordInt a).toNat)))) ∧
    BronzeRd (.exp2 c rs1 rd) s c (encFunc 5 0 rs1 rd) rd (exp2Q a, 0)

/-- Rounding: in every mode the result is one of the two integers next to n / 2^s; RNE and RHA are within half a unit,
RTZ never grows the magnitude, RDN never exceeds the value (R235). The range check: a value in range passes with no
flag, one out of range sets OVF, saturates with SAT or wraps to the value that is congruent modulo 2^w, and the result
is always in range (R237). -/
def Obligations.RoundingAndRange : Prop :=
  ((∀ (m : Nat) (n : Int) (k : Nat),
    let v := roundMode m n k
    (roundMode m n 0 = n) ∧ (v * 2 ^ k - n < 2 ^ k) ∧ (n - v * 2 ^ k < 2 ^ k) ∧
    (m = 0 ∨ m = 1 → 2 * (v * 2 ^ k - n) ≤ 2 ^ k ∧ 2 * (n - v * 2 ^ k) ≤ 2 ^ k) ∧
    (m = 2 → (0 ≤ n → 0 ≤ v ∧ v * 2 ^ k ≤ n) ∧ (n ≤ 0 → v ≤ 0 ∧ n ≤ v * 2 ^ k)) ∧
    (m = 3 → v * 2 ^ k ≤ n)) ∧
  (∀ (w : Nat) (sat : Bool) (v : Int), 0 < w →
    let r := rangeCheck w sat v
    let lo : Int := -(2 ^ (w - 1))
    let hi : Int := 2 ^ (w - 1) - 1
    (lo ≤ v → v ≤ hi → r.val = v ∧ r.flags = 0) ∧
    (v < lo → sat = true → r.val = lo ∧ r.flags = 3) ∧ (hi < v → sat = true → r.val = hi ∧ r.flags = 3) ∧
    (v < lo ∨ hi < v → sat = false → r.flags = 1 ∧ (2 ^ w : Int) ∣ r.val - v) ∧ lo ≤ r.val ∧ r.val ≤ hi))

/-- SQRT is correctly rounded: for every x that is not negative the result is the integer nearest to the square root of
x · 2^31, it never exceeds 0x7FFF_FFFF, and no flag is set (R247). -/
def Obligations.SqrtCorrectlyRounded : Prop :=
  ∀ x : Word, 0 ≤ wordInt x →
    let n := x.toNat * 2 ^ 31
    let r := (sqrtQ x).1.toNat
    (sqrtQ x).2 = 0 ∧ r ≤ 0x7FFFFFFF ∧ 4 * n < (2 * r + 1) ^ 2 ∧ (0 < r → (2 * r - 1) ^ 2 < 4 * n)

/-- A copy accepts a sequenced flit only with the expected SEQ, which then rises by 1; a SEQ up to 2 176 behind is a
duplicate and any other is out of sequence, and both are counted and do nothing else to the copy than take the ACK; an
ACK that names the (k+1)-th unacknowledged flit releases k + 1 of them (R114, R116). LINKCFG shows it (R140). The hub
accepts a sequenced flit of an active link only with the expected SEQ; duplicates and flits out of sequence are counted
in the link's registers and nothing of their payload is used; an accepted LSTAT frame report waits to be published
(R110, R114, R141). -/
def Obligations.FlitAcceptance : Prop :=
  ((∀ (s : State) (c : CopyId) (h : Hdr) (tmr : Word),
    let x := s.dev.copy c
    let i : Instr := .linkcfg c h tmr
    let back := (x.side.expSeq.toNat + 4096 - h.seq.toNat) % 4096
    x.powered = true → x.link = .active →
    (h.seq = x.side.expSeq → CopyStep i s c (fun y =>
      y.tmr = tmr ∧ y.side.expSeq = x.side.expSeq + 1 ∧ y.stats = x.stats ∧
      y = { s.dev.acceptedCopy c h with tmr := tmr })) ∧
    (h.seq ≠ x.side.expSeq → back ≤ 2176 → CopyStep i s c (fun y =>
      y.tmr = x.tmr ∧ y.side.expSeq = x.side.expSeq ∧ y.stats = { x.stats with dup := x.stats.dup + 1 })) ∧
    (h.seq ≠ x.side.expSeq → 2176 < back → CopyStep i s c (fun y =>
      y.tmr = x.tmr ∧ y.side.expSeq = x.side.expSeq ∧ y.stats = { x.stats with oos := x.stats.oos + 1 })) ∧
    (∀ q f rest, x.side.unacked = (q, f) :: rest → x.side.queue = [] →
      let k := (h.ack.toNat + 4096 - q.toNat) % 4096
      (k ≤ rest.length → CopyStep i s c (fun y => y.side.unacked = rest.drop k ∧ y.side.timeouts = 0)) ∧
      (rest.length < k → CopyStep i s c (fun y => y.side.unacked = (q, f) :: rest ∧ y.side.timeouts = x.side.timeouts)))) ∧
  (∀ (s : State) (c : CopyId) (h : Hdr) (m : LstatFrame), s.dev.lstate c = 7 →
    let L := s.dev.link c
    let i : Instr := .lstatFrameReport c h m
    let back := (L.side.expSeq.toNat + 4096 - h.seq.toNat) % 4096
    (h.seq = L.side.expSeq → Completes i s (fun d =>
      (d.link c).side.expSeq = L.side.expSeq + 1 ∧ (d.link c).lstat = L.lstat ++ [m] ∧
      d = { s.dev with links := d.links, regs := d.regs })) ∧
    (h.seq ≠ L.side.expSeq → back ≤ 2176 → Completes i s (fun d =>
      (d.link c).side.expSeq = L.side.expSeq ∧ (d.link c).lstat = L.lstat ∧
      d.reg (Reg.linkx_DUP_H c.val) = satAdd (s.dev.reg (Reg.linkx_DUP_H c.val)) 1 ∧
      d.reg (Reg.linkx_OOS_H c.val) = s.dev.reg (Reg.linkx_OOS_H c.val) ∧
      d = { s.dev with links := d.links, regs := d.regs })) ∧
    (h.seq ≠ L.side.expSeq → 2176 < back → Completes i s (fun d =>
      (d.link c).side.expSeq = L.side.expSeq ∧ (d.link c).lstat = L.lstat ∧
      d.reg (Reg.linkx_OOS_H c.val) = satAdd (s.dev.reg (Reg.linkx_OOS_H c.val)) 1 ∧
      d.reg (Reg.linkx_DUP_H c.val) = s.dev.reg (Reg.linkx_DUP_H c.val) ∧
      d = { s.dev with links := d.links, regs := d.regs }))))

/-- What the timers of an active link do: an ACK timer advertises the newest accepted SEQ; a replay timeout below REPMAX
counts and starts the timer again; at REPMAX, and when LOSTIME has run out, the end goes to RESYNC; a copy's end leaves
every register and the rest of the device alone (R115, R117, R118, R123). Grants: a copy takes a GRANT that is newer
modulo 2^16 and counts one that is older; an IDLE does the same; the grant timer sends the newest GRANT (R116, R129). An
IDLE at the hub takes its ACK and changes nothing of the copies. A flit with a wrong CRC is counted at the end that
receives it, and nothing of it is used; a good one is none of these (R97, R114). -/
def Obligations.LinkTimersAndGrants : Prop :=
  ((∀ (s : State) (c : CopyId),
    let x := s.dev.copy c
    let L := s.dev.link c
    (∀ t, t ≤ s.dev.now → x.link = .active → x.side.ackDue = some t → CopyStep (.ackTimer .copy c) s c (fun y =>
      y = { x with side := { x.side with adv := x.side.expSeq - 1, accepted := 0, ackDue := none } })) ∧
    (∀ t, t ≤ s.dev.now → s.dev.lstate c = 7 → L.side.ackDue = some t → LinkStep (.ackTimer .hub c) s c (fun M =>
      M = { L with side := { L.side with adv := L.side.expSeq - 1, accepted := 0, ackDue := none } })) ∧
    (∀ t, t ≤ s.dev.now → x.link = .active → x.side.replayDue = some t → x.side.timeouts < fld x.tmr 18 16 →
      CopyStep (.replayTimeout .copy c) s c (fun y => y.side.unacked = x.side.unacked ∧ y.link = .active ∧
        y.side.timeouts = x.side.timeouts + 1 ∧ y.side.replayDue = some (s.dev.now + fld x.tmr 9 0) ∧
        y.stats = { x.stats with tmo := x.stats.tmo + 1 })) ∧
    (∀ t, t ≤ s.dev.now → x.link = .active → x.side.replayDue = some t → fld x.tmr 18 16 ≤ x.side.timeouts →
      CopyStep (.replayTimeout .copy c) s c (fun y => y.link = .resync ∧ y.side.unacked = x.side.unacked ∧
        y.side.replayDue = none)) ∧
    (∀ t, t ≤ s.dev.now → s.dev.lstate c = 7 → L.side.replayDue = some t →
      L.side.timeouts < fld (s.dev.reg Reg.link_TMR) 18 16 →
      Completes (.replayTimeout .hub c) s (fun d =>
        d.reg (Reg.linkx_TMO_H c.val) = satAdd (s.dev.reg (Reg.linkx_TMO_H c.val)) 1 ∧
        (d.link c).side.timeouts = L.side.timeouts + 1 ∧ (d.link c).side.unacked = L.side.unacked ∧
        (d.link c).side.replayDue = some (s.dev.now + fld (d.reg Reg.link_TMR) 9 0) ∧
        d = { s.dev with links := d.links, regs := d.regs })) ∧
    (∀ t, t ≤ s.dev.now → s.dev.lstate c = 7 → L.side.replayDue = some t → L.resyncEnd = none →
      fld (s.dev.reg Reg.link_TMR) 18 16 ≤ L.side.timeouts →
      Completes (.replayTimeout .hub c) s (fun d => d.lstate c = 8 ∧ (d.link c).stateDue = s.dev.now + 400 ∧
        (d.link c).tr.phase = 0 ∧ (d.link c).side.unacked = L.side.unacked ∧
        d = { s.dev with links := d.links, regs := d.regs, jrn := d.jrn, ovl := d.ovl })) ∧
    (x.link = .active → x.side.lastGood + 4 * fld x.tmr 31 22 ≤ s.dev.now →
      CopyStep (.lostimeExpiry .copy c) s c (fun y =>
        y = { x with link := .resync, side := { x.side with replayDue := none } })) ∧
    (s.dev.lstate c = 7 → L.resyncEnd = none → L.side.lastGood + 4 * fld (s.dev.reg Reg.link_TMR) 31 22 ≤ s.dev.now →
      Completes (.lostimeExpiry .hub c) s (fun d => d.lstate c = 8 ∧ (d.link c).resyncTrig = 3))) ∧
  (∀ (s : State) (c : CopyId) (h : Hdr) (g : Half),
    let x := s.dev.copy c
    let L := s.dev.link c
    (x.powered = true → x.link = .active → x.wait = .none → x.dbgDue = false → 0 < (g - x.grant).toNat →
      (g - x.grant).toNat ≤ 32767 →
      Completes (.grant c h g) s (fun d => (d.copy c).grant = g ∧ (d.copy c).issued = x.issued ∧
        (d.copy c).stats = x.stats ∧ (d.copy c).side.lastGood = s.dev.now ∧
        d = { s.dev with copies := s.dev.copies.set c (d.copy c), links := d.links }) ∧
      Completes (.idle .copy c h g) s (fun d => (d.copy c).grant = g ∧ (d.copy c).stats = x.stats ∧
        d = { s.dev with copies := s.dev.copies.set c (d.copy c), links := d.links })) ∧
    (x.powered = true → x.link = .active → x.wait = .none → x.dbgDue = false → 32767 < (g - x.grant).toNat →
      Completes (.grant c h g) s (fun d => (d.copy c).grant = x.grant ∧
        (d.copy c).stats = { x.stats with granterr := x.stats.granterr + 1 })) ∧
    (s.dev.lstate c = 7 → Completes (.idle .hub c h g) s (fun d => (d.link c).side.lastGood = s.dev.now ∧
      (d.link c).side.expSeq = L.side.expSeq ∧ d = { s.dev with links := d.links, regs := d.regs })) ∧
    (∀ t, t ≤ s.dev.now → s.dev.lstate c = 7 → L.grantDue = some t → LinkStep (.grantSendTimer c) s c (fun M =>
      M = { L with lastGrant := L.grant, grantDue := none }))) ∧
  (∀ (s : State) (c : CopyId) (f : BitVec 256),
    let x := s.dev.copy c
    ((flitCrc f ≠ f.extractLsb' 0 32) → s.dev.lstate c = 7 →
      Completes (.flitCorrupt .hub c f) s (fun d =>
        d = s.dev.setReg (Reg.linkx_CRCERR_H c.val) (satAdd (s.dev.reg (Reg.linkx_CRCERR_H c.val)) 1)) ∧
      (x.link = .active → CopyStep (.flitCorrupt .copy c f) s c (fun y =>
        y = { x with stats := { x.stats with crcerr := x.stats.crcerr + 1 } }))) ∧
    (flitCrc f = f.extractLsb' 0 32 → ∀ e, Completes (.flitCorrupt e c f) s (fun d => d = s.dev))))

/-- Training: a state whose criterion is met is followed by the next, and CONFIG by the active state with a fresh link:
no flit unacknowledged, SEQ 0 expected at both ends, 64 requests granted, 64 free tags; a failed attempt begins again at
DETECT and counts, and the third loses the link's copy (R100 to R103, R129). What the training flits do: TRAIN flits are
counted up to 32, equal CONFIG flits up to 8 with a differing one starting again at 1, a PING is answered by the ECHO
whose delay is published, and with the fourth part of CAL the calibration is in use; a RESUME that met its criteria
makes the link active, and another starts the full training (R100, R104, R112, R432). -/
def Obligations.LinkTraining : Prop :=
  ((∀ (s : State) (c : CopyId) (ok : Bool),
    let st := s.dev.lstate c
    let i : Instr := .trainingStateTimer c ok
    let att := s.dev.rfld (Reg.linkx_STAT c.val) 23 16
    let met := s.dev.trainMet c st ok
    1 ≤ st → st ≤ 6 → (s.dev.link c).stateDue ≤ s.dev.now →
    (st ≤ 5 → met = true → Completes i s (fun d => d.lstate c = st + 1 ∧ (d.link c).tr = trainFresh ∧
      (d.link c).stateDue = s.dev.now + trainTime (st + 1) (s.dev.rfld (Reg.linkx_STAT c.val) 27 26) ∧
      (d.copy c).link = .training ∧ d = { s.dev with regs := d.regs, links := d.links, copies := d.copies })) ∧
    (st = 6 → met = true → Completes i s (fun d => d.lstate c = 7 ∧ (d.copy c).link = .active ∧
      (d.link c).side.unacked = [] ∧ (d.link c).side.expSeq = 0 ∧ (d.link c).side.txSeq = 0 ∧ (d.link c).grant = 64 ∧
      (d.copy c).side.unacked = [] ∧ (d.copy c).side.expSeq = 0 ∧ (d.copy c).side.txSeq = 0 ∧ (d.copy c).out = [] ∧
      (d.copy c).grant = 0 ∧ (d.copy c).issued = 0)) ∧
    (met = false → att < 3 → Completes i s (fun d => d.lstate c = 2 ∧ (d.link c).tr = trainFresh ∧
      d.rfld (Reg.linkx_STAT c.val) 23 16 = att + 1 ∧
      d = { s.dev with regs := d.regs, links := d.links, copies := d.copies })) ∧
    (met = false → 3 ≤ att → Completes i s (fun d => d = s.dev.linkLost c 0))) ∧
  (∀ (s : State) (c : CopyId),
    let x := s.dev.copy c
    let L := s.dev.link c
    (s.dev.inAlign c = true → L.tr.seenH < 32 → LinkStep (.train .hub c) s c (fun M =>
      M = { L with tr := { L.tr with seenH := L.tr.seenH + 1 } })) ∧
    (s.dev.inAlign c = true → L.tr.seenC < 32 → LinkStep (.train .copy c) s c (fun M =>
      M = { L with tr := { L.tr with seenC := L.tr.seenC + 1 } })) ∧
    (∀ m, s.dev.inConfig c = true → L.tr.cfgC = some m → L.tr.seenC < 8 → LinkStep (.config .copy c m) s c (fun M =>
      M = { L with tr := { L.tr with seenC := L.tr.seenC + 1, cfgC := some m } })) ∧
    (∀ (m o : ConfigMsg), s.dev.inConfig c = true → L.tr.cfgH = some o → { o with seq := m.seq } ≠ m → L.tr.seenH < 8 →
      LinkStep (.config .hub c m) s c (fun M => M = { L with tr := { L.tr with seenH := 1, cfgH := some m } })) ∧
    (∀ p, s.dev.calTime c = true → CopyStep (.ping c p) s c (fun y => y = { x with echo := some p })) ∧
    (∀ p r, s.dev.calTime c = true → x.echo = some p → Completes (.echo c p r) s (fun d =>
      d = (s.dev.updCopy c (fun x => { x with echo := none })).setReg (Reg.linkx_RTT c.val) (r.setWidth 32))) ∧
    (∀ ws, s.dev.calTime c = true → x.sense.calWords = [none, none, none, none] →
      CopyStep (.cal c 0 ws) s c (fun y => y.sense.calWords = [some ws, none, none, none] ∧ y.sense.tro = x.sense.tro)) ∧
    (∀ a b e ws, s.dev.calTime c = true → x.sense.calWords = [some a, some b, some e, none] → a.length = 7 →
      b.length = 7 → CopyStep (.cal c 3 ws) s c (fun y =>
        y.sense.sums.a = ((listGet 0 a 0).extractLsb' 0 20, (listGet 0 a 1).extractLsb' 0 20) ∧
        listGet 0 y.sense.tro 0 = (listGet 0 a 6).extractLsb' 0 12 ∧
        listGet 0 y.sense.trg 0 = (listGet 0 a 6).extractLsb' 16 12)) ∧
    (s.dev.lstate c = 9 → L.stateDue ≤ s.dev.now → x.calWhole = true →
      Completes (.resume c true) s (fun d => d.lstate c = 7 ∧ (d.copy c).link = .active ∧ (d.link c).grant = 64)) ∧
    (s.dev.lstate c = 9 → L.stateDue ≤ s.dev.now →
      Completes (.resume c false) s (fun d => d.lstate c = 1 ∧ (d.copy c).link = .training ∧
        d.rfld (Reg.linkx_STAT c.val) 23 16 = 1))))

/-- RESYNC: each phase follows the one before when its criterion is met, the third makes the link active again with
everything unacknowledged kept and replayed; a phase that fails loses the copy; the other end joins when it sees the
pattern; a replay-buffer error at a copy asks for a restart of its request stream, and one at the hub rebuilds a
response or loses the link (R121, R123 to R125, R134, R139). -/
def Obligations.LinkResync : Prop :=
  ∀ (s : State) (c : CopyId) (ok : Bool),
    let x := s.dev.copy c
    let L := s.dev.link c
    (s.dev.lstate c = 8 → L.stateDue ≤ s.dev.now → x.link = .resync → L.tr.phase = 0 →
      LinkStep (.resyncStateTimer c true) s c (fun M => M.tr.phase = 1 ∧ M.tr.seenH = 0 ∧ M.tr.seenC = 0 ∧
        M.stateDue = s.dev.now + 400 ∧ M.side = L.side)) ∧
    (s.dev.lstate c = 8 → L.stateDue ≤ s.dev.now → x.link = .resync → L.tr.phase = 1 → L.aligned = true →
      LinkStep (.resyncStateTimer c true) s c (fun M => M.tr.phase = 2 ∧ M.stateDue = s.dev.now + 200 ∧ M.side = L.side)) ∧
    (∀ mh mc, s.dev.lstate c = 8 → L.stateDue ≤ s.dev.now → x.link = .resync → L.tr.phase = 2 → L.configured = true →
      L.tr.cfgH = some mh → L.tr.cfgC = some mc →
      Completes (.resyncStateTimer c true) s (fun d => d.lstate c = 7 ∧ (d.copy c).link = .active ∧
        (d.copy c).restart = false ∧ (d.copy c).out = x.out ∧ (d.link c).resyncEnd = some s.dev.now ∧
        d.reg (Reg.linkx_RESYNC c.val) = satAdd (s.dev.reg (Reg.linkx_RESYNC c.val)) 1)) ∧
    (s.dev.lstate c = 8 → L.stateDue ≤ s.dev.now → (ok = false ∨ x.link ≠ .resync) →
      Completes (.resyncStateTimer c ok) s (fun d => d = s.dev.linkLost c L.resyncTrig.toNat)) ∧
    (s.dev.lstate c = 8 → x.link = .active → CopyStep (.resyncPatternDetect .copy c) s c (fun y =>
      y = { x with link := .resync, side := { x.side with replayDue := none } })) ∧
    (s.dev.lstate c = 7 → x.link = .resync → L.resyncEnd = none →
      Completes (.resyncPatternDetect .hub c) s (fun d => d.lstate c = 8 ∧ (d.link c).stateDue = s.dev.now + 400)) ∧
    (∀ q f, x.link = .active → (q, f) ∈ x.side.unacked → CopyStep (.copyReplayStoreError c q) s c (fun y =>
      y.link = .resync ∧ y.restart = true ∧ y.side.unacked = x.side.unacked ∧
      y.stats = { x.stats with spillue := x.stats.spillue + 1 })) ∧
    (∀ q e, s.dev.liveLink c = true → L.side.unacked.find? (fun u => u.1 == q) = some (q, e) → e.isResponse = true →
      Completes (.hubReplayStoreError c q) s (fun d =>
        d.reg (Reg.linkx_SPILLUE c.val) = satAdd (s.dev.reg (Reg.linkx_SPILLUE c.val)) 1 ∧ d.links = s.dev.links ∧
        d.copies = s.dev.copies)) ∧
    (∀ q e, s.dev.liveLink c = true → L.side.unacked.find? (fun u => u.1 == q) = some (q, e) → e.isResponse = false →
      Completes (.hubReplayStoreError c q) s (fun d =>
        d = (s.dev.count (Reg.linkx_SPILLUE c.val) 1).linkLost c 0))

/-- A copy's time: an accepted TICK sets c, ρ and the period as R145 says and starts the copy's frame with a report; one
that the copy has extrapolated gives its instant alone; a missing tick carries c forward by PER · ρ and counts (R110,
R145, R146; the first TICK and a TICK of an extrapolated frame are the model's choice, assumption 16). A tick starts the
next frame: exactly one period after the tick before, with the frame number one higher, the tick's time and the period
in force; one page's pending set gives its registers their SH bits and shows as applied; the sustained-overload flags
rise and fall by their windows, each with its entry, and a rise with PG_EVT (R33, R47, R142, R143). -/
def Obligations.FramesAndTime : Prop :=
  ((∀ (s : State) (c : CopyId) (frame : Word) (tdep : DWord) (per : BitVec 19) (lat : Half) (tofs : Byte) (a : Nat),
    let x := s.dev.copy c
    let t := x.time
    let ck : Int := (a : Int) - rneDiv ((16 * tofs.toNat + lat.toNat) * t.rho.toNat : Nat) (2 ^ 32)
    let m : Int := rneDiv ((ck - t.c) * 2 ^ 28) t.per.toNat
    (x.linked = true → t.valid = true → t.frame ≠ frame → 0 < t.per.toNat →
      CopyStep (.tick c frame tdep per lat tofs a) s c (fun y => y.time.c = ck ∧ y.time.valid = true ∧
        y.time.per = per ∧ y.time.prevPer = t.per ∧ y.time.accepted = true ∧ y.time.frame = frame ∧
        (t.accepted = true → y.time.rho = intWord ((t.rho.toNat : Int) + rneDiv (m - t.rho.toNat) 8)) ∧
        (t.accepted = false → y.time.rho = intWord m) ∧ y.pc = x.pc ∧ y.retire = x.retire ∧ x.wrote y 0 0)) ∧
    (x.linked = true → t.valid = false →
      CopyStep (.tick c frame tdep per lat tofs a) s c (fun y => y.time.c = ck ∧ y.time.valid = true ∧
        y.time.rho = t.rho ∧ y.time.per = per ∧ y.time.frame = frame)) ∧
    (x.linked = true → t.valid = true → t.frame = frame →
      CopyStep (.tick c frame tdep per lat tofs a) s c (fun y =>
        y.time = { t with c := ck, per := per, accepted := true } ∧ y.sense = x.sense ∧ y.stats = x.stats)) ∧
    (x.powered = true → t.valid = true → CopyStep (.tickExtrapolate c) s c (fun y =>
      y.time.c = t.c + rneDiv (t.per.toNat * t.rho.toNat : Nat) (2 ^ 28) ∧ y.time.rho = t.rho ∧
      y.time.accepted = false ∧ y.time.frame = t.frame + 1 ∧ y.pc = x.pc ∧ y.retire = x.retire)) ∧
    (∀ h part gen target body, s.dev.copyAccepts c h → CopyStep (.cfgbc c h part gen target body) s c (fun y =>
      y = { s.dev.acceptedCopy c h with sense := x.sense.takePart part gen target body }))) ∧
  (∀ (s : State), let d0 := s.dev
    (d0.frames = true → Completes .frameTick s (fun d => d.frnum = d0.frnum + 1 ∧
      d.now = max d0.now (d0.tickt.toNat + d0.period.toNat) ∧ d.tickt = d.time ∧
      d.period = BitVec.ofNat 19 (d0.rfld Reg.tbase_PERIOD 18 0))) ∧
    (∀ (p : PageId) (c : Commit), d0.pendingSet p.val = some c → isFramePage p.val = true → c.page = p.val →
      (∀ e ∈ c.vals, e.1 / 0x1000 = p.val ∧ 0x30 ≤ e.1 % 0x1000) → (c.vals.map (fun e => e.1)).Nodup →
      let d := Dev.applyPending p.val d0
      (∀ e ∈ c.vals, d.reg e.1 = mergeMask (shMask e.1) e.2 (d0.reg e.1)) ∧ d.rfld (Reg.pgCmtstat p.val) 15 14 = 2 ∧
      d.rbit (Reg.pgStat p.val) 31 = false ∧ d.rbit (Reg.pgEvt p.val) 29 = true ∧
      d0.keepsRegs d (c.vals.map (fun e => e.1) ++ [Reg.pgCmtstat p.val, Reg.pgStat p.val, Reg.pgEvt p.val])) ∧
    (∀ g : AdmId,
      let win := d0.rfld (admBase g.val) 7 0
      let n := satU 32 ((d0.reg (admBase g.val + 0xC)).toNat + (d0.reg (admBase g.val + 0x10)).toNat)
      (win ≠ 0 → d0.rbit Reg.sys_OVLSUM g.val = false → win ≤ (d0.ovlGet g.val).2.1 → Completes (.overloadRaise g) s (fun d =>
        d.rbit Reg.sys_OVLSUM g.val = true ∧ d.rbit (Reg.pgEvt 0) 0 = true ∧ d.journaled 0x0B (admBase g.val / 0x1000) 1 (toWord n) ∧
        d0.keepsRegs d [Reg.sys_OVLSUM, Reg.pgEvt 0] ∧ d = { d0 with regs := d.regs, jrn := d.jrn })) ∧
      (d0.rbit Reg.sys_OVLSUM g.val = true → (win = 0 ∨ win ≤ (d0.ovlGet g.val).2.2) → Completes (.overloadFall g) s (fun d =>
        d.rbit Reg.sys_OVLSUM g.val = false ∧ d.journaled 0x0B (admBase g.val / 0x1000) 0 (toWord n) ∧
        d0.keepsRegs d [Reg.sys_OVLSUM] ∧ d = { d0 with regs := d.regs, jrn := d.jrn })) ∧
      (win = 0 → d0.rbit Reg.sys_OVLSUM g.val = false → Completes (.overloadRaise g) s (fun d => d = d0)))))

/-- Deliveries at a copy: a PROPOSE or REPLACE arms it and is accepted if its retire count is at most D, and is refused
as an overrun otherwise; CONFIRM confirms the armed delivery; at its instruction D the events become pending, each page
in the world that IRQD.ROUTE names, and AGREED keeps its data for the AGR event (R161, R162, R164 to R167). -/
def Obligations.CopyDeliveries : Prop :=
  ∀ (s : State) (c : CopyId) (h : Hdr) (id : Byte) (p : BitVec 48) (ev : Events) (m : AgreedMsg),
    let x := s.dev.copy c
    let r := s.dev.acceptedCopy c h
    (s.dev.copyAccepts c h →
      CopyStep (.agreed c h m) s c (fun y => y = { r with agreedIn := m }) ∧
      (∀ i : Instr, (i = .drpPropose c h id p ev ∨ i = .drpReplace c h id p ev) → x.stop = none →
        ((p - x.retire).toNat < 2 ^ 47 → CopyStep i s c (fun y => y.armed = some ⟨id, p, ev, false⟩ ∧ y.lastDrp = id ∧
          y.side.holds (.retrep x.retire id 1) ∧ y.retire = x.retire ∧ y.pc = x.pc ∧ x.wrote y 0 0)) ∧
        (2 ^ 47 ≤ (p - x.retire).toNat → CopyStep i s c (fun y => y.armed = none ∧ y.lastDrp = id ∧
          y.side.holds (.retrep x.retire id 2) ∧ y.retire = x.retire ∧ y.pc = x.pc))) ∧
      (∀ a, x.armed = some a → a.id = id → CopyStep (.drpConfirm c h id) s c (fun y =>
        y = { r with lastDrp := id, armed := some { a with confirmed := true } })) ∧
      (∀ a, x.armed = some a → a.id ≠ id → CopyStep (.drpConfirm c h id) s c (fun y => y.armed = some a))) ∧
    (∀ a, x.armed = some a → a.confirmed = true → x.retire = a.d + 1 → x.runs = true → x.dbg = false → a.ev.dbg = false →
      CopyStep (.deliveryRetirePoint c) s c (fun y => y.armed = none ∧
        y.tck = (if a.ev.tck then some (x.time.frame, a.d) else x.tck) ∧ y.agr = (x.agr || a.ev.agr) ∧
        y.agreed = (if a.ev.agr then x.agreedIn else x.agreed) ∧
        y.iron.pages = x.iron.pages ||| (a.ev.pages &&& ~~~s.dev.env.route) ∧
        y.tin.pages = x.tin.pages ||| (a.ev.pages &&& s.dev.env.route) ∧
        y.pc = x.pc ∧ y.retire = x.retire ∧ y.hush = x.hush ∧ y.debug = x.debug ∧ x.wrote y 0 0)) ∧
    (∀ a, x.armed = some a → a.confirmed = true → x.retire = a.d + 1 → x.runs = true → a.ev.dbg = true → x.settled →
      CopyStep (.deliveryRetirePoint c) s c (fun y => y.armed = none ∧ y.debug = true ∧ y.dbg = false ∧ y.pc = x.pc ∧
        y.retire = x.retire))

/-- COREREL at a copy of RELSET begins execution from the reset state: pc 0, Iron ring 0 with HUSH 1 and BMODE 0b00,
every general register 0, no request, no event and cold caches; the link and the copy's time go on; a copy outside
RELSET does nothing (R148, R227, R231; the registers' zero is the model's choice, assumption 27). -/
def Obligations.CopyRelease : Prop :=
  ∀ (s : State) (c : CopyId) (h : Hdr) (frame : Word) (relset : BitVec 3) (gen : Byte) (level : BitVec 2),
    s.dev.copyAccepts c h →
    let x := s.dev.copy c
    let i : Instr := .corerel c h frame relset gen level
    (relset.getLsbD c.val = true → CopyStep i s c (fun y =>
      y.released = true ∧ y.powered = true ∧ y.pc = 0 ∧ y.world = .iron ∧ y.ring = 0 ∧ y.hush = true ∧ y.bmode = 0 ∧
      y.ibusy = false ∧ y.idflt = false ∧ y.tbusy = false ∧ y.tdflt = false ∧ y.retire = 0 ∧ y.csn = 0 ∧ y.out = [] ∧
      y.tck = none ∧ y.agr = false ∧ y.iron.pages = 0 ∧ y.tin.pages = 0 ∧ y.armed = none ∧ y.acc = 0 ∧ y.bstat = 0 ∧
      y.hushmax = 0xFFFF ∧ y.icache = ⟨[], []⟩ ∧ y.dcache = ⟨[], []⟩ ∧ (∀ r, y.xr r = 0) ∧
      y.time = x.time ∧ y.sense = x.sense ∧ y.link = .active ∧ y.side.expSeq = x.side.expSeq + 1)) ∧
    (relset.getLsbD c.val = false → CopyStep i s c (fun y => y = s.dev.acceptedCopy c h))

/-- RDDATA and WRACK at a copy: the owner's tag is free again; a load takes the word that its code yields and retires; a
refused load and one with a word that its code cannot correct trap with CSN and status; a refused posted write is
recorded in the bank of its world, the first one with its CSN and status, a further one in the count alone; a tag
without an owner stops the copy (R126, R127, R184, R193, R194, R202, R253). A FETCH's line: LINE0 is kept with the
request, and LINE1 frees the tag and puts the eight words, each as its code yields it, into the instruction cache with
their parity word; a refused line traps as an instruction-access fault (R107, R127, R178, R180, R181, R193). -/
def Obligations.ResponsesAtCopy : Prop :=
  ((∀ (s : State) (c : CopyId) (h : Hdr) (csn : Word) (tag : BitVec 6) (status : Byte) (w : CWord), s.dev.copyAccepts c h →
    let r := s.dev.acceptedCopy c h
    let out1 := r.out.filter (fun (o : Outst) => o.tag != tag)
    (∀ o k rd a cached len v, r.owner tag = some o → o.ty = .read → o.req.csn = csn → o.use = .loadWait k rd a cached →
      r.wait = .load len → r.stop = none → r.dbg = false → isRefused status = false →
      checkVal w.data w.ecc (wordOf a) = some v →
      CopyStep (.rddata c h csn tag status w) s c (fun y => r.wrote y rd (loadVal k a v) ∧
        r.retired y (r.pc + toWord len) ∧ y.out = out1 ∧ y.wait = .none ∧
        (cached = false → y.dcache = r.dcache))) ∧
    (∀ o k rd a cached len, r.owner tag = some o → o.ty = .read → o.req.csn = csn → o.use = .loadWait k rd a cached →
      r.wait = .load len → r.stop = none → r.dbg = false →
      let z : Copy := { r with out := out1, wait := .none }
      z.canTrap → z.keepsStack s.dev.env z.world →
      (isRefused status = true → CopyStep (.rddata c h csn tag status w) s c (fun y =>
        z.entered y z.world 3 false a (BitVec.ofNat 64 (csn.toNat * 2 ^ 32 + status.toNat)))) ∧
      (isRefused status = false → checkVal w.data w.ecc (wordOf a) = none →
        CopyStep (.rddata c h csn tag status w) s c (fun y =>
          z.entered y z.world 0x0A false a (BitVec.ofNat 64 (csn.toNat * 2 ^ 32))))) ∧
    (∀ o sp, r.owner tag = some o → o.ty = .write → o.req.csn = csn → o.use = .posted sp → r.stop = none →
      r.dbg = false → r.wait = .none →
      (isRefused status = false → CopyStep (.wrack c h csn tag status) s c (fun y => y = { r with out := out1 })) ∧
      (isRefused status = true → fld (r.bank o.req.world).reqerr 15 8 = 0 →
        CopyStep (.wrack c h csn tag status) s c (fun y => y.out = out1 ∧
          (y.bank o.req.world).reqerr = toWord (csn.toNat % 65536 * 65536 + 256 + status.toNat) ∧
          (∀ v, v ≠ o.req.world → y.bank v = r.bank v) ∧ y.pc = r.pc ∧ y.retire = r.retire)) ∧
      (isRefused status = true → 0 < fld (r.bank o.req.world).reqerr 15 8 →
        CopyStep (.wrack c h csn tag status) s c (fun y => y.out = out1 ∧
          (y.bank o.req.world).reqerr = setFld (r.bank o.req.world).reqerr 15 8
            (min 255 (fld (r.bank o.req.world).reqerr 15 8 + 1))))) ∧
    (r.owner tag = none → CopyStep (.rddata c h csn tag status w) s c (fun y => y = { r with stop := some .protocol }) ∧
      CopyStep (.wrack c h csn tag status) s c (fun y => y = { r with stop := some .protocol }))) ∧
  (∀ (s : State) (c : CopyId) (h : Hdr) (tag : BitVec 6) (status : Byte) (lo hi : Four CWord), s.dev.copyAccepts c h →
    let r := s.dev.acceptedCopy c h
    let out1 := r.out.filter (fun (o : Outst) => o.tag != tag)
    let ws := fourList lo ++ fourList hi
    (∀ o, r.owner tag = some o → o.ty = .fetch → r.stop = none → r.wait = .fetch o.req.addr →
      CopyStep (.line0 c h tag status lo) s c (fun y => y.pc = r.pc ∧ y.retire = r.retire ∧ y.icache = r.icache ∧
        y.out = r.out.map (fun (o : Outst) => if o.tag = tag then { o with line0 := some (status, lo) } else o))) ∧
    (∀ o line st0, r.owner tag = some o → o.ty = .fetch → r.stop = none → r.dbg = false → o.use = .fetch line →
      o.line0 = some (st0, lo) → isRefused st0 = false → isRefused status = false →
      (∀ i : Fin 8, checkWord (listGet cwordZero ws i.val).data (listGet cwordZero ws i.val).ecc (wordAddr line i.val) = .ok) →
      CopyStep (.line1 c h tag status hi) s c (fun y => y.out = out1 ∧ y.wait = .none ∧ y.pc = r.pc ∧
        y.retire = r.retire ∧ r.wrote y 0 0 ∧
        y.icache.at (Cache.slotFor icSets r.icache line) = some ⟨line, ws, parityOf line ws⟩)) ∧
    (∀ o line st0, r.owner tag = some o → o.ty = .fetch → r.stop = none → r.dbg = false → o.use = .fetch line →
      o.line0 = some (st0, lo) → isRefused st0 = false → isRefused status = true →
      let z : Copy := { r with out := out1, wait := .none }
      z.canTrap → z.keepsStack s.dev.env z.world → lineOf z.pc = line →
      CopyStep (.line1 c h tag status hi) s c (fun y =>
        z.entered y z.world 1 false z.pc (BitVec.ofNat 64 (o.req.csn.toNat * 2 ^ 32 + status.toNat))))))

/-- Debug at a copy in debug: DBGCMD reads or writes a register or the PC, resumes, or counts steps, and every command
is answered; a copy that runs does nothing; when its steps are done the copy enters debug again (R111, R212, R441).
Debug at the hub: HALT makes the DBG event pending, journaled as any write; while halted each command goes to every copy
with its ARG and DBG.DATA under the allowance of two a frame and opens its own answers, RESUME and STEP invalidate the
caches that debug writes ask for, and STEP ends HALTED; a command to copies that are not halted does nothing; entry
reports of every copy set HALTED with the retire count; equal replies give RSP and RSTAT, RESUME ends HALTED, and a
differing copy of the trio is lost (R53, R169, R289, R438, R439, R441). -/
def Obligations.Debug : Prop :=
  ((∀ (s : State) (c : CopyId) (h : Hdr) (id : Byte) (arg : Half) (v : Word),
    let x := s.dev.copy c
    let n : BitVec 5 := arg.setWidth 5
    (s.dev.copyAccepts c h → x.debug = true → x.stop = none → x.dbgInval = false →
      CopyStep (.dbgcmd c h 1 id arg v) s c (fun y => x.wrote y 0 0 ∧ y.pc = x.pc ∧ y.debug = true ∧
        y.side.holds (.dbgrsp 1 id 0 (x.xr n) x.retire)) ∧
      CopyStep (.dbgcmd c h 2 id arg v) s c (fun y => x.wrote y n v ∧ y.pc = x.pc ∧ y.debug = true ∧
        y.side.holds (.dbgrsp 2 id 0 0 x.retire)) ∧
      (csrAccess x.world x.ring arg.toNat ≠ 0 → CopyStep (.dbgcmd c h 3 id arg v) s c (fun y => x.wrote y 0 0 ∧
        y.debug = true ∧ y.side.holds (.dbgrsp 3 id 0 (x.csrGet arg.toNat) x.retire))) ∧
      (csrAccess x.world x.ring arg.toNat ≠ 2 → CopyStep (.dbgcmd c h 4 id arg v) s c (fun y => x.wrote y 0 0 ∧
        y.masked = x.masked ∧ y.side.holds (.dbgrsp 4 id 1 0 x.retire))) ∧
      CopyStep (.dbgcmd c h 5 id arg v) s c (fun y => x.wrote y 0 0 ∧ y.pc = x.pc ∧
        y.side.holds (.dbgrsp 5 id 0 x.pc x.retire)) ∧
      CopyStep (.dbgcmd c h 6 id arg v) s c (fun y => x.wrote y 0 0 ∧ y.pc = v &&& 0xFFFFFFFE ∧ y.debug = true ∧
        y.side.holds (.dbgrsp 6 id 0 0 x.retire)) ∧
      CopyStep (.dbgcmd c h 7 id arg v) s c (fun y => y.debug = false ∧ y.step = none ∧ y.pc = x.pc ∧ x.wrote y 0 0 ∧
        y.icache = x.icache ∧ y.dcache = x.dcache) ∧
      CopyStep (.dbgcmd c h 8 id arg v) s c (fun y => y.debug = false ∧ y.step = some arg.toNat ∧ y.pc = x.pc)) ∧
    (s.dev.copyAccepts c h → x.debug = true → x.dbgInval = true → CopyStep (.dbgcmd c h 7 id arg v) s c (fun y =>
      y.debug = false ∧ y.icache = ⟨[], []⟩ ∧ y.dcache = ⟨[], []⟩ ∧ y.dbgInval = false)) ∧
    (s.dev.copyAccepts c h → x.debug = false → CopyStep (.dbgcmd c h 1 id arg v) s c (fun y =>
      y = s.dev.acceptedCopy c h)) ∧
    (x.step = some 0 → x.powered = true → x.stop = none → x.debug = false → x.settled →
      CopyStep (.debugStepDone c) s c (fun y => y.debug = true ∧ y.step = none ∧ y.pc = x.pc ∧ y.retire = x.retire ∧
        x.wrote y 0 0))) ∧
  (∀ (s : State) (src : Src) (n : Half) (i : Instr), let d0 := s.dev
    let halted : Bool := d0.rbit Reg.dbg_STAT 0
    (d0.letsWrite src Reg.dbg_CTRL → Completes (.dbgHalt src) s (fun d => d.agr.dbgPend = true ∧ d.cs = d0.cs ∧ d.copies = d0.copies ∧
      d.mem = d0.mem ∧ d.regs = d0.regs)) ∧
    (∀ op arg, (i, op, arg) ∈ [(.dbgReadReg src n, 1#8, n), (.dbgWriteReg src n, 2, n), (.dbgReadCsr src n, 3, n), (.dbgWriteCsr src n, 4, n),
        (.dbgReadPc src, 5, 0), (.dbgWritePc src, 6, 0), (.dbgResume src, 7, 0), (.dbgStep src n, 8, n)] →
      d0.letsWrite src Reg.dbg_CMD →
      (halted = true → Completes i s (fun d =>
        let f : HubFlit := .dbgcmd op (d0.dbg.dcid + 1) arg (d0.reg Reg.dbg_DATA)
        d.dbg.dcid = d0.dbg.dcid + 1 ∧ d.dbg.cmd = some (op, arg) ∧ d.dbg.answers = Tri.const none ∧
        (d0.agr.ctlUsed < 2 → d0.agr.ctlQueue = [] → (∀ c ∈ d0.liveLinks, (d.link c).side.holds f) ∧ d.agr.ctlUsed = d0.agr.ctlUsed + 1) ∧
        (2 ≤ d0.agr.ctlUsed → d.agr.ctlQueue = d0.agr.ctlQueue ++ [f] ∧ d.links = d0.links) ∧
        (op = 8 → d.rfld Reg.dbg_STAT 1 0 = 2) ∧ (op ≠ 8 → d.regs = d0.regs) ∧
        ((op = 7 ∨ op = 8) → d0.dbg.inval = true → d.dbg.inval = false ∧ (∀ c, (d.copy c).dbgInval = true)) ∧
        ((op.toNat < 7 ∨ d0.dbg.inval = false) → d.copies = d0.copies ∧ d.dbg.inval = d0.dbg.inval) ∧ d.mem = d0.mem)) ∧
      (halted = false → Completes i s (fun d => d = d0))) ∧
    (∀ (c : CopyId) (h : Hdr) (op id : Byte) (res : BitVec 2) (v : Word) (ret : BitVec 48), d0.hubAccepts c h →
      let r := d0.acceptedHub c h
      let ans : Byte × BitVec 2 × Word := (op, res, v)
      let others (P : CopyId → Prop) : Prop := ∀ x, x ≠ c → r.inSvc x = true → P x
      r.inSvc c = true →
      (op = 0 → others (fun x => r.dbg.reports.get x = true) → Completes (.dbgrsp c h op id res v ret) s (fun d =>
        d.rfld Reg.dbg_STAT 1 0 = 1 ∧ d.reg Reg.dbg_HALT_LO = ret.extractLsb' 0 32 ∧ (d.reg Reg.dbg_HALT_HI).toNat = ret.toNat / 2 ^ 32 ∧
        r.keepsRegs d [Reg.dbg_STAT, Reg.dbg_HALT_LO, Reg.dbg_HALT_HI])) ∧
      (∀ x, op = 0 → x ≠ c → r.inSvc x = true → r.dbg.reports.get x = false → Completes (.dbgrsp c h op id res v ret) s (fun d =>
        d.dbg.reports.get c = true ∧ d.regs = r.regs)) ∧
      (op ≠ 0 → id = r.dbg.dcid → r.dbg.cmd.isSome = true → 2 ≤ r.nSvc → others (fun x => r.dbg.answers.get x = some ans) →
        Completes (.dbgrsp c h op id res v ret) s (fun d => d.reg Reg.dbg_RSP = v ∧ d.reg Reg.dbg_RSTAT = 0 ∧ d.dbg.cmd = none ∧
          (op = 7 → d.rbit Reg.dbg_STAT 0 = false) ∧ r.keepsRegs d [Reg.dbg_STAT, Reg.dbg_RSP, Reg.dbg_RSTAT] ∧ d.copies = r.copies)) ∧
      (∀ b, op ≠ 0 → id = r.dbg.dcid → r.dbg.cmd.isSome = true → r.nSvc = 3 → b ≠ ans → others (fun x => r.dbg.answers.get x = some b) →
        r.cmp = [] → r.agr.dlv = none → Completes (.dbgrsp c h op id res v ret) s (fun d => d.rbit Reg.dbg_STAT 2 = true ∧
          (d.copy c).powered = false ∧ d.inSvc c = false ∧ d.nSvc = 2 ∧ d.rfld (Reg.pgFault 0x0B) 31 24 = 1 ∧
          d.reg Reg.cmp_MISCNT = satAdd (r.reg Reg.cmp_MISCNT) 1)) ∧
      (op ≠ 0 → (id ≠ r.dbg.dcid ∨ r.dbg.cmd = none) → Completes (.dbgrsp c h op id res v ret) s (fun d => d = r)))))

/-- A commit request of an immediate page that passes every check captures the shadow values that change: PG_CMTSTAT
shows it accepted with its tag, the CMT_HEAD and CMT_REG entries are in the journal's queue, the shadow set's ownership
ends, and no applied register, no memory and no copy changes yet (R43, R45, R47, R60, R64, R68). A commit request that
fails a check is refused with the reason and, for a consistency rule, its number in PG_CMTSTAT; PG_EVT.CMTREF is set,
the ownership ends, the shadow values and the applied registers stay, and no commit is added; the key, the lock and the
other world's ownership are among the checks (R45, R50, R51, R68). -/
def Obligations.Commits : Prop :=
  ((∀ (s : State) (src : Src) (p : PageId) (v : Word),
    let d0 := s.dev
    let ks := d0.changed p.val
    let c : Commit := ⟨p.val, v, ks.map (fun k => (k, d0.ifCommitted k)), false, true, none, src⟩
    d0.letsWrite src (Reg.pgCommit p.val) → d0.commitCheck src p.val v = (0, 0) → d0.touched p.val = true →
    isFramePage p.val = false → p.val ≠ 0x11 → d0.jRoom (ks.length + 1) = true →
    firstWaiting p.val d0.pages.commits = none →
    Completes (.pgCommit src p v) s (fun d =>
      d.reg (Reg.pgCmtstat p.val) = toWord (fld v 15 0 * 0x10000 + 0x4000) ∧
      d.pages.commits = d0.pages.commits ++ [c] ∧ d.owner p.val = none ∧ d.touched p.val = false ∧
      (∀ e ∈ d0.commitEntries src p.val v ks, e ∈ d.jrn.queue) ∧
      d0.keepsRegs d [Reg.pgCmtstat p.val, Reg.pgSeq p.val] ∧
      d = { d0 with regs := d.regs, pages := d.pages, jrn := d.jrn })) ∧
  (∀ (s : State) (src : Src) (p : PageId) (v : Word),
    let d0 := s.dev
    let r := d0.commitCheck src p.val v
    d0.letsWrite src (Reg.pgCommit p.val) →
    (r.1 ≠ 0 → r.1 ≠ 5 → Completes (.pgCommit src p v) s (fun d =>
      d.reg (Reg.pgCmtstat p.val) = toWord (fld v 15 0 * 0x10000 + 0xC000 + r.2 % 64 * 0x100 + (r.1 * 4 + 2)) ∧
      d.rbit (Reg.pgEvt p.val) 30 = true ∧ d.owner p.val = none ∧ d.shadow = d0.shadow ∧
      d.pages.commits = d0.pages.commits ∧ d0.keepsRegs d [Reg.pgCmtstat p.val, Reg.pgEvt p.val] ∧
      d = { d0 with regs := d.regs, pages := d.pages, jrn := d.jrn })) ∧
    (d0.planExec = false → fld v 31 24 ≠ 0xC5 → r = (0x24, 0)) ∧
    (d0.planExec = false → fld v 31 24 = 0xC5 → d0.rbit (Reg.pgLock p.val) 0 = true → r = (7, 0)) ∧
    (d0.planExec = false → fld v 31 24 = 0xC5 → d0.rbit (Reg.pgLock p.val) 0 = false → d0.otherOwns p.val src = true →
      r = (0x26, 0))))

/-- COMMIT_APPLY of the oldest accepted commit of an immediate page gives each captured register its SH bits, shows it
applied in PG_CMTSTAT and sets PG_EVT.CMTAPP; the commit is gone; a page without effects of its own changes nothing
else; while an entry of the commit waits in the queue nothing is applied (R48, R68). When the journal has had no places
in time, a waiting commit and a waiting LV write are refused JRNLFULL: the refusals are counted, the commit's shadow
values stay to be committed again, and the register keeps its value (R52, R53, R60). -/
def Obligations.CommitsApplied : Prop :=
  ((∀ (s : State) (p : PageId) (c : Commit),
    let d0 := s.dev
    (d0.live = true → d0.nextApply p.val = some c → c.page = p.val →
      (c.stream = true ∨ p.val ∉ [2, 3, 4, 10, 13, 0x1B, 0x1C, 0x1D, 0x1E]) →
      (∀ e ∈ c.vals, e.1 / 0x1000 = p.val ∧ 0x30 ≤ e.1 % 0x1000) → (c.vals.map (fun e => e.1)).Nodup →
      Completes (.commitApply p) s (fun d =>
        (∀ k w, (k, w) ∈ c.vals → d.reg k = mergeMask (shMask k) w (d0.reg k)) ∧
        d.reg (Reg.pgCmtstat p.val) = toWord (fld c.word 15 0 * 0x10000 + 0x8000) ∧
        d.rbit (Reg.pgEvt p.val) 29 = true ∧ d.pages.commits = d0.pages.commits.filter (· != c) ∧
        d0.keepsRegs d (c.vals.map (fun e => e.1) ++ [Reg.pgCmtstat p.val, Reg.pgEvt p.val]) ∧
        d = { d0 with regs := d.regs, pages := { d0.pages with commits := d.pages.commits } })) ∧
    (d0.commitComplete p.val = false → Completes (.commitApply p) s (fun d => d = d0))) ∧
  (∀ (s : State) (w : JWait),
    let d0 := s.dev
    d0.jrn.waiting = [w] → w.deadline ≤ d0.now → d0.pages.lv.all (fun j => !j.admitted) = true →
    (∀ (p : PageId) (c : Commit), w.what = .commit p.val → firstWaiting p.val d0.pages.commits = some c → c.csn = none →
      c.vals ≠ [] → Completes (.commitJournalDeadline p) s (fun d =>
        d.reg (Reg.pgCmtstat p.val) = toWord (fld c.word 15 0 * 0x10000 + 0xC000 + 0x82) ∧
        d.pages.commits = d0.pages.commits.filter (· != c) ∧ d.touched p.val = true ∧ d.shadow = d0.shadow ∧
        d.reg Reg.jrnl_EREF_T = satAdd (d0.reg Reg.jrnl_EREF_T) w.entries.length ∧
        d0.keepsRegs d [Reg.pgCmtstat p.val, Reg.pgEvt p.val, Reg.jrnl_EREF_T])) ∧
    (∀ (id : Nat) (j : LvJob), w.what = .lvWrite id → d0.pages.lv.find? (fun x => x.id == id) = some j → j.csn = none →
      Completes .lvWriteTimeout s (fun d =>
        d.pages.lv = d0.pages.lv.filter (fun x => x.id != id) ∧ d.jrn.waiting = [] ∧
        d.reg Reg.jrnl_EREF_T = satAdd (d0.reg Reg.jrnl_EREF_T) 1 ∧ d0.keepsRegs d [Reg.jrnl_EREF_T])) ∧
    (w.what = .event → Completes .journalEntryTimeout s (fun d =>
      d.jrn.waiting = [] ∧ d.jrn.queue = d0.jrn.queue ∧ d.jrn.loss = d0.jrn.loss + w.entries.length ∧
      d.reg Reg.jrnl_EREF_T = satAdd (d0.reg Reg.jrnl_EREF_T) w.entries.length ∧
      d0.keepsRegs d [Reg.jrnl_EREF_T]))))

/-- Writes of shadow fields: the shadow value takes the SH bits, the writer's world owns the set from then on, and the
applied value stays; a locked page and the other world's set refuse it and change nothing; SHDISC gives every shadow
register of the page its applied value and ends the ownership (R13, R43, R50). LV writes: a write is journaled first and
the register keeps its value; the write that LV_WRITE_APPLY takes is the oldest admitted one, and gives the register its
LV bits (R53). -/
def Obligations.ShadowAndLiveWrites : Prop :=
  ((∀ (s : State) (src : Src) (p : PageId) (off : BitVec 12) (v : Word),
    let d0 := s.dev
    let k := p.val * 0x1000 + off.toNat
    (d0.letsWrite src k → shMask k ≠ 0 → lvMask k = 0 → off.toNat ≥ 0x30 → isSafeReg k = false →
      p.val ∉ [0x1B, 0x1C] → d0.rbit (Reg.pgLock p.val) 0 = false → d0.otherOwns p.val src = false →
      p.val ∉ [0x15, 0x16, 0x17, 0x19] →
      Completes (.shadowWrite src p off v) s (fun d =>
        d.shad k = mergeMask (shMask k) v (d0.shad k) ∧ (∀ j, j ≠ k → d.shad j = d0.shad j) ∧
        d.touched p.val = true ∧ (d0.owner p.val = none → d.owner p.val = some (srcWorld src)) ∧
        d = { d0 with shadow := d.shadow, pages := d.pages })) ∧
    (d0.letsWrite src k → shMask k ≠ 0 → off.toNat ≥ 0x30 → isSafeReg k = false → p.val ∉ [0x1B, 0x1C] →
      (d0.rbit (Reg.pgLock p.val) 0 = true ∨ d0.otherOwns p.val src = true) →
      Completes (.shadowWrite src p off v) s (fun d => d = d0)) ∧
    (d0.letsWrite src (Reg.pgCtrl p.val) → d0.rbit (Reg.pgLock p.val) 0 = false →
      Completes (.shdisc src p) s (fun d =>
        (∀ j ∈ shKeys p.val, d.shad j = d0.reg j) ∧ (∀ j, j ∉ shKeys p.val → d.shad j = d0.shad j) ∧
        d.owner p.val = none ∧ d.regs = d0.regs ∧ d.mem = d0.mem ∧ d.copies = d0.copies))) ∧
  (∀ (s : State),
    let d0 := s.dev
    (∀ (src : Src) (p : PageId) (off : BitVec 12) (v : Word),
      let k := p.val * 0x1000 + off.toNat
      d0.letsWrite src k → lvMask k ≠ 0 → shMask k = 0 → w1cMask k = 0 → 0x30 ≤ off.toNat → lvAtOnce k = false →
      isSafeReg k = false → k ≠ Reg.release_CLR → k ≠ Reg.dbg_CTRL → p.val ∉ [5, 0x1B, 0x1C, 0x1F, 0x20] →
      d0.rbit (Reg.pgLock p.val) 0 = false → d0.jRoom 1 = true → d0.pages.lv = [] → d0.jrn.loss = 0 → d0.jrn.queue = [] →
      let nv := mergeMask (lvMask k) v (d0.reg k)
      Completes (.lvWrite src p off v) s (fun d =>
        d.pages.lv = [⟨d0.pages.lvNext, k, v, nv, src, true, none⟩] ∧
        d.jrn.queue = [d0.jEntry 4 p.val off.toNat (srcCode src) nv (d0.reg k) d0.frame32 false] ∧
        d = { d0 with pages := d.pages, jrn := d.jrn })) ∧
    (∀ j, d0.pages.lv.find? (fun x => x.admitted) = some j →
      d0.pages.lv.find? (fun x => x.id == j.id && x.admitted) = some j →
      j.key ∉ [Reg.release_CLR, Reg.jrnl_RDSEL, Reg.flash_RDADDR, Reg.otp_RDADDR, Reg.ledger_CVCTL] →
      j.key % 0x1000 ≠ 0x14 → Completes .lvWriteApply s (fun d =>
        d.reg j.key = mergeMask (lvMask j.key) j.val (d0.reg j.key) ∧ d0.keepsRegs d [j.key] ∧
        d.pages.lv = d0.pages.lv.filter (fun x => x.id != j.id) ∧
        d = { d0 with regs := d.regs, pages := { d0.pages with lv := d.pages.lv } })) ∧
    (d0.pages.lv = [] → Completes .lvWriteApply s (fun d => d = d0))))

/-- Writes that act at once, and writes that reach nothing: a W1C bit that is written 1 clears and every other bit of
the register stays; PG_EVTSET sets the bits written and no reserved status bit; PG_LOCK locks for good; UE clears with
its address; a write that the page's guard forbids changes no register and leaves a GUARD_DENY entry; one to a page that
does not exist changes nothing (R13, R42, R53, R57, R64, R68, R265, R267). Split reads: a read of the low half latches
the high half for its requester, a read of the high half returns the latched one, and one without its low half sets
PG_EVT bit 31; both leave every register else as it was (R55). -/
def Obligations.DirectWrites : Prop :=
  ((∀ (s : State) (src : Src) (p : PageId) (v : Word),
    let d0 := s.dev
    (d0.letsWrite src (Reg.pgEvtset p.val) → Completes (.pgEvtset src p v) s (fun d =>
      d.reg (Reg.pgEvt p.val) = d0.reg (Reg.pgEvt p.val) ||| (v &&& 0xE0FFFFFF) ∧
      d0.keepsRegs d [Reg.pgEvt p.val] ∧ d = { d0 with regs := d.regs })) ∧
    (d0.letsWrite src (Reg.pgFault p.val) → p.val ∉ [0x12, 0x13] → w1cMask (Reg.pgFault p.val) ≠ 0 →
      shMask (Reg.pgFault p.val) = 0 →
      Completes (.registerWrite src p 0x1C v) s (fun d =>
        d.reg (Reg.pgFault p.val) = d0.reg (Reg.pgFault p.val) &&& ~~~(v &&& toWord (w1cMask (Reg.pgFault p.val))) ∧
        d0.keepsRegs d [Reg.pgFault p.val] ∧ d = { d0 with regs := d.regs })) ∧
    (d0.letsWrite src (Reg.pgLock p.val) → d0.rbit (Reg.pgLock p.val) 0 = false → bitOf v 0 = true → d0.jRoom 1 = true →
      d0.pages.lv = [] → Completes (.pgLock src p v) s (fun d => d.rbit (Reg.pgLock p.val) 0 = true ∧
        d0.keepsRegs d [Reg.pgLock p.val] ∧ d.shadow = d0.shadow ∧ d.mem = d0.mem)) ∧
    (d0.letsWrite src (Reg.pgLock p.val) → d0.rbit (Reg.pgLock p.val) 0 = true →
      Completes (.pgLock src p v) s (fun d => d = d0)) ∧
    (∀ retn : Bool,
      let q := if retn then 0x13 else 0x12
      let ad := if retn then Reg.retn_UEADDR else Reg.sram_UEADDR
      d0.letsWrite src (Reg.pgFault q) → Completes (.ueClear src retn) s (fun d =>
        d.rbit (Reg.pgFault q) 0 = false ∧ d.reg ad = 0 ∧ d0.keepsRegs d [Reg.pgFault q, ad] ∧ d.mem = d0.mem)) ∧
    (∀ off : BitVec 12, d0.live = true → d0.canReach src = true → d0.absentPage p.val = false →
      d0.heldBack src (p.val * 0x1000 + off.toNat) = false → d0.guardOk p.val src true = false → off.toNat ≠ 0x24 →
      Completes (.registerWrite src p off v) s (fun d => d.regs = d0.regs ∧ d.shadow = d0.shadow ∧ d.mem = d0.mem ∧
        (d0.jrn.loss = 0 → d.jrn.queue.length = d0.jrn.queue.length + 1))) ∧
    (∀ off : BitVec 12, d0.absentPage p.val = true → Completes (.registerWrite src p off v) s (fun d => d = d0))) ∧
  (∀ (s : State) (src : Src) (p : PageId) (off : BitVec 12),
    let d0 := s.dev
    let k := p.val * 0x1000 + off.toNat
    d0.live = true → d0.canReach src = true → d0.guardOk p.val src false = true →
    (isPairLo k = true → Completes (.splitReadLo src p off) s (fun d =>
      d.snap k src = ⟨true, d0.view (srcWorld src) (k + 4)⟩ ∧
      d = { d0 with pages := { d0.pages with snaps := d.pages.snaps } })) ∧
    (isPairHi k = true → isPairLo k = false → (d0.snap (k - 4) src).armed = true →
      Completes (.splitReadHi src p off) s (fun d =>
        d.snap (k - 4) src = ⟨false, (d0.snap (k - 4) src).hi⟩ ∧ d.regs = d0.regs ∧
        d = { d0 with pages := { d0.pages with snaps := d.pages.snaps } })) ∧
    (isPairHi k = true → isPairLo k = false → (d0.snap (k - 4) src).armed = false →
      Completes (.splitReadHi src p off) s (fun d =>
        d.rbit (Reg.pgEvt p.val) 31 = true ∧ d0.keepsRegs d [Reg.pgEvt p.val] ∧ d.mem = d0.mem))))

/-- The journal's ring: one entry of the queue at a time takes the next sequence number and slot, its eight words with
their CRC lie at the slot, HEAD, HEADSLOT and COUNT follow with their duplicates, and an entry that overwrites one not
yet mirrored counts in UNMIR; the rest of memory stays (R59, R61, R63, R266). The journal's read latch: RDSEL of an
entry that the ring holds latches its eight words as they are stored and shows whether the sequence number and the CRC
hold; of one that the ring does not hold it shows GONE (R59, R69). -/
def Obligations.JournalRing : Prop :=
  ((∀ (s : State) (e : JEntry) (rest : List JEntry),
    let d0 := s.dev
    let head := d0.reg Reg.jrnl_HEAD
    let slot := (d0.rfld Reg.jrnl_HEADSLOT 8 0 + 1) % 384
    let cnt := (d0.reg Reg.jrnl_COUNT).toNat
    let mir := d0.reg Reg.jrnl_MIRHEAD
    d0.live = true → d0.jrn.queue = e :: rest → d0.jrn.waiting = [] → d0.jrn.wroteAt + 4 ≤ d0.now → d0.pages.lv = [] →
    Completes .journalEntryWrite s (fun d =>
      d.reg Reg.jrnl_HEAD = head + 1 ∧ d.reg Reg.jrnl_HEADSLOT = toWord slot ∧
      d.reg Reg.jrnl_COUNT = toWord (min 384 (cnt + 1)) ∧ d.jrn.queue = rest ∧ d.jrn.wroteAt = d0.now ∧
      d.jdup = ⟨head + 1, toWord slot, toWord (min 384 (cnt + 1)), mir⟩ ∧
      (384 ≤ cnt → 384 ≤ (head - mir).toNat → d.reg Reg.jrnl_UNMIR = satAdd (d0.reg Reg.jrnl_UNMIR) 1) ∧
      (cnt < 384 → d.reg Reg.jrnl_UNMIR = d0.reg Reg.jrnl_UNMIR) ∧
      (∀ i : Fin 8, d.word (0x30000000 + 32 * slot + 4 * i.val) = listGet 0 (e.words (head + 1)) i.val) ∧
      (∀ a, a < 0x30000000 + 32 * slot ∨ 0x30000000 + 32 * slot + 32 ≤ a → d.byte a = d0.byte a))) ∧
  (∀ (s : State) (src : Src) (seq : Word),
    let d0 := s.dev
    let a := 0x30000000 + 32 * d0.slotOf seq
    d0.letsWrite src Reg.jrnl_RDSEL → d0.rbit (Reg.pgLock 1) 0 = false → d0.jRoom 1 = true → d0.pages.lv = [] →
    (d0.holdsEntry seq = true → (∀ i : Fin 8, d0.checkAt (a + 4 * i.val) = .ok) →
      Completes (.jrnlRdsel src seq) s (fun d =>
        (∀ i : Fin 8, d.reg (Reg.jrnl_RDWIN i.val) = d0.word (a + 4 * i.val)) ∧
        d.reg Reg.jrnl_RDSTAT = toWord (boolNat (d0.word a == seq) + 2 * boolNat (crcHolds (d0.words a 8))) ∧
        d.mem = d0.mem ∧ d.reg Reg.jrnl_HEAD = d0.reg Reg.jrnl_HEAD)) ∧
    (d0.holdsEntry seq = false → Completes (.jrnlRdsel src seq) s (fun d =>
      d.rbit Reg.jrnl_RDSTAT 2 = true ∧ (∀ i : Fin 8, d.reg (Reg.jrnl_RDWIN i.val) = d0.reg (Reg.jrnl_RDWIN i.val)) ∧
      d.mem = d0.mem))))

/-- Flushes: a request with a mirror area and room in the ledger starts a flush with its declared energy held; without a
mirror area it is refused ABSENT (the model's choice, assumption 13); enough unmirrored entries start one of class bulk;
at its end MIRHEAD is the newest entry written and the hold is gone (R65, R66, R407). -/
def Obligations.JournalFlushes : Prop :=
  ∀ (s : State) (src : Src),
    let d0 := s.dev
    let n := d0.unmirrored
    let id := d0.ledger.nextJob
    let fits (cls : Nat) : Prop := d0.jrn.mirValid = true ∧ d0.ledger.jobs = [] ∧ d0.ledgerStop = false ∧
      d0.jrn.flushJob = none ∧ (d0.flushEnergy : Int) ≤ d0.freeOf cls
    let started (d : Dev) : Prop := d.jrn.flushJob = some id ∧ d.jrn.flushN = n ∧ d.flopp = true ∧
      d.reg Reg.jrnl_FLSTAT = 0 ∧ d.ledger.jobs.map (fun (j : Job) => (j.id, j.hold, j.admitted)) = [(id, d0.flushEnergy, true)] ∧
      d.mem = d0.mem ∧ d0.keepsRegs d [Reg.jrnl_FLSTAT, Reg.ledger_JSTAT]
    (∀ v, fld v 1 0 < 3 → d0.letsWrite src Reg.jrnl_FLUSH → fits (fld v 1 0) → Completes (.jrnlFlush src v) s started) ∧
    (∀ v, fld v 1 0 < 3 → d0.letsWrite src Reg.jrnl_FLUSH → d0.jrn.mirValid = false → Completes (.jrnlFlush src v) s (fun d =>
      d.reg Reg.jrnl_FLSTAT = 0x26 ∧ d.jrn.flushJob = d0.jrn.flushJob ∧ d.mem = d0.mem)) ∧
    (d0.live = true → 0 < d0.rfld Reg.jrnl_MIRCFG 15 0 → d0.rfld Reg.jrnl_MIRCFG 15 0 ≤ n → fits 2 →
      Completes .journalAutoFlush s started) ∧
    (∀ j, d0.ledger.jobs = [j] → j.admitted = true → d0.jrn.flushJob = some j.id → d0.jrn.flush = none →
      j.since + flushTime d0.jrn.flushN d0.jrn.flushX ≤ d0.now → d0.jrn.flushN = 1 → 1 ≤ n → d0.jrn.halfUsed < 512 →
      d0.ledger.planFlush = none → d0.planExec = false → d0.flash = none →
      Completes .journalFlushEnd s (fun d => d.reg Reg.jrnl_MIRHEAD = d0.reg Reg.jrnl_HEAD - toWord (n - 1) ∧
        d.jrn.flushJob = none ∧ d.ledger.jobs = [] ∧ d.jrn.halfUsed = d0.jrn.halfUsed + 1 ∧ d.flopp = false ∧
        d.reg Reg.jrnl_HEAD = d0.reg Reg.jrnl_HEAD))

/-- Every HUB-scope reset: from power-on, a brownout of VSUP_H, a stop of HCLK, RST_n, a WAKE in Hibernate and a
software reset with its key, each with its source, the hub starts from its reset values and keeps flash, retention
memory, OTP, the journal's pointers, the energy counts and the frame number, and no SRAM; VSUP_H below its threshold
leaves it without power (R389, R390, R397, R424 to R429). The software reset of the core set holds every output, keeps
LEVEL's Puffball value, and restarts the copy set without counting in RSTCNT; it waits while the ride-through plan
executes; another key does nothing (R292, R427, R435). -/
def Obligations.Resets : Prop :=
  ((∀ (s : State), let d0 := s.dev
    d0.flash = none →
    (d0.phase = .off → Completes .powerOn s (fun d => d0.restarted d d0.powerSource ∧ d.phase = .pllWait ∧ d.pstate = 0)) ∧
    (d0.phase ≠ .off → Completes .vsupHBrownout s (fun d => d0.restarted d 2 ∧ d.phase = .off)) ∧
    (d0.live = true → Completes .hclkStop s (fun d => d0.restarted d 5 ∧ d.phase = .pllWait)) ∧
    (d0.phase ≠ .off → d0.phase ≠ .hibernating → Completes .rstNAssert s (fun d => d0.restarted d 3 ∧ d.phase = .pllWait)) ∧
    (d0.phase = .hibernating → Completes .hibernateWake s (fun d =>
      d0.restarted d 4 ∧ d.phase = .pllWait ∧ d.rfld Reg.pwr_STAT 11 8 = 1)) ∧
    (∀ src v, d0.letsWrite src Reg.rst_SWRST → fld v 1 0 = 2 → fld v 31 24 = 0xA5 →
      Completes (.swrstHub src v) s (fun d => d0.restarted d 6 ∧ d.phase = .pllWait)) ∧
    (∀ src v, d0.letsWrite src Reg.rst_SWRST → fld v 1 0 = 2 → fld v 31 24 ≠ 0xA5 →
      Completes (.swrstHub src v) s (fun d => d = d0))) ∧
  (∀ (s : State) (src : Src) (v : Word), let d0 := s.dev
    d0.letsWrite src Reg.rst_SWRST → fld v 1 0 = 1 →
    (fld v 31 24 = 0xA5 → d0.csRunning = true → d0.planExec = false → Completes (.swrstCoreset src v) s (fun d =>
      d.devLatch = true ∧ d.cs = .waiting ∧ d.csDue = d0.now + 4000 ∧ d.cmp = [] ∧ d.nSvc = 0 ∧
      (∀ c, d.copy c = Dev.copyReset ∧ d.link c = Dev.linkReset) ∧
      d.level = (if d0.level = 3 then 3 else 2) ∧ d.rfld Reg.rst_LAST 15 8 = 0x12 ∧
      d.rfld Reg.release_RSTCNT 3 0 = d0.rfld Reg.release_RSTCNT 3 0 ∧
      d.journaled 8 5 0x12 (toWord (2 + maskOf d0.poweredCopies * 256)))) ∧
    (fld v 31 24 = 0xA5 → d0.csRunning = true → d0.planExec = true → Completes (.swrstCoreset src v) s (fun d =>
      d.devLatch = true ∧ d.cs = d0.cs ∧ d.pendRestart = some 0x112)) ∧
    (fld v 31 24 ≠ 0xA5 → Completes (.swrstCoreset src v) s (fun d => d = d0))))

/-- Boot steps 1 and 2: the reference PLL locks 8 000 HCLK after the start; the OTP load takes 4 000 HCLK and gives the
Puffball configuration and the lock state; the retention check takes 2 000 HCLK, keeps valid retention memory and starts
the journal anew in a cleared one where it is invalid; a held LOADER goes to the loader (R62, R268, R354, R420, R430,
R436, R443, R444). -/
def Obligations.BootToImageCheck : Prop :=
  ∀ (s : State), let d0 := s.dev
    (d0.phase = .pllWait → Completes .referencePllLock s (fun d => d.phase = .otpLoad ∧ d.now = max d0.now d0.phaseDue ∧
      d.phaseDue = d.now + 4000 ∧ d.boot.loaderHeld = (d0.jtag.ir == 0x12) ∧
      d = { d0 with time := d.time, phase := d.phase, phaseDue := d.phaseDue, boot := d.boot })) ∧
    (d0.phase = .otpLoad → Completes .otpLoadDone s (fun d => d.phase = .retCheck ∧ d.now = max d0.now d0.phaseDue ∧
      d.phaseDue = d.now + 2000 ∧ d.reg Reg.puff_CFG = d0.otpWord 0x40 ∧ d.reg Reg.puff_DUTY = d0.otpWord 0x44 ∧
      d.reg Reg.puff_DID = d0.otpWord 0x48 ∧ d.reg Reg.puff_DPFX = d0.otpWord 0x4C ∧ d.reg Reg.puff_DBTR = d0.otpWord 0x50 ∧
      d.rfld Reg.dbg_STAT 5 4 = (if d0.rfld Reg.dbg_STAT 9 8 = 3 then 3 else if bitOf (d0.otpWord 8) 1 then 1 else 0) ∧
      d.puff.insvcFrom = some d.now ∧ d.mem = d0.mem ∧
      d0.keepsRegs d [Reg.puff_CFG, Reg.puff_DUTY, Reg.puff_DID, Reg.puff_DPFX, Reg.puff_DBTR, Reg.dbg_STAT])) ∧
    (d0.phase = .retCheck → Completes .retentionCheckDone s (fun d => d.now = max d0.now d0.phaseDue ∧
      d.phase = (if d0.boot.loaderHeld then .service else .imgCheck) ∧ d.rbit Reg.boot_STAT 16 = (d0.boot.loaderHeld || d0.rbit Reg.boot_STAT 16) ∧
      (d0.retnInvalid = false → d.mem = d0.mem ∧ d.reg Reg.jrnl_HEAD = d0.reg Reg.jrnl_HEAD ∧
        d.journaled 8 5 (toWord (d0.rfld Reg.rst_LAST 7 0)) (toWord (1 + 256 * d0.packageMask))) ∧
      (d0.retnInvalid = true → d.rbit Reg.retn_STAT 0 = false ∧ d.reg Reg.jrnl_HEADSLOT = 383 ∧ d.reg Reg.jrnl_COUNT = 0 ∧
        (∀ a, isRetn a = true → d.byte a = 0) ∧ d.frnum = 0) ∧
      (d0.flopp = true → d.flopp = false ∧ d.faulted 0x11 0x35 d0.floppDst)))

/-- Boot step 3 and on: an image that fails a check is refused with the number of the check and the loader is served;
one that passes, and whose records are applied, locks GUARD and gives the copies that have their supply power, with 80
000 HCLK until their PLLs lock (R269 to R271, R387, R430, R431, R434, R435). The release decision once every powered
copy's link is active or lost: full, reduced with the fault of the absent copy, or no release with every copy's power
off and the loader served (R40, R433, R434). -/
def Obligations.BootToRelease : Prop :=
  ((∀ (s : State), let d0 := s.dev
    let r := Dev.records 1024 0x3FF100 (0x3FF100 + d0.recLen) 0 ((d0.at (d0.phaseDue + d0.imgTime)).mile 2 (d0.hdr 4))
    (d0.phase = .imgCheck → d0.imgCheck ≠ 0 → Completes .imageCheckDone s (fun d => d.phase = .service ∧
      d.rfld Reg.boot_STAT 15 8 = d0.imgCheck ∧ d.rbit Reg.boot_STAT 16 = true ∧ d.rfld Reg.boot_STAT 7 0 = 3 ∧
      d.mem = d0.mem ∧ d.cs = d0.cs ∧ d0.keepsRegs d [Reg.boot_STAT])) ∧
    (∀ n, d0.phase = .imgCheck → d0.imgCheck = 0 → r.2 = .applied n →
      Completes .imageCheckDone s (fun d => d.cs = .locking ∧ d.csDue = d.now + 80000 ∧ d.rfld Reg.boot_STAT 7 0 = 5 ∧
        (r.1.frames = true → d.phase = .run ∧ d.reg Reg.boot_IMGVER = r.1.hdr 4 ∧ d.rbit (Reg.pgLock 0x14) 0 = true ∧
          d.mem = r.1.mem ∧ (∀ c ∈ r.1.allowedCopies, r.1.copyLow c = false → d.copyStarts c)))) ∧
    (d0.phase = .imgCheck → d0.imgCheck = 0 → r.2 = .refused →
      Completes .imageCheckDone s (fun d => d.phase = .service ∧ d.rfld Reg.boot_STAT 15 8 = 6)) ∧
    (d0.cs = .waiting → Completes .copyPowerOn s (fun d => d.cs = .locking ∧ d.now = max d0.now d0.csDue ∧
      d.csDue = d.now + 80000 ∧ (∀ c ∈ d0.allowedCopies, d0.copyLow c = false → d.copyStarts c) ∧
      (∀ c, (c ∉ d0.allowedCopies ∨ d0.copyLow c = true) → d.copy c = d0.copy c) ∧ d.mem = d0.mem ∧
      d0.keepsRegs d [Reg.boot_STAT])) ∧
    (d0.cs = .locking → d0.pstate ≠ 4 → Completes .copyPllLocked s (fun d => d.cs = .training ∧
      d.rbit Reg.link_CFG 31 = false ∧ (∀ c ∈ d0.poweredCopies, d.lstate c = 1 ∧ d.rfld (Reg.linkx_STAT c.val) 23 16 = 1 ∧
        (d.copy c).link = .training) ∧ (∀ c, c ∉ d0.poweredCopies → d.copy c = d0.copy c ∧ d.lstate c = d0.lstate c))) ∧
    (d0.cs = .locking → d0.pstate = 4 → d0.rbit Reg.link_CFG 31 = false → Completes .copyPllLocked s (fun d =>
      d.cs = .training ∧ (∀ c ∈ d0.poweredCopies, d.lstate c = (if (d0.link c).eqStored then 9 else 1))))) ∧
  (∀ (s : State), let d0 := s.dev
    d0.cs = .training → d0.trainingOver = true → d0.pstate ≠ 4 →
    (d0.liveLinks.length = d0.allowedCopies.length → Completes .releaseDecision s (fun d =>
      d.cs = .relWait 0 ∧ d.boot.reduced = false ∧ d.rfld Reg.boot_STAT 7 0 = 6 ∧ d.copies = d0.copies ∧
      d.journaled 0x0F 6 6 (toWord (maskOf d0.liveLinks)) ∧ d0.keepsRegs d [Reg.boot_STAT])) ∧
    (d0.allowedCopies.length = 3 → d0.liveLinks.length = 2 → Completes .releaseDecision s (fun d =>
      d.cs = .relWait 0 ∧ d.boot.reduced = (d0.boot.variant != 3) ∧ d.copies = d0.copies ∧
      (d0.boot.variant ≠ 3 → d.rfld (Reg.pgFault 0x0B) 31 24 = 2) ∧ (d0.boot.variant = 3 → d.journaled 0x0F 6 8 (toWord (maskOf d0.liveLinks))))) ∧
    (d0.liveLinks.length < 2 → d0.liveLinks.length ≠ d0.allowedCopies.length → Completes .releaseDecision s (fun d =>
      d.cs = .held ∧ d.phase = .service ∧ d.rbit Reg.boot_STAT 16 = true ∧ d.rfld Reg.boot_STAT 15 8 = 8 ∧
      (∀ c, (d.copy c).powered = false) ∧ d.mem = d0.mem))))

/-- Supplies: a brownout of a copy's supply takes that copy out of service, and of one not in service only shows; an
overvoltage is a fault and nothing more; a brownout of VIO holds every output and leaves the copies running; a supply
back in range clears its flags and keeps their sticky copies (R289, R291, R386, R387, R446, R451). Clock sources: the
crystal found good is the source from the next tick, one not found fails with its fault; the monitors' window takes the
count, and by its table nothing, an LFCLK fault, the loss of the one copy, or a fault of HCLK, which acts on the crystal
as a safe restart and on the hub RC as a reset; a stopped LFCLK shows (R420 to R424, R446, R451). -/
def Obligations.SuppliesAndClocks : Prop :=
  ((∀ (s : State) (mv : Half), let d0 := s.dev
    let v : Word := mv.setWidth 32
    (∀ c : CopyId, d0.awake = true → d0.copyLow c = false →
      (d0.inSvc c = false → Completes (.copySupplyBrownout c mv) s (fun d =>
        d.reg (Reg.pwr_VSUPA + 4 * c.val) = v ∧ d.copyLow c = true ∧ d.rbit Reg.pwr_SUPSTAT (17 + c.val) = true ∧
        d.rbit (Reg.pgEvt 3) 0 = true ∧ d0.keepsRegs d [Reg.pwr_VSUPA + 4 * c.val, Reg.pwr_SUPSTAT, Reg.pgEvt 3] ∧
        d = { d0 with regs := d.regs })) ∧
      (d0.inSvc c = true → d0.nSvc = 3 → d0.cmp = [] → d0.agr.dlv = none → d0.dbg.answers = Tri.const none →
        Completes (.copySupplyBrownout c mv) s (fun d => d.copyLow c = true ∧ (d.copy c).powered = false ∧ d.inSvc c = false ∧
          (∀ x, x ≠ c → d.copy x = d0.copy x ∧ d.inSvc x = d0.inSvc x) ∧ d.level = max 1 d0.level ∧
          d.faulted 3 0x0B v ∧ d.devLatch = d0.devLatch)) ∧
      (d0.inSvc c = true → d0.nSvc < 3 → Completes (.copySupplyBrownout c mv) s (fun d =>
        d.devLatch = true ∧ (d.copy c).powered = false ∧ d.rfld (Reg.pgFault 3) 31 24 = 0x0B))) ∧
    (∀ i : Supply, i ≠ .vio → d0.awake = true → d0.rbit Reg.pwr_SUPSTAT (4 + supplyNo i) = false →
      Completes (.supplyOvervoltage i mv) s (fun d => d.reg (supplyReg i) = v ∧ d.rbit Reg.pwr_SUPSTAT (4 + supplyNo i) = true ∧
        d.rbit Reg.pwr_SUPSTAT (20 + supplyNo i) = true ∧ d.rbit (Reg.pgEvt 3) 1 = true ∧
        d.faulted 3 0x0C (toWord (d.rfld Reg.pwr_SUPSTAT 7 4)) ∧
        d0.keepsRegs d [supplyReg i, Reg.pwr_SUPSTAT, Reg.pgEvt 3, Reg.pgFault 3] ∧ d = { d0 with regs := d.regs, jrn := d.jrn })) ∧
    (d0.awake = true → d0.rbit Reg.pwr_SUPSTAT 8 = false → Completes (.vioBrownout mv) s (fun d =>
      d.reg Reg.pwr_VIO = v ∧ d.rbit Reg.pwr_SUPSTAT 8 = true ∧ d.rbit Reg.pwr_SUPSTAT 24 = true ∧ d.devLatch = true ∧
      d.cmp = [] ∧ d.level = (if d0.level = 3 then 3 else 2) ∧ d.copies = d0.copies ∧ d.cs = d0.cs ∧ d.faulted 3 0x0D v)) ∧
    (∀ i : Supply, d0.awake = true → Completes (.supplyBackInRange i mv) s (fun d =>
      d.reg (supplyReg i) = v ∧ d.rfld Reg.pwr_SUPSTAT 31 16 = d0.rfld Reg.pwr_SUPSTAT 31 16 ∧
      (i = .vio → d.rbit Reg.pwr_SUPSTAT 8 = false) ∧
      (i ≠ .vio → d.rbit Reg.pwr_SUPSTAT (supplyNo i) = false ∧ d.rbit Reg.pwr_SUPSTAT (4 + supplyNo i) = false) ∧
      d0.keepsRegs d [supplyReg i, Reg.pwr_SUPSTAT] ∧ d = { d0 with regs := d.regs })) ∧
    Completes .retentionSupplyLoss s (fun d => d.rbit Reg.retn_STAT 0 = true ∧ d0.keepsRegs d [Reg.retn_STAT] ∧
      d = { d0 with regs := d.regs })) ∧
  (∀ (s : State), let d0 := s.dev
    (d0.clk.starting = true → Completes .crystalOk s (fun d => d.rbit Reg.clk_STAT 1 = true ∧
      d = { d0 with regs := d.regs, clk := { d0.clk with starting := false, switchDue := true } } ∧ d0.keepsRegs d [Reg.clk_STAT])) ∧
    (d0.clk.starting = true → Completes .crystalTimeout s (fun d => d.now = max d0.now (d0.clk.startedAt + 4000000) ∧
      d.rbit Reg.clk_STAT 2 = true ∧ d.clk.starting = false ∧ d.faulted 4 0x0A 0 ∧ d0.keepsRegs d [Reg.clk_STAT, Reg.pgFault 4])) ∧
    (∀ count : Word, d0.live = true →
      let bad := d0.svcCopies.filter (fun c => d0.rhoOff c != 0)
      let inside := decide (359375 ≤ count.toNat) && decide (count.toNat ≤ 421875)
      (bad = [] → inside = true → Completes (.clockMonitorWindow count) s (fun d => d.reg Reg.clk_MONH = count ∧
        d.rfld Reg.clk_STAT 10 8 = 0 ∧ d0.keepsRegs d [Reg.clk_MONH, Reg.clk_STAT] ∧ d = { d0 with regs := d.regs })) ∧
      (bad = [] → inside = false → Completes (.clockMonitorWindow count) s (fun d => d.reg Reg.clk_MONH = count ∧
        d.rbit Reg.clk_STAT 3 = true ∧ d.faulted 4 9 count ∧ d0.keepsRegs d [Reg.clk_MONH, Reg.clk_STAT, Reg.pgFault 4])) ∧
      (∀ c, bad = [c] → inside = true → Completes (.clockMonitorWindow count) s (fun d => (d.copy c).powered = false ∧
        d.rfld Reg.clk_STAT 10 8 = 2 ^ c.val ∧ d.rfld (Reg.pgFault 4) 31 24 = 7)) ∧
      (bad ≠ [] → (inside = false ∨ 2 ≤ bad.length) → d0.rbit Reg.clk_STAT 0 = true → Completes (.clockMonitorWindow count) s (fun d =>
        d.devLatch = true ∧ d.rbit Reg.clk_STAT 0 = false ∧ d.rbit Reg.clk_STAT 2 = true ∧ d.rfld (Reg.pgFault 4) 31 24 = 8)) ∧
      (bad ≠ [] → (inside = false ∨ 2 ≤ bad.length) → d0.rbit Reg.clk_STAT 0 = false → Completes (.clockMonitorWindow count) s (fun d =>
        d.phase = .pllWait ∧ d.rfld Reg.rst_LAST 7 0 = 5 ∧ d.now = 0))) ∧
    (d0.live = true → d0.rbit Reg.clk_STAT 3 = false → Completes .lfclkStop s (fun d => d.rbit Reg.clk_STAT 3 = true ∧
      d.faulted 4 9 (d0.reg Reg.clk_MONH) ∧ d0.keepsRegs d [Reg.clk_STAT, Reg.pgFault 4] ∧ d = { d0 with regs := d.regs, jrn := d.jrn }))))

/-- One conversion each 4 000 HCLK gives HVOLT as the mean of the last eight, counts each input's energy with its
residue, and gives E; each ms PDRAW and HRZ follow from what was drawn (R399 to R402, R410). -/
def Obligations.EnergyMeasured : Prop :=
  ∀ (s : State), let d0 := s.dev
    (∀ (mv : Half) (q : Quad SupplySample), d0.live = true → Completes (.holdsnsConversion mv q) s (fun d =>
      let conv := (d0.ledger.conv ++ [mv.toNat]).drop 1
      d.now = max d0.now (d0.ledger.convAt + 4000) ∧ d.ledger.conv = conv ∧
      d.reg Reg.pwr_HOLDSNS = toWord (satU 16 (rneDiv (conv.foldl (fun a x => a + x) 0 : Nat) 8).toNat) ∧
      (∀ i : Fin 4, let n := d0.ledger.resid.get i + (q.get i).mv * (q.get i).ua
        d.ecnt i.val = (d0.ecnt i.val + n / 100000) % 2 ^ 64 ∧ d.ledger.resid.get i = n % 100000) ∧
      d.ledger.e = d.energyNow ∧
      d.ledger.below = (if d.rfld Reg.pwr_HOLDSNS 15 0 < d0.rfld Reg.ledger_MLCFG 15 0 then d0.ledger.below + 1 else 0) ∧
      d.ledger.jobs = d0.ledger.jobs ∧
      d0.keepsRegs d ([Reg.pwr_HOLDSNS, Reg.pwr_VSUPH, Reg.pwr_VSUPA, Reg.pwr_VSUPB, Reg.pwr_VSUPC] ++ (List.range 8).map Reg.ledger_ECNT) ∧
      d = { d0 with regs := d.regs, time := d.time, ledger := d.ledger })) ∧
    (d0.live = true →
      let l := d0.ledger
      let own := (rneDiv ((d0.ecntTotal + 2 ^ 66 - l.ecntPrev) % 2 ^ 64 : Nat) 1000).toNat
      let draw := max (own + d0.rfld Reg.ledger_BLOAD 15 0) (rneDiv (l.ePrev - l.e : Nat) 1000).toNat
      Completes .ledgerMsTick s (fun d => d.now = max d0.now (l.msAt + 400000) ∧ d.ledger.ePrev = l.e ∧
        d.ledger.ecntPrev = d0.ecntTotal ∧ (draw < 65536 → d.reg Reg.ledger_PDRAW = toWord draw) ∧
        d.reg Reg.ledger_HRZ = toWord (if draw = 0 then 0xFFFFFFFF else min (l.e / draw) 0xFFFFFFFF) ∧
        d0.keepsRegs d [Reg.ledger_PDRAW, Reg.ledger_HRZ] ∧ d.ledger.e = l.e ∧ d.ledger.jobs = l.jobs ∧ d.mem = d0.mem))

/-- Mains loss latches its time, sets its event, enters RIDE and starts an armed plan; mains return latches its time,
goes back to RUN and ends the plan; each step of the plan starts at its time in order, a NOP and a WRITE write their
RIDE entry, a timely step without energy is refused, and HIBERNATE goes its way at once (R389, R410 to R413). -/
def Obligations.MainsAndPlan : Prop :=
  ∀ (s : State), let d0 := s.dev
    (d0.mainsLost = true → Completes .mainsLoss s (fun d => d.pstate = 2 ∧ d.reg Reg.ledger_ML_LO = lo32 d0.now ∧
      d.reg Reg.ledger_ML_HI = hi32 d0.now ∧ d.rbit (Reg.pgEvt 2) 0 = true ∧ d.journaled 6 3 2 1 ∧
      (d0.rbit Reg.ledger_PLANCTL 0 = true → d.planExec = true ∧ d.rfld Reg.ledger_PLANCTL 11 8 = 0 ∧ d.ledger.planNext = 0 ∧
        d.ledger.planFrom = d0.now) ∧
      (d0.rbit Reg.ledger_PLANCTL 0 = false → d.reg Reg.ledger_PLANCTL = d0.reg Reg.ledger_PLANCTL) ∧
      d0.keepsRegs d [Reg.ledger_ML_LO, Reg.ledger_ML_HI, Reg.pgEvt 2, Reg.pwr_STAT, Reg.ledger_PLANCTL])) ∧
    (d0.pstate = 2 → d0.rfld Reg.ledger_MLFILT 7 0 ≤ d0.ledger.above → d0.pendRestart = none →
      Completes .mainsReturn s (fun d => d.pstate = 1 ∧ d.reg Reg.ledger_ML_LO = lo32 d0.now ∧ d.rbit (Reg.pgEvt 2) 1 = true ∧
        d.journaled 6 3 1 2 ∧ d.planExec = false ∧ d.ledger.below = 0 ∧
        d0.keepsRegs d [Reg.ledger_ML_LO, Reg.ledger_ML_HI, Reg.pgEvt 2, Reg.pwr_STAT, Reg.ledger_PLANCTL])) ∧
    (d0.planDue = true →
      let k := d0.ledger.planNext
      let at1 := max d0.now (max d0.ledger.planBusyUntil (d0.ledger.planFrom + 4000 * fld (d0.planStep k 0) 31 16))
      let timely := fld (d0.planStep k 0) 5 4 ≠ 0
      let b := (d0.at (d0.planStart k)).planBegin k
      let covered : Prop := (¬ timely ∧ (b.planJ k : Int) ≤ (b.ledger.e : Int) - b.hJobs) ∨ (timely ∧ (b.planJ k : Int) ≤ b.freeOf 1)
      (covered → d0.planOp k = 0 → Completes .rideStepStart s (fun d => d.now = at1 ∧ d.ledger.planNext = k + 1 ∧
        d.journaled 0x10 2 (toWord k) 0 ∧ d.mem = d0.mem)) ∧
      (covered → d0.planOp k = 3 → Completes .rideStepStart s (fun d => d.now = at1 ∧ d.pstate = 5 ∧ d.ledgerStop = true ∧
        d.lp.stopping = true ∧ d.journaled 0x10 2 (toWord k) 0 ∧ d.mem = d0.mem)) ∧
      (timely → b.freeOf 1 < (b.planJ k : Int) → d0.pendRestart = none → Completes .rideStepStart s (fun d =>
        d.now = at1 ∧ d.reg Reg.ledger_JSTAT = toWord ((0x10 + k) * 256 + 0x0E) ∧ d.rbit (Reg.pgEvt 2) 3 = true ∧
        d.journaled 0x10 2 (toWord k) 0x0E ∧ d.mem = d0.mem ∧
        (bitOf (d0.planStep k 0) 6 = true → d.planExec = false))))

/-- The ledger's jobs: the next waiting job that fits is admitted with its whole energy held, and its status is
*delayed*; one that waits too long is refused ENERGY and gone; a guard job that waits too long raises a guard overrun
and keeps waiting; each once (R31, R407 to R409). The capacitance check: GO in class timely or bulk submits a job of
HVOLT × I × TSTEP nJ, refused in class guard; V1 is read with the sink off, the sink is on for TSTEP, and the end gives
CMEAS, or FAIL where the voltage did not fall more with the sink on than off (R404, R405, R407). -/
def Obligations.LedgerJobs : Prop :=
  ((∀ (s : State) (j : Job), let d0 := s.dev
    (nextFit d0 d0.ledger.jobs none = some j → j.kind ≠ .capCheck → Completes .ledgerAdmit s (fun d =>
      d.ledger.jobs = d0.ledger.jobs.map (fun (x : Job) =>
        if x.id == j.id then { x with admitted := true, hold := x.energy, since := d0.now } else x) ∧
      d.reg Reg.ledger_JSTAT = toWord (j.kind.ident * 256 + 1) ∧ d.mem = d0.mem ∧ d.copies = d0.copies ∧
      (j.kind = .flush → d.jrn.flushJob = some j.id ∧ d.reg Reg.jrnl_FLSTAT = 1) ∧
      (∀ f, j.kind = .flashErase → j.flash = some f → d.flash = some { f with running := true } ∧ d.flopp = true))) ∧
    (nextFit d0 d0.ledger.jobs none = none → Completes .ledgerAdmit s (fun d => d = d0)) ∧
    (nextLate d0 d0.ledger.jobs none = some j → Completes .ledgerWaitTimeout s (fun d =>
      d.now = max d0.now (j.since + d0.jobWait j.cls.toNat) ∧ d.ledger.jobs = d0.ledger.jobs.filter (fun (x : Job) => x.id != j.id) ∧
      d.reg Reg.ledger_JSTAT = toWord (j.kind.ident * 256 + 0x0E) ∧ d.rbit (Reg.pgEvt 2) 3 = true ∧ d.mem = d0.mem)) ∧
    (d0.ledger.jobs.find? (fun x => !x.admitted && x.cls == 0 && !x.overran && !d0.jobFits x) = some j →
      Completes .ledgerGuardOverrun s (fun d => d.now = max d0.now (j.since + 400000) ∧
        d.ledger.jobs = d0.ledger.jobs.map (fun (x : Job) => if x.id == j.id then { x with overran := true } else x) ∧
        d.reg Reg.ledger_ADM_GOVR = satAdd (d0.reg Reg.ledger_ADM_GOVR) 1 ∧ d.rfld (Reg.pgFault 2) 31 24 = 0x0F ∧
        d0.keepsRegs d [Reg.ledger_ADM_GOVR, Reg.pgFault 2]))) ∧
  (∀ (s : State), let d0 := s.dev
    (∀ (src : Src) (v : Word), d0.letsWrite src Reg.ledger_CVCTL → bitOf v 31 = true → d0.rbit (Reg.pgLock 2) 0 = false →
      d0.otherOwns 2 src = false → d0.jRoom 1 = true → d0.pages.lv = [] →
      let c := mergeMask (lvMask Reg.ledger_CVCTL) v (d0.reg Reg.ledger_CVCTL)
      let h := d0.rfld Reg.pwr_HOLDSNS 15 0
      (d0.ledger.jobs = [] → d0.ledger.cap = none → d0.ledgerStop = false → (fld c 29 28 = 1 ∨ fld c 29 28 = 2) →
        ((h * sinkMa c * fld c 15 8 : Nat) : Int) ≤ d0.freeOf (fld c 29 28) → h * sinkMa c ≤ 1250000 →
        Completes (.cvctlGo src v) s (fun d => d.ledger.cap = some ⟨1, h, 0, sinkMa c, fld c 15 8, d0.now + 400000 * fld c 15 8⟩ ∧
          d.reg Reg.ledger_JSTAT = 0x500 ∧ d.ledger.jobs.map Job.hold = [h * sinkMa c * fld c 15 8] ∧ d.mem = d0.mem)) ∧
      (fld c 29 28 = 0 → Completes (.cvctlGo src v) s (fun d => d.rfld Reg.ledger_CVSTAT 7 0 = 0x0A ∧
        d.reg Reg.ledger_JSTAT = 0x50A ∧ d.ledger.jobs = d0.ledger.jobs ∧ d.ledger.cap = d0.ledger.cap))) ∧
    (∀ k, d0.ledger.cap = some k → k.stage = 1 → Completes .capCheckSinkOn s (fun d => d.ledger.sink = true ∧
      d.now = max d0.now k.due ∧
      d.ledger.cap = some { k with stage := 2, v1 := d0.rfld Reg.pwr_HOLDSNS 15 0, due := d.now + 400000 * k.step } ∧
      d = { d0 with time := d.time, ledger := d.ledger })) ∧
    (∀ k, d0.ledger.cap = some k → k.stage = 2 →
      let delta : Int := ((k.v1 : Int) - (d0.rfld Reg.pwr_HOLDSNS 15 0 : Nat)) - ((k.v0 : Int) - k.v1)
      let m := (rneDiv (k.amps * k.step * 1000000 : Nat) delta.toNat).toNat
      Completes .capCheckEnd s (fun d => d.ledger.sink = false ∧ d.ledger.cap = none ∧ d.rbit (Reg.pgEvt 2) 2 = true ∧
        (∀ j ∈ d.ledger.jobs, j.admitted = true → j.kind ≠ .capCheck) ∧
        (delta ≤ 0 → d.rbit Reg.ledger_CVSTAT 8 = true ∧ d.reg Reg.ledger_CMEAS = d0.reg Reg.ledger_CMEAS) ∧
        (0 < delta → m < 2 ^ 32 → d.rbit Reg.ledger_CVSTAT 8 = false ∧ d.reg Reg.ledger_CMEAS = toWord m) ∧ d.mem = d0.mem))))

/-- Low power: the entry ends the frames and the compared requests and parks every copy, with the equalizer settings of
an active link kept; HCLK stops with the journal's queue written; Doze ends by an enabled source alone, and its end
starts the copies in service from their regulators and TIME goes on by what passed (R389 to R395, R397). -/
def Obligations.LowPower : Prop :=
  ∀ (s : State), let d0 := s.dev
    (d0.lp.stopping = true → (d0.pstate = 3 ∨ d0.pstate = 5) → Completes .lowPowerEntry s (fun d =>
      d.lp.entered = true ∧ d.frames = false ∧ d.cmp = [] ∧ d.cs = .idle ∧ d.pstate = d0.pstate ∧
      (∀ c, (d.copy c).powered = false) ∧ (∀ c ∈ d0.poweredCopies, (d.link c).eqStored = (d0.lstate c == 7)) ∧ d.mem = d0.mem)) ∧
    (d0.stopReady = true → d0.pstate = 3 → d0.lp.wakePend = none → Completes .lowPowerStop s (fun d =>
      d.phase = .dozing ∧ d.pstate = 6 ∧ d.jrn.queue = [] ∧ d.reg Reg.jrnl_HEAD = d0.reg Reg.jrnl_HEAD + 1 ∧ d.time = d0.time)) ∧
    (d0.stopReady = true → d0.pstate = 5 → d0.flash = none → Completes .lowPowerStop s (fun d =>
      d.phase = .hibernating ∧ d.pstate = 7 ∧ d.reg Reg.jrnl_HEAD = d0.reg Reg.jrnl_HEAD + 1 ∧
      (∀ k, k ∉ retainedKeys → d.reg k = regReset k) ∧ (∀ a, isFlash a = true → d.byte a = d0.byte a))) ∧
    (∀ w, d0.wakeOn w = true → d0.phase = .dozing → d0.pstate = 6 → Completes (.dozeWake w) s (fun d => d.phase = .dozeWake ∧
      d.pstate = 4 ∧ d.rfld Reg.pwr_STAT 11 8 = wakeCode w ∧ d.journaled 6 3 4 6 ∧ d0.keepsRegs d [Reg.pwr_STAT])) ∧
    (∀ w, d0.wakeOn w = true → d0.phase ≠ .dozing → d0.pstate = 3 → Completes (.dozeWake w) s (fun d =>
      d = { d0 with lp := { d0.lp with wakePend := some w } })) ∧
    (∀ w, d0.wakeOn w = false → Completes (.dozeWake w) s (fun d => d = d0)) ∧
    (∀ n : Nat, d0.phase = .dozeWake → Completes (.dozeClockRestored n) s (fun d => d.phase = .run ∧ d.cs = .locking ∧
      d.time = BitVec.ofNat 64 (d0.now + (rneDiv ((n : Int) * 390625) 32).toNat) ∧ d.csDue = d.now + 80000 ∧
      d.ledgerStop = false ∧ d.rfld Reg.pwr_REQ 1 0 = 0 ∧ (∀ c ∈ d0.svcCopies, d.copyStarts c) ∧ d.mem = d0.mem))

/-- A sense block: at the end of a group's conversions its sample message leaves with every enabled channel corrected by
R76 and saturated; in a calibration run the four calibration conversions are summed; a digital aperture sends three
messages of the previous frame's edges; an edge that qualifies is counted with its hub time, one that does not only
changes the level (R74, R76, R82 to R84, R90 to R93, R109, R147). -/
def Obligations.SenseBlocks : Prop :=
  ∀ (s : State) (c : CopyId), let d0 := s.dev; let x := s.dev.copy c
    (∀ (g : GroupId) (q cal : Four Half) (temp : Half), x.senses = true → x.sense.grpEn g.val = true → x.stop = none →
      (x.sense.runFrom = none → let m := x.sense.sampleMsg x.time.frame g q temp
        CopyStep (.groupConversionEnd c g q cal temp) s c (fun y => y.side.holds (.sample m) ∧ m.frame = x.time.frame ∧
          m.group = g ∧ m.gen = x.sense.gen ∧
          (∀ j : Fin 4, x.sense.chEn (4 * g.val + j.val) = true → fourGet m.y j.val = BitVec.ofNat 16 (wrapU 16 (satS 16
            (rRne ((16 * ((fourGet q j.val).toNat : Int) - listGet 0 x.sense.ofs (4 * g.val + j.val)) *
              listGet 0 x.sense.gain (4 * g.val + j.val)) 34)))) ∧
          (∀ j : Fin 4, x.sense.chEn (4 * g.val + j.val) = false → fourGet m.y j.val = 0) ∧
          y = { x with side := y.side, stats := y.stats, sense := { x.sense with sumv := x.sense.sumv.set g false } })) ∧
      (∀ age, x.sense.runAge x.time.frame = some age → age < 8 → x.sense.runGroups.get g = true →
        let sum := (fourList cal).foldl (fun n w => n + w.toNat) 0
        CopyStep (.groupConversionEnd c g q cal temp) s c (fun y =>
          y.sense.runLo.get g = x.sense.runLo.get g + (if age < 4 then sum else 0) ∧
          y.sense.runHi.get g = x.sense.runHi.get g + (if age < 4 then 0 else sum)))) ∧
    (∀ (lvl : BitVec 12), x.senses = true → x.sense.dinEn = true → x.stop = none →
      CopyStep (.digitalAperture c lvl) s c (fun y =>
        (∀ p : Fin 3, y.side.holds (.dinrec p (x.sense.dinMsg x.time.frame lvl p.val))) ∧
        y = { x with side := y.side, stats := y.stats, sense := { x.sense with lvl := lvl } })) ∧
    (∀ (i : Fin 12) (rising : Bool) (e : Nat), x.edgeDue e = true →
      let t := x.time.hubTime ((e : Int) - 12 * fld (x.sense.reg Reg.sensecfg_DINCFG) 23 20)
      (edgeQualifies (x.sense.edgeSel i.val) rising = false → CopyStep (.dinEdge c i rising e) s c (fun y =>
        y.sense.lvl.getLsbD i.val = rising ∧ y = { x with sense := { x.sense with lvl := y.sense.lvl } })) ∧
      (edgeQualifies (x.sense.edgeSel i.val) rising = true → 0 ≤ t → CopyStep (.dinEdge c i rising e) s c (fun y =>
        y.sense.recs = listSet x.sense.recs i.val (addEdge (listGet emptyRec x.sense.recs i.val) rising t.toNat) ∧
        y.sense.prevRecs = x.sense.prevRecs ∧ y.sense.lvl.getLsbD i.val = rising ∧ y.side = x.side)) ∧
      (edgeQualifies (x.sense.edgeSel i.val) rising = true → t < 0 → CopyStep (.dinEdge c i rising e) s c (fun y =>
        y.sense.prevRecs = listSet x.sense.prevRecs i.val (addEdge (listGet emptyRec x.sense.prevRecs i.val) rising
          (t + x.time.prevPer.toNat).toNat) ∧ y.sense.recs = x.sense.recs))) ∧
    (d0.calDue = true → Completes .calibrationStart s (fun d =>
      (d0.inSvc c = true → d.copy c = { x with sense := x.sense.startRun d0.frnum }) ∧ (d0.inSvc c = false → d.copy c = x) ∧
      d.agr.calNext = some (d0.tickt.toNat + 4000000000) ∧ d.regs = d0.regs ∧ d.mem = d0.mem)) ∧
    (d0.inSvc c = true → d0.agr.tempHot.get c = 8 → Completes (.overTemperature c) s (fun d => d.devLatch = true ∧ d.cmp = [] ∧
      d.rfld (Reg.pgFault 9) 31 24 = 0x18 ∧ d.journaled 7 9 0x18 (d0.reg (Reg.agree_TEMP c.val)) ∧ d.copies = d0.copies ∧
      d.level = (if d0.level = 3 then 3 else 2))) ∧
    (d0.agr.tempHot.get c ≠ 8 → Completes (.overTemperature c) s (fun d => d = d0))

/-- SAMPLE and DINREC flits of a copy in service that the hub accepts: with the frame and the generation in force and
before the deadline of their open exchange they join it; another generation counts in CFGMISS, another frame in MSGMISS,
and a late one changes nothing (R88, R109, R114, R149, R150). An exchange closes: at its deadline where a copy in
service has not delivered, which counts in that copy's MSGMISS; the window's W1 gets the group's bit; and where every
copy delivered the same value of a channel, or the same record of an input, every rule agrees on it without MISS (R149
to R153, R156 to R159). -/
def Obligations.InputExchanges : Prop :=
  ((∀ (s : State) (c : CopyId) (h : Hdr) (m : SampleMsg) (part : Fin 3) (v : DinMsg), s.dev.hubAccepts c h →
    let r := s.dev.acceptedHub c h
    let gen := r.genFor r.frnum.toNat
    r.inSvc c = true →
    (m.gen = gen → m.frame = r.frame32 → r.agr.aOpen.get m.group = true → r.now < r.aDeadline m.group.val → m.calerr = false →
      Completes (.sample c h m) s (fun d => d.aMsg m.group c = some m ∧ (∀ g x, (g ≠ m.group ∨ x ≠ c) → d.aMsg g x = r.aMsg g x) ∧
        d.regs = r.regs ∧ d = { r with links := d.links, agr := d.agr })) ∧
    (m.gen ≠ gen → Completes (.sample c h m) s (fun d =>
      d.reg (Reg.agree_CFGMISS c.val) = satAdd (r.reg (Reg.agree_CFGMISS c.val)) 1 ∧ d.agr = r.agr ∧
      r.keepsRegs d [Reg.agree_CFGMISS c.val])) ∧
    (m.gen = gen → m.frame ≠ r.frame32 → Completes (.sample c h m) s (fun d =>
      d.reg (Reg.agree_MSGMISS c.val) = satAdd (r.reg (Reg.agree_MSGMISS c.val)) 1 ∧ d.agr = r.agr)) ∧
    (m.gen = gen → m.frame = r.frame32 → (r.agr.aOpen.get m.group = false ∨ r.aDeadline m.group.val ≤ r.now) →
      Completes (.sample c h m) s (fun d => d = r)) ∧
    (v.gen = gen → v.frame = r.frnum.setWidth 8 → r.agr.dOpen = true → r.now < r.dDeadline →
      Completes (.dinrec c h part v) s (fun d =>
        (part = 0 → (d.agr.din.get c).p0 = some v) ∧ (part = 1 → (d.agr.din.get c).p1 = some v) ∧
        (part = 2 → (d.agr.din.get c).p2 = some v) ∧ (∀ x, x ≠ c → d.agr.din.get x = r.agr.din.get x) ∧
        d = { r with agr := { r.agr with din := d.agr.din } })) ∧
    (v.gen ≠ gen → Completes (.dinrec c h part v) s (fun d =>
      d.reg (Reg.agree_CFGMISS c.val) = satAdd (r.reg (Reg.agree_CFGMISS c.val)) 1 ∧ d.agr = r.agr))) ∧
  (∀ (s : State), let d0 := s.dev
    0 < d0.nSvc → d0.agr.written = false → d0.agr.skip = false → d0.bankBusyNow = false →
    (∀ g : GroupId, d0.agr.aOpen.get g = true → Completes (.analogExchangeClose g) s (fun d =>
      d.agr.aOpen.get g = false ∧ bitOf (d.winWord 1) (8 + g.val) = true ∧ d.winWord 0 = d0.frame32 ∧
      ((∀ c ∈ d0.svcCopies, (d0.aMsg g c).isSome = true) → d.time = d0.time) ∧
      ((∃ c ∈ d0.svcCopies, d0.aMsg g c = none) → d.now = max d0.now (d0.aDeadline g.val)) ∧
      (∀ c ∈ d0.svcCopies, d0.aMsg g c = none → d.reg (Reg.agree_MSGMISS c.val) = satAdd (d0.reg (Reg.agree_MSGMISS c.val)) 1) ∧
      (∀ (j : Fin 4) (y : Half), d0.chOn (4 * g.val + j.val) = true →
        (∀ c ∈ d0.svcCopies, (d0.aMsg g c).map (fun m => fourGet m.y j.val) = some y) → 2 ≤ d0.nSvc →
        (d.winWord (4 + 4 * g.val + j.val)).extractLsb' 0 16 = y ∧ bitOf (d.winWord (4 + 4 * g.val + j.val)) 16 = false ∧
        bitOf (d.winWord (4 + 4 * g.val + j.val)) 19 = false) ∧
      (∀ a, isWindow a = false → d.byte a = d0.byte a) ∧ d.copies = d0.copies)) ∧
    (d0.agr.dOpen = true → Completes .digitalExchangeClose s (fun d =>
      d.agr.dOpen = false ∧ bitOf (d.winWord 1) 11 = true ∧
      ((∀ c ∈ d0.svcCopies, d0.dinGot c = true) → d.time = d0.time) ∧
      ((∃ c ∈ d0.svcCopies, d0.dinGot c = false) → d.now = max d0.now d0.dDeadline) ∧
      (∀ (i : Fin 12) (r : DinRec), d0.edgeOn i.val = true → 2 ≤ d0.nSvc →
        (∀ c ∈ d0.svcCopies, d0.dinGot c = true ∧ dinRecord (d0.agr.din.get c) i.val = some r) →
        fld (d.winWord (16 + 2 * i.val)) 18 0 = r.ftime.toNat ∧ fld (d.winWord (16 + 2 * i.val)) 22 20 = r.cnt.toNat ∧
        bitOf (d.winWord (16 + 2 * i.val)) 23 = r.lvl ∧ bitOf (d.winWord (16 + 2 * i.val)) 24 = false ∧
        fld (d.winWord (17 + 2 * i.val)) 18 0 = r.ltime.toNat) ∧
      (∀ a, isWindow a = false → d.byte a = d0.byte a) ∧ d.copies = d0.copies))))

/-- The faults of input agreement: a plausibility fault shows its channel and is journaled; a copy that is the outlier,
or delivers nothing, for as long as its limit allows is lost, and of a trio two go on; the reports of TRIPLE and of the
other core events are decided when every copy in service has sent one (R155, R156, R224, R226, R289, R291, R451). -/
def Obligations.AgreementFaults : Prop :=
  ∀ (s : State), let d0 := s.dev
    (∀ ch : Fin 24, listGet false d0.agr.plDue ch.val = true → Completes (.plausibilityFault ch) s (fun d =>
      d.rbit Reg.agree_PLFLT ch.val = true ∧ d.agr.plDue = listSet d0.agr.plDue ch.val false ∧
      (d0.rbit Reg.agree_PLFLT ch.val = false → d.rbit (Reg.pgEvt 9) 0 = true) ∧
      (ch.val < 12 → d.faulted 9 0x20 (toWord ch.val)) ∧ (12 ≤ ch.val → d.faulted 9 0x21 (toWord (ch.val - 12))) ∧
      d0.keepsRegs d [Reg.agree_PLFLT, Reg.pgEvt 9, Reg.pgFault 9] ∧
      d = { d0 with regs := d.regs, jrn := d.jrn, agr := { d0.agr with plDue := d.agr.plDue } })) ∧
    (∀ c : CopyId, d0.inSvc c = true → d0.nSvc = 3 → d0.cmp = [] → d0.agr.dlv = none → d0.dbg.answers = Tri.const none →
      let lost (d : Dev) (code : Nat) (detail : Word) : Prop := (d.copy c).powered = false ∧ d.inSvc c = false ∧ d.nSvc = 2 ∧
        (∀ x, x ≠ c → d.copy x = d0.copy x ∧ d.inSvc x = true) ∧ d.level = max 1 d0.level ∧ d.faulted 9 code detail ∧
        d.devLatch = d0.devLatch
      (∀ ch : Fin 24, d0.outlierDue c ch.val = true → Completes (.outlierFault c ch) s (fun d => lost d 0x22 (toWord ch.val))) ∧
      (d0.missingDue c = true → Completes (.missingSamplesFault c) s (fun d => lost d 0x23 (toWord (d0.agr.msgMissing.get c))))) ∧
    (∀ (c : CopyId) (ch : Fin 24), d0.outlierDue c ch.val = false → Completes (.outlierFault c ch) s (fun d => d = d0)) ∧
    (∀ (c : CopyId) (h : Hdr) (cause : Byte) (retire : BitVec 48) (detail : Word), d0.hubAccepts c h →
      let r := d0.acceptedHub c h
      r.inSvc c = true → r.agr.reports = [] → 2 ≤ r.nSvc →
      (∀ code, eventCode cause = some code → code ≠ 5 → Completes (.lstatEventReport c h cause retire detail) s (fun d =>
        d.agr.reports = [⟨BitVec.ofNat 8 code, retire, (Tri.const false).set c true, r.now + 3200⟩] ∧ d.regs = r.regs ∧
        d.jrn = r.jrn)) ∧
      (eventCode cause = some 5 → r.devLatch = false → Completes (.lstatEventReport c h cause retire detail) s (fun d =>
        d.devLatch = true ∧ d.reg Reg.release_CAUSE = toWord (2 ^ c.val * 256 + 7) ∧ d.agr.reports.length = 1)) ∧
      (eventCode cause = none → Completes (.lstatEventReport c h cause retire detail) s (fun d => d = r)))

/-- Deliveries at the hub: with events pending and no delivery open the next one opens with them all, its D ahead of
every retire count seen, at most four in a frame; every copy's acceptance confirms it; an overrun replaces it with a new
D, once in a frame; any report raises the largest retire count (R161 to R169, R188). -/
def Obligations.HubDeliveries : Prop :=
  ∀ (s : State), let d0 := s.dev
    let r := d0.reqSync
    (r.dlvFree = true → Events.some r.pendEvents = true → r.agr.drpUsed < 4 → Completes .deliveryOpen s (fun d =>
      let ev := r.pendEvents
      let pt := r.agr.maxRetire + BitVec.ofNat 48 (r.rfld Reg.agree_CFG 27 16)
      d.agr.dlv.map (fun x => (x.id, x.d, x.ev, x.answered)) = some (r.agr.nextId, pt, ev, Tri.const false) ∧ d.agr.nextId = r.agr.nextId + 1 ∧
      d.agr.tckPend = false ∧ d.agr.dbgPend = false ∧ d.agr.drpUsed = r.agr.drpUsed + 1 ∧ d.rbit Reg.agree_DLVSTAT 8 = true ∧
      (∀ c ∈ r.liveLinks, (d.link c).side.holds (.drp 0 r.agr.nextId pt ev)) ∧ d.copies = d0.copies ∧ d.mem = d0.mem)) ∧
    (r.dlvFree = true → Events.some r.pendEvents = true → 4 ≤ r.agr.drpUsed → r.agr.deferred = false →
      Completes .deliveryOpen s (fun d => d.agr.deferred = true ∧ d.agr.dlv = none ∧
        d.reg Reg.agree_DEFER = satAdd (r.reg Reg.agree_DEFER) 1)) ∧
    (Events.some r.pendEvents = false → Completes .deliveryOpen s (fun d => d = r)) ∧
    (∀ (c : CopyId) (h : Hdr) (retire : BitVec 48) (id : Byte), d0.hubAccepts c h →
      let q := d0.acceptedHub c h
      q.inSvc c = true →
      let top := if retireLe retire q.agr.maxRetire then q.agr.maxRetire else retire
      Completes (.retrepPeriodic c h retire id) s (fun d => d = { q with agr := { q.agr with maxRetire := top } }) ∧
      (∀ x, q.agr.dlv = some x → x.id = id → (∀ y, y ≠ c → q.inSvc y = true → x.answered.get y = true) →
        Completes (.retrepAccept c h retire id) s (fun d => d.agr.dlv = none ∧ d.agr.maxRetire = top ∧
          d.reg Reg.agree_DLVSTAT = toWord id.toNat ∧ d.reg Reg.agree_DRP_LO = toWord (x.d.toNat % 2 ^ 32) ∧
          (∀ y ∈ q.liveLinks, (d.link y).side.holds (.drp 1 id 0 ⟨false, false, false, 0⟩)))) ∧
      (∀ x y, q.agr.dlv = some x → x.id = id → y ≠ c → q.inSvc y = true → x.answered.get y = false →
        Completes (.retrepAccept c h retire id) s (fun d =>
          d.agr.dlv = some { x with answered := x.answered.set c true } ∧ d.regs = q.regs)) ∧
      (∀ x, q.agr.dlv = some x → x.id = id → q.agr.replUsed < 1 → Completes (.retrepOverrun c h retire id) s (fun d =>
        let pt := top + BitVec.ofNat 48 (q.rfld Reg.agree_CFG 27 16)
        d.agr.dlv = some { x with id := q.agr.nextId, d := pt, answered := Tri.const false } ∧
        d.reg Reg.agree_DRPOVR = satAdd (q.reg Reg.agree_DRPOVR) 1 ∧
        (∀ y ∈ q.liveLinks, (d.link y).side.holds (.drp 2 q.agr.nextId pt x.ev)))) ∧
      (∀ x, q.agr.dlv = some x → x.id = id → 1 ≤ q.agr.replUsed → Completes (.retrepOverrun c h retire id) s (fun d =>
        d.agr.replPend = true ∧ d.agr.dlv = some x)) ∧
      (∀ x, q.agr.dlv = some x → x.id ≠ id → Completes (.retrepAccept c h retire id) s (fun d =>
        d = { q with agr := { q.agr with maxRetire := top } })))

/-- Requests at the hub: a new READ, WRITE or FETCH of a copy in service with a grant and a free tag consumes the grant
and joins its compare entry, a new CSN as the youngest entry; without a grant, or with a tag in use, the link is lost; a
re-issued request that was answered gets its response again, and one that differs from what was answered loses the copy
(R107, R126 to R131, R275, R276). -/
def Obligations.RequestsArrive : Prop :=
  ∀ (s : State) (c : CopyId) (h : Hdr) (q : Req) (ty : ReqType) (i : Instr), s.dev.hubAccepts c h →
    (i, ty) ∈ [(.read c h q, .read), (.write c h q, .write), (.fetch c h q, .fetch)] →
    let r := s.dev.acceptedHub c h
    let a : Arrival := ⟨ty, { q with reissue := false }, r.now + 2⟩
    r.inSvc c = true →
    (q.reissue = false → (r.link c).received < (r.link c).grant → r.tagBusy c q = false →
      (r.findCmp q.csn = none → r.tagLate ty q = false → Completes i s (fun d =>
        d.cmp.map (fun e => (e.csn, e.stage)) = r.cmp.map (fun e => (e.csn, e.stage)) ++ [(q.csn, .opened)] ∧
        (d.findCmp q.csn).map (fun e => (e.first, e.arr, e.agreed, e.safeDone)) =
          some (r.now + 2, (Tri.const none).set c (some a), Tri.const none, false) ∧
        (d.link c).received = (r.link c).received + 1 ∧ d.reg (Reg.linkx_CSN c.val) = q.csn ∧ d.mem = r.mem ∧ d.copies = r.copies)) ∧
      (∀ e, r.findCmp q.csn = some e → e.stage = .opened → e.arr.get c = none → Completes i s (fun d =>
        (d.findCmp q.csn).map (fun x => (x.stage, x.arr)) = some (.opened, e.arr.set c (some a)) ∧
        (d.link c).received = (r.link c).received + 1 ∧ d.cmp.length = r.cmp.length ∧ d.mem = r.mem))) ∧
    (q.reissue = false → r.findCmp q.csn = none → ((r.link c).grant ≤ (r.link c).received ∨ r.tagBusy c q = true) →
      Completes i s (fun d => (d.copy c).powered = false ∧ d.rfld (Reg.pgFault (copyPage c)) 31 24 = 6)) ∧
    (∀ x, q.reissue = true → (r.link c).cache.find? (fun x => x.csn == q.csn) = some x →
      (x.digest = Req.digest ty { q with reissue := false } → Completes i s (fun d =>
        (∀ f ∈ x.flits, (d.link c).side.holds (f.withTag q.tag)) ∧ d.cmp = r.cmp ∧
        d.reg (Reg.linkx_REISSUE c.val) = satAdd (r.reg (Reg.linkx_REISSUE c.val)) 1 ∧ d.mem = r.mem)) ∧
      (x.digest ≠ Req.digest ty { q with reissue := false } → Completes i s (fun d => (d.copy c).powered = false ∧
        (r.nSvc = 3 → r.cmp = [] → r.agr.dlv = none → r.dbg.answers = Tri.const none →
          d.reg Reg.cmp_LASTCSN = q.csn ∧ d.rfld (Reg.pgFault 0x0B) 31 24 = 1 ∧ d.inSvc c = false))))

/-- A safe-direction output executes at its first arrival that passes its code and its page's guard, once, 2 HCLK after
it arrived: its latches rise and no latch falls, SAFECNT counts, and its SAFE_WRITE entry holds the latches before;
every other arrival of the entry does nothing (R285 to R287, R293, R346, R352). -/
def Obligations.SafeDirection : Prop :=
  ∀ (s : State) (c : CopyId) (csn : Word) (i : Instr) (k : Nat), let d0 := s.dev
    (i, k) ∈ [(.drvSafeTrip c csn 0, Reg.drv_SAFE 0), (.drvSafeTrip c csn 1, Reg.drv_SAFE 1), (.drvSafeTrip c csn 2, Reg.drv_SAFE 2),
      (.tripSafe c csn, Reg.trip_SAFE), (.tripReq c csn, Reg.trip_REQ), (.fanSafeStop c csn, Reg.fan_SAFE),
      (.gpoSafeOff c csn, Reg.gpo_SAFE), (.releaseSafeEnter c csn, Reg.release_SAFE)] →
    (∀ e a, d0.findCmp csn = some e → e.arr.get c = some a → e.safeDone = false → a.safeKey = some k → d0.firstSafe e = some c →
      Completes i s (fun d =>
        let v := a.req.data
        let m := safeMask k v
        d.now = max d0.now (a.time + 2) ∧ d.reg Reg.cmp_SAFECNT = satAdd (d0.reg Reg.cmp_SAFECNT) 1 ∧
        (d.findCmp csn).map CmpEntry.safeDone = some true ∧ d.journaled 5 (k / 0x1000) v d0.latchView ∧
        (∀ n : DrvId, m / 2 ^ (1 + n.val) % 2 = 1 → d.rbit (Reg.drv_TSTAT n.val) 0 = true) ∧
        (∀ f : FanId, m / 2 ^ (4 + f.val) % 2 = 1 → d0.fanDesignated f.val = false → d.rbit Reg.release_LATCH (4 + f.val) = true) ∧
        (∀ g : GpoId, m / 2 ^ (8 + g.val) % 2 = 1 → d.rbit Reg.release_LATCH (8 + g.val) = true ∧ (d.gpoCh g.val).on = false) ∧
        (m / 2 ^ 16 % 2 = 1 → ∀ n : DrvId, d.rbit (Reg.drv_TSTAT n.val) 1 = true) ∧ (m % 2 = 1 → d.devLatch = true) ∧
        (∀ b : Fin 16, d0.rbit Reg.release_LATCH b.val = true → d.rbit Reg.release_LATCH b.val = true) ∧
        d.mem = d0.mem ∧ d.copies = d0.copies)) ∧
    (∀ e a, d0.findCmp csn = some e → e.arr.get c = some a → (e.safeDone = true ∨ d0.firstSafe e ≠ some c) →
      Completes i s (fun d => d = d0))

/-- The decision on a compare entry, three HCLK after the last arrival: three equal requests release it from copy A;
where one copy differs from two equal ones, that copy is lost and the entry is released from the others; where all
differ, or a pair in service differs, the outputs are held and the copy set restarts; a code that is neither the last
nor the next, and a gate whose channels differ, do the same with their own faults; a copy absent at the timeout is lost
where two others agreed (R277 to R291, R299, R451). A trio's entry that two copies have agreed on loses the copy that is
absent at its timeout, and stays released (R277, R289). -/
def Obligations.CompareDecisions : Prop :=
  ((∀ (s : State) (csn : Word) (e : CmpEntry), let d0 := s.dev
    let t := (d0.svcCopies.filterMap (fun c => e.arr.get c)).foldl (fun m a => max m a.time) 0
    let eq (p : Fin 3) : Bool := e.pairEqual p
    let held (d : Dev) (code : Nat) : Prop := d.devLatch = true ∧ d.cmp = [] ∧ d.rfld (Reg.pgFault 0x0B) 31 24 = code ∧
      d.reg Reg.cmp_LASTCSN = csn
    d0.findCmp csn = some e → e.csn = csn → e.stage = .opened → e.agreed = Tri.const none → (∀ p : Fin 3, d0.pairCode p.val = d0.gateCode p.val) →
    (d0.nSvc = 3 → (∀ c, (e.arr.get c).isSome = true) →
      (eq 0 = true → eq 1 = true → eq 2 = true → Completes (.compareComplete csn .regular) s (fun d =>
        d.now = max d0.now (t + 3) ∧ (d.findCmp csn).map (fun x => (x.stage, x.winner, x.relAt, x.agreed)) =
          some (.released, 0, d.now + 1, Tri.const (some true)) ∧
        (∀ p : Fin 3, d.pairCode p.val = codeNext (d0.pairCode p.val) ∧ d.gateCode p.val = codeNext (d0.pairCode p.val)) ∧
        d.copies = d0.copies ∧ d.mem = d0.mem ∧ d.reg Reg.cmp_MISCNT = d0.reg Reg.cmp_MISCNT)) ∧
      (∀ z w : CopyId, (∀ p : Fin 3, eq p = (decide ((pairCopies p).1 ≠ z) && decide ((pairCopies p).2 ≠ z))) →
        w = (if z = 0 then 1 else 0) → d0.cmp = [e] → d0.agr.dlv = none → d0.dbg.answers = Tri.const none →
        Completes (.compareComplete csn .regular) s (fun d => (d.copy z).powered = false ∧ d.inSvc z = false ∧ d.nSvc = 2 ∧
          (d.findCmp csn).map (fun x => (x.stage, x.winner)) = some (.released, w) ∧
          d.reg Reg.cmp_MISCNT = satAdd (d0.reg Reg.cmp_MISCNT) 1 ∧ d.reg Reg.cmp_LASTCSN = csn ∧
          d.rfld (Reg.pgFault 0x0B) 31 24 = 1 ∧ d.level = max 1 d0.level ∧ d.devLatch = d0.devLatch)) ∧
      (eq 0 = false → eq 1 = false → eq 2 = false → Completes (.compareComplete csn .regular) s (fun d => held d 1 ∧
        d.reg Reg.cmp_MISCNT = satAdd (d0.reg Reg.cmp_MISCNT) 1)) ∧
      (∀ v : BitVec 2, v.toNat ≠ codeNext (d0.pairCode 0) → v.toNat ≠ d0.pairCode 0 →
        Completes (.compareComplete csn (.code 0 v)) s (fun d => held d 3)) ∧
      Completes (.compareComplete csn .gateDiffers) s (fun d => held d 4)) ∧
    (∀ x y : CopyId, d0.svcCopies = [x, y] → (e.arr.get x).isSome = true → (e.arr.get y).isSome = true →
      (eq (pairOf x y) = true → Completes (.compareComplete csn .regular) s (fun d =>
        (d.findCmp csn).map (fun z => (z.stage, z.winner)) = some (.released, x) ∧ d.copies = d0.copies)) ∧
      (eq (pairOf x y) = false → Completes (.compareComplete csn .regular) s (fun d => held d 1 ∧
        (d0.csRunning = true → d0.planExec = false → d0.rfld Reg.release_RSTCNT 3 0 < d0.rfld Reg.release_RSTCFG 3 0 →
          d.cs = .waiting ∧ d.rfld Reg.rst_LAST 15 8 = 0x13 ∧ d.rfld Reg.release_RSTCNT 3 0 = d0.rfld Reg.release_RSTCNT 3 0 + 1 ∧
          (∀ c, (d.copy c).powered = false))))) ∧
    (∀ x y : CopyId, d0.svcCopies = [x, y] → (e.arr.get x).isSome = true → e.arr.get y = none → d0.agr.reports = [] →
      Completes (.compareTimeout csn) s (fun d => d.now = max d0.now (e.first + 3200) ∧ d.devLatch = true ∧
        d.rfld (Reg.pgFault 0x0B) 31 24 = 2 ∧ d.reg Reg.cmp_ABSCNT = satAdd (d0.reg Reg.cmp_ABSCNT) 1 ∧
        d.reg Reg.cmp_LASTCSN = csn))) ∧
  (∀ (s : State) (csn : Word) (e : CmpEntry) (z : CopyId), let d0 := s.dev
    let p : Fin 3 := if z = 0 then 2 else if z = 1 then 1 else 0
    d0.nSvc = 3 → d0.cmp = [e] → e.csn = csn → e.stage = .released → (∀ c, (e.arr.get c).isSome = decide (c ≠ z)) →
    e.agreed.get p = some true → d0.agr.reports = [] → d0.agr.dlv = none → d0.dbg.answers = Tri.const none →
    Completes (.compareTimeout csn) s (fun d => d.now = max d0.now (e.first + 3200) ∧ (d.copy z).powered = false ∧ d.nSvc = 2 ∧
      d.inSvc z = false ∧ (d.findCmp csn).map CmpEntry.stage = some .released ∧ d.reg Reg.cmp_ABSCNT = satAdd (d0.reg Reg.cmp_ABSCNT) 1 ∧
      d.rfld (Reg.pgFault 0x0B) 31 24 = 2 ∧ d.devLatch = d0.devLatch)))

/-- A released request reserves its response places, executes in its turn and is answered to every copy that agreed: a
full WRITE of SRAM with a correct code stores the word with that code and no other byte; with a wrong code nothing is
stored and the fault is raised; a READ and a FETCH send the stored words with their codes; an address of R176 that
nothing answers is refused ABSENT (R108, R136, R176, R179, R251, R253, R254, R279, R280, R298). -/
def Obligations.RequestsExecute : Prop :=
  ∀ (s : State) (csn : Word) (e : CmpEntry) (enc : Bool) (q : Req) (ty : ReqType) (t : Nat), let d0 := s.dev
    let reply (d : Dev) (fs : List HubFlit) : Prop := ∀ c ∈ d0.svcCopies, ∀ f ∈ fs, (d.link c).side.holds (f.withTag q.tag)
    let a := q.addr.toNat / 4 * 4
    d0.findCmp csn = some e → e.csn = csn → e.answered = Tri.const false → e.agreed = Tri.const (some true) →
    (∀ c, e.arr.get c = some ⟨ty, q, t⟩) → d0.nSvc = 3 → (∀ c, d0.liveLink c = true) → e.refusal = none →
    (e.stage = .released → d0.lackers e = [] → Completes (.responseReserve csn) s (fun d =>
      d.now = max d0.now e.relAt ∧ (d.findCmp csn).map CmpEntry.stage = some .reserved ∧
      (∀ c, (d.link c).resGuard + (d.link c).resTimely + (d.link c).resBulk =
        (d0.link c).resGuard + (d0.link c).resTimely + (d0.link c).resBulk + reqPlaces ty) ∧ d.mem = d0.mem ∧ d.copies = d0.copies)) ∧
    (e.stage = .reserved → d0.csnTurn csn = true → d0.pages.lv = [] → d0.now ≤ e.relAt + 8 → e.delayed = false →
      (ty = .write → isSram q.addr.toNat = true → q.be = 0xF →
        (ecc q.data q.addr = q.ecc → q.addr.toNat % 4 = 0 → Completes (.requestExecute csn enc) s (fun d =>
          d.word a = q.data ∧ (d.code a).setWidth 7 = q.ecc ∧ (∀ b, (b < a ∨ a + 4 ≤ b) → d.byte b = d0.byte b) ∧
          reply d [.wrack csn 0 0])) ∧
        (ecc q.data q.addr ≠ q.ecc → Completes (.requestExecute csn enc) s (fun d => d.mem = d0.mem ∧ d.codes = d0.codes ∧
          d.reg Reg.sram_WRERR = satAdd (d0.reg Reg.sram_WRERR) 1 ∧ d.faulted 0x12 0x30 q.addr ∧ reply d [.wrack csn 0 0xA6]))) ∧
      (ty = .read → (isSram a = true ∨ isContext a = true) → Completes (.requestExecute csn enc) s (fun d => d.mem = d0.mem ∧
        reply d [.rddata csn 0 0 (d0.cword a)])) ∧
      (ty = .read → isPages a = true → d0.guardOk ((a - 0x40000000) / 0x1000) (reqSrc q) false = true →
        isPairLo (a - 0x40000000) = false → isPairHi (a - 0x40000000) = false → Completes (.requestExecute csn true) s (fun d =>
        let v := d0.view q.world (a - 0x40000000)
        reply d [.rddata csn 0 0 ⟨v, ecc v (toWord a)⟩] ∧ d.mem = d0.mem ∧ d.shadow = d0.shadow)) ∧
      (ty = .fetch → isSram (q.addr.toNat / 32 * 32) = true → Completes (.requestExecute csn enc) s (fun d =>
        let w (i : Nat) : CWord := d0.cword (q.addr.toNat / 32 * 32 + 4 * i)
        d.mem = d0.mem ∧ reply d [.line false 0 0 ⟨w 0, w 1, w 2, w 3⟩, .line true 0 0 ⟨w 4, w 5, w 6, w 7⟩])) ∧
      (ty = .read → 0x60000000 ≤ a → Completes (.requestExecute csn enc) s (fun d => d.mem = d0.mem ∧
        reply d [.rddata csn 0 0x26 ⟨0, 0⟩])))

/-- What waits too long: a timely or bulk request that finds no response place, or no port slot, is refused DEADLINE or
CAPACITY to every copy that agreed; a guard item that waits too long for either raises a guard overrun, holds the
outputs and restarts the copy set (R31, R32, R37, R136, R137, R292, R298, R451). -/
def Obligations.RequestDeadlines : Prop :=
  ∀ (s : State) (csn : Word) (e : CmpEntry), let d0 := s.dev
    let st : Byte := if e.cls = 1 then 6 else 0x0A
    let refused (d : Dev) : Prop := ∀ c ∈ d0.svcCopies, ∀ a, e.arr.get c = some a → e.agreedCopy c = true →
      ∀ f ∈ emptyFlits e.ty csn st, (d.link c).side.holds (f.withTag a.req.tag)
    (d0.findCmp csn = some e → e.csn = csn → e.answered = Tri.const false → e.cls ≠ 0 → (∀ c, d0.inSvc c = true → d0.liveLink c = true) →
      (e.stage = .released → d0.lackers e ≠ [] → Completes (.responseQueueDeadline csn) s (fun d =>
        d.now = max d0.now (e.relAt + (if e.cls = 1 then 800 else 2000)) ∧ refused d ∧ d.mem = d0.mem ∧ d.copies = d0.copies ∧
        (∀ c ∈ d0.lackers e, e.cls = 1 → d.reg (admBase c.val + 0xC) = satAdd (d0.reg (admBase c.val + 0xC)) 1))) ∧
      (e.stage = .reserved → Completes (.schedulerDeadline csn) s (fun d =>
        d.now = max d0.now (e.relAt + (if e.cls = 1 then 400 else 2000)) ∧ refused d ∧ d.mem = d0.mem ∧ d.copies = d0.copies ∧
        (e.cls = 1 → d.reg (admBase 3 + 0xC) = satAdd (d0.reg (admBase 3 + 0xC)) 1)))) ∧
    (d0.cmp.find? (fun x => x.stage == .reserved && x.cls == 0) = some e → Completes .schedulerGuardOverrun s (fun d =>
      d.now = max d0.now (e.relAt + 8) ∧ d.devLatch = true ∧ d.cmp = [] ∧
      d.reg Reg.cmp_ADM_GOVR = satAdd (d0.reg Reg.cmp_ADM_GOVR) 1 ∧ d.rfld (Reg.pgFault 0x0B) 31 24 = 0x0F)) ∧
    (∀ (c : CopyId) (t : Nat), d0.guardSince c = some t → Completes (.linkGuardOverrun c) s (fun d =>
      d.now = max d0.now (t + 40) ∧ d.devLatch = true ∧ d.cmp = [] ∧
      d.reg (Reg.linkx_ADM_GOVR c.val) = satAdd (d0.reg (Reg.linkx_ADM_GOVR c.val)) 1 ∧
      d.rfld (Reg.pgFault (copyPage c)) 31 24 = 0x0F))

/-- RELEASE.CLR clears the latches it names and no other: its key, and for DEV the frames since the release, are checked
first; a fan's latch leaves its mode OFF and a switched output's latch leaves it off (R293, R295, R296, R347, R352). -/
def Obligations.LatchesClear : Prop :=
  ∀ (s : State) (src : Src) (csn v : Word), let d0 := s.dev
    d0.letsWrite src Reg.release_CLR →
    (fld v 31 24 ≠ 0x3C → Completes (.releaseClr src csn v) s (fun d => d = d0)) ∧
    (fld v 31 24 = 0x3C → bitOf v 0 = true → d0.rfld Reg.release_RSTCNT 31 16 < d0.rfld Reg.release_RSTCFG 31 16 →
      Completes (.releaseClr src csn v) s (fun d => d = d0)) ∧
    (fld v 31 24 = 0x3C → d0.jRoom 1 = true → d0.pages.lv = [] → d0.cmp = [] →
      (bitOf v 0 = true → d0.rfld Reg.release_RSTCFG 31 16 ≤ d0.rfld Reg.release_RSTCNT 31 16 ∧ d0.planExec = false) →
      Completes (.releaseClr src csn v) s (fun d =>
        (bitOf v 0 = true → d.devLatch = false ∧ (∀ n : DrvId, d.rbit (Reg.drv_TSTAT n.val) 6 = false)) ∧
        (bitOf v 0 = false → d.devLatch = d0.devLatch) ∧
        (∀ f : FanId, bitOf v (4 + f.val) = true → d.rbit Reg.release_LATCH (4 + f.val) = false ∧
          (d0.rbit Reg.release_LATCH (4 + f.val) = true → d.fanMode f = 0)) ∧
        (∀ f : FanId, bitOf v (4 + f.val) = false → d.rbit Reg.release_LATCH (4 + f.val) = d0.rbit Reg.release_LATCH (4 + f.val)) ∧
        (∀ g : GpoId, bitOf v (8 + g.val) = true → d.rbit Reg.release_LATCH (8 + g.val) = false ∧
          (d0.rbit Reg.release_LATCH (8 + g.val) = true → d.rbit Reg.gpo_ON g.val = false)) ∧
        (∀ g : GpoId, bitOf v (8 + g.val) = false → d.rbit Reg.release_LATCH (8 + g.val) = d0.rbit Reg.release_LATCH (8 + g.val)) ∧
        (∀ n : DrvId, bitOf v (1 + n.val) = true → d.rbit (Reg.drv_TSTAT n.val) 0 = false) ∧
        d.mem = d0.mem ∧ d.copies = d0.copies))

/-- Flash jobs: a unit takes its time after the job's start; a row's source words are stored at their flash addresses
with the codes of those addresses and no other byte; an uncorrectable source word, encoders that disagree, a read-back
that differs and a sector that is not blank stop the job with their results; an erased sector reads erased; at the end
BUSY clears and a result other than OK is a fault (R252, R259, R262, R263, R407). The read windows show a flash word as
stored, with its code and what its check says, and never an address's neighbour; the debug key reads 0 and HIDDEN. The
scrubber and the refresh take one word each at their times: a correct word stays, one wrong bit is rewritten corrected
and counted, an uncorrectable word stays and is told once per address (R251, R252, R259, R265, R267, R444). -/
def Obligations.FlashAndUpkeep : Prop :=
  ((∀ (s : State) (j : FlashJob), let d0 := s.dev
    d0.flash = some j →
    (∀ (x : Job) (got : List CWord) (enc : Bool), d0.flashLedgerJob = some x → j.going = true →
      let t (n : Nat) : Nat := max d0.now (x.since + 8000 + (j.done + 1) * n)
      let dst := j.dst.toNat + 32 * j.done
      let sec := j.dst.toNat + 4096 * j.done
      let ends (d : Dev) (n : Nat) (r : BitVec 3) : Prop := d.now = t n ∧ d.flash = some { j with result := r }
      let goesOn (d : Dev) (n : Nat) : Prop := d.now = t n ∧ d.flash = some { j with done := j.done + 1 } ∧ d.copies = d0.copies
      (j.op = 1 →
        (∀ ws, d0.rowSource j = some ws →
          (got = [] → Completes (.flashJobUnitDone got true) s (fun d => goesOn d 3200 ∧
            (∀ i : Fin 16, ∀ w, ws[i.val]? = some w → d.word (dst + 4 * i.val) = w ∧
              (d.code (dst + 4 * i.val)).setWidth 7 = ecc w (toWord (dst + 4 * i.val))) ∧
            (∀ a, (a < dst ∨ dst + 4 * ws.length ≤ a) → d.byte a = d0.byte a) ∧ d.regs = d0.regs)) ∧
          (got.take ws.length ≠ (codedFrom dst ws).take got.length → Completes (.flashJobUnitDone got true) s (fun d =>
            ends d 3200 1 ∧ (∀ a, (a < dst ∨ dst + 4 * ws.length ≤ a) → d.byte a = d0.byte a))) ∧
          Completes (.flashJobUnitDone got false) s (fun d => ends d 3200 3 ∧ d.mem = d0.mem ∧ d.codes = d0.codes)) ∧
        (d0.rowSource j = none → Completes (.flashJobUnitDone got enc) s (fun d => ends d 3200 2 ∧ d.mem = d0.mem))) ∧
      (j.op = 2 → sec + 4096 ≤ 0x400000 →
        (got = [] → Completes (.flashJobUnitDone got enc) s (fun d => goesOn d 800000 ∧
          (∀ i : Fin 1024, d.erased (sec + 4 * i.val) = true) ∧ (∀ a, (a < sec ∨ sec + 4096 ≤ a) → d.byte a = d0.byte a))) ∧
        (got.length ≤ 1024 → (∃ w ∈ got, w ≠ ⟨0xFFFFFFFF, 0x7F⟩) → Completes (.flashJobUnitDone got enc) s (fun d =>
          ends d 800000 1 ∧ (∀ a, (a < sec ∨ sec + 4096 ≤ a) → d.byte a = d0.byte a)))) ∧
      ((j.op = 0 ∨ j.op = 3) →
        ((∀ i : Fin 1024, d0.erased (sec + 4 * i.val) = true) → Completes (.flashJobUnitDone got enc) s (fun d => goesOn d 0 ∧
          d.mem = d0.mem ∧ d.regs = d0.regs)) ∧
        (∀ i : Fin 1024, d0.erased (sec + 4 * i.val) = false → (∀ n : Fin 1024, n < i → d0.erased (sec + 4 * n.val) = true) →
          Completes (.flashJobUnitDone got enc) s (fun d => ends d 0 4 ∧ d.reg Reg.flash_NBADDR = toWord (sec + 4 * i.val) ∧
            d.mem = d0.mem ∧ d0.keepsRegs d [Reg.flash_NBADDR])))) ∧
    (j.running = true → j.going = false → Completes .flashJobEnd s (fun d => d.flash = none ∧ d.rbit Reg.flash_STAT 31 = false ∧
      d.rfld Reg.flash_STAT 28 16 = j.done % 8192 ∧ d.rfld Reg.flash_STAT 10 8 = j.result.toNat ∧ d.rbit (Reg.pgEvt 0x11) 0 = true ∧
      (d0.jrn.flushJob = none → d.flopp = false) ∧ (∀ x ∈ d.ledger.jobs, x.admitted = true → isFlashKind x.kind = false) ∧
      (j.result ≠ 0 → d.faulted 0x11 0x34 (toWord j.result.toNat)) ∧ (j.result = 0 → d.jrn = d0.jrn) ∧
      d0.keepsRegs d [Reg.flash_STAT, Reg.pgEvt 0x11, Reg.pgFault 0x11] ∧ d.mem = d0.mem))) ∧
  (∀ (s : State), let d0 := s.dev
    (∀ (src : Src) (v : Word), d0.letsWrite src Reg.flash_RDADDR → d0.rbit (Reg.pgLock 0x11) 0 = false → d0.jRoom 1 = true →
      d0.pages.lv = [] → isFlash (v.toNat / 4 * 4) = true → Completes (.flashReadWindow src v) s (fun d =>
        let a := v.toNat / 4 * 4
        d.reg Reg.flash_RDWORD = d0.word a ∧ d.rfld Reg.flash_RDINFO 6 0 = (d0.code a).toNat % 128 ∧
        d.rbit Reg.flash_RDINFO 8 = d0.erased a ∧ (d.rbit Reg.flash_RDINFO 10 = true ↔ d0.checkAt a = .bad) ∧
        (d.rbit Reg.flash_RDINFO 9 = true ↔ ∃ w, d0.checkAt a = .corrected w) ∧
        (d0.checkAt a = .ok → d.reg Reg.flash_CECNT = d0.reg Reg.flash_CECNT ∧ d.reg Reg.flash_UECNT = d0.reg Reg.flash_UECNT) ∧
        d.mem = d0.mem ∧ d.copies = d0.copies)) ∧
    (∀ (src : Src) (v : Word), d0.letsWrite src Reg.otp_RDADDR → d0.rbit (Reg.pgLock 0x21) 0 = false → d0.jRoom 1 = true →
      d0.pages.lv = [] → let o := fld v 11 2 * 4
      ((0x500 ≤ o ∧ o < 0x520) → Completes (.otpReadWindow src v) s (fun d => d.reg Reg.otp_RDWORD = 0 ∧
        d.reg Reg.otp_RDINFO = 4 ∧ d.mem = d0.mem)) ∧
      (¬ (0x500 ≤ o ∧ o < 0x520) → d0.checkAt (0x50000000 + o) = .ok → Completes (.otpReadWindow src v) s (fun d =>
        d.reg Reg.otp_RDWORD = d0.word (0x50000000 + o) ∧ d.reg Reg.otp_RDINFO = 0 ∧ d.mem = d0.mem)) ∧
      (∀ w, ¬ (0x500 ≤ o ∧ o < 0x520) → d0.checkAt (0x50000000 + o) = .corrected w → Completes (.otpReadWindow src v) s (fun d =>
        d.reg Reg.otp_RDWORD = w ∧ d.reg Reg.otp_RDINFO = 1 ∧ d.mem = d0.mem))) ∧
    (d0.live = true → 0 < d0.rfld Reg.sram_SCRUB 7 0 →
      let a := 0x20000000 + 4 * d0.scrubW.next
      let went (d : Dev) : Prop := d.now = max d0.now d0.scrubW.due ∧ d.scrubW.next = (d0.scrubW.next + 1) % 245760 ∧
        d.scrubW.due = d.now + 16 * d0.rfld Reg.sram_SCRUB 7 0 ∧ d.copies = d0.copies
      (d0.checkAt a = .ok → Completes .sramScrub s (fun d => went d ∧ d.mem = d0.mem ∧ d.codes = d0.codes ∧ d.regs = d0.regs)) ∧
      (∀ w, d0.checkAt a = .corrected w → Completes .sramScrub s (fun d => went d ∧ d.word a = w ∧ d.checkAt a = .ok ∧
        (∀ b, (b < a ∨ a + 4 ≤ b) → d.byte b = d0.byte b) ∧ d.reg Reg.sram_CECNT = satAdd (d0.reg Reg.sram_CECNT) 1 ∧
        d0.keepsRegs d [Reg.sram_CECNT])) ∧
      (d0.checkAt a = .bad → Completes .sramScrub s (fun d => went d ∧ d.mem = d0.mem ∧ d.codes = d0.codes ∧
        d.reg Reg.sram_UECNT = satAdd (d0.reg Reg.sram_UECNT) 1 ∧ a ∈ d.scrubW.seen ∧
        (a ∈ d0.scrubW.seen → d.jrn = d0.jrn) ∧ (a ∉ d0.scrubW.seen → d.faulted 0x12 0x32 (toWord a) ∧
          (d0.rbit (Reg.pgFault 0x12) 0 = false → d.reg Reg.sram_UEADDR = toWord a))))) ∧
    (d0.refreshes = true →
      let a := 0x30000000 + 4 * d0.refreshW.next
      let went (d : Dev) : Prop := d.refreshW.next = (d0.refreshW.next + 1) % 4096 ∧ d.copies = d0.copies ∧
        (d0.live = true → d.now = max d0.now d0.refreshW.due)
      (d0.checkAt a = .ok → Completes .retentionRefresh s (fun d => went d ∧ d.mem = d0.mem ∧ d.regs = d0.regs)) ∧
      (∀ w, d0.checkAt a = .corrected w → Completes .retentionRefresh s (fun d => went d ∧ d.word a = w ∧ d.checkAt a = .ok ∧
        (∀ b, (b < a ∨ a + 4 ≤ b) → d.byte b = d0.byte b) ∧ d.reg Reg.retn_CECNT = satAdd (d0.reg Reg.retn_CECNT) 1)) ∧
      (d0.checkAt a = .bad → a ∉ d0.refreshW.seen → Completes .retentionRefresh s (fun d => went d ∧ d.mem = d0.mem ∧
        (d0.phase ≠ .hibernating → d.faulted 0x13 0x33 (toWord a)) ∧
        (d0.phase = .hibernating → d.jrn = d0.jrn ∧ d.refreshW.late = d0.refreshW.late ++ [a]))))))

/-- A PWM period starts on its grid of tick + PHOFS + m × 2 × HP with the compare values in force there, and drives the
switches only with EN, a mode and no trip; of the device only the drive is another (R302, R309, R311, R317). The trip
causes of a drive. Each latches its own bit of TSTAT, once, with its FAULT entry and TSTAT after it, and an untripped
drive takes the cause's trip state, with AUTO resolved then: overrun, observer loss at tick + 4 with its reason,
overcurrent outside blanking or still there at its end, and overvoltage of a drive in freewheel with OVESC, which goes
on to ASCL (R314, R316 to R319, R322, R331, R333, R451). The tracker: seven consecutive events of one sequence make it
valid; an event of neither sequence restarts it with itself and counts; one that turns the direction restarts it with
two; after half of T6 without an event it is not valid. The angle of an event and the speed at a valid one are those of
R326 and R327. -/
def Obligations.DriveChannels : Prop :=
  ((∀ (s : State) (n : DrvId), let d0 := s.dev
    let hp := d0.rfld (Reg.drv_PWMCTL n.val) 15 0
    let base : Int := (d0.tickt.toNat + d0.rfld (Reg.drv_PHOFS n.val) 16 0 : Nat)
    d0.frames = true → (d0.drive n).configured = true → 0 < hp →
    ((d0.nextPeriod n : Int) - base) % (2 * hp : Nat) = 0 ∧ (d0.drive n).periodAt < d0.nextPeriod n ∧
    (d0.now < d0.nextPeriod n → d0.nextPeriod n ≤ (d0.drive n).periodAt + 2 * hp) ∧
    (d0.nextPeriod n ≤ d0.now → d0.now < d0.nextPeriod n + 2 * hp) ∧
    Completes (.pwmPeriodStart n) s (fun d => d.now = max d0.now (d0.nextPeriod n) ∧ (d.drive n).periodAt = d.now ∧
      (d.drive n).periodHp.toNat = hp ∧ (∀ x : Fin 3, (d.drive n).periodCmp.get x =
        (d0.reg (if x = 0 then Reg.drv_CMPU n.val else if x = 1 then Reg.drv_CMPV n.val else Reg.drv_CMPW n.val)).setWidth 21) ∧
      ((d.drive n).periodOn = true ↔ d0.rbit (Reg.drv_PWMCTL n.val) 31 = true ∧ d0.rfld (Reg.drv_MODECTL n.val) 1 0 ≠ 0 ∧
        d0.rfld (Reg.drv_TSTAT n.val) 7 0 = 0) ∧
      (∀ m, m ≠ n → d.drive m = d0.drive m) ∧ d = { d0 with time := d.time, drv := d.drv })) ∧
  (∀ (s : State) (n : DrvId) (code : BitVec 10), let d0 := s.dev
    let k := Reg.drv_TSTAT n.val
    let cfg := d0.reg (Reg.drv_TRIPCFG n.val)
    let st (tst : Nat) : Nat := (if tst = 3 then d0.autoNow n else tst) + 1
    let latched (d : Dev) (bit fc tst : Nat) : Prop := d.rbit k bit = true ∧ (∀ b : Fin 8, b.val ≠ bit → d.rbit k b.val = d0.rbit k b.val) ∧
      d.faulted (0x15 + n.val) fc (d.reg k) ∧ d.rbit (Reg.pgEvt (0x15 + n.val)) 0 = true ∧
      (d0.rfld k 7 0 = 0 → d.tstate n = st tst ∧ d.rbit (Reg.drv_MSTAT n.val) 3 = true ∧ (∀ x t, d.gateAsk n x true t = (st tst == 3)) ∧
        (∀ x t, d.gateAsk n x false t = (st tst == 2))) ∧
      (∀ m, m ≠ n → d.drive m = d0.drive m ∧ d.reg (Reg.drv_TSTAT m.val) = d0.reg (Reg.drv_TSTAT m.val)) ∧
      d.mem = d0.mem ∧ d.copies = d0.copies ∧ d.level = d0.level
    let calm : Prop := (d0.rbit (Reg.drv_TRIPCFG n.val) 8 = false ∨ d0.ovHigh n = false)
    ((d0.drive n).ovrDue = true → calm → d0.rbit k 4 = false → Completes (.driveOverrun n) s (fun d =>
      latched d 4 0x42 (fld cfg 5 4) ∧ (d.drive n).ovrDue = false ∧ d.rbit (Reg.pgEvt (0x15 + n.val)) 2 = true)) ∧
    ((d0.drive n).ovrDue = true → calm → d0.rbit k 4 = true → Completes (.driveOverrun n) s (fun d => d.jrn = d0.jrn ∧ d.reg k = d0.reg k)) ∧
    ((d0.drive n).obsDue ≠ 0 → calm → d0.rbit k 3 = false → Completes (.observerLoss n) s (fun d =>
      d.now = max d0.now (d0.tickt.toNat + 4) ∧ latched d 3 0x41 3 ∧ d.rfld k 9 8 = (d0.drive n).obsDue.toNat ∧
      (d.drive n).obsDue = 0 ∧ d.rbit (Reg.pgEvt (0x15 + n.val)) 1 = true)) ∧
    (d0.awake = true →
      (code.toNat ≤ d0.rfld (Reg.drv_OCCFG n.val) 9 0 → Completes (.ocComparator n code) s (fun d =>
        (d.drive n).icode = code ∧ (d.drive n).blankEnd = none ∧ d = { d0 with drv := d.drv })) ∧
      (d0.rfld (Reg.drv_OCCFG n.val) 9 0 < code.toNat → d0.ocBlanked n d0.now = false → calm → d0.rbit k 2 = false →
        Completes (.ocComparator n code) s (fun d => latched d 2 0x40 (fld cfg 3 2) ∧ d.time = d0.time)) ∧
      (d0.rfld (Reg.drv_OCCFG n.val) 9 0 < code.toNat → d0.ocBlanked n d0.now = true → Completes (.ocComparator n code) s (fun d =>
        (d.drive n).blankEnd = some (d0.lastEdge n d0.now + d0.rfld (Reg.drv_OCCFG n.val) 23 16) ∧ d = { d0 with drv := d.drv })) ∧
      Completes (.ovComparator n code) s (fun d => (d.drive n).vcode = code ∧
        (d0.tstate n = 1 → d0.rbit (Reg.drv_TRIPCFG n.val) 8 = true → d0.rfld (Reg.drv_OVCFG n.val) 9 0 < code.toNat →
          d0.rbit k 5 = false → d.rbit k 5 = true ∧ d.tstate n = 2 ∧ d.faulted (0x15 + n.val) 0x43 (d.reg k)) ∧
        ((d0.tstate n ≠ 1 ∨ d0.rbit (Reg.drv_TRIPCFG n.val) 8 = false ∨ code.toNat ≤ d0.rfld (Reg.drv_OVCFG n.val) 9 0) →
          d = { d0 with drv := d.drv }))) ∧
    (∀ t, (d0.drive n).blankEnd = some t →
      (d0.ocHigh n = false → Completes (.ocBlankingEnd n) s (fun d => d.now = max d0.now t ∧ (d.drive n).blankEnd = none ∧
        d = { d0 with drv := d.drv, time := d.time })) ∧
      (d0.ocHigh n = true → d0.ocBlanked n (max d0.now t) = false → calm → d0.rbit k 2 = false → Completes (.ocBlankingEnd n) s (fun d =>
        d.now = max d0.now t ∧ latched d 2 0x40 (fld cfg 3 2))))) ∧
  (∀ (s : State) (n : DrvId) (ph : Phase3) (rising : Bool) (t : DWord), let d0 := s.dev
    let v := d0.drive n
    let ev : TrkEvent := ⟨evtIdx ph rising, t⟩
    let ahead (p : TrkEvent) (r : Bool) : Prop := if r then (ev.idx.val + 1) % 6 = p.idx.val else (p.idx.val + 1) % 6 = ev.idx.val
    let only (d : Dev) : Prop := (∀ m, m ≠ n → d.drive m = d0.drive m) ∧ d.mem = d0.mem ∧ d.copies = d0.copies ∧ d.time = d0.time ∧
      d0.keepsRegs d [Reg.drv_TRKSTAT n.val, Reg.pgFault (0x15 + n.val), Reg.pgEvt (0x15 + n.val)]
    (d0.evtDue n t = true →
      (v.lastEvts = [] → Completes (.trackerEvent n ph rising t) s (fun d => only d ∧ (d.drive n).lastEvts = [ev] ∧
        (d.drive n).runLen = 1 ∧ (d.drive n).trkValid = false ∧ d.regs = d0.regs)) ∧
      (∀ p es, v.lastEvts = p :: es →
        (∀ r : Bool, ahead p r → (v.runLen = 1 ∨ v.runDir = r) → Completes (.trackerEvent n ph rising t) s (fun d => only d ∧
          (d.drive n).lastEvts = (ev :: v.lastEvts).take 7 ∧ (d.drive n).runDir = r ∧ (d.drive n).runLen = min 7 (v.runLen + 1) ∧
          ((d.drive n).trkValid = true ↔ 6 ≤ v.runLen) ∧ d.reg (Reg.drv_TRKSTAT n.val) = d0.reg (Reg.drv_TRKSTAT n.val) ∧
          (6 ≤ v.runLen → v.trkValid = false → d.rbit (Reg.pgEvt (0x15 + n.val)) 4 = true) ∧
          ((d.drive n).trkValid = true → 0 < (d.drive n).t6 →
            (d.drive n).omega = (if r then -1 else 1) * rneDiv (2 ^ 40) (d.drive n).t6))) ∧
        (∀ r : Bool, ahead p r → v.runLen ≠ 1 → v.runDir ≠ r → Completes (.trackerEvent n ph rising t) s (fun d => only d ∧
          (d.drive n).lastEvts = [ev, p] ∧ (d.drive n).runDir = r ∧ (d.drive n).trkValid = false)) ∧
        ((∀ r : Bool, ¬ ahead p r) → Completes (.trackerEvent n ph rising t) s (fun d => only d ∧ (d.drive n).lastEvts = [ev] ∧
          (d.drive n).runLen = 1 ∧ (d.drive n).trkValid = false ∧ d.rbit (Reg.pgFault (0x15 + n.val)) 4 = true ∧
          d.rfld (Reg.drv_TRKSTAT n.val) 31 16 = min (d0.rfld (Reg.drv_TRKSTAT n.val) 31 16 + 1) 0xFFFF)))) ∧
    (∀ p es, v.lastEvts = p :: es → v.trkValid = true → Completes (.trackerInvalid n) s (fun d =>
      d.now = max d0.now (p.time.toNat + v.t6 / 2 + 1) ∧ (d.drive n).trkValid = false ∧ (d.drive n).omega = 0 ∧
      (d.drive n).lastEvts = v.lastEvts ∧ (∀ m, m ≠ n → d.drive m = d0.drive m) ∧ d = { d0 with time := d.time, drv := d.drv })) ∧
    (∀ i : Fin 6, thetaEvt i false = BitVec.ofInt 32 (rneDiv ((2 * i.val + 1) * 2 ^ 32 : Int) 12) ∧
      thetaEvt i true = thetaEvt i false + 0x80000000)))

/-- A fan channel in steady run: each PWM period starts on its own grid with the duty applied then; a filtered tach edge
gives SPEED from PPR + 1 edges; at each loop tick SPEED falls without edges, the closed loop steps with its anti-windup
and its limits or preloads at its first tick, and the stall timer counts (R335 to R338, R340 to R342). What a fan
channel does about trouble: a stall is a fault, and the channel latches FAULT, retries after its off time and kick as
long as retries are left, or locks out; an overrun stops the channels that its mode does not keep; the second failing
plausibility window in a row is a fault, a void one is only counted (R342, R343, R345, R346, R348, R451). -/
def Obligations.FanChannels : Prop :=
  ((∀ (s : State) (i : FanId), let d0 := s.dev
    let f := d0.fanCh i
    (d0.awake = true → let p := gridNext (4000 * i.val) 16000 f.pinAt d0.now
      p % 16000 = 4000 * i.val ∧ (d0.now < p → f.pinAt < p ∧ p ≤ f.pinAt + 16000) ∧ (p ≤ d0.now → d0.now < p + 16000) ∧
      Completes (.fanPwmPeriod i) s (fun d => d.now = max d0.now p ∧ (d.fanCh i).pinAt = d.now ∧
        (d.fanCh i).pinDuty.toNat = d0.fanDuty i % 65536 ∧ (∀ j, j ≠ i → d.fanCh j = d0.fanCh j) ∧
        d = { d0 with time := d.time, fan := d.fan })) ∧
    (∀ t : DWord, d0.live = true → t.toNat ≤ d0.now → f.edges.head?.all (fun e => decide (e.toNat < t.toNat)) = true →
      let es := (t :: f.edges).take 16
      Completes (.tachEdge i t) s (fun d => (d.fanCh i).edges = es ∧ (d.fanCh i).edgesNow = f.edgesNow + 1 ∧
        (∀ u, es[d0.fanPpr i]? = some u → d0.fanPpr i ≤ f.fresh → (d.fanCh i).trev = t.toNat - u.toNat ∧
          (u.toNat < t.toNat → d.reg (Reg.fan_SPEED i.val) = toWord (min (rneDiv 1572864000000000 (t.toNat - u.toNat)).toNat 0xFFFFFFFF))) ∧
        ((es[d0.fanPpr i]? = none ∨ f.fresh < d0.fanPpr i) → d.reg (Reg.fan_SPEED i.val) = d0.reg (Reg.fan_SPEED i.val)) ∧
        d0.keepsRegs d [Reg.fan_SPEED i.val] ∧ d = { d0 with regs := d.regs, fan := d.fan })) ∧
    (d0.live = true → let tick := gridNext 0 400000 d0.fanLoopAt d0.now
      Completes .fanLoopTick s (fun d => d.fanLoopAt = d.now ∧ (d0.now < tick → d.now = tick ∧ d.now % 400000 = 0) ∧
        (tick ≤ d0.now → d.now = d0.now) ∧
        (∀ e es, f.edges = e :: es → let gap := d.now - e.toNat
          (400000 * d0.rfld (Reg.fan_CFG i.val) 31 16 < gap → d.reg (Reg.fan_SPEED i.val) = 0 ∧ (d.fanCh i).edges = []) ∧
          (gap ≤ 400000 * d0.rfld (Reg.fan_CFG i.val) 31 16 →
            ((f.trev = 0 ∨ d0.fanPpr i * gap ≤ f.trev) → d.reg (Reg.fan_SPEED i.val) = d0.reg (Reg.fan_SPEED i.val)) ∧
            (0 < f.trev → f.trev < d0.fanPpr i * gap → d.reg (Reg.fan_SPEED i.val) = speedOf (d0.fanPpr i * gap)))) ∧
        (d0.fanSt i = 2 → f.heldAt = none → d0.devLatch = false → d0.fanPuff i = false →
          let slow := (d.reg (Reg.fan_SPEED i.val)).toNat < d0.rfld (Reg.fan_STALL i.val) 31 16 * 65536
          let err : Int := (d0.reg (Reg.fan_TARGET i.val)).toNat - (d.reg (Reg.fan_SPEED i.val)).toNat
          let p := rRne (err * (d0.reg (Reg.fan_KP i.val)).toNat) 24
          let ki := err * (d0.reg (Reg.fan_KI i.val)).toNat
          let lo : Int := d0.rfld (Reg.fan_DLIM i.val) 15 0
          let hi : Int := d0.rfld (Reg.fan_DLIM i.val) 31 16
          (slow → (d.fanCh i).stall = f.stall + 1 ∧ (d.fanCh i).good = 0) ∧ (¬ slow → (d.fanCh i).stall = 0 ∧ (d.fanCh i).good = f.good + 1) ∧
          (d0.fanMode i = 2 → f.preload = true → (d.fanCh i).preload = false ∧ (d.fanCh i).duty = f.lastDuty ∧
            (-(2 : Int) ^ 47 ≤ ((f.lastDuty.toNat : Int) - p) * 2 ^ 24 → ((f.lastDuty.toNat : Int) - p) * 2 ^ 24 < 2 ^ 47 →
              (d.fanCh i).integ = ((f.lastDuty.toNat : Int) - p) * 2 ^ 24)) ∧
          (d0.fanMode i = 2 → f.preload = false → lo ≤ hi →
            let j := satS 48 (f.integ + ki)
            let hold : Prop := (hi < p + rRne j 24 ∧ 0 < err) ∨ (p + rRne j 24 < lo ∧ err < 0)
            (hold → (d.fanCh i).integ = f.integ) ∧ (¬ hold → (d.fanCh i).integ = j) ∧
            lo ≤ (d.fanCh i).duty.toNat ∧ ((d.fanCh i).duty.toNat : Int) ≤ hi ∧
            (lo ≤ p + rRne (d.fanCh i).integ 24 → p + rRne (d.fanCh i).integ 24 ≤ hi →
              ((d.fanCh i).duty.toNat : Int) = p + rRne (d.fanCh i).integ 24))) ∧
        d.mem = d0.mem ∧ d.copies = d0.copies ∧ d.jrn = d0.jrn))) ∧
  (∀ (s : State) (i : FanId), let d0 := s.dev
    let f := d0.fanCh i
    let rcnt := d0.rfld (Reg.fan_STAT i.val) 15 8
    let others (d : Dev) : Prop := (∀ j, j ≠ i → d.fanCh j = d0.fanCh j ∧ d.fanSt j = d0.fanSt j) ∧ d.mem = d0.mem ∧ d.copies = d0.copies
    (d0.stallDue i = true → Completes (.fanStall i) s (fun d => d.rbit (Reg.pgEvt 0x19) i.val = true ∧
      d.journaled 7 0x19 0x50 (toWord i.val) ∧ others d ∧ (d.fanCh i).stall = 0 ∧
      (d0.rbit (Reg.fan_CFG i.val) 3 = false → d.fanSt i = 4 ∧ (d0.fanPuff i = false → d.fanDuty i = 0)) ∧
      (d0.rbit (Reg.fan_CFG i.val) 3 = true → rcnt < d0.rfld (Reg.fan_RETRY i.val) 31 24 → d.fanSt i = 3 ∧
        d.rfld (Reg.fan_STAT i.val) 15 8 = rcnt + 1 ∧ (d.fanCh i).phaseEnd = d0.now + 40000000 * d0.rfld (Reg.fan_RETRY i.val) 7 0) ∧
      (d0.rbit (Reg.fan_CFG i.val) 3 = true → d0.rfld (Reg.fan_RETRY i.val) 31 24 ≤ rcnt → d.fanSt i = 5 ∧
        d.rbit (Reg.pgEvt 0x19) (4 + i.val) = true ∧ d.journaled 7 0x19 0x51 (toWord i.val)))) ∧
    (d0.fanTimed i 3 = true → Completes (.fanRetryoffEnd i) s (fun d => d.now = max d0.now f.phaseEnd ∧ d.fanSt i = 1 ∧
      (d.fanCh i).phaseEnd = d.now + 4000000 * d0.rfld (Reg.fan_RETRY i.val) 15 8 ∧ others d ∧
      d0.keepsRegs d [Reg.fan_STAT i.val] ∧
      (d.fanPuff i = false → d.fanStopped i = false → d.fanDuty i = d0.rfld (Reg.fan_RETRY i.val) 23 16 * 257))) ∧
    (d0.fanTimed i 1 = true → Completes (.fanKickEnd i) s (fun d => d.now = max d0.now f.phaseEnd ∧ d.fanSt i = 2 ∧ others d ∧
      (d.fanCh i).preload = true ∧ (d.fanCh i).lastDuty.toNat = d0.rfld (Reg.fan_RETRY i.val) 23 16 * 257 ∧
      d.rfld (Reg.fan_STAT i.val) 15 8 = rcnt ∧ d0.keepsRegs d [Reg.fan_STAT i.val])) ∧
    (d0.fanSt i = 2 → 0 < f.good → 4 * d0.rfld (Reg.fan_STALL i.val) 15 0 ≤ f.good → Completes (.fanRcntClear i) s (fun d =>
      d.rfld (Reg.fan_STAT i.val) 15 8 = 0 ∧ d.fanSt i = 2 ∧ others d ∧ d0.keepsRegs d [Reg.fan_STAT i.val] ∧ d.jrn = d0.jrn)) ∧
    (d0.fanOvrDue = true → Completes .fanOverrun s (fun d => d.fanOvrDue = false ∧ d.rbit Reg.fan_HOLDSTAT 31 = true ∧
      d.rbit (Reg.pgEvt 0x19) 8 = true ∧ d.faulted 0x19 0x52 0 ∧ d.mem = d0.mem ∧
      ((d.fanCh i).ovrOff = true ↔ f.ovrOff = true ∨ (d0.fanDesignated i.val = false ∧ d0.rbit (Reg.fan_CFG i.val) 4 = false ∧
        (d0.fanSt i = 1 ∨ d0.fanSt i = 2 ∨ d0.fanSt i = 3))) ∧
      (d0.fanDesignated i.val = false → d0.rbit (Reg.fan_CFG i.val) 4 = false → d0.fanSt i = 2 → d.fanDuty i = 0) ∧
      d0.keepsRegs d [Reg.fan_HOLDSTAT, Reg.pgEvt 0x19, Reg.pgFault 0x19])) ∧
    (0 < f.nwin → d0.rfld (Reg.fan_PLAUS i.val) 15 8 ≤ f.nwin → Completes (.fanPlausWindow i) s (fun d =>
      let k := Reg.fan_PLSTAT i.val
      let fails : Prop := d0.rfld (Reg.fan_PLAUS i.val) 7 0 < ((f.hcnt : Int) - f.ccnt).natAbs
      d.rfld k 7 0 = f.hcnt % 256 ∧ d.rfld k 15 8 = f.ccnt % 256 ∧ (d.fanCh i).nwin = 0 ∧ (d.fanCh i).hcnt = 0 ∧ (d.fanCh i).ccnt = 0 ∧
      others d ∧ d.fanSt i = d0.fanSt i ∧
      (f.voidWin = true → d.rfld k 31 16 = min (d0.rfld k 31 16 + 1) 0xFFFF ∧ d.jrn = d0.jrn) ∧
      (f.voidWin = false → ((d.fanCh i).failed = true ↔ fails)) ∧
      (f.voidWin = false → fails → f.failed = true → d.faulted 0x19 0x53 (toWord i.val)) ∧
      (f.voidWin = false → (¬ fails ∨ f.failed = false) → d.jrn = d0.jrn)))))

/-- Switched outputs: an output that waits for its partner turns on when its delay is over; a readback mismatch that has
lasted is a fault, told once, and holds the output or the device as RBACT says; overcurrent latches the output off (R350
to R352, R451). Puffball: with no copy in service for its time it takes control: every drive latches PUFF, DEV rises,
every switched output and every channel not its own is off, every transmit slot is cancelled, LEVEL is 3, and its two
MODE entries follow; its fans run at full duty until the kick ends; every 100 ms it counts and hands over one distress
frame with reason, speeds and count, which is not queued where its controller cannot send (R354 to R358). -/
def Obligations.SwitchedAndPuffball : Prop :=
  ((∀ (s : State) (i : GpoId) (hi : Bool), let d0 := s.dev
    let g := d0.gpoCh i.val
    d0.gpo.length = 8 →
    (∀ t, g.bbmEnd = some t → Completes (.gpoBbmOn i) s (fun d => d.now = max d0.now t ∧ (d.gpoCh i.val).bbmEnd = none ∧
      ((d.gpoCh i.val).on = true ↔ d0.rbit Reg.gpo_ON i.val = true ∧ d0.devLatch = false ∧ d0.rbit Reg.release_LATCH (8 + i.val) = false ∧
        d0.puffActive = false) ∧ d = { d0 with time := d.time, gpo := d.gpo })) ∧
    (d0.live = true → g.on = hi → (g.told = false ∨ g.drain ≠ hi) →
      let act := d0.rfld Reg.gpo_RBCFG (2 * i.val + 1) (2 * i.val)
      let prev := toWord ((if hi then 1 else 2) + 0x100 * i.val)
      act ≤ 2 → Completes (.gpoReadbackMismatch i hi) s (fun d => (act < 2 → d.now = max d0.now (g.since + 40000 * d0.rfld Reg.gpo_RBCFG 31 16)) ∧
        d.rbit (Reg.pgEvt 0x1E) i.val = true ∧ d.faulted 0x1E 0x54 prev ∧ (act = 0 → d.reg Reg.release_LATCH = d0.reg Reg.release_LATCH) ∧
        (act = 1 → d.rbit Reg.release_LATCH (8 + i.val) = true ∧ (d.gpoCh i.val).on = false) ∧
        (act = 2 → d.devLatch = true ∧ (d0.devLatch = false → d.reg Reg.release_CAUSE = 8) ∧ d.cs = d0.cs) ∧ d.copies = d0.copies ∧ d.mem = d0.mem)) ∧
    (d0.live = true → (g.on ≠ hi ∨ (g.told = true ∧ g.drain = hi)) → Completes (.gpoReadbackMismatch i hi) s (fun d =>
      (d.gpoCh i.val).drain = hi ∧ (d.gpoCh i.val).on = g.on ∧ d = { d0 with gpo := d.gpo })) ∧
    (g.on = true → Completes (.gpoOvercurrent i) s (fun d => d.now = max d0.now (g.since + 8000) ∧
      d.rbit Reg.release_LATCH (8 + i.val) = true ∧ (d.gpoCh i.val).on = false ∧ d.rbit (Reg.pgEvt 0x1E) (8 + i.val) = true ∧
      d.faulted 0x1E 0x55 (toWord i.val) ∧ (∀ b : Fin 32, b.val ≠ 8 + i.val → d.rbit Reg.release_LATCH b.val = d0.rbit Reg.release_LATCH b.val) ∧
      d.mem = d0.mem ∧ d.copies = d0.copies))) ∧
  (∀ (s : State), let d0 := s.dev
    let cfg := d0.reg Reg.puff_CFG
    (∀ t, d0.puff.insvcFrom = some t → d0.awake = true → d0.phase ≠ .dozeWake → bitOf cfg 0 = true → d0.puffActive = false → d0.gpo.length = 8 →
      Completes .puffballEntry s (fun d => d.now = max d0.now (t + 4000000 * fld cfg 23 16) ∧ d.puffActive = true ∧ d.rfld Reg.puff_STAT 7 4 = 1 ∧
        (∀ n : DrvId, d.rbit (Reg.drv_TSTAT n.val) 7 = true ∧ d.driveHeld n = true) ∧ d.devLatch = true ∧ (∀ i : GpoId, (d.gpoCh i.val).on = false) ∧
        (∀ i : FanId, d0.fanDesignated i.val = false → d.fanDuty i = 0) ∧ (∀ i : FanId, d0.fanDesignated i.val = true → d.fanDuty i = 0xFFFF) ∧
        (∀ (n : CanId) (k : Fin 48), (d0.slotSt n k.val = 1 → d.slotSt n k.val = 4) ∧ (∀ x, d0.slotSt n k.val = 2 → d0.txSlot n k.val = some x →
          d.txSlot n k.val = some { x with cancel := true })) ∧ d.level = 3 ∧ d.rfld Reg.sys_SVCLVL 10 8 = d0.rfld Reg.sys_SVCLVL 10 8 ∧
        (d0.level ≠ 3 → d.journaled 6 0 (d.reg Reg.sys_SVCLVL) (d0.reg Reg.sys_SVCLVL)) ∧ d.journaled 6 0x1A 1 0 ∧ d.copies = d0.copies ∧ d.mem = d0.mem)) ∧
    (d0.puffActive = true → d0.puff.kicking = true → Completes .puffKickEnd s (fun d =>
      d.now = max d0.now (d0.puff.entered + 4000000 * fld cfg 31 24) ∧ d.puff.kicking = false ∧
      (∀ i : FanId, bitOf cfg 0 = true → bitOf cfg 1 = true → fld cfg 3 2 = i.val → d.fanDuty i = d0.rfld Reg.puff_DUTY 15 0) ∧
      (∀ i : FanId, bitOf cfg 0 = true → bitOf cfg 4 = true → fld cfg 6 5 = i.val → (bitOf cfg 1 = false ∨ fld cfg 3 2 ≠ i.val) →
        d.fanDuty i = d0.rfld Reg.puff_DUTY 31 16) ∧ d = { d0 with time := d.time, puff := d.puff })) ∧
    (d0.puffActive = true → d0.awake = true →
      let n : CanId := if bitOf cfg 7 then 1 else 0
      let speed (en ch : Nat) : Byte := if bitOf cfg en then
        BitVec.ofNat 8 (min 255 ((d0.reg (Reg.fan_SPEED (fld cfg (ch + 1) ch))).toNat / 65536 / 50)) else 0
      let cnt := d0.rfld Reg.puff_STAT 31 16
      Completes .distressFrame s (fun d => d.now = max d0.now d0.puff.nextDistress ∧ d.puff.nextDistress = d0.puff.nextDistress + 40000000 ∧
        d.rfld Reg.puff_STAT 31 16 = (cnt + 1) % 65536 ∧ d.rfld Reg.puff_STAT 15 0 = d0.rfld Reg.puff_STAT 15 0 ∧
        (d.canSt n ≠ 0 → d.canSt n ≠ 4 → d.canSt n ≠ 5 → (d0.canCh n).active ≠ some 48 → (d.canCh n).internal = some
          [(d0.reg Reg.puff_DPFX).extractLsb' 0 8, (d0.reg Reg.puff_DPFX).extractLsb' 8 8, (d0.reg Reg.puff_DPFX).extractLsb' 16 8,
           BitVec.ofNat 8 (d0.rfld Reg.puff_STAT 7 4), speed 1 2, speed 4 5, BitVec.ofNat 8 cnt, BitVec.ofNat 8 (cnt / 256)]) ∧
        ((d.canSt n = 0 ∨ d.canSt n = 4 ∨ d.canSt n = 5) → (d0.canCh n).active ≠ some 48 → (d.canCh n).internal = none) ∧
        (∀ m, m ≠ n → d.canCh m = d0.canCh m) ∧ d.copies = d0.copies ∧ d.mem = d0.mem))))

/-- Submits: the first check that fails decides, its status goes to the submitting world's TXCMDST and the slot stays; a
submit that passes takes the world's staged words and its time and is PENDING. A cancel ends a PENDING frame and marks
an ACTIVE one; a recovery starts only from bus-off without ABOR (R361, R365, R366, R370, R376). Transmission: the
selection removes what is late or names an absent partner and takes the first by class, priority, arbitration value and
slot; a frame that completes is served or delayed by its class's bound and ends the cancel it met; one that loses
arbitration or ends in an error is PENDING again unless cancelled, one-shot or late, and counts its error; a PENDING
frame at its deadline is refused; a guard frame at its bound raises one guard overrun and keeps its place (R31, R361,
R367 to R370, R376). -/
def Obligations.CanSends : Prop :=
  ((∀ (s : State) (n : CanId) (w : World) (slot : BitVec 6), let d0 := s.dev
    let k := slot.toNat
    let stg := d0.staging n w
    let w0 := listGet 0 stg 0
    let w1 := listGet 0 stg 1
    let cls := fld w1 7 6
    let cfg (b : Nat) : Bool := d0.rbit (Reg.can_CFG n.val) b
    let refused (why : Nat) : Prop := Completes (.txcmdSubmit n w slot) s (fun d =>
      d.bankReg w (Reg.can_TXCMDST n.val) = toWord (k * 256 + why * 4 + 2) ∧ d.can = d0.can ∧
      (∀ j : Fin 48, d.reg (Reg.can_SLOTST n.val j.val) = d0.reg (Reg.can_SLOTST n.val j.val)) ∧
      (cls = 1 → d.reg (admBase (txGroup n) + 0xC) = satAdd (d0.reg (admBase (txGroup n) + 0xC)) 1) ∧
      (cls = 2 → d.reg (admBase (txGroup n) + 0x10) = satAdd (d0.reg (admBase (txGroup n) + 0x10)) 1))
    let free : Prop := d0.slotSt n k ≠ 1 ∧ d0.slotSt n k ≠ 2
    let format : Prop := cls ≠ 3 ∧ (k < 8 → cls = 0) ∧ (bitOf w0 31 = true → cfg 1 = true) ∧
      (bitOf w1 4 = true → bitOf w0 31 = true ∧ cfg 2 = true) ∧ (bitOf w0 30 = true → bitOf w0 31 = false) ∧
      (bitOf w0 29 = false → fld w0 28 0 ≤ 0x7FF)
    (d0.live = true → k < 48 →
      (cfg 0 = false → refused 9) ∧ (cfg 0 = true → ¬ free → refused 0x2B) ∧ (cfg 0 = true → free → ¬ format → refused 0x2C) ∧
      (cfg 0 = true → free → format → cls = 2 → 24 ≤ d0.bulkSlots n → refused 2) ∧
      (cfg 0 = true → free → format → (cls = 2 → d0.bulkSlots n < 24) → Completes (.txcmdSubmit n w slot) s (fun d =>
        d.bankReg w (Reg.can_TXCMDST n.val) = toWord (k * 256) ∧ d.reg (Reg.can_SLOTST n.val k) = 0x100 ∧
        d.txSlot n k = some ⟨stg, d0.now, false, false⟩ ∧ (∀ j, j ≠ k → d.txSlot n j = d0.txSlot n j) ∧
        d.copies = d0.copies ∧ d.mem = d0.mem))) ∧
    (d0.live = true → k < 48 →
      (d0.slotSt n k = 1 → Completes (.txcmdCancel n slot) s (fun d => d.slotSt n k = 4 ∧
        d.rfld (Reg.can_SLOTST n.val k) 7 0 = 0xA2 ∧ d.txSlot n k = none ∧ (d.canCh n).selected ≠ some k ∧
        d.rbit (Reg.pgEvt (canPage n)) 0 = true ∧ d.jrn = d0.jrn)) ∧
      (∀ x, d0.slotSt n k = 2 → d0.txSlot n k = some x → Completes (.txcmdCancel n slot) s (fun d =>
        d.txSlot n k = some { x with cancel := true } ∧ d = { d0 with can := d.can })) ∧
      (free → Completes (.txcmdCancel n slot) s (fun d => d = d0))) ∧
    (d0.live = true → (d0.canSt n = 4 → cfg 6 = false → Completes (.txcmdRecover n) s (fun d => d.canSt n = 5 ∧
        d.journaled 6 (canPage n) 5 4 ∧ (d.canCh n).boAt = none)) ∧
      ((d0.canSt n ≠ 4 ∨ cfg 6 = true) → Completes (.txcmdRecover n) s (fun d => d = d0)))) ∧
  (∀ (s : State) (n : CanId) (k : Fin 48) (x : TxSlot), let d0 := s.dev
    let st (d : Dev) : Nat := d.slotSt n k.val
    let status (d : Dev) : Nat := d.rfld (Reg.can_SLOTST n.val k.val) 7 0
    let idle (d : Dev) : Prop := (d.canCh n).active = none ∧ (d.canCh n).selected = none
    let oneShot : Bool := bitOf (d0.slotStg n k.val 1) 5
    let ended (d : Dev) (state stat : Nat) : Prop := st d = state ∧ status d = stat ∧ d.txSlot n k.val = none ∧
      d.rbit (Reg.pgEvt (canPage n)) 0 = true
    let tec := (d0.canCh n).tecN
    let rec_ := (d0.canCh n).recN
    (∀ sof, d0.canContends n = true → Completes (.txSelect n sof) s (fun d =>
      (∀ t : Fin 48, d0.slotSt n t.val = 1 →
        (d0.slotExpired n t.val = true → d.slotSt n t.val = 7 ∧ d.rfld (Reg.can_SLOTST n.val t.val) 7 0 = 6) ∧
        (d0.slotExpired n t.val = false → bitOf (d0.slotStg n t.val 1) 12 = true →
          d0.rfld (Reg.part_PSTAT (fld (d0.slotStg n t.val 1) 19 13)) 1 0 = 3 →
          d.slotSt n t.val = 7 ∧ d.rfld (Reg.can_SLOTST n.val t.val) 7 0 = 0x26)) ∧
      (∀ t, (d.canCh n).selected = some t → t < 48 → (sof = false → d.slotSt n t = 1) ∧
        (sof = true → d.slotSt n t = 2 ∧ (d.canCh n).active = some t) ∧
        (∀ u : Fin 48, d.slotSt n u.val = 1 → u.val ≠ t → d0.slotKey n t < d0.slotKey n u.val)) ∧
      ((d.canCh n).selected = none → (∀ u : Fin 48, d.slotSt n u.val ≠ 1) ∧ (d0.canCh n).internal = none) ∧
      d.copies = d0.copies ∧ d.mem = d0.mem)) ∧
    ((d0.canCh n).active = some k.val → d0.txSlot n k.val = some x →
      (d0.rbit (Reg.can_CFG n.val) 5 = false → tec ≤ 256 → Completes (.txComplete n) s (fun d => idle d ∧ (d.canCh n).tecN = tec - 1 ∧
        ended d (if x.cancel then 5 else 3) (if d0.txBound n (d0.slotCls n k.val) < d0.now - x.submit then 1 else 0))) ∧
      (x.cancel = true → Completes (.txArbitrationLost n) s (fun d => idle d ∧ ended d 4 0xA2)) ∧
      (x.cancel = false → oneShot = true → Completes (.txArbitrationLost n) s (fun d => idle d ∧ ended d 7 0xB6)) ∧
      (x.cancel = false → oneShot = false → d0.slotExpired n k.val = true → Completes (.txArbitrationLost n) s (fun d => idle d ∧ ended d 7 6)) ∧
      (x.cancel = false → oneShot = false → d0.slotExpired n k.val = false → Completes (.txArbitrationLost n) s (fun d => idle d ∧
        st d = 1 ∧ d.txSlot n k.val = some x ∧ (d.canCh n).tecN = tec)) ∧
      (∀ lec : BitVec 3, let t := if d0.canSt n = 3 ∧ lec = 3 then tec else tec + 8
        Completes (.txError n lec) s (fun d => idle d ∧ (d.canCh n).tecN = t ∧ (d.canCh n).recN = rec_ ∧ d.rfld (Reg.can_PSTAT n.val) 26 24 = lec.toNat ∧
          (t ≤ 255 → d.canSt n = (if 127 < t ∨ 127 < rec_ then 3 else 2)) ∧ (255 < t → d.canSt n = 4 ∧ d.journaled 7 (canPage n) 0x60 (toWord t)) ∧
          (x.cancel = true → ended d 6 0xA6) ∧
          (x.cancel = false → oneShot = false → d0.slotExpired n k.val = false → t ≤ 255 → st d = 1 ∧ d.txSlot n k.val = some x)))) ∧
    (∀ t, st d0 = 1 → d0.slotDeadline n k.val = some t → Completes (.txDeadline n (BitVec.ofNat 6 k.val)) s (fun d =>
      d.now = max d0.now t ∧ ended d 7 6 ∧ (d.canCh n).selected ≠ some k.val ∧
      (d0.slotCls n k.val = 1 → d.reg (admBase (txGroup n) + 0xC) = satAdd (d0.reg (admBase (txGroup n) + 0xC)) 1))) ∧
    (d0.txSlot n k.val = some x → (st d0 = 1 ∨ st d0 = 2) → d0.slotCls n k.val = 0 → x.overran = false →
      Completes (.txGuardOverrun n (BitVec.ofNat 6 k.val)) s (fun d => d.now = max d0.now (x.submit + d0.txBound n 0) ∧ st d = st d0 ∧
        d.txSlot n k.val = some { x with overran := true } ∧ d.rfld (Reg.pgFault (canPage n)) 31 24 = 0x0F ∧
        d.rbit (Reg.pgEvt (canPage n)) 3 = true ∧ d.reg (admBase (txGroup n) + 0x14) = satAdd (d0.reg (admBase (txGroup n) + 0x14)) 1))))

/-- Reception: the first enabled filter that a frame meets decides; an accepted frame is stored with its class while its
class has a place, else it evicts the oldest of a lower class or is refused, and a guard frame with all places held by
guard frames raises a guard overrun; a pop moves the oldest frame of the highest class into its world's window; a held
frame at its deadline is discarded, a guard frame kept with one overrun (R31, R361, R372 to R374, R376). The states of a
controller and the partner table: recovery starts after its delay and ends error-active with the counters at 0;
integration ends in the state of the counters; a stopped controller refuses its timely and bulk frames and keeps its
guard frames; used entries age each ms but for a controller that is off, and an entry that reaches its timeout is ABSENT
with its PARTNER entry (R367, R376, R378 to R381). -/
def Obligations.CanReceives : Prop :=
  ((∀ (s : State) (n : CanId) (f : CanFrame) (t : Word), let d0 := s.dev
    let rx (d : Dev) : List RxItem := (d.canCh n).rx
    let item (i : Nat) (cls : BitVec 2) : RxItem := ⟨f, i, cls, t, d0.now, false⟩
    let refT (d : Dev) : Prop := d.reg (admBase (rxGroup n) + 0xC) = satAdd (d0.reg (admBase (rxGroup n) + 0xC)) 1
    let refB (d : Dev) : Prop := d.reg (admBase (rxGroup n) + 0x10) = satAdd (d0.reg (admBase (rxGroup n) + 0x10)) 1
    let held (c : Nat) : Nat := ((rx d0).filter (fun x => x.cls.toNat == c)).length
    (d0.canHears n = true → (d0.canCh n).active = none → (d0.canCh n).tecN ≤ 255 →
      ((d0.filterOf n f = none ∨ ∃ y ∈ d0.filterOf n f, y.2.1 = false) → Completes (.rxFrame n f t) s (fun d => rx d = rx d0 ∧
        d.reg (Reg.can_RXNOMATCH n.val) = satAdd (d0.reg (Reg.can_RXNOMATCH n.val)) 1)) ∧
      (∀ i cls, d0.filterOf n f = some (i, true, cls) →
        (cls = 0 → (rx d0).length < 64 → Completes (.rxFrame n f t) s (fun d => rx d = rx d0 ++ [item i cls] ∧ d.rbit (Reg.pgEvt (canPage n)) 1 = true)) ∧
        (cls = 1 → (rx d0).length < 64 → held 1 + held 2 < 56 → Completes (.rxFrame n f t) s (fun d => rx d = rx d0 ++ [item i cls])) ∧
        (cls = 2 → (rx d0).length < 64 → held 1 + held 2 < 56 → held 2 < 32 → Completes (.rxFrame n f t) s (fun d => rx d = rx d0 ++ [item i cls])) ∧
        (cls = 2 → (32 ≤ held 2 ∨ 56 ≤ held 1 + held 2 ∨ 64 ≤ (rx d0).length) → Completes (.rxFrame n f t) s (fun d => rx d = rx d0 ∧ refB d)) ∧
        (∀ j, cls ≠ 2 → 64 ≤ (rx d0).length → rxPlace 2 (rx d0) 0 = some j → Completes (.rxFrame n f t) s (fun d =>
          rx d = dropAt (rx d0) j ++ [item i cls] ∧ refB d)) ∧
        (cls = 1 → 64 ≤ (rx d0).length → held 2 = 0 → Completes (.rxFrame n f t) s (fun d => rx d = rx d0 ∧ refT d)) ∧
        (∀ j, cls = 0 → 64 ≤ (rx d0).length → held 2 = 0 → rxPlace 1 (rx d0) 0 = some j → Completes (.rxFrame n f t) s (fun d =>
          rx d = dropAt (rx d0) j ++ [item i cls] ∧ refT d)) ∧
        (cls = 0 → 64 ≤ (rx d0).length → held 1 = 0 → held 2 = 0 → Completes (.rxFrame n f t) s (fun d => rx d = rx d0 ∧
          d.rfld (Reg.pgFault (canPage n)) 31 24 = 0x0F ∧ d.rbit (Reg.pgEvt (canPage n)) 3 = true)))) ∧
    (d0.canHears n = true →
      (∀ lec dom, (d0.canCh n).tecN ≤ 255 → Completes (.rxError n (.error lec dom)) s (fun d =>
        (d.canCh n).recN = (d0.canCh n).recN + (if dom then 8 else 1) ∧ d.rfld (Reg.can_PSTAT n.val) 26 24 = lec.toNat ∧ rx d = rx d0 ∧
        d.canSt n = (if 127 < (d0.canCh n).tecN ∨ 127 < (d.canCh n).recN then 3 else 2))) ∧
      Completes (.rxError n .protocolException) s (fun d => d.canSt n = 1 ∧ d.rbit (Reg.pgEvt (canPage n)) 5 = true ∧
        d.reg (Reg.can_PXCNT n.val) = satAdd (d0.reg (Reg.can_PXCNT n.val)) 1 ∧ rx d = rx d0)) ∧
    (∀ w : World, d0.live = true →
      (rx d0 = [] → Completes (.rxcmdPop n w) s (fun d => bitOf (d.bankReg w (Reg.can_RXW n.val 1)) 31 = false ∧ d.can = d0.can)) ∧
      (∀ i x, rxNext (rx d0) = some i → (rx d0)[i]? = some x → x.filter < 32 → Completes (.rxcmdPop n w) s (fun d =>
        let v := d.bankReg w (Reg.can_RXW n.val 1)
        rx d = dropAt (rx d0) i ∧ (∀ y ∈ rx d0, x.cls ≤ y.cls) ∧ d.bankReg w (Reg.can_RXW n.val 0) = frameWord0 x.frame ∧
        bitOf v 31 = true ∧ fld v 3 0 = x.frame.dlc.toNat ∧ fld v 7 6 = x.cls.toNat ∧ fld v 12 8 = x.filter ∧
        fld v 23 16 = (if d0.rxBound n x.cls.toNat < d0.now - x.stored then 1 else 0) ∧ d.bankReg w (Reg.can_RXW n.val 2) = x.time ∧
        (∀ (b : Fin 64) (y : Byte), x.frame.data[b.val]? = some y →
          (d.bankReg w (Reg.can_RXWD n.val (b.val / 4))).extractLsb' (8 * (b.val % 4)) 8 = y) ∧ d.mem = d0.mem ∧ d.copies = d0.copies))) ∧
    (∀ u i, (firstDue (d0.rxDue n false) (rx d0) 0 = some (u, i) → Completes (.rxDeadline n) s (fun d => d.now = max d0.now u ∧
        rx d = dropAt (rx d0) i ∧ d.rbit (Reg.pgEvt (canPage n)) 4 = true)) ∧
      (firstDue (d0.rxDue n true) (rx d0) 0 = some (u, i) → Completes (.rxGuardOverrun n) s (fun d => d.now = max d0.now u ∧
        (rx d).length = (rx d0).length ∧ (rx d)[i]?.map RxItem.overran = some true ∧ d.rbit (Reg.pgEvt (canPage n)) 3 = true ∧
        d.reg (admBase (rxGroup n) + 0x14) = satAdd (d0.reg (admBase (rxGroup n) + 0x14)) 1)))) ∧
  (∀ (s : State) (n : CanId), let d0 := s.dev
    let moded (d : Dev) (new : Nat) : Prop := d.canSt n = new ∧ d.journaled 6 (canPage n) (toWord new) (toWord (d0.canSt n)) ∧
      d.rbit (Reg.pgEvt (canPage n)) 2 = true
    let agesAnew (d : Dev) : Prop := ∀ e : Fin 128, d0.rfld (Reg.part_ENT e.val) 31 30 = n.val + 1 → d.rfld (Reg.part_PSTAT e.val) 31 16 = 0
    (∀ t, (d0.canCh n).boAt = some t → d0.canSt n = 4 → d0.rbit (Reg.can_CFG n.val) 6 = true → Completes (.busoffRecoveryStart n) s (fun d =>
      d.now = max d0.now (t + 400000 * d0.rfld (Reg.can_CFG n.val) 15 8) ∧ moded d 5 ∧ (d.canCh n).boAt = none ∧ (d.canCh n).rx = (d0.canCh n).rx)) ∧
    (d0.canSt n = 5 → Completes (.busoffRecovered n) s (fun d => moded d 2 ∧ (d.canCh n).tecN = 0 ∧ (d.canCh n).recN = 0 ∧ agesAnew d ∧
      (d.canCh n).slots = (d0.canCh n).slots)) ∧
    (d0.canSt n = 1 → Completes (.busIntegrationEnd n) s (fun d =>
      moded d (if 127 < (d0.canCh n).tecN ∨ 127 < (d0.canCh n).recN then 3 else 2) ∧ (d.canSt n = 2 → agesAnew d) ∧ (d.canCh n).rx = (d0.canCh n).rx)) ∧
    ((d0.canCh n).stopping = true → (d0.canCh n).active = none → d0.lp.entered = false → d0.canSt n ≠ 0 → Completes (.canStop n) s (fun d =>
      moded d 0 ∧ (d.canCh n).stopping = false ∧ (d.canCh n).internal = none ∧
      (∀ k : Fin 48, (d0.slotSt n k.val = 1 ∨ d0.slotSt n k.val = 2) →
        (d0.slotCls n k.val = 0 → d.slotSt n k.val = 1 ∧ d.txSlot n k.val = d0.txSlot n k.val) ∧
        (d0.slotCls n k.val ≠ 0 → d.slotSt n k.val = 7 ∧ d.rfld (Reg.can_SLOTST n.val k.val) 7 0 = 0x26)))) ∧
    (d0.live = true → let p := gridNext 0 400000 d0.partAt d0.now
      Completes .partnerAgeTick s (fun d => d.now = max d0.now p ∧ d.partAt = d.now ∧ (d0.now < p → d.now % 400000 = 0) ∧
        (∀ e : Fin 128, let bus := d0.rfld (Reg.part_ENT e.val) 31 30
          let age (x : Dev) : Nat := x.rfld (Reg.part_PSTAT e.val) 31 16
          ((bus = 0 ∨ (bus = 1 ∧ d0.canDeaf 0 = true) ∨ (bus = 2 ∧ d0.canDeaf 1 = true)) → age d = age d0) ∧
          ((bus = 3 ∨ (bus = 1 ∧ d0.canDeaf 0 = false) ∨ (bus = 2 ∧ d0.canDeaf 1 = false)) → age d = min (age d0 + 1) 65535) ∧
          d.rfld (Reg.part_PSTAT e.val) 15 0 = d0.rfld (Reg.part_PSTAT e.val) 15 0) ∧ d.can = d0.can ∧ d.copies = d0.copies)) ∧
    (∀ e : Fin 128, let k := Reg.part_PSTAT e.val
      d0.rfld k 1 0 = 2 → d0.rfld (Reg.part_TIM e.val) 31 16 ≤ d0.rfld k 31 16 → d0.jRoom 1 = true → Completes (.partnerLeft e) s (fun d =>
        d.rfld k 1 0 = 3 ∧ d.rfld k 31 2 = d0.rfld k 31 2 ∧ d.rbit (Reg.part_PRES (e.val / 32)) (e.val % 32) = false ∧ d.rbit (Reg.pgEvt 0x1D) 1 = true ∧
        d.journaled 0x0C 0x1D (toWord (e.val + 0x80 * d0.rfld k 2 2)) 0 ∧ d.can = d0.can))))

/-- The JTAG port: an available instruction is selected and acts; one that is not selects BYPASS. IDCODE returns the
identification; SAMPLE/PRELOAD samples the boundary and takes its bits; EXTEST and CLAMP, only at an open port, give the
fan and CAN balls their preloaded bits, hold SAFE_n low and leave every gate in its trip state; without power nothing
happens (R437, R443, R479). Debug access through an open port: a read returns the stored word, or the page's view, and
refuses what the guard forbids; a write of SRAM stores the word with its code only while the copies are halted, else it
is refused LOCKED, and in the safe state SAFESTATE; at a locked port nothing happens (R251, R253, R294, R437, R438). -/
def Obligations.JtagAndDebugAccess : Prop :=
  ((∀ (s : State) (i : Instr), let d0 := s.dev
    let only (d : Dev) : Prop := d = { d0 with jtag := d.jtag }
    let selects (d : Dev) (ir : BitVec 5) : Prop := only d ∧ d.jtag.ir = ir ∧ d.jtag.preload = d0.jtag.preload
    (d0.jtagOn = true → Completes .jtagIdcode s (fun d => selects d 1 ∧ d.jtag.dataOut = [Config.jtagIdcode])) ∧
    (∀ bits, d0.jtagOn = true → Completes (.jtagSamplePreload bits) s (fun d => only d ∧ d.jtag.ir = 2 ∧ d.jtag.preload = bits ∧
      (∀ f : FanId, d.jtag.sample.getLsbD f.val = ({ d0 with jtag := { d0.jtag with ir := 2 } }.fanBall f == .high)) ∧
      (∀ n : CanId, d.jtag.sample.getLsbD (4 + n.val) = ({ d0 with jtag := { d0.jtag with ir := 2 } }.canBall n == .high)))) ∧
    (∀ ir, (i, ir) ∈ [(.jtagExtest, 3#5), (.jtagClamp, 5#5)] → d0.jtagOn = true →
      (d0.jtagFull = true → Completes i s (fun d => selects d ir ∧ d.safeBall ≠ .high ∧
        (d0.pinsDead = false → d0.vioDead = false → d.safeBall = .low ∧
          (∀ f : FanId, (d0.fanCh f).configured = true → d.fanBall f = Level.ofBool (d0.jtag.preload.getLsbD f.val)) ∧
          (∀ n : CanId, d.canBall n = Level.ofBool (d0.jtag.preload.getLsbD (4 + n.val))) ∧
          d.tdoBall = Level.ofBool (d0.jtag.preload.getLsbD 6)) ∧
        (∀ g : GpoId, d.gpoBall g = .highZ) ∧
        (∀ (n : DrvId) (x : Fin 3) (hi : Bool), d0.dozes = false → d.switchOn n x hi = (d0.tripOf n == (if hi then 3 else 2))))) ∧
      (d0.jtagFull = false → Completes i s (fun d => selects d 0x1F ∧ d.jtag.bypass = false))) ∧
    (∀ ir, d0.jtagOn = true → d0.jtagAvail ir = false → Completes (.jtagBypass ir) s (fun d => selects d 0x1F ∧ d.jtag.bypass = false)) ∧
    (d0.jtagOn = false → i ∈ [.jtagIdcode, .jtagExtest, .jtagClamp] → Completes i s (fun d => d = d0))) ∧
  (∀ (s : State) (addr v : Word), let d0 := s.dev
    let a := addr.toNat / 4 * 4
    let p := (a - 0x40000000) / 0x1000
    d0.jtagOn = true →
    (d0.jtagFull = false → Completes (.dbgaccRead addr) s (fun d => d.jtag.ir = 0x1F ∧ d = { d0 with jtag := d.jtag }) ∧
      Completes (.dbgaccWrite addr v) s (fun d => d.jtag.ir = 0x1F ∧ d = { d0 with jtag := d.jtag })) ∧
    (d0.jtagFull = true → d0.live = true →
      ((isSram a = true ∨ isContext a = true ∨ (isFlash a = true ∧ d0.bankBusyAt a = false)) → Completes (.dbgaccRead addr) s (fun d =>
        d.jtag.dataOut = [d0.word a] ∧ d.jtag.status = some 0 ∧ d.mem = d0.mem ∧ d.codes = d0.codes)) ∧
      (isPages a = true → d0.guardOk p .jtag false = true → isPairLo (a - 0x40000000) = false → isPairHi (a - 0x40000000) = false →
        Completes (.dbgaccRead addr) s (fun d => d.jtag.dataOut = [d0.view .iron (a - 0x40000000)] ∧ d.jtag.status = some 0 ∧ d.mem = d0.mem)) ∧
      (isPages a = true → d0.guardOk p .jtag false = false → d0.jRoom 1 = true → Completes (.dbgaccRead addr) s (fun d => d.jtag.dataOut = [] ∧
        d.jtag.status = some 0x16 ∧ d.journaled 0x0D p 0 0 ∧ d.regs = d0.regs)) ∧
      (0x60000000 ≤ a → Completes (.dbgaccRead addr) s (fun d => d.jtag.dataOut = [] ∧ d.jtag.status = some 0x26)) ∧
      (isSram a = true → d0.level ≠ 2 → d0.rbit Reg.dbg_STAT 0 = true → Completes (.dbgaccWrite addr v) s (fun d =>
        d.word a = v ∧ (d.code a).setWidth 7 = ecc v (toWord a) ∧ (∀ b, (b < a ∨ a + 4 ≤ b) → d.byte b = d0.byte b) ∧
        d.dbg.inval = true ∧ d.jtag.status = some 0 ∧ d.regs = d0.regs)) ∧
      (isSram a = true → d0.level ≠ 2 → d0.rbit Reg.dbg_STAT 0 = false → Completes (.dbgaccWrite addr v) s (fun d =>
        d.jtag.status = some 0x1E ∧ d = { d0 with jtag := d.jtag })) ∧
      (isSram a = true → d0.level = 2 → Completes (.dbgaccWrite addr v) s (fun d => d.jtag.status = some 0x22 ∧ d = { d0 with jtag := d.jtag })) ∧
      (isSram a = false → isContext a = false → isPages a = false → Completes (.dbgaccWrite addr v) s (fun d =>
        d.jtag.status = some 0x26 ∧ d = { d0 with jtag := d.jtag })))))

/-- The unlock: each challenge is the drawn one; the response that it expects opens a locked port with its MODE entry; a
wrong one counts, and the third locks the port out; a challenge holds for one attempt, and a locked-out port has none
(R443). The loader of a device that serves it: LEDGER commits its two words, ERASE and PROGRAM submit one flash job of
class timely on the sector or row, READ and JREAD return a row and an entry, OTPWRITE only sets bits, BOOT goes on with
the image check; elsewhere LOADER is selected and does nothing (R64, R261, R263, R436, R444). -/
def Obligations.UnlockAndLoader : Prop :=
  ((∀ (s : State), let d0 := s.dev
    let lock (d : Dev) : Nat := d.rfld Reg.dbg_STAT 5 4
    let tries (d : Dev) : Nat := d.rfld Reg.dbg_STAT 9 8
    d0.jtagOn = true →
    (lock d0 = 3 → ∀ noise r, Completes (.unlockChallenge noise) s (fun d => d.dbg = d0.dbg ∧ d.regs = d0.regs ∧ d.jtag.ir = 0x1F) ∧
      Completes (.unlockResponse r) s (fun d => d.dbg = d0.dbg ∧ d.regs = d0.regs ∧ d.jtag.ir = 0x1F)) ∧
    (lock d0 ≠ 3 → d0.live = true →
      (∀ noise, Completes (.unlockChallenge noise) s (fun d => d.dbg.challenge = some noise ∧
        d.jtag.dataOut = [noise.extractLsb' 0 32, noise.extractLsb' 32 32] ∧ d.regs = d0.regs ∧ d.jrn = d0.jrn)) ∧
      (∀ r, d0.dbg.challenge = none → Completes (.unlockResponse r) s (fun d => d.dbg = d0.dbg ∧ d.regs = d0.regs ∧ d.jrn = d0.jrn)) ∧
      (∀ (r c : DWord), d0.dbg.challenge = some c →
        (r.toNat = d0.unlockAnswer c → lock d0 = 1 → Completes (.unlockResponse r) s (fun d => lock d = 2 ∧ tries d = tries d0 ∧
          d.journaled 6 0x20 2 1 ∧ d.dbg.challenge = none ∧ d0.keepsRegs d [Reg.dbg_STAT])) ∧
        (r.toNat ≠ d0.unlockAnswer c → tries d0 < 2 → Completes (.unlockResponse r) s (fun d => lock d = lock d0 ∧ tries d = tries d0 + 1 ∧
          d.dbg.challenge = none ∧ d.jrn = d0.jrn ∧ d0.keepsRegs d [Reg.dbg_STAT])) ∧
        (r.toNat ≠ d0.unlockAnswer c → 2 ≤ tries d0 → Completes (.unlockResponse r) s (fun d => lock d = 3 ∧ tries d = 3 ∧
          d.journaled 6 0x20 3 (toWord (lock d0)) ∧ d.dbg.challenge = none ∧ d0.keepsRegs d [Reg.dbg_STAT]))))) ∧
  (∀ (s : State) (addr v : Word) (data : List Word), let d0 := s.dev
    let st (d : Dev) (b : Byte) : Prop := d.jtag.status = some b ∧ d.jtag.ir = 0x12
    let job (d : Dev) (op : BitVec 2) (dst n : Nat) (ws : List Word) : Prop := d.ledger.jobs.map (fun j => (j.cls, j.energy, j.admitted)) =
        [(1, n, true)] ∧ d.flash = some ⟨op, toWord dst, 0, 1, 0, 0, true, false, ws⟩ ∧ d.reg Reg.flash_EDECL = toWord n ∧
        d.rbit Reg.flash_STAT 31 = true ∧ d.flopp = true ∧ d.mem = d0.mem
    d0.jtagOn = true →
    (d0.loaderServed = false → ∀ i ∈ [Instr.loaderLedger v addr, .loaderErase addr, .loaderProgram addr data, .loaderRead addr,
      .loaderOtpwrite addr v, .loaderJread v, .loaderBoot], Completes i s (fun d => d.jtag.ir = 0x12 ∧ d = { d0 with jtag := d.jtag })) ∧
    (d0.loaderServed = true →
      (let e := ((d0.jtagSelect 0x12).regWrite .hub Reg.ledger_CAPNF v none).1.regWrite .hub Reg.ledger_VMIN addr none;
        d0.letsWrite .hub Reg.ledger_CAPNF → d0.rbit (Reg.pgLock 2) 0 = false → d0.otherOwns 2 .hub = false →
        e.1.commitCheck .hub 2 0xC5000000 = (0, 0) → e.1.jRoom ((e.1.changed 2).length + 1) = true → d0.pages.commits = [] →
        Completes (.loaderLedger v addr) s (fun d => st d 0 ∧ d.shad Reg.ledger_CAPNF = v ∧ fld (d.shad Reg.ledger_VMIN) 15 0 = fld addr 15 0 ∧
          d.pages.commits.map (fun c => (c.page, c.admitted, c.vals.map (fun x => x.1))) = [(2, true, e.1.changed 2)] ∧
          (∀ k w c, c ∈ d.pages.commits → (k, w) ∈ c.vals → k = Reg.ledger_CAPNF → w = v) ∧ d.mem = d0.mem)) ∧
      (addr.toNat < 0x400000 → d0.ledger.jobs = [] → d0.ledgerStop = false → d0.flash = none →
        let sec := addr.toNat / 4096 * 4096
        let row := addr.toNat / 32 * 32
        ((14400 : Int) ≤ d0.freeOf 1 → Completes (.loaderErase addr) s (fun d => job d 2 sec 14400 [])) ∧
        ((2710 : Int) ≤ d0.freeOf 1 → data.length = 8 → Completes (.loaderProgram addr data) s (fun d => job d 1 row 2710 data)) ∧
        Completes (.loaderRead addr) s (fun d => st d 0 ∧ d.jtag.dataOut = (List.range 8).map (fun i => d0.word (row + 4 * i)) ∧
          d.mem = d0.mem ∧ d0.keepsRegs d [Reg.flash_RDADDR, Reg.flash_RDWORD, Reg.flash_RDINFO, Reg.flash_CECNT, Reg.flash_UECNT])) ∧
      (let a := 0x50000000 + addr.toNat / 4 * 4;
        (addr.toNat < 0x1000 → Completes (.loaderOtpwrite addr v) s (fun d => st d 0 ∧ d.word a = d0.word a ||| v ∧
          (d.code a).setWidth 7 = ecc (d0.word a ||| v) (toWord a) ∧ (∀ b, (b < a ∨ a + 4 ≤ b) → d.byte b = d0.byte b) ∧ d.regs = d0.regs)) ∧
        (0x1000 ≤ addr.toNat → Completes (.loaderOtpwrite addr v) s (fun d => st d 0x26 ∧ d = { d0 with jtag := d.jtag }))) ∧
      (d0.holdsEntry v = true → Completes (.loaderJread v) s (fun d => st d 0 ∧
        d.jtag.dataOut = (d0.readRecord (slotAddr (d0.slotOf v))).1 ∧ d = { d0 with jtag := d.jtag })) ∧
      (d0.holdsEntry v = false → Completes (.loaderJread v) s (fun d => st d 0x26 ∧ d = { d0 with jtag := d.jtag })) ∧
      (d0.puffActive = false → Completes .loaderBoot s (fun d => st d 0 ∧ d.phase = .imgCheck ∧ d.rbit Reg.boot_STAT 16 = false ∧
        d.rfld Reg.boot_STAT 15 8 = 0 ∧ d.cs = .idle ∧ d.mem = d0.mem ∧ d.time = d0.time)) ∧
      (d0.puffActive = true → Completes .loaderBoot s (fun d => st d 0x22 ∧ d.phase = .service)))))

/-- The watchdog and the cross-checks. A good kick sets AGE to 0, alternates the next value and counts; a wrong or early
one, and the expiry at TMAX, hold the outputs, leave PREV in LAST and restart the core set; a watchdog that stands still
takes no kick. A disagreement of the release gate does the same with its own fault; of another block it is a hub fault
that hands over to Puffball, or ends the hub where Puffball needs the block (R292, R354, R356, R446, R451, R455 to
R457). -/
def Obligations.Supervision : Prop :=
  ∀ (s : State) (src : Src) (v : Half) (b : HubBlock), let d0 := s.dev
    let w := d0.reg Reg.wdog_STAT
    let fails (prev : Nat) (d : Dev) : Prop := d.rfld Reg.wdog_STAT 31 28 = prev ∧ d.devLatch = true ∧ d.cmp = [] ∧
      d.rfld (Reg.pgFault 0x1F) 31 24 = 0x0E ∧ d.rbit (Reg.pgFault 0x1F) 0 = true ∧ d.journaled 7 0x1F 0x0E (toWord prev) ∧ d.mem = d0.mem ∧
      (d0.csRunning = true → d0.planExec = false → d0.rfld Reg.release_RSTCNT 3 0 < d0.rfld Reg.release_RSTCFG 3 0 →
        d.cs = .waiting ∧ d.rfld Reg.rst_LAST 15 8 = 0x10 ∧ d.rfld Reg.release_RSTCNT 3 0 = d0.rfld Reg.release_RSTCNT 3 0 + 1)
    (d0.letsWrite src Reg.wdog_KICK → d0.wdogRuns = true →
      (v.toNat = fld w 15 0 → fld d0.wdCfg 27 16 ≤ fld w 27 16 → Completes (.wdogKick src v) s (fun d =>
        d.rfld Reg.wdog_STAT 27 16 = 0 ∧ (fld w 15 0 = 0x5AF0 → d.rfld Reg.wdog_STAT 15 0 = 0xA50F) ∧
        (fld w 15 0 = 0xA50F → d.rfld Reg.wdog_STAT 15 0 = 0x5AF0) ∧ d.reg Reg.wdog_KCNT = d0.reg Reg.wdog_KCNT + 1 ∧
        d0.keepsRegs d [Reg.wdog_STAT, Reg.wdog_KCNT] ∧ d = { d0 with regs := d.regs })) ∧
      (v.toNat ≠ fld w 15 0 → Completes (.wdogKick src v) s (fails 3)) ∧
      (v.toNat = fld w 15 0 → fld w 27 16 < fld d0.wdCfg 27 16 → Completes (.wdogKick src v) s (fails 2))) ∧
    (d0.letsWrite src Reg.wdog_KICK → d0.wdogRuns = false → Completes (.wdogKick src v) s (fun d => d = d0)) ∧
    (d0.wdogRuns = true → d0.csRunning = true → fld d0.wdCfg 11 0 ≤ fld w 27 16 → Completes .wdogExpiry s (fails 1)) ∧
    ((d0.wdogRuns = false ∨ fld w 27 16 < fld d0.wdCfg 11 0) → Completes .wdogExpiry s (fun d => d = d0)) ∧
    (d0.awake = true →
      (b = .releaseGate → Completes (.hubCrosscheckFault b) s (fun d => d.devLatch = true ∧ d.cmp = [] ∧
        d.rfld (Reg.pgFault 0x0B) 31 24 = 4 ∧ (d0.csRunning = true → d0.planExec = false →
          d0.rfld Reg.release_RSTCNT 3 0 < d0.rfld Reg.release_RSTCFG 3 0 → d.cs = .waiting ∧ d.rfld Reg.rst_LAST 15 8 = 0x15))) ∧
      (b ≠ .releaseGate → d0.blockDead b = true → Completes (.hubCrosscheckFault b) s (fun d => d.phase = .dead ∧
        d.journaled 7 (blockPage b) 0x10 (toWord (blockPage b)) ∧ d.pinsDead = true)) ∧
      (b ≠ .releaseGate → d0.blockDead b = false → d0.rbit Reg.puff_CFG 0 = true → d0.puffActive = false → d0.gpo.length = 8 →
        Completes (.hubCrosscheckFault b) s (fun d => d.puffActive = true ∧ d.rfld Reg.puff_STAT 7 4 = 2 ∧ d.devLatch = true ∧ d.level = 3 ∧
          (∀ n : DrvId, d.rbit (Reg.drv_TSTAT n.val) 7 = true) ∧ d.journaled 7 (blockPage b) 0x10 (toWord (blockPage b)) ∧
          d.journaled 6 0x1A 2 0)) ∧
      (b ≠ .releaseGate → d0.blockDead b = false → d0.rbit Reg.puff_CFG 0 = false → Completes (.hubCrosscheckFault b) s (fun d =>
        d.devLatch = true ∧ d.cmp = [] ∧ d.level = (if d0.level = 3 then 3 else 2) ∧ d.cs = d0.cs ∧
        d.journaled 7 (blockPage b) 0x10 (toWord (blockPage b)))))
end

