-- ==== Sys2Proof/Laws/Core.lean ====
section
/-! SUPPORT. Laws/Core.lean: what the shared operations of a core do: reading and writing registers, sending, fetching and
retiring. -/

namespace Sys2Proof.Machine

open Sys2Proof

theorem Copy.xr_zero (x : Copy) : x.xr 0 = 0 := rfl

theorem Copy.xr_setX (x : Copy) (rd r : BitVec 5) (v : Word) :
    (x.setX rd v).xr r = if r = 0 then 0 else if r = rd then v else x.xr r := by
  unfold Copy.setX Copy.xr
  by_cases hd : rd = 0#5
  · subst hd; by_cases hr : r = 0#5 <;> simp [hr]
  · by_cases hr : r = 0#5
    · simp [hr]
    · by_cases he : r = rd
      · subst he; simp [hr]
      · have h : ¬ rd.toNat = r.toNat := fun h => he (BitVec.eq_of_toNat_eq h.symm)
        simp [hd, hr, he, h]

theorem Copy.wrote_setX (x : Copy) (rd : BitVec 5) (v : Word) : x.wrote (x.setX rd v) rd v :=
  fun r => x.xr_setX rd r v

/-- A write of a register changes the registers alone. -/
theorem Copy.setX_form (x : Copy) (rd : BitVec 5) (v : Word) : ∃ w, x.setX rd v = { x with x := w } := by
  unfold Copy.setX; split
  · exact ⟨x.x, rfl⟩
  · exact ⟨_, rfl⟩

@[simp] theorem Copy.masked_setX (x : Copy) (rd : BitVec 5) (v : Word) : (x.setX rd v).masked = x.masked := by
  obtain ⟨w, h⟩ := x.setX_form rd v; rw [h]; rfl

/-- Sending changes the link's send side and the report counters alone. -/
theorem Copy.send_form (x : Copy) (now : Nat) (cls : BitVec 2) (f : CopyFlit) :
    ∃ sd st, x.send now cls f = { x with side := sd, stats := st } := by
  unfold Copy.send; split
  · exact ⟨x.side, x.stats, rfl⟩
  · exact ⟨_, _, rfl⟩

/-- Replacement state changes the instruction cache alone. -/
theorem Copy.icTouch_form (x : Copy) (a : Word) : ∃ ic, x.icTouch a = { x with icache := ic } := by
  unfold Copy.icTouch; split
  · exact ⟨_, rfl⟩
  · exact ⟨x.icache, rfl⟩

theorem Copy.icTouches_form (as : List Word) (x : Copy) : ∃ ic, as.foldl Copy.icTouch x = { x with icache := ic } := by
  induction as generalizing x with
  | nil => exact ⟨x.icache, rfl⟩
  | cons a as ih =>
    obtain ⟨ic, h⟩ := x.icTouch_form a
    obtain ⟨ic2, h2⟩ := ih (x.icTouch a)
    exact ⟨ic2, by rw [List.foldl_cons, h2, h]⟩

/-! A register write leaves every other field. -/

@[simp] theorem Copy.setX_powered (x : Copy) (rd : BitVec 5) (v : Word) : (x.setX rd v).powered = x.powered := by
  obtain ⟨w, h⟩ := x.setX_form rd v; rw [h]
@[simp] theorem Copy.setX_released (x : Copy) (rd : BitVec 5) (v : Word) : (x.setX rd v).released = x.released := by
  obtain ⟨w, h⟩ := x.setX_form rd v; rw [h]
@[simp] theorem Copy.setX_stop (x : Copy) (rd : BitVec 5) (v : Word) : (x.setX rd v).stop = x.stop := by
  obtain ⟨w, h⟩ := x.setX_form rd v; rw [h]
@[simp] theorem Copy.setX_pc (x : Copy) (rd : BitVec 5) (v : Word) : (x.setX rd v).pc = x.pc := by
  obtain ⟨w, h⟩ := x.setX_form rd v; rw [h]
@[simp] theorem Copy.setX_world (x : Copy) (rd : BitVec 5) (v : Word) : (x.setX rd v).world = x.world := by
  obtain ⟨w, h⟩ := x.setX_form rd v; rw [h]
@[simp] theorem Copy.setX_ring (x : Copy) (rd : BitVec 5) (v : Word) : (x.setX rd v).ring = x.ring := by
  obtain ⟨w, h⟩ := x.setX_form rd v; rw [h]
@[simp] theorem Copy.setX_hush (x : Copy) (rd : BitVec 5) (v : Word) : (x.setX rd v).hush = x.hush := by
  obtain ⟨w, h⟩ := x.setX_form rd v; rw [h]
@[simp] theorem Copy.setX_bmode (x : Copy) (rd : BitVec 5) (v : Word) : (x.setX rd v).bmode = x.bmode := by
  obtain ⟨w, h⟩ := x.setX_form rd v; rw [h]
@[simp] theorem Copy.setX_ibusy (x : Copy) (rd : BitVec 5) (v : Word) : (x.setX rd v).ibusy = x.ibusy := by
  obtain ⟨w, h⟩ := x.setX_form rd v; rw [h]
@[simp] theorem Copy.setX_idflt (x : Copy) (rd : BitVec 5) (v : Word) : (x.setX rd v).idflt = x.idflt := by
  obtain ⟨w, h⟩ := x.setX_form rd v; rw [h]
@[simp] theorem Copy.setX_tbusy (x : Copy) (rd : BitVec 5) (v : Word) : (x.setX rd v).tbusy = x.tbusy := by
  obtain ⟨w, h⟩ := x.setX_form rd v; rw [h]
@[simp] theorem Copy.setX_tdflt (x : Copy) (rd : BitVec 5) (v : Word) : (x.setX rd v).tdflt = x.tdflt := by
  obtain ⟨w, h⟩ := x.setX_form rd v; rw [h]
@[simp] theorem Copy.setX_entering (x : Copy) (rd : BitVec 5) (v : Word) : (x.setX rd v).entering = x.entering := by
  obtain ⟨w, h⟩ := x.setX_form rd v; rw [h]
@[simp] theorem Copy.setX_iron (x : Copy) (rd : BitVec 5) (v : Word) : (x.setX rd v).iron = x.iron := by
  obtain ⟨w, h⟩ := x.setX_form rd v; rw [h]
@[simp] theorem Copy.setX_tin (x : Copy) (rd : BitVec 5) (v : Word) : (x.setX rd v).tin = x.tin := by
  obtain ⟨w, h⟩ := x.setX_form rd v; rw [h]
@[simp] theorem Copy.setX_gtbaseI (x : Copy) (rd : BitVec 5) (v : Word) : (x.setX rd v).gtbaseI = x.gtbaseI := by
  obtain ⟨w, h⟩ := x.setX_form rd v; rw [h]
@[simp] theorem Copy.setX_gtbaseT (x : Copy) (rd : BitVec 5) (v : Word) : (x.setX rd v).gtbaseT = x.gtbaseT := by
  obtain ⟨w, h⟩ := x.setX_form rd v; rw [h]
@[simp] theorem Copy.setX_hushmax (x : Copy) (rd : BitVec 5) (v : Word) : (x.setX rd v).hushmax = x.hushmax := by
  obtain ⟨w, h⟩ := x.setX_form rd v; rw [h]
@[simp] theorem Copy.setX_hushCnt (x : Copy) (rd : BitVec 5) (v : Word) : (x.setX rd v).hushCnt = x.hushCnt := by
  obtain ⟨w, h⟩ := x.setX_form rd v; rw [h]
@[simp] theorem Copy.setX_acls (x : Copy) (rd : BitVec 5) (v : Word) : (x.setX rd v).acls = x.acls := by
  obtain ⟨w, h⟩ := x.setX_form rd v; rw [h]
@[simp] theorem Copy.setX_bstat (x : Copy) (rd : BitVec 5) (v : Word) : (x.setX rd v).bstat = x.bstat := by
  obtain ⟨w, h⟩ := x.setX_form rd v; rw [h]
@[simp] theorem Copy.setX_acc (x : Copy) (rd : BitVec 5) (v : Word) : (x.setX rd v).acc = x.acc := by
  obtain ⟨w, h⟩ := x.setX_form rd v; rw [h]
@[simp] theorem Copy.setX_retire (x : Copy) (rd : BitVec 5) (v : Word) : (x.setX rd v).retire = x.retire := by
  obtain ⟨w, h⟩ := x.setX_form rd v; rw [h]
@[simp] theorem Copy.setX_csn (x : Copy) (rd : BitVec 5) (v : Word) : (x.setX rd v).csn = x.csn := by
  obtain ⟨w, h⟩ := x.setX_form rd v; rw [h]
@[simp] theorem Copy.setX_out (x : Copy) (rd : BitVec 5) (v : Word) : (x.setX rd v).out = x.out := by
  obtain ⟨w, h⟩ := x.setX_form rd v; rw [h]
@[simp] theorem Copy.setX_grant (x : Copy) (rd : BitVec 5) (v : Word) : (x.setX rd v).grant = x.grant := by
  obtain ⟨w, h⟩ := x.setX_form rd v; rw [h]
@[simp] theorem Copy.setX_issued (x : Copy) (rd : BitVec 5) (v : Word) : (x.setX rd v).issued = x.issued := by
  obtain ⟨w, h⟩ := x.setX_form rd v; rw [h]
@[simp] theorem Copy.setX_wait (x : Copy) (rd : BitVec 5) (v : Word) : (x.setX rd v).wait = x.wait := by
  obtain ⟨w, h⟩ := x.setX_form rd v; rw [h]
@[simp] theorem Copy.setX_icache (x : Copy) (rd : BitVec 5) (v : Word) : (x.setX rd v).icache = x.icache := by
  obtain ⟨w, h⟩ := x.setX_form rd v; rw [h]
@[simp] theorem Copy.setX_dcache (x : Copy) (rd : BitVec 5) (v : Word) : (x.setX rd v).dcache = x.dcache := by
  obtain ⟨w, h⟩ := x.setX_form rd v; rw [h]
@[simp] theorem Copy.setX_scrub (x : Copy) (rd : BitVec 5) (v : Word) : (x.setX rd v).scrub = x.scrub := by
  obtain ⟨w, h⟩ := x.setX_form rd v; rw [h]
@[simp] theorem Copy.setX_armed (x : Copy) (rd : BitVec 5) (v : Word) : (x.setX rd v).armed = x.armed := by
  obtain ⟨w, h⟩ := x.setX_form rd v; rw [h]
@[simp] theorem Copy.setX_lastDrp (x : Copy) (rd : BitVec 5) (v : Word) : (x.setX rd v).lastDrp = x.lastDrp := by
  obtain ⟨w, h⟩ := x.setX_form rd v; rw [h]
@[simp] theorem Copy.setX_tck (x : Copy) (rd : BitVec 5) (v : Word) : (x.setX rd v).tck = x.tck := by
  obtain ⟨w, h⟩ := x.setX_form rd v; rw [h]
@[simp] theorem Copy.setX_agr (x : Copy) (rd : BitVec 5) (v : Word) : (x.setX rd v).agr = x.agr := by
  obtain ⟨w, h⟩ := x.setX_form rd v; rw [h]
@[simp] theorem Copy.setX_agreed (x : Copy) (rd : BitVec 5) (v : Word) : (x.setX rd v).agreed = x.agreed := by
  obtain ⟨w, h⟩ := x.setX_form rd v; rw [h]
@[simp] theorem Copy.setX_agreedIn (x : Copy) (rd : BitVec 5) (v : Word) : (x.setX rd v).agreedIn = x.agreedIn := by
  obtain ⟨w, h⟩ := x.setX_form rd v; rw [h]
@[simp] theorem Copy.setX_link (x : Copy) (rd : BitVec 5) (v : Word) : (x.setX rd v).link = x.link := by
  obtain ⟨w, h⟩ := x.setX_form rd v; rw [h]
@[simp] theorem Copy.setX_side (x : Copy) (rd : BitVec 5) (v : Word) : (x.setX rd v).side = x.side := by
  obtain ⟨w, h⟩ := x.setX_form rd v; rw [h]
@[simp] theorem Copy.setX_tmr (x : Copy) (rd : BitVec 5) (v : Word) : (x.setX rd v).tmr = x.tmr := by
  obtain ⟨w, h⟩ := x.setX_form rd v; rw [h]
@[simp] theorem Copy.setX_restart (x : Copy) (rd : BitVec 5) (v : Word) : (x.setX rd v).restart = x.restart := by
  obtain ⟨w, h⟩ := x.setX_form rd v; rw [h]
@[simp] theorem Copy.setX_echo (x : Copy) (rd : BitVec 5) (v : Word) : (x.setX rd v).echo = x.echo := by
  obtain ⟨w, h⟩ := x.setX_form rd v; rw [h]
@[simp] theorem Copy.setX_time (x : Copy) (rd : BitVec 5) (v : Word) : (x.setX rd v).time = x.time := by
  obtain ⟨w, h⟩ := x.setX_form rd v; rw [h]
@[simp] theorem Copy.setX_stats (x : Copy) (rd : BitVec 5) (v : Word) : (x.setX rd v).stats = x.stats := by
  obtain ⟨w, h⟩ := x.setX_form rd v; rw [h]
@[simp] theorem Copy.setX_sense (x : Copy) (rd : BitVec 5) (v : Word) : (x.setX rd v).sense = x.sense := by
  obtain ⟨w, h⟩ := x.setX_form rd v; rw [h]
@[simp] theorem Copy.setX_dbg (x : Copy) (rd : BitVec 5) (v : Word) : (x.setX rd v).dbg = x.dbg := by
  obtain ⟨w, h⟩ := x.setX_form rd v; rw [h]
@[simp] theorem Copy.setX_debug (x : Copy) (rd : BitVec 5) (v : Word) : (x.setX rd v).debug = x.debug := by
  obtain ⟨w, h⟩ := x.setX_form rd v; rw [h]
@[simp] theorem Copy.setX_dbgInval (x : Copy) (rd : BitVec 5) (v : Word) : (x.setX rd v).dbgInval = x.dbgInval := by
  obtain ⟨w, h⟩ := x.setX_form rd v; rw [h]
@[simp] theorem Copy.setX_step (x : Copy) (rd : BitVec 5) (v : Word) : (x.setX rd v).step = x.step := by
  obtain ⟨w, h⟩ := x.setX_form rd v; rw [h]

/-- A fetch of words changes the instruction cache and the report counters alone. -/
theorem Copy.fetchWord_form (x : Copy) (a : Word) :
    ∃ ic st, (x.fetchWord a).1 = { x with icache := ic, stats := st } := by
  unfold Copy.fetchWord
  split
  · exact ⟨x.icache, x.stats, rfl⟩
  · split
    · exact ⟨x.icache, x.stats, rfl⟩
    · split <;> exact ⟨_, _, rfl⟩

theorem Copy.fetchWords_form (as : List Word) (x : Copy) :
    ∃ ic st, (Copy.fetchWords as x).1 = { x with icache := ic, stats := st } := by
  induction as generalizing x with
  | nil => exact ⟨x.icache, x.stats, rfl⟩
  | cons a as ih =>
    obtain ⟨ic, st, h⟩ := x.fetchWord_form a
    unfold Copy.fetchWords
    dsimp only
    split
    · obtain ⟨ic2, st2, h2⟩ := ih (x.fetchWord a).1
      exact ⟨ic2, st2, by rw [h2, h]⟩
    · exact ⟨ic, st, h⟩

/-- What a retirement does when nothing waits and no debug entry is due: every field that `Copy.masked` keeps stays. -/
theorem Copy.retireTo_form (x : Copy) (e : Env) (len : Nat) (pc : Word) (hw : x.wait = .none) (hd : x.dbgDue = false) :
    ∃ ic st sd, x.retireTo e len pc = { x with
        pc := pc, retire := x.retire + 1, hushCnt := if x.hush then x.hushCnt + 1 else 0, entering := none,
        step := x.step.map (fun n => n - 1), icache := ic, stats := st, side := sd }
      ∧ ((x.retire + 1).toNat % 64 ≠ 0 → sd = x.side) := by
  obtain ⟨ic, hic⟩ := Copy.icTouches_form (instrWords x.pc len) x
  unfold Copy.retireTo
  simp only [hic]
  split
  · next h64 =>
    obtain ⟨sd, st, hs⟩ := Copy.send_form
      { x with icache := ic, pc := pc, retire := x.retire + 1, hushCnt := if x.hush then x.hushCnt + 1 else 0,
               entering := none, step := x.step.map (fun n => n - 1) }
      e.now 0 (.retrep (x.retire + 1) x.lastDrp 0)
    refine ⟨ic, st, sd, ?_, fun h => absurd h64 h⟩
    rw [hs]
    have hd' : x.dbg = true → ¬ x.refusals x.world = 0 := by simpa [Copy.dbgDue] using hd
    simp [Copy.settle, hw, Copy.dbgDue, Copy.refusals, Copy.bank]
    intro h1 h2; exact absurd h2 (hd' h1)
  · refine ⟨ic, x.stats, x.side, ?_, fun _ => rfl⟩
    have hd' : x.dbg = true → ¬ x.refusals x.world = 0 := by simpa [Copy.dbgDue] using hd
    simp [Copy.settle, hw, Copy.dbgDue, Copy.refusals, Copy.bank]
    intro h1 h2; exact absurd h2 (hd' h1)


/-- `z` is `x` but for its instruction cache and report counters: what a fetch makes of a copy. -/
def Copy.afterFetch (x z : Copy) : Prop := ∃ ic st, z = { x with icache := ic, stats := st }

theorem Copy.afterFetch.powered {x z : Copy} (h : x.afterFetch z) : z.powered = x.powered := by obtain ⟨_, _, h⟩ := h; rw [h]
theorem Copy.afterFetch.released {x z : Copy} (h : x.afterFetch z) : z.released = x.released := by obtain ⟨_, _, h⟩ := h; rw [h]
theorem Copy.afterFetch.stop {x z : Copy} (h : x.afterFetch z) : z.stop = x.stop := by obtain ⟨_, _, h⟩ := h; rw [h]
theorem Copy.afterFetch.x {x z : Copy} (h : x.afterFetch z) : z.x = x.x := by obtain ⟨_, _, h⟩ := h; rw [h]
theorem Copy.afterFetch.pc {x z : Copy} (h : x.afterFetch z) : z.pc = x.pc := by obtain ⟨_, _, h⟩ := h; rw [h]
theorem Copy.afterFetch.world {x z : Copy} (h : x.afterFetch z) : z.world = x.world := by obtain ⟨_, _, h⟩ := h; rw [h]
theorem Copy.afterFetch.ring {x z : Copy} (h : x.afterFetch z) : z.ring = x.ring := by obtain ⟨_, _, h⟩ := h; rw [h]
theorem Copy.afterFetch.hush {x z : Copy} (h : x.afterFetch z) : z.hush = x.hush := by obtain ⟨_, _, h⟩ := h; rw [h]
theorem Copy.afterFetch.bmode {x z : Copy} (h : x.afterFetch z) : z.bmode = x.bmode := by obtain ⟨_, _, h⟩ := h; rw [h]
theorem Copy.afterFetch.ibusy {x z : Copy} (h : x.afterFetch z) : z.ibusy = x.ibusy := by obtain ⟨_, _, h⟩ := h; rw [h]
theorem Copy.afterFetch.idflt {x z : Copy} (h : x.afterFetch z) : z.idflt = x.idflt := by obtain ⟨_, _, h⟩ := h; rw [h]
theorem Copy.afterFetch.tbusy {x z : Copy} (h : x.afterFetch z) : z.tbusy = x.tbusy := by obtain ⟨_, _, h⟩ := h; rw [h]
theorem Copy.afterFetch.tdflt {x z : Copy} (h : x.afterFetch z) : z.tdflt = x.tdflt := by obtain ⟨_, _, h⟩ := h; rw [h]
theorem Copy.afterFetch.entering {x z : Copy} (h : x.afterFetch z) : z.entering = x.entering := by obtain ⟨_, _, h⟩ := h; rw [h]
theorem Copy.afterFetch.iron {x z : Copy} (h : x.afterFetch z) : z.iron = x.iron := by obtain ⟨_, _, h⟩ := h; rw [h]
theorem Copy.afterFetch.tin {x z : Copy} (h : x.afterFetch z) : z.tin = x.tin := by obtain ⟨_, _, h⟩ := h; rw [h]
theorem Copy.afterFetch.gtbaseI {x z : Copy} (h : x.afterFetch z) : z.gtbaseI = x.gtbaseI := by obtain ⟨_, _, h⟩ := h; rw [h]
theorem Copy.afterFetch.gtbaseT {x z : Copy} (h : x.afterFetch z) : z.gtbaseT = x.gtbaseT := by obtain ⟨_, _, h⟩ := h; rw [h]
theorem Copy.afterFetch.hushmax {x z : Copy} (h : x.afterFetch z) : z.hushmax = x.hushmax := by obtain ⟨_, _, h⟩ := h; rw [h]
theorem Copy.afterFetch.hushCnt {x z : Copy} (h : x.afterFetch z) : z.hushCnt = x.hushCnt := by obtain ⟨_, _, h⟩ := h; rw [h]
theorem Copy.afterFetch.acls {x z : Copy} (h : x.afterFetch z) : z.acls = x.acls := by obtain ⟨_, _, h⟩ := h; rw [h]
theorem Copy.afterFetch.bstat {x z : Copy} (h : x.afterFetch z) : z.bstat = x.bstat := by obtain ⟨_, _, h⟩ := h; rw [h]
theorem Copy.afterFetch.acc {x z : Copy} (h : x.afterFetch z) : z.acc = x.acc := by obtain ⟨_, _, h⟩ := h; rw [h]
theorem Copy.afterFetch.retire {x z : Copy} (h : x.afterFetch z) : z.retire = x.retire := by obtain ⟨_, _, h⟩ := h; rw [h]
theorem Copy.afterFetch.csn {x z : Copy} (h : x.afterFetch z) : z.csn = x.csn := by obtain ⟨_, _, h⟩ := h; rw [h]
theorem Copy.afterFetch.out {x z : Copy} (h : x.afterFetch z) : z.out = x.out := by obtain ⟨_, _, h⟩ := h; rw [h]
theorem Copy.afterFetch.grant {x z : Copy} (h : x.afterFetch z) : z.grant = x.grant := by obtain ⟨_, _, h⟩ := h; rw [h]
theorem Copy.afterFetch.issued {x z : Copy} (h : x.afterFetch z) : z.issued = x.issued := by obtain ⟨_, _, h⟩ := h; rw [h]
theorem Copy.afterFetch.wait {x z : Copy} (h : x.afterFetch z) : z.wait = x.wait := by obtain ⟨_, _, h⟩ := h; rw [h]
theorem Copy.afterFetch.dcache {x z : Copy} (h : x.afterFetch z) : z.dcache = x.dcache := by obtain ⟨_, _, h⟩ := h; rw [h]
theorem Copy.afterFetch.scrub {x z : Copy} (h : x.afterFetch z) : z.scrub = x.scrub := by obtain ⟨_, _, h⟩ := h; rw [h]
theorem Copy.afterFetch.armed {x z : Copy} (h : x.afterFetch z) : z.armed = x.armed := by obtain ⟨_, _, h⟩ := h; rw [h]
theorem Copy.afterFetch.lastDrp {x z : Copy} (h : x.afterFetch z) : z.lastDrp = x.lastDrp := by obtain ⟨_, _, h⟩ := h; rw [h]
theorem Copy.afterFetch.tck {x z : Copy} (h : x.afterFetch z) : z.tck = x.tck := by obtain ⟨_, _, h⟩ := h; rw [h]
theorem Copy.afterFetch.agr {x z : Copy} (h : x.afterFetch z) : z.agr = x.agr := by obtain ⟨_, _, h⟩ := h; rw [h]
theorem Copy.afterFetch.agreed {x z : Copy} (h : x.afterFetch z) : z.agreed = x.agreed := by obtain ⟨_, _, h⟩ := h; rw [h]
theorem Copy.afterFetch.agreedIn {x z : Copy} (h : x.afterFetch z) : z.agreedIn = x.agreedIn := by obtain ⟨_, _, h⟩ := h; rw [h]
theorem Copy.afterFetch.link {x z : Copy} (h : x.afterFetch z) : z.link = x.link := by obtain ⟨_, _, h⟩ := h; rw [h]
theorem Copy.afterFetch.side {x z : Copy} (h : x.afterFetch z) : z.side = x.side := by obtain ⟨_, _, h⟩ := h; rw [h]
theorem Copy.afterFetch.tmr {x z : Copy} (h : x.afterFetch z) : z.tmr = x.tmr := by obtain ⟨_, _, h⟩ := h; rw [h]
theorem Copy.afterFetch.restart {x z : Copy} (h : x.afterFetch z) : z.restart = x.restart := by obtain ⟨_, _, h⟩ := h; rw [h]
theorem Copy.afterFetch.echo {x z : Copy} (h : x.afterFetch z) : z.echo = x.echo := by obtain ⟨_, _, h⟩ := h; rw [h]
theorem Copy.afterFetch.time {x z : Copy} (h : x.afterFetch z) : z.time = x.time := by obtain ⟨_, _, h⟩ := h; rw [h]
theorem Copy.afterFetch.sense {x z : Copy} (h : x.afterFetch z) : z.sense = x.sense := by obtain ⟨_, _, h⟩ := h; rw [h]
theorem Copy.afterFetch.dbg {x z : Copy} (h : x.afterFetch z) : z.dbg = x.dbg := by obtain ⟨_, _, h⟩ := h; rw [h]
theorem Copy.afterFetch.debug {x z : Copy} (h : x.afterFetch z) : z.debug = x.debug := by obtain ⟨_, _, h⟩ := h; rw [h]
theorem Copy.afterFetch.dbgInval {x z : Copy} (h : x.afterFetch z) : z.dbgInval = x.dbgInval := by obtain ⟨_, _, h⟩ := h; rw [h]
theorem Copy.afterFetch.step {x z : Copy} (h : x.afterFetch z) : z.step = x.step := by obtain ⟨_, _, h⟩ := h; rw [h]

theorem Copy.xr_congr {x z : Copy} (h : z.x = x.x) (r : BitVec 5) : z.xr r = x.xr r := by unfold Copy.xr; rw [h]

theorem Copy.afterFetch.xr {x z : Copy} (h : x.afterFetch z) (r : BitVec 5) : z.xr r = x.xr r := Copy.xr_congr h.x r

theorem Copy.afterFetch.bank {x z : Copy} (h : x.afterFetch z) (w : World) : z.bank w = x.bank w := by
  obtain ⟨_, _, h⟩ := h; rw [h]; cases w <;> rfl

theorem Copy.afterFetch.masked {x z : Copy} (h : x.afterFetch z) : z.masked = x.masked := by obtain ⟨_, _, h⟩ := h; rw [h]; rfl

theorem Copy.fetched.wait {x : Copy} {len : Nat} (h : x.fetched len) : x.wait = .none := h.2.1

theorem Copy.fetched.dbgDue {x : Copy} {len : Nat} (h : x.fetched len) : x.dbgDue = false := by
  have h1 := h.1; simp [Copy.ready] at h1; exact h1.2

/-- An instruction that is fetched runs its body on the copy that the fetch leaves. -/
theorem Copy.instr_fetched {x : Copy} {len : Nat} (h : x.fetched len) (e : Env) (body : Copy → Copy) :
    ∃ z, x.afterFetch z ∧ x.instr e len body = body z := by
  obtain ⟨h1, h2, h3⟩ := h
  obtain ⟨ic, st, hf⟩ := Copy.fetchWords_form (instrWords x.pc len) x
  refine ⟨_, ⟨ic, st, rfl⟩, ?_⟩
  unfold Copy.instr
  simp [h1, h2, h3, hf]

/-- A command of the cores that is an instruction completes as its body does on the copy that the fetch leaves. -/
theorem CopyStep.of_fetched {i : Instr} {s : State} {c : CopyId} {len : Nat} {P : Copy → Prop} {body : Env → Copy → Copy}
    (h : (s.dev.copy c).fetched len) (he : exec i s = s.run (Dev.core c (fun e x => x.instr e len (body e))))
    (hp : ∀ z, (s.dev.copy c).afterFetch z → P (body s.dev.env z)) : CopyStep i s c P := by
  obtain ⟨z, hz, hf⟩ := Copy.instr_fetched h s.dev.env (body s.dev.env)
  refine ⟨_, ?_, hp z hz⟩
  rw [he, ← hf]; rfl

/-- What a retirement does when nothing waits and no debug entry is due. -/
theorem Copy.retireTo_facts (x : Copy) (e : Env) (len : Nat) (pc : Word) (hw : x.wait = .none) (hd : x.dbgDue = false) :
    (∀ r, (x.retireTo e len pc).xr r = x.xr r) ∧ x.retired (x.retireTo e len pc) pc
      ∧ (x.retireTo e len pc).masked = x.masked := by
  obtain ⟨ic, st, sd, hr, hs⟩ := Copy.retireTo_form x e len pc hw hd
  refine ⟨fun r => Copy.xr_congr (by rw [hr]) r, ?_, by rw [hr]; rfl⟩
  rw [hr]
  exact ⟨rfl, rfl, rfl, rfl, hs⟩

/-- What the retirement of an instruction that wrote `v` to `rd` leaves. -/
theorem Copy.retire_wrote {x z : Copy} (hz : x.afterFetch z) (hw : x.wait = .none) (hd : x.dbgDue = false) (e : Env)
    (rd : BitVec 5) (v pc : Word) (len : Nat) :
    x.wrote ((z.setX rd v).retireTo e len pc) rd v ∧ x.retired ((z.setX rd v).retireTo e len pc) pc
      ∧ ((z.setX rd v).retireTo e len pc).masked = x.masked := by
  have hd2 : (z.setX rd v).dbgDue = false := by
    obtain ⟨w, h⟩ := z.setX_form rd v
    obtain ⟨ic, st, h2⟩ := hz
    rw [h, h2]; exact hd
  obtain ⟨h1, ⟨h2, h3, h4, h5, h6⟩, h7⟩ := Copy.retireTo_facts (z.setX rd v) e len pc (by simp [hz.wait, hw]) hd2
  refine ⟨fun r => ?_, ⟨h2, ?_, ?_, h5, fun h => ?_⟩, ?_⟩
  · rw [h1, Copy.xr_setX, hz.xr]
  · simpa [hz.retire] using h3
  · simpa [hz.hushCnt] using h4
  · have := h6 (by simpa [hz.retire] using h)
    simpa [hz.side] using this
  · rw [h7, Copy.masked_setX, hz.masked]

theorem Copy.bank_updBank (x : Copy) (w v : World) (f : Bank → Bank) :
    (x.updBank w f).bank v = if v = w then f (x.bank v) else x.bank v := by
  cases w <;> cases v <;> rfl

/-- Entry without a change of stack. -/
theorem Copy.enter_entered (x : Copy) (e : Env) (w : World) (code : Nat) (int : Bool) (eval : Word) (aux : DWord)
    (hk : x.keepsStack e w) : x.entered (x.enter e w code int eval aux) w code int eval aux := by
  have key : ∀ z2 : Copy, (∃ sd st hc, z2 = { ((x.updBank w (fun b => { b with
      estatus := x.status6, epc := x.pc &&& 0xFFFFFFFE, ecause := toWord (code + 0x80000000 * boolNat int), eval := eval, aux := aux })).setBusy w true).toVector w code with side := sd, stats := st, hushCnt := hc }) →
      x.entered (if (x.world != w || x.ring != 0) then z2.switchStack e w x.pc else z2) w code int eval aux := by
    rintro z2 ⟨sd, st, hc, rfl⟩
    have hs : ∀ y : Copy, y.gtbaseI = x.gtbaseI → y.gtbaseT = x.gtbaseT → x.trapStack e w = some none → y.switchStack e w x.pc = y := by
      intro y h1 h2 h3
      have : y.trapStack e w = x.trapStack e w := by unfold Copy.trapStack; rw [h1, h2]
      unfold Copy.switchStack; rw [this, h3]
    have h0 : ∀ y : Copy, y.gtbaseI = x.gtbaseI → y.gtbaseT = x.gtbaseT →
        (if (x.world != w || x.ring != 0) then y.switchStack e w x.pc else y) = y := by
      intro y h1 h2
      rcases hk with ⟨h3, h4⟩ | h3
      · simp [h3, h4]
      · rw [hs y h1 h2 h3]; simp
    rw [h0]
    · cases w <;> exact ⟨rfl, rfl, rfl, rfl, rfl, rfl, rfl, rfl, rfl, rfl, rfl, rfl, rfl, rfl, rfl, rfl, rfl, rfl, fun r => rfl⟩
    · cases w <;> rfl
    · cases w <;> rfl
  unfold Copy.enter
  dsimp only
  apply key
  split
  · obtain ⟨sd, st, h⟩ := Copy.send_form (if code = 9 ∧ int = false then ({ ((x.updBank w (fun b => { b with
      estatus := x.status6, epc := x.pc &&& 0xFFFFFFFE, ecause := toWord (code + 0x80000000 * boolNat int), eval := eval, aux := aux })).setBusy w true).toVector w code with hushCnt := 0 } : Copy) else ((x.updBank w (fun b => { b with
      estatus := x.status6, epc := x.pc &&& 0xFFFFFFFE, ecause := toWord (code + 0x80000000 * boolNat int), eval := eval, aux := aux })).setBusy w true).toVector w code) e.now 2 (.lstatEvent (reportCause code) (if code = 9 ∧ int = false then ({ ((x.updBank w (fun b => { b with
      estatus := x.status6, epc := x.pc &&& 0xFFFFFFFE, ecause := toWord (code + 0x80000000 * boolNat int), eval := eval, aux := aux })).setBusy w true).toVector w code with hushCnt := 0 } : Copy) else ((x.updBank w (fun b => { b with
      estatus := x.status6, epc := x.pc &&& 0xFFFFFFFE, ecause := toWord (code + 0x80000000 * boolNat int), eval := eval, aux := aux })).setBusy w true).toVector w code).retire eval)
    refine ⟨sd, st, if code = 9 ∧ int = false then 0 else x.hushCnt, ?_⟩
    unfold Copy.event
    rw [h]
    split <;> cases w <;> rfl
  · refine ⟨x.side, x.stats, if code = 9 ∧ int = false then 0 else x.hushCnt, ?_⟩
    split <;> cases w <;> rfl

/-- A synchronous cause that can enter at once enters its own world. -/
theorem Copy.raise_entered {x : Copy} (e : Env) (code : Nat) (eval : Word) (aux : DWord) (h9 : code ≠ 9)
    (ht : x.canTrap) (hk : x.keepsStack e x.world) : x.entered (x.raise e code eval aux) x.world code false eval aux := by
  obtain ⟨h1, h2, h3, h4, h5⟩ := ht
  have hd : ¬ (x.world = .tin ∧ x.tdflt = true) := by
    rintro ⟨a, b⟩; rw [a] at h5; simp [Copy.dflt, b] at h5
  have ht : x.target code = x.world := by unfold Copy.target; simp [h9, hd]
  have : x.raise e code eval aux = x.enter e x.world code false eval aux := by
    unfold Copy.raise; rw [h1]; simp only [if_true]
    unfold Copy.syncEntry; rw [h2]; simp only [ht, h3, hd]
    simp only [ne_eq, not_true_eq_false, and_false, if_false]
    unfold Copy.enterWorld
    cases hw : x.world
    · rw [hw] at h4 h5; simp [Copy.busy, Copy.dflt] at h4 h5; simp [Copy.enterIron, h4, h5]
    · rw [hw] at h4 h5; simp [Copy.busy, Copy.dflt] at h4 h5; simp [Copy.enterTin, h4, h5]
  rw [this]
  exact x.enter_entered e x.world code false eval aux hk

theorem Copy.afterFetch.entered {x z y : Copy} (hz : x.afterFetch z) {w code int eval aux} (h : z.entered y w code int eval aux) :
    x.entered y w code int eval aux := by
  obtain ⟨ic, st, rfl⟩ := hz
  cases w <;> exact h

theorem Copy.afterFetch.canTrap {x z : Copy} (hz : x.afterFetch z) (h : x.canTrap) : z.canTrap := by
  obtain ⟨ic, st, rfl⟩ := hz
  unfold Copy.canTrap at *
  exact h

/-- An instruction whose body raises `code` ends in the entry of its world. -/
theorem TrapsWith.of_raise {i : Instr} {s : State} {c : CopyId} {len : Nat} {body : Env → Copy → Copy} {code eval aux}
    (h : (s.dev.copy c).fetched len) (he : exec i s = s.run (Dev.core c (fun e x => x.instr e len (body e)))) (h9 : code ≠ 9)
    (hb : ∀ z, (s.dev.copy c).afterFetch z → z.canTrap → body s.dev.env z = z.raise s.dev.env code eval aux) :
    TrapsWith i s c code eval aux := by
  intro ht hk
  refine CopyStep.of_fetched h he (fun z hz => ?_)
  have htz := hz.canTrap ht
  rw [hb z hz htz]
  refine hz.entered ?_
  rw [← hz.world]
  refine Copy.raise_entered _ _ _ _ h9 htz ?_
  obtain ⟨ic, st, rfl⟩ := hz
  exact hk

theorem Copy.canTrap.syncPoint {z : Copy} (h : z.canTrap) (e : Env) (body : Copy → Copy) : z.syncPoint e body = body z := by
  unfold Copy.syncPoint; simp [h.1, h.2.2.1]

theorem Copy.afterFetch.qa {x z : Copy} (hz : x.afterFetch z) (r) : z.qa r = wordInt (x.xr r) := by unfold Copy.qa; rw [hz.xr]

/-- A Bronze instruction whose body ends in `Copy.toRd` writes its result or traps. -/
theorem BronzeRd.of_toRd {i : Instr} {s : State} {c : CopyId} {iw : Word} {rd : BitVec 5} {r : Word × Nat} {body : Env → Copy → Copy}
    (h : (s.dev.copy c).fetched 4)
    (he : exec i s = s.run (Dev.core c (fun e x => x.instr e 4 (body e))))
    (hb : ∀ z, (s.dev.copy c).afterFetch z → z.bronzeOn = true → body s.dev.env z = z.toRd s.dev.env iw rd r) :
    BronzeRd i s c iw rd r := by
  refine ⟨?_, ?_⟩
  · intro hm
    refine CopyStep.of_fetched h he (fun z hz => ?_)
    have hon : z.bronzeOn = true := by
      unfold Copy.bronzeOn; rw [hz.bmode]
      rcases hm with hm | hm
      · simp [hm]
      · simp [hm.1]
    rw [hb z hz hon]
    have hnt : z.bronzeTraps r.2 = false := by
      unfold Copy.bronzeTraps; rw [hz.bmode]
      rcases hm with hm | ⟨h1, h2, h3⟩
      · simp [hm]
      · have : r.2 % 8 = 0 ∨ r.2 % 8 = 2 := by omega
        rcases this with k | k <;> simp [k]
    unfold Copy.toRd
    rw [hnt]
    simp only [Bool.false_eq_true, if_false]
    obtain ⟨w, hx⟩ := z.setX_form rd r.1
    have hw := Copy.wrote_setX z rd r.1
    unfold Copy.next
    obtain ⟨f1, ⟨f2, f3, f4, f5, f6⟩, f7⟩ := Copy.retireTo_facts ((z.setX rd r.1).stick r.2) s.dev.env 4 (((z.setX rd r.1).stick r.2).pc + toWord 4)
      (by rw [hx]; exact hz.wait.trans h.wait) (by rw [hx]; obtain ⟨ic, st, rfl⟩ := hz; exact h.dbgDue)
    refine ⟨fun q => ?_, ⟨?_, ?_, ?_, f5, fun hh => ?_⟩, ?_⟩
    · rw [f1]; exact (Copy.xr_congr (x := z.setX rd r.1) rfl q).trans (by rw [hw q, hz.xr])
    · rw [f2]; show (z.setX rd r.1).pc + _ = _; rw [Copy.setX_pc, hz.pc]; rfl
    · rw [f3]; show (z.setX rd r.1).retire + _ = _; rw [Copy.setX_retire, hz.retire]
    · rw [f4]; show (if _ then (z.setX rd r.1).hushCnt + _ else _) = _; rw [Copy.setX_hushCnt, hz.hushCnt]
    · rw [f6]
      · show (z.setX rd r.1).side = _; rw [Copy.setX_side, hz.side]
      · show ((z.setX rd r.1).retire + _).toNat % _ ≠ _; rw [Copy.setX_retire, hz.retire]; exact hh
    · rw [f7, hx]; obtain ⟨ic, st, rfl⟩ := hz; rfl
  · rintro ⟨h1, h2⟩
    refine TrapsWith.of_raise h he (by decide) (fun z hz ht => ?_)
    have hon : z.bronzeOn = true := by unfold Copy.bronzeOn; rw [hz.bmode, h1]; rfl
    rw [hb z hz hon]
    unfold Copy.toRd
    have hnt : z.bronzeTraps r.2 = true := by
      unfold Copy.bronzeTraps; rw [hz.bmode, h1]
      have : r.2 % 8 = 1 ∨ r.2 % 8 = 3 ∨ r.2 % 8 = 4 ∨ r.2 % 8 = 5 ∨ r.2 % 8 = 6 ∨ r.2 % 8 = 7 := by omega
      rcases this with k | k | k | k | k | k <;> simp [k]
    rw [hnt]; rfl

end Sys2Proof.Machine
end

