-- ==== Sys2Proof/Laws/State.lean ====
section
/-! SUPPORT. Laws/State.lean: for each base operation over the device, the fields it leaves alone, one lemma a field. -/

namespace Sys2Proof.Machine

open Sys2Proof

section Fields

variable (x0 : Map Word) (x1 : Map Word) (x2 : Map Word) (x3 : Map Byte) (x4 : Map (BitVec 8)) (x5 : Nat) (x6 : DWord) (x7 : Phase) (x8 : Nat) (x9 : CoreSet) (x10 : Nat) (x11 : Option Nat) (x12 : Bool) (x13 : BitVec 48) (x14 : DWord) (x15 : BitVec 19) (x16 : Bool) (x17 : Bool) (x18 : Word) (x19 : Map (Nat × Nat × Nat)) (x20 : Pages) (x21 : Journal) (x22 : JDup) (x23 : Tri HubLink) (x24 : List CmpEntry) (x25 : Agree) (x26 : Tri Copy) (x27 : Tri Drive) (x28 : Quad Fan) (x29 : Bool) (x30 : Nat) (x31 : Nat) (x32 : List Gpo) (x33 : Puff) (x34 : Duo Can) (x35 : Ledger) (x36 : Option FlashJob) (x37 : Walk) (x38 : Walk) (x39 : Clk) (x40 : Lp) (x41 : Dbg) (x42 : Jtag) (x43 : Boot) (x44 : Word)

theorem Dev.mk_regs : (Dev.mk x0 x1 x2 x3 x4 x5 x6 x7 x8 x9 x10 x11 x12 x13 x14 x15 x16 x17 x18 x19 x20 x21 x22 x23 x24 x25 x26 x27 x28 x29 x30 x31 x32 x33 x34 x35 x36 x37 x38 x39 x40 x41 x42 x43 x44).regs = x0 := rfl
theorem Dev.mk_shadow : (Dev.mk x0 x1 x2 x3 x4 x5 x6 x7 x8 x9 x10 x11 x12 x13 x14 x15 x16 x17 x18 x19 x20 x21 x22 x23 x24 x25 x26 x27 x28 x29 x30 x31 x32 x33 x34 x35 x36 x37 x38 x39 x40 x41 x42 x43 x44).shadow = x1 := rfl
theorem Dev.mk_banked : (Dev.mk x0 x1 x2 x3 x4 x5 x6 x7 x8 x9 x10 x11 x12 x13 x14 x15 x16 x17 x18 x19 x20 x21 x22 x23 x24 x25 x26 x27 x28 x29 x30 x31 x32 x33 x34 x35 x36 x37 x38 x39 x40 x41 x42 x43 x44).banked = x2 := rfl
theorem Dev.mk_mem : (Dev.mk x0 x1 x2 x3 x4 x5 x6 x7 x8 x9 x10 x11 x12 x13 x14 x15 x16 x17 x18 x19 x20 x21 x22 x23 x24 x25 x26 x27 x28 x29 x30 x31 x32 x33 x34 x35 x36 x37 x38 x39 x40 x41 x42 x43 x44).mem = x3 := rfl
theorem Dev.mk_codes : (Dev.mk x0 x1 x2 x3 x4 x5 x6 x7 x8 x9 x10 x11 x12 x13 x14 x15 x16 x17 x18 x19 x20 x21 x22 x23 x24 x25 x26 x27 x28 x29 x30 x31 x32 x33 x34 x35 x36 x37 x38 x39 x40 x41 x42 x43 x44).codes = x4 := rfl
theorem Dev.mk_freeCtr : (Dev.mk x0 x1 x2 x3 x4 x5 x6 x7 x8 x9 x10 x11 x12 x13 x14 x15 x16 x17 x18 x19 x20 x21 x22 x23 x24 x25 x26 x27 x28 x29 x30 x31 x32 x33 x34 x35 x36 x37 x38 x39 x40 x41 x42 x43 x44).freeCtr = x5 := rfl
theorem Dev.mk_time : (Dev.mk x0 x1 x2 x3 x4 x5 x6 x7 x8 x9 x10 x11 x12 x13 x14 x15 x16 x17 x18 x19 x20 x21 x22 x23 x24 x25 x26 x27 x28 x29 x30 x31 x32 x33 x34 x35 x36 x37 x38 x39 x40 x41 x42 x43 x44).time = x6 := rfl
theorem Dev.mk_phase : (Dev.mk x0 x1 x2 x3 x4 x5 x6 x7 x8 x9 x10 x11 x12 x13 x14 x15 x16 x17 x18 x19 x20 x21 x22 x23 x24 x25 x26 x27 x28 x29 x30 x31 x32 x33 x34 x35 x36 x37 x38 x39 x40 x41 x42 x43 x44).phase = x7 := rfl
theorem Dev.mk_phaseDue : (Dev.mk x0 x1 x2 x3 x4 x5 x6 x7 x8 x9 x10 x11 x12 x13 x14 x15 x16 x17 x18 x19 x20 x21 x22 x23 x24 x25 x26 x27 x28 x29 x30 x31 x32 x33 x34 x35 x36 x37 x38 x39 x40 x41 x42 x43 x44).phaseDue = x8 := rfl
theorem Dev.mk_cs : (Dev.mk x0 x1 x2 x3 x4 x5 x6 x7 x8 x9 x10 x11 x12 x13 x14 x15 x16 x17 x18 x19 x20 x21 x22 x23 x24 x25 x26 x27 x28 x29 x30 x31 x32 x33 x34 x35 x36 x37 x38 x39 x40 x41 x42 x43 x44).cs = x9 := rfl
theorem Dev.mk_csDue : (Dev.mk x0 x1 x2 x3 x4 x5 x6 x7 x8 x9 x10 x11 x12 x13 x14 x15 x16 x17 x18 x19 x20 x21 x22 x23 x24 x25 x26 x27 x28 x29 x30 x31 x32 x33 x34 x35 x36 x37 x38 x39 x40 x41 x42 x43 x44).csDue = x10 := rfl
theorem Dev.mk_pendRestart : (Dev.mk x0 x1 x2 x3 x4 x5 x6 x7 x8 x9 x10 x11 x12 x13 x14 x15 x16 x17 x18 x19 x20 x21 x22 x23 x24 x25 x26 x27 x28 x29 x30 x31 x32 x33 x34 x35 x36 x37 x38 x39 x40 x41 x42 x43 x44).pendRestart = x11 := rfl
theorem Dev.mk_frames : (Dev.mk x0 x1 x2 x3 x4 x5 x6 x7 x8 x9 x10 x11 x12 x13 x14 x15 x16 x17 x18 x19 x20 x21 x22 x23 x24 x25 x26 x27 x28 x29 x30 x31 x32 x33 x34 x35 x36 x37 x38 x39 x40 x41 x42 x43 x44).frames = x12 := rfl
theorem Dev.mk_frnum : (Dev.mk x0 x1 x2 x3 x4 x5 x6 x7 x8 x9 x10 x11 x12 x13 x14 x15 x16 x17 x18 x19 x20 x21 x22 x23 x24 x25 x26 x27 x28 x29 x30 x31 x32 x33 x34 x35 x36 x37 x38 x39 x40 x41 x42 x43 x44).frnum = x13 := rfl
theorem Dev.mk_tickt : (Dev.mk x0 x1 x2 x3 x4 x5 x6 x7 x8 x9 x10 x11 x12 x13 x14 x15 x16 x17 x18 x19 x20 x21 x22 x23 x24 x25 x26 x27 x28 x29 x30 x31 x32 x33 x34 x35 x36 x37 x38 x39 x40 x41 x42 x43 x44).tickt = x14 := rfl
theorem Dev.mk_period : (Dev.mk x0 x1 x2 x3 x4 x5 x6 x7 x8 x9 x10 x11 x12 x13 x14 x15 x16 x17 x18 x19 x20 x21 x22 x23 x24 x25 x26 x27 x28 x29 x30 x31 x32 x33 x34 x35 x36 x37 x38 x39 x40 x41 x42 x43 x44).period = x15 := rfl
theorem Dev.mk_ledgerStop : (Dev.mk x0 x1 x2 x3 x4 x5 x6 x7 x8 x9 x10 x11 x12 x13 x14 x15 x16 x17 x18 x19 x20 x21 x22 x23 x24 x25 x26 x27 x28 x29 x30 x31 x32 x33 x34 x35 x36 x37 x38 x39 x40 x41 x42 x43 x44).ledgerStop = x16 := rfl
theorem Dev.mk_flopp : (Dev.mk x0 x1 x2 x3 x4 x5 x6 x7 x8 x9 x10 x11 x12 x13 x14 x15 x16 x17 x18 x19 x20 x21 x22 x23 x24 x25 x26 x27 x28 x29 x30 x31 x32 x33 x34 x35 x36 x37 x38 x39 x40 x41 x42 x43 x44).flopp = x17 := rfl
theorem Dev.mk_floppDst : (Dev.mk x0 x1 x2 x3 x4 x5 x6 x7 x8 x9 x10 x11 x12 x13 x14 x15 x16 x17 x18 x19 x20 x21 x22 x23 x24 x25 x26 x27 x28 x29 x30 x31 x32 x33 x34 x35 x36 x37 x38 x39 x40 x41 x42 x43 x44).floppDst = x18 := rfl
theorem Dev.mk_ovl : (Dev.mk x0 x1 x2 x3 x4 x5 x6 x7 x8 x9 x10 x11 x12 x13 x14 x15 x16 x17 x18 x19 x20 x21 x22 x23 x24 x25 x26 x27 x28 x29 x30 x31 x32 x33 x34 x35 x36 x37 x38 x39 x40 x41 x42 x43 x44).ovl = x19 := rfl
theorem Dev.mk_pages : (Dev.mk x0 x1 x2 x3 x4 x5 x6 x7 x8 x9 x10 x11 x12 x13 x14 x15 x16 x17 x18 x19 x20 x21 x22 x23 x24 x25 x26 x27 x28 x29 x30 x31 x32 x33 x34 x35 x36 x37 x38 x39 x40 x41 x42 x43 x44).pages = x20 := rfl
theorem Dev.mk_jrn : (Dev.mk x0 x1 x2 x3 x4 x5 x6 x7 x8 x9 x10 x11 x12 x13 x14 x15 x16 x17 x18 x19 x20 x21 x22 x23 x24 x25 x26 x27 x28 x29 x30 x31 x32 x33 x34 x35 x36 x37 x38 x39 x40 x41 x42 x43 x44).jrn = x21 := rfl
theorem Dev.mk_jdup : (Dev.mk x0 x1 x2 x3 x4 x5 x6 x7 x8 x9 x10 x11 x12 x13 x14 x15 x16 x17 x18 x19 x20 x21 x22 x23 x24 x25 x26 x27 x28 x29 x30 x31 x32 x33 x34 x35 x36 x37 x38 x39 x40 x41 x42 x43 x44).jdup = x22 := rfl
theorem Dev.mk_links : (Dev.mk x0 x1 x2 x3 x4 x5 x6 x7 x8 x9 x10 x11 x12 x13 x14 x15 x16 x17 x18 x19 x20 x21 x22 x23 x24 x25 x26 x27 x28 x29 x30 x31 x32 x33 x34 x35 x36 x37 x38 x39 x40 x41 x42 x43 x44).links = x23 := rfl
theorem Dev.mk_cmp : (Dev.mk x0 x1 x2 x3 x4 x5 x6 x7 x8 x9 x10 x11 x12 x13 x14 x15 x16 x17 x18 x19 x20 x21 x22 x23 x24 x25 x26 x27 x28 x29 x30 x31 x32 x33 x34 x35 x36 x37 x38 x39 x40 x41 x42 x43 x44).cmp = x24 := rfl
theorem Dev.mk_agr : (Dev.mk x0 x1 x2 x3 x4 x5 x6 x7 x8 x9 x10 x11 x12 x13 x14 x15 x16 x17 x18 x19 x20 x21 x22 x23 x24 x25 x26 x27 x28 x29 x30 x31 x32 x33 x34 x35 x36 x37 x38 x39 x40 x41 x42 x43 x44).agr = x25 := rfl
theorem Dev.mk_copies : (Dev.mk x0 x1 x2 x3 x4 x5 x6 x7 x8 x9 x10 x11 x12 x13 x14 x15 x16 x17 x18 x19 x20 x21 x22 x23 x24 x25 x26 x27 x28 x29 x30 x31 x32 x33 x34 x35 x36 x37 x38 x39 x40 x41 x42 x43 x44).copies = x26 := rfl
theorem Dev.mk_drv : (Dev.mk x0 x1 x2 x3 x4 x5 x6 x7 x8 x9 x10 x11 x12 x13 x14 x15 x16 x17 x18 x19 x20 x21 x22 x23 x24 x25 x26 x27 x28 x29 x30 x31 x32 x33 x34 x35 x36 x37 x38 x39 x40 x41 x42 x43 x44).drv = x27 := rfl
theorem Dev.mk_fan : (Dev.mk x0 x1 x2 x3 x4 x5 x6 x7 x8 x9 x10 x11 x12 x13 x14 x15 x16 x17 x18 x19 x20 x21 x22 x23 x24 x25 x26 x27 x28 x29 x30 x31 x32 x33 x34 x35 x36 x37 x38 x39 x40 x41 x42 x43 x44).fan = x28 := rfl
theorem Dev.mk_fanOvrDue : (Dev.mk x0 x1 x2 x3 x4 x5 x6 x7 x8 x9 x10 x11 x12 x13 x14 x15 x16 x17 x18 x19 x20 x21 x22 x23 x24 x25 x26 x27 x28 x29 x30 x31 x32 x33 x34 x35 x36 x37 x38 x39 x40 x41 x42 x43 x44).fanOvrDue = x29 := rfl
theorem Dev.mk_fanLoopAt : (Dev.mk x0 x1 x2 x3 x4 x5 x6 x7 x8 x9 x10 x11 x12 x13 x14 x15 x16 x17 x18 x19 x20 x21 x22 x23 x24 x25 x26 x27 x28 x29 x30 x31 x32 x33 x34 x35 x36 x37 x38 x39 x40 x41 x42 x43 x44).fanLoopAt = x30 := rfl
theorem Dev.mk_partAt : (Dev.mk x0 x1 x2 x3 x4 x5 x6 x7 x8 x9 x10 x11 x12 x13 x14 x15 x16 x17 x18 x19 x20 x21 x22 x23 x24 x25 x26 x27 x28 x29 x30 x31 x32 x33 x34 x35 x36 x37 x38 x39 x40 x41 x42 x43 x44).partAt = x31 := rfl
theorem Dev.mk_gpo : (Dev.mk x0 x1 x2 x3 x4 x5 x6 x7 x8 x9 x10 x11 x12 x13 x14 x15 x16 x17 x18 x19 x20 x21 x22 x23 x24 x25 x26 x27 x28 x29 x30 x31 x32 x33 x34 x35 x36 x37 x38 x39 x40 x41 x42 x43 x44).gpo = x32 := rfl
theorem Dev.mk_puff : (Dev.mk x0 x1 x2 x3 x4 x5 x6 x7 x8 x9 x10 x11 x12 x13 x14 x15 x16 x17 x18 x19 x20 x21 x22 x23 x24 x25 x26 x27 x28 x29 x30 x31 x32 x33 x34 x35 x36 x37 x38 x39 x40 x41 x42 x43 x44).puff = x33 := rfl
theorem Dev.mk_can : (Dev.mk x0 x1 x2 x3 x4 x5 x6 x7 x8 x9 x10 x11 x12 x13 x14 x15 x16 x17 x18 x19 x20 x21 x22 x23 x24 x25 x26 x27 x28 x29 x30 x31 x32 x33 x34 x35 x36 x37 x38 x39 x40 x41 x42 x43 x44).can = x34 := rfl
theorem Dev.mk_ledger : (Dev.mk x0 x1 x2 x3 x4 x5 x6 x7 x8 x9 x10 x11 x12 x13 x14 x15 x16 x17 x18 x19 x20 x21 x22 x23 x24 x25 x26 x27 x28 x29 x30 x31 x32 x33 x34 x35 x36 x37 x38 x39 x40 x41 x42 x43 x44).ledger = x35 := rfl
theorem Dev.mk_flash : (Dev.mk x0 x1 x2 x3 x4 x5 x6 x7 x8 x9 x10 x11 x12 x13 x14 x15 x16 x17 x18 x19 x20 x21 x22 x23 x24 x25 x26 x27 x28 x29 x30 x31 x32 x33 x34 x35 x36 x37 x38 x39 x40 x41 x42 x43 x44).flash = x36 := rfl
theorem Dev.mk_scrubW : (Dev.mk x0 x1 x2 x3 x4 x5 x6 x7 x8 x9 x10 x11 x12 x13 x14 x15 x16 x17 x18 x19 x20 x21 x22 x23 x24 x25 x26 x27 x28 x29 x30 x31 x32 x33 x34 x35 x36 x37 x38 x39 x40 x41 x42 x43 x44).scrubW = x37 := rfl
theorem Dev.mk_refreshW : (Dev.mk x0 x1 x2 x3 x4 x5 x6 x7 x8 x9 x10 x11 x12 x13 x14 x15 x16 x17 x18 x19 x20 x21 x22 x23 x24 x25 x26 x27 x28 x29 x30 x31 x32 x33 x34 x35 x36 x37 x38 x39 x40 x41 x42 x43 x44).refreshW = x38 := rfl
theorem Dev.mk_clk : (Dev.mk x0 x1 x2 x3 x4 x5 x6 x7 x8 x9 x10 x11 x12 x13 x14 x15 x16 x17 x18 x19 x20 x21 x22 x23 x24 x25 x26 x27 x28 x29 x30 x31 x32 x33 x34 x35 x36 x37 x38 x39 x40 x41 x42 x43 x44).clk = x39 := rfl
theorem Dev.mk_lp : (Dev.mk x0 x1 x2 x3 x4 x5 x6 x7 x8 x9 x10 x11 x12 x13 x14 x15 x16 x17 x18 x19 x20 x21 x22 x23 x24 x25 x26 x27 x28 x29 x30 x31 x32 x33 x34 x35 x36 x37 x38 x39 x40 x41 x42 x43 x44).lp = x40 := rfl
theorem Dev.mk_dbg : (Dev.mk x0 x1 x2 x3 x4 x5 x6 x7 x8 x9 x10 x11 x12 x13 x14 x15 x16 x17 x18 x19 x20 x21 x22 x23 x24 x25 x26 x27 x28 x29 x30 x31 x32 x33 x34 x35 x36 x37 x38 x39 x40 x41 x42 x43 x44).dbg = x41 := rfl
theorem Dev.mk_jtag : (Dev.mk x0 x1 x2 x3 x4 x5 x6 x7 x8 x9 x10 x11 x12 x13 x14 x15 x16 x17 x18 x19 x20 x21 x22 x23 x24 x25 x26 x27 x28 x29 x30 x31 x32 x33 x34 x35 x36 x37 x38 x39 x40 x41 x42 x43 x44).jtag = x42 := rfl
theorem Dev.mk_boot : (Dev.mk x0 x1 x2 x3 x4 x5 x6 x7 x8 x9 x10 x11 x12 x13 x14 x15 x16 x17 x18 x19 x20 x21 x22 x23 x24 x25 x26 x27 x28 x29 x30 x31 x32 x33 x34 x35 x36 x37 x38 x39 x40 x41 x42 x43 x44).boot = x43 := rfl
theorem Dev.mk_wdCfg : (Dev.mk x0 x1 x2 x3 x4 x5 x6 x7 x8 x9 x10 x11 x12 x13 x14 x15 x16 x17 x18 x19 x20 x21 x22 x23 x24 x25 x26 x27 x28 x29 x30 x31 x32 x33 x34 x35 x36 x37 x38 x39 x40 x41 x42 x43 x44).wdCfg = x44 := rfl

end Fields

variable (d : Dev)

@[simp] theorem Dev.setReg_shadow (k : Nat) (v : Word) : (d.setReg k v).shadow = d.shadow := Dev.mk_shadow ..
@[simp] theorem Dev.setReg_banked (k : Nat) (v : Word) : (d.setReg k v).banked = d.banked := Dev.mk_banked ..
@[simp] theorem Dev.setReg_mem (k : Nat) (v : Word) : (d.setReg k v).mem = d.mem := Dev.mk_mem ..
@[simp] theorem Dev.setReg_codes (k : Nat) (v : Word) : (d.setReg k v).codes = d.codes := Dev.mk_codes ..
@[simp] theorem Dev.setReg_freeCtr (k : Nat) (v : Word) : (d.setReg k v).freeCtr = d.freeCtr := Dev.mk_freeCtr ..
@[simp] theorem Dev.setReg_time (k : Nat) (v : Word) : (d.setReg k v).time = d.time := Dev.mk_time ..
@[simp] theorem Dev.setReg_phase (k : Nat) (v : Word) : (d.setReg k v).phase = d.phase := Dev.mk_phase ..
@[simp] theorem Dev.setReg_phaseDue (k : Nat) (v : Word) : (d.setReg k v).phaseDue = d.phaseDue := Dev.mk_phaseDue ..
@[simp] theorem Dev.setReg_cs (k : Nat) (v : Word) : (d.setReg k v).cs = d.cs := Dev.mk_cs ..
@[simp] theorem Dev.setReg_csDue (k : Nat) (v : Word) : (d.setReg k v).csDue = d.csDue := Dev.mk_csDue ..
@[simp] theorem Dev.setReg_pendRestart (k : Nat) (v : Word) : (d.setReg k v).pendRestart = d.pendRestart := Dev.mk_pendRestart ..
@[simp] theorem Dev.setReg_frames (k : Nat) (v : Word) : (d.setReg k v).frames = d.frames := Dev.mk_frames ..
@[simp] theorem Dev.setReg_frnum (k : Nat) (v : Word) : (d.setReg k v).frnum = d.frnum := Dev.mk_frnum ..
@[simp] theorem Dev.setReg_tickt (k : Nat) (v : Word) : (d.setReg k v).tickt = d.tickt := Dev.mk_tickt ..
@[simp] theorem Dev.setReg_period (k : Nat) (v : Word) : (d.setReg k v).period = d.period := Dev.mk_period ..
@[simp] theorem Dev.setReg_ledgerStop (k : Nat) (v : Word) : (d.setReg k v).ledgerStop = d.ledgerStop := Dev.mk_ledgerStop ..
@[simp] theorem Dev.setReg_flopp (k : Nat) (v : Word) : (d.setReg k v).flopp = d.flopp := Dev.mk_flopp ..
@[simp] theorem Dev.setReg_floppDst (k : Nat) (v : Word) : (d.setReg k v).floppDst = d.floppDst := Dev.mk_floppDst ..
@[simp] theorem Dev.setReg_ovl (k : Nat) (v : Word) : (d.setReg k v).ovl = d.ovl := Dev.mk_ovl ..
@[simp] theorem Dev.setReg_pages (k : Nat) (v : Word) : (d.setReg k v).pages = d.pages := Dev.mk_pages ..
@[simp] theorem Dev.setReg_jrn (k : Nat) (v : Word) : (d.setReg k v).jrn = d.jrn := Dev.mk_jrn ..
@[simp] theorem Dev.setReg_jdup (k : Nat) (v : Word) : (d.setReg k v).jdup = d.jdup := Dev.mk_jdup ..
@[simp] theorem Dev.setReg_links (k : Nat) (v : Word) : (d.setReg k v).links = d.links := Dev.mk_links ..
@[simp] theorem Dev.setReg_cmp (k : Nat) (v : Word) : (d.setReg k v).cmp = d.cmp := Dev.mk_cmp ..
@[simp] theorem Dev.setReg_agr (k : Nat) (v : Word) : (d.setReg k v).agr = d.agr := Dev.mk_agr ..
@[simp] theorem Dev.setReg_copies (k : Nat) (v : Word) : (d.setReg k v).copies = d.copies := Dev.mk_copies ..
@[simp] theorem Dev.setReg_drv (k : Nat) (v : Word) : (d.setReg k v).drv = d.drv := Dev.mk_drv ..
@[simp] theorem Dev.setReg_fan (k : Nat) (v : Word) : (d.setReg k v).fan = d.fan := Dev.mk_fan ..
@[simp] theorem Dev.setReg_fanOvrDue (k : Nat) (v : Word) : (d.setReg k v).fanOvrDue = d.fanOvrDue := Dev.mk_fanOvrDue ..
@[simp] theorem Dev.setReg_fanLoopAt (k : Nat) (v : Word) : (d.setReg k v).fanLoopAt = d.fanLoopAt := Dev.mk_fanLoopAt ..
@[simp] theorem Dev.setReg_partAt (k : Nat) (v : Word) : (d.setReg k v).partAt = d.partAt := Dev.mk_partAt ..
@[simp] theorem Dev.setReg_gpo (k : Nat) (v : Word) : (d.setReg k v).gpo = d.gpo := Dev.mk_gpo ..
@[simp] theorem Dev.setReg_puff (k : Nat) (v : Word) : (d.setReg k v).puff = d.puff := Dev.mk_puff ..
@[simp] theorem Dev.setReg_can (k : Nat) (v : Word) : (d.setReg k v).can = d.can := Dev.mk_can ..
@[simp] theorem Dev.setReg_ledger (k : Nat) (v : Word) : (d.setReg k v).ledger = d.ledger := Dev.mk_ledger ..
@[simp] theorem Dev.setReg_flash (k : Nat) (v : Word) : (d.setReg k v).flash = d.flash := Dev.mk_flash ..
@[simp] theorem Dev.setReg_scrubW (k : Nat) (v : Word) : (d.setReg k v).scrubW = d.scrubW := Dev.mk_scrubW ..
@[simp] theorem Dev.setReg_refreshW (k : Nat) (v : Word) : (d.setReg k v).refreshW = d.refreshW := Dev.mk_refreshW ..
@[simp] theorem Dev.setReg_clk (k : Nat) (v : Word) : (d.setReg k v).clk = d.clk := Dev.mk_clk ..
@[simp] theorem Dev.setReg_lp (k : Nat) (v : Word) : (d.setReg k v).lp = d.lp := Dev.mk_lp ..
@[simp] theorem Dev.setReg_dbg (k : Nat) (v : Word) : (d.setReg k v).dbg = d.dbg := Dev.mk_dbg ..
@[simp] theorem Dev.setReg_jtag (k : Nat) (v : Word) : (d.setReg k v).jtag = d.jtag := Dev.mk_jtag ..
@[simp] theorem Dev.setReg_boot (k : Nat) (v : Word) : (d.setReg k v).boot = d.boot := Dev.mk_boot ..
@[simp] theorem Dev.setReg_wdCfg (k : Nat) (v : Word) : (d.setReg k v).wdCfg = d.wdCfg := Dev.mk_wdCfg ..

@[simp] theorem Dev.setShad_regs (k : Nat) (v : Word) : (d.setShad k v).regs = d.regs := Dev.mk_regs ..
@[simp] theorem Dev.setShad_banked (k : Nat) (v : Word) : (d.setShad k v).banked = d.banked := Dev.mk_banked ..
@[simp] theorem Dev.setShad_mem (k : Nat) (v : Word) : (d.setShad k v).mem = d.mem := Dev.mk_mem ..
@[simp] theorem Dev.setShad_codes (k : Nat) (v : Word) : (d.setShad k v).codes = d.codes := Dev.mk_codes ..
@[simp] theorem Dev.setShad_freeCtr (k : Nat) (v : Word) : (d.setShad k v).freeCtr = d.freeCtr := Dev.mk_freeCtr ..
@[simp] theorem Dev.setShad_time (k : Nat) (v : Word) : (d.setShad k v).time = d.time := Dev.mk_time ..
@[simp] theorem Dev.setShad_phase (k : Nat) (v : Word) : (d.setShad k v).phase = d.phase := Dev.mk_phase ..
@[simp] theorem Dev.setShad_phaseDue (k : Nat) (v : Word) : (d.setShad k v).phaseDue = d.phaseDue := Dev.mk_phaseDue ..
@[simp] theorem Dev.setShad_cs (k : Nat) (v : Word) : (d.setShad k v).cs = d.cs := Dev.mk_cs ..
@[simp] theorem Dev.setShad_csDue (k : Nat) (v : Word) : (d.setShad k v).csDue = d.csDue := Dev.mk_csDue ..
@[simp] theorem Dev.setShad_pendRestart (k : Nat) (v : Word) : (d.setShad k v).pendRestart = d.pendRestart := Dev.mk_pendRestart ..
@[simp] theorem Dev.setShad_frames (k : Nat) (v : Word) : (d.setShad k v).frames = d.frames := Dev.mk_frames ..
@[simp] theorem Dev.setShad_frnum (k : Nat) (v : Word) : (d.setShad k v).frnum = d.frnum := Dev.mk_frnum ..
@[simp] theorem Dev.setShad_tickt (k : Nat) (v : Word) : (d.setShad k v).tickt = d.tickt := Dev.mk_tickt ..
@[simp] theorem Dev.setShad_period (k : Nat) (v : Word) : (d.setShad k v).period = d.period := Dev.mk_period ..
@[simp] theorem Dev.setShad_ledgerStop (k : Nat) (v : Word) : (d.setShad k v).ledgerStop = d.ledgerStop := Dev.mk_ledgerStop ..
@[simp] theorem Dev.setShad_flopp (k : Nat) (v : Word) : (d.setShad k v).flopp = d.flopp := Dev.mk_flopp ..
@[simp] theorem Dev.setShad_floppDst (k : Nat) (v : Word) : (d.setShad k v).floppDst = d.floppDst := Dev.mk_floppDst ..
@[simp] theorem Dev.setShad_ovl (k : Nat) (v : Word) : (d.setShad k v).ovl = d.ovl := Dev.mk_ovl ..
@[simp] theorem Dev.setShad_pages (k : Nat) (v : Word) : (d.setShad k v).pages = d.pages := Dev.mk_pages ..
@[simp] theorem Dev.setShad_jrn (k : Nat) (v : Word) : (d.setShad k v).jrn = d.jrn := Dev.mk_jrn ..
@[simp] theorem Dev.setShad_jdup (k : Nat) (v : Word) : (d.setShad k v).jdup = d.jdup := Dev.mk_jdup ..
@[simp] theorem Dev.setShad_links (k : Nat) (v : Word) : (d.setShad k v).links = d.links := Dev.mk_links ..
@[simp] theorem Dev.setShad_cmp (k : Nat) (v : Word) : (d.setShad k v).cmp = d.cmp := Dev.mk_cmp ..
@[simp] theorem Dev.setShad_agr (k : Nat) (v : Word) : (d.setShad k v).agr = d.agr := Dev.mk_agr ..
@[simp] theorem Dev.setShad_copies (k : Nat) (v : Word) : (d.setShad k v).copies = d.copies := Dev.mk_copies ..
@[simp] theorem Dev.setShad_drv (k : Nat) (v : Word) : (d.setShad k v).drv = d.drv := Dev.mk_drv ..
@[simp] theorem Dev.setShad_fan (k : Nat) (v : Word) : (d.setShad k v).fan = d.fan := Dev.mk_fan ..
@[simp] theorem Dev.setShad_fanOvrDue (k : Nat) (v : Word) : (d.setShad k v).fanOvrDue = d.fanOvrDue := Dev.mk_fanOvrDue ..
@[simp] theorem Dev.setShad_fanLoopAt (k : Nat) (v : Word) : (d.setShad k v).fanLoopAt = d.fanLoopAt := Dev.mk_fanLoopAt ..
@[simp] theorem Dev.setShad_partAt (k : Nat) (v : Word) : (d.setShad k v).partAt = d.partAt := Dev.mk_partAt ..
@[simp] theorem Dev.setShad_gpo (k : Nat) (v : Word) : (d.setShad k v).gpo = d.gpo := Dev.mk_gpo ..
@[simp] theorem Dev.setShad_puff (k : Nat) (v : Word) : (d.setShad k v).puff = d.puff := Dev.mk_puff ..
@[simp] theorem Dev.setShad_can (k : Nat) (v : Word) : (d.setShad k v).can = d.can := Dev.mk_can ..
@[simp] theorem Dev.setShad_ledger (k : Nat) (v : Word) : (d.setShad k v).ledger = d.ledger := Dev.mk_ledger ..
@[simp] theorem Dev.setShad_flash (k : Nat) (v : Word) : (d.setShad k v).flash = d.flash := Dev.mk_flash ..
@[simp] theorem Dev.setShad_scrubW (k : Nat) (v : Word) : (d.setShad k v).scrubW = d.scrubW := Dev.mk_scrubW ..
@[simp] theorem Dev.setShad_refreshW (k : Nat) (v : Word) : (d.setShad k v).refreshW = d.refreshW := Dev.mk_refreshW ..
@[simp] theorem Dev.setShad_clk (k : Nat) (v : Word) : (d.setShad k v).clk = d.clk := Dev.mk_clk ..
@[simp] theorem Dev.setShad_lp (k : Nat) (v : Word) : (d.setShad k v).lp = d.lp := Dev.mk_lp ..
@[simp] theorem Dev.setShad_dbg (k : Nat) (v : Word) : (d.setShad k v).dbg = d.dbg := Dev.mk_dbg ..
@[simp] theorem Dev.setShad_jtag (k : Nat) (v : Word) : (d.setShad k v).jtag = d.jtag := Dev.mk_jtag ..
@[simp] theorem Dev.setShad_boot (k : Nat) (v : Word) : (d.setShad k v).boot = d.boot := Dev.mk_boot ..
@[simp] theorem Dev.setShad_wdCfg (k : Nat) (v : Word) : (d.setShad k v).wdCfg = d.wdCfg := Dev.mk_wdCfg ..

@[simp] theorem Dev.updCopy_regs (c : CopyId) (f : Copy → Copy) : (d.updCopy c f).regs = d.regs := Dev.mk_regs ..
@[simp] theorem Dev.updCopy_shadow (c : CopyId) (f : Copy → Copy) : (d.updCopy c f).shadow = d.shadow := Dev.mk_shadow ..
@[simp] theorem Dev.updCopy_banked (c : CopyId) (f : Copy → Copy) : (d.updCopy c f).banked = d.banked := Dev.mk_banked ..
@[simp] theorem Dev.updCopy_mem (c : CopyId) (f : Copy → Copy) : (d.updCopy c f).mem = d.mem := Dev.mk_mem ..
@[simp] theorem Dev.updCopy_codes (c : CopyId) (f : Copy → Copy) : (d.updCopy c f).codes = d.codes := Dev.mk_codes ..
@[simp] theorem Dev.updCopy_freeCtr (c : CopyId) (f : Copy → Copy) : (d.updCopy c f).freeCtr = d.freeCtr := Dev.mk_freeCtr ..
@[simp] theorem Dev.updCopy_time (c : CopyId) (f : Copy → Copy) : (d.updCopy c f).time = d.time := Dev.mk_time ..
@[simp] theorem Dev.updCopy_phase (c : CopyId) (f : Copy → Copy) : (d.updCopy c f).phase = d.phase := Dev.mk_phase ..
@[simp] theorem Dev.updCopy_phaseDue (c : CopyId) (f : Copy → Copy) : (d.updCopy c f).phaseDue = d.phaseDue := Dev.mk_phaseDue ..
@[simp] theorem Dev.updCopy_cs (c : CopyId) (f : Copy → Copy) : (d.updCopy c f).cs = d.cs := Dev.mk_cs ..
@[simp] theorem Dev.updCopy_csDue (c : CopyId) (f : Copy → Copy) : (d.updCopy c f).csDue = d.csDue := Dev.mk_csDue ..
@[simp] theorem Dev.updCopy_pendRestart (c : CopyId) (f : Copy → Copy) : (d.updCopy c f).pendRestart = d.pendRestart := Dev.mk_pendRestart ..
@[simp] theorem Dev.updCopy_frames (c : CopyId) (f : Copy → Copy) : (d.updCopy c f).frames = d.frames := Dev.mk_frames ..
@[simp] theorem Dev.updCopy_frnum (c : CopyId) (f : Copy → Copy) : (d.updCopy c f).frnum = d.frnum := Dev.mk_frnum ..
@[simp] theorem Dev.updCopy_tickt (c : CopyId) (f : Copy → Copy) : (d.updCopy c f).tickt = d.tickt := Dev.mk_tickt ..
@[simp] theorem Dev.updCopy_period (c : CopyId) (f : Copy → Copy) : (d.updCopy c f).period = d.period := Dev.mk_period ..
@[simp] theorem Dev.updCopy_ledgerStop (c : CopyId) (f : Copy → Copy) : (d.updCopy c f).ledgerStop = d.ledgerStop := Dev.mk_ledgerStop ..
@[simp] theorem Dev.updCopy_flopp (c : CopyId) (f : Copy → Copy) : (d.updCopy c f).flopp = d.flopp := Dev.mk_flopp ..
@[simp] theorem Dev.updCopy_floppDst (c : CopyId) (f : Copy → Copy) : (d.updCopy c f).floppDst = d.floppDst := Dev.mk_floppDst ..
@[simp] theorem Dev.updCopy_ovl (c : CopyId) (f : Copy → Copy) : (d.updCopy c f).ovl = d.ovl := Dev.mk_ovl ..
@[simp] theorem Dev.updCopy_pages (c : CopyId) (f : Copy → Copy) : (d.updCopy c f).pages = d.pages := Dev.mk_pages ..
@[simp] theorem Dev.updCopy_jrn (c : CopyId) (f : Copy → Copy) : (d.updCopy c f).jrn = d.jrn := Dev.mk_jrn ..
@[simp] theorem Dev.updCopy_jdup (c : CopyId) (f : Copy → Copy) : (d.updCopy c f).jdup = d.jdup := Dev.mk_jdup ..
@[simp] theorem Dev.updCopy_links (c : CopyId) (f : Copy → Copy) : (d.updCopy c f).links = d.links := Dev.mk_links ..
@[simp] theorem Dev.updCopy_cmp (c : CopyId) (f : Copy → Copy) : (d.updCopy c f).cmp = d.cmp := Dev.mk_cmp ..
@[simp] theorem Dev.updCopy_agr (c : CopyId) (f : Copy → Copy) : (d.updCopy c f).agr = d.agr := Dev.mk_agr ..
@[simp] theorem Dev.updCopy_drv (c : CopyId) (f : Copy → Copy) : (d.updCopy c f).drv = d.drv := Dev.mk_drv ..
@[simp] theorem Dev.updCopy_fan (c : CopyId) (f : Copy → Copy) : (d.updCopy c f).fan = d.fan := Dev.mk_fan ..
@[simp] theorem Dev.updCopy_fanOvrDue (c : CopyId) (f : Copy → Copy) : (d.updCopy c f).fanOvrDue = d.fanOvrDue := Dev.mk_fanOvrDue ..
@[simp] theorem Dev.updCopy_fanLoopAt (c : CopyId) (f : Copy → Copy) : (d.updCopy c f).fanLoopAt = d.fanLoopAt := Dev.mk_fanLoopAt ..
@[simp] theorem Dev.updCopy_partAt (c : CopyId) (f : Copy → Copy) : (d.updCopy c f).partAt = d.partAt := Dev.mk_partAt ..
@[simp] theorem Dev.updCopy_gpo (c : CopyId) (f : Copy → Copy) : (d.updCopy c f).gpo = d.gpo := Dev.mk_gpo ..
@[simp] theorem Dev.updCopy_puff (c : CopyId) (f : Copy → Copy) : (d.updCopy c f).puff = d.puff := Dev.mk_puff ..
@[simp] theorem Dev.updCopy_can (c : CopyId) (f : Copy → Copy) : (d.updCopy c f).can = d.can := Dev.mk_can ..
@[simp] theorem Dev.updCopy_ledger (c : CopyId) (f : Copy → Copy) : (d.updCopy c f).ledger = d.ledger := Dev.mk_ledger ..
@[simp] theorem Dev.updCopy_flash (c : CopyId) (f : Copy → Copy) : (d.updCopy c f).flash = d.flash := Dev.mk_flash ..
@[simp] theorem Dev.updCopy_scrubW (c : CopyId) (f : Copy → Copy) : (d.updCopy c f).scrubW = d.scrubW := Dev.mk_scrubW ..
@[simp] theorem Dev.updCopy_refreshW (c : CopyId) (f : Copy → Copy) : (d.updCopy c f).refreshW = d.refreshW := Dev.mk_refreshW ..
@[simp] theorem Dev.updCopy_clk (c : CopyId) (f : Copy → Copy) : (d.updCopy c f).clk = d.clk := Dev.mk_clk ..
@[simp] theorem Dev.updCopy_lp (c : CopyId) (f : Copy → Copy) : (d.updCopy c f).lp = d.lp := Dev.mk_lp ..
@[simp] theorem Dev.updCopy_dbg (c : CopyId) (f : Copy → Copy) : (d.updCopy c f).dbg = d.dbg := Dev.mk_dbg ..
@[simp] theorem Dev.updCopy_jtag (c : CopyId) (f : Copy → Copy) : (d.updCopy c f).jtag = d.jtag := Dev.mk_jtag ..
@[simp] theorem Dev.updCopy_boot (c : CopyId) (f : Copy → Copy) : (d.updCopy c f).boot = d.boot := Dev.mk_boot ..
@[simp] theorem Dev.updCopy_wdCfg (c : CopyId) (f : Copy → Copy) : (d.updCopy c f).wdCfg = d.wdCfg := Dev.mk_wdCfg ..

@[simp] theorem Dev.updLink_regs (c : CopyId) (f : HubLink → HubLink) : (d.updLink c f).regs = d.regs := Dev.mk_regs ..
@[simp] theorem Dev.updLink_shadow (c : CopyId) (f : HubLink → HubLink) : (d.updLink c f).shadow = d.shadow := Dev.mk_shadow ..
@[simp] theorem Dev.updLink_banked (c : CopyId) (f : HubLink → HubLink) : (d.updLink c f).banked = d.banked := Dev.mk_banked ..
@[simp] theorem Dev.updLink_mem (c : CopyId) (f : HubLink → HubLink) : (d.updLink c f).mem = d.mem := Dev.mk_mem ..
@[simp] theorem Dev.updLink_codes (c : CopyId) (f : HubLink → HubLink) : (d.updLink c f).codes = d.codes := Dev.mk_codes ..
@[simp] theorem Dev.updLink_freeCtr (c : CopyId) (f : HubLink → HubLink) : (d.updLink c f).freeCtr = d.freeCtr := Dev.mk_freeCtr ..
@[simp] theorem Dev.updLink_time (c : CopyId) (f : HubLink → HubLink) : (d.updLink c f).time = d.time := Dev.mk_time ..
@[simp] theorem Dev.updLink_phase (c : CopyId) (f : HubLink → HubLink) : (d.updLink c f).phase = d.phase := Dev.mk_phase ..
@[simp] theorem Dev.updLink_phaseDue (c : CopyId) (f : HubLink → HubLink) : (d.updLink c f).phaseDue = d.phaseDue := Dev.mk_phaseDue ..
@[simp] theorem Dev.updLink_cs (c : CopyId) (f : HubLink → HubLink) : (d.updLink c f).cs = d.cs := Dev.mk_cs ..
@[simp] theorem Dev.updLink_csDue (c : CopyId) (f : HubLink → HubLink) : (d.updLink c f).csDue = d.csDue := Dev.mk_csDue ..
@[simp] theorem Dev.updLink_pendRestart (c : CopyId) (f : HubLink → HubLink) : (d.updLink c f).pendRestart = d.pendRestart := Dev.mk_pendRestart ..
@[simp] theorem Dev.updLink_frames (c : CopyId) (f : HubLink → HubLink) : (d.updLink c f).frames = d.frames := Dev.mk_frames ..
@[simp] theorem Dev.updLink_frnum (c : CopyId) (f : HubLink → HubLink) : (d.updLink c f).frnum = d.frnum := Dev.mk_frnum ..
@[simp] theorem Dev.updLink_tickt (c : CopyId) (f : HubLink → HubLink) : (d.updLink c f).tickt = d.tickt := Dev.mk_tickt ..
@[simp] theorem Dev.updLink_period (c : CopyId) (f : HubLink → HubLink) : (d.updLink c f).period = d.period := Dev.mk_period ..
@[simp] theorem Dev.updLink_ledgerStop (c : CopyId) (f : HubLink → HubLink) : (d.updLink c f).ledgerStop = d.ledgerStop := Dev.mk_ledgerStop ..
@[simp] theorem Dev.updLink_flopp (c : CopyId) (f : HubLink → HubLink) : (d.updLink c f).flopp = d.flopp := Dev.mk_flopp ..
@[simp] theorem Dev.updLink_floppDst (c : CopyId) (f : HubLink → HubLink) : (d.updLink c f).floppDst = d.floppDst := Dev.mk_floppDst ..
@[simp] theorem Dev.updLink_ovl (c : CopyId) (f : HubLink → HubLink) : (d.updLink c f).ovl = d.ovl := Dev.mk_ovl ..
@[simp] theorem Dev.updLink_pages (c : CopyId) (f : HubLink → HubLink) : (d.updLink c f).pages = d.pages := Dev.mk_pages ..
@[simp] theorem Dev.updLink_jrn (c : CopyId) (f : HubLink → HubLink) : (d.updLink c f).jrn = d.jrn := Dev.mk_jrn ..
@[simp] theorem Dev.updLink_jdup (c : CopyId) (f : HubLink → HubLink) : (d.updLink c f).jdup = d.jdup := Dev.mk_jdup ..
@[simp] theorem Dev.updLink_cmp (c : CopyId) (f : HubLink → HubLink) : (d.updLink c f).cmp = d.cmp := Dev.mk_cmp ..
@[simp] theorem Dev.updLink_agr (c : CopyId) (f : HubLink → HubLink) : (d.updLink c f).agr = d.agr := Dev.mk_agr ..
@[simp] theorem Dev.updLink_copies (c : CopyId) (f : HubLink → HubLink) : (d.updLink c f).copies = d.copies := Dev.mk_copies ..
@[simp] theorem Dev.updLink_drv (c : CopyId) (f : HubLink → HubLink) : (d.updLink c f).drv = d.drv := Dev.mk_drv ..
@[simp] theorem Dev.updLink_fan (c : CopyId) (f : HubLink → HubLink) : (d.updLink c f).fan = d.fan := Dev.mk_fan ..
@[simp] theorem Dev.updLink_fanOvrDue (c : CopyId) (f : HubLink → HubLink) : (d.updLink c f).fanOvrDue = d.fanOvrDue := Dev.mk_fanOvrDue ..
@[simp] theorem Dev.updLink_fanLoopAt (c : CopyId) (f : HubLink → HubLink) : (d.updLink c f).fanLoopAt = d.fanLoopAt := Dev.mk_fanLoopAt ..
@[simp] theorem Dev.updLink_partAt (c : CopyId) (f : HubLink → HubLink) : (d.updLink c f).partAt = d.partAt := Dev.mk_partAt ..
@[simp] theorem Dev.updLink_gpo (c : CopyId) (f : HubLink → HubLink) : (d.updLink c f).gpo = d.gpo := Dev.mk_gpo ..
@[simp] theorem Dev.updLink_puff (c : CopyId) (f : HubLink → HubLink) : (d.updLink c f).puff = d.puff := Dev.mk_puff ..
@[simp] theorem Dev.updLink_can (c : CopyId) (f : HubLink → HubLink) : (d.updLink c f).can = d.can := Dev.mk_can ..
@[simp] theorem Dev.updLink_ledger (c : CopyId) (f : HubLink → HubLink) : (d.updLink c f).ledger = d.ledger := Dev.mk_ledger ..
@[simp] theorem Dev.updLink_flash (c : CopyId) (f : HubLink → HubLink) : (d.updLink c f).flash = d.flash := Dev.mk_flash ..
@[simp] theorem Dev.updLink_scrubW (c : CopyId) (f : HubLink → HubLink) : (d.updLink c f).scrubW = d.scrubW := Dev.mk_scrubW ..
@[simp] theorem Dev.updLink_refreshW (c : CopyId) (f : HubLink → HubLink) : (d.updLink c f).refreshW = d.refreshW := Dev.mk_refreshW ..
@[simp] theorem Dev.updLink_clk (c : CopyId) (f : HubLink → HubLink) : (d.updLink c f).clk = d.clk := Dev.mk_clk ..
@[simp] theorem Dev.updLink_lp (c : CopyId) (f : HubLink → HubLink) : (d.updLink c f).lp = d.lp := Dev.mk_lp ..
@[simp] theorem Dev.updLink_dbg (c : CopyId) (f : HubLink → HubLink) : (d.updLink c f).dbg = d.dbg := Dev.mk_dbg ..
@[simp] theorem Dev.updLink_jtag (c : CopyId) (f : HubLink → HubLink) : (d.updLink c f).jtag = d.jtag := Dev.mk_jtag ..
@[simp] theorem Dev.updLink_boot (c : CopyId) (f : HubLink → HubLink) : (d.updLink c f).boot = d.boot := Dev.mk_boot ..
@[simp] theorem Dev.updLink_wdCfg (c : CopyId) (f : HubLink → HubLink) : (d.updLink c f).wdCfg = d.wdCfg := Dev.mk_wdCfg ..

@[simp] theorem Dev.updDrive_regs (n : DrvId) (f : Drive → Drive) : (d.updDrive n f).regs = d.regs := Dev.mk_regs ..
@[simp] theorem Dev.updDrive_shadow (n : DrvId) (f : Drive → Drive) : (d.updDrive n f).shadow = d.shadow := Dev.mk_shadow ..
@[simp] theorem Dev.updDrive_banked (n : DrvId) (f : Drive → Drive) : (d.updDrive n f).banked = d.banked := Dev.mk_banked ..
@[simp] theorem Dev.updDrive_mem (n : DrvId) (f : Drive → Drive) : (d.updDrive n f).mem = d.mem := Dev.mk_mem ..
@[simp] theorem Dev.updDrive_codes (n : DrvId) (f : Drive → Drive) : (d.updDrive n f).codes = d.codes := Dev.mk_codes ..
@[simp] theorem Dev.updDrive_freeCtr (n : DrvId) (f : Drive → Drive) : (d.updDrive n f).freeCtr = d.freeCtr := Dev.mk_freeCtr ..
@[simp] theorem Dev.updDrive_time (n : DrvId) (f : Drive → Drive) : (d.updDrive n f).time = d.time := Dev.mk_time ..
@[simp] theorem Dev.updDrive_phase (n : DrvId) (f : Drive → Drive) : (d.updDrive n f).phase = d.phase := Dev.mk_phase ..
@[simp] theorem Dev.updDrive_phaseDue (n : DrvId) (f : Drive → Drive) : (d.updDrive n f).phaseDue = d.phaseDue := Dev.mk_phaseDue ..
@[simp] theorem Dev.updDrive_cs (n : DrvId) (f : Drive → Drive) : (d.updDrive n f).cs = d.cs := Dev.mk_cs ..
@[simp] theorem Dev.updDrive_csDue (n : DrvId) (f : Drive → Drive) : (d.updDrive n f).csDue = d.csDue := Dev.mk_csDue ..
@[simp] theorem Dev.updDrive_pendRestart (n : DrvId) (f : Drive → Drive) : (d.updDrive n f).pendRestart = d.pendRestart := Dev.mk_pendRestart ..
@[simp] theorem Dev.updDrive_frames (n : DrvId) (f : Drive → Drive) : (d.updDrive n f).frames = d.frames := Dev.mk_frames ..
@[simp] theorem Dev.updDrive_frnum (n : DrvId) (f : Drive → Drive) : (d.updDrive n f).frnum = d.frnum := Dev.mk_frnum ..
@[simp] theorem Dev.updDrive_tickt (n : DrvId) (f : Drive → Drive) : (d.updDrive n f).tickt = d.tickt := Dev.mk_tickt ..
@[simp] theorem Dev.updDrive_period (n : DrvId) (f : Drive → Drive) : (d.updDrive n f).period = d.period := Dev.mk_period ..
@[simp] theorem Dev.updDrive_ledgerStop (n : DrvId) (f : Drive → Drive) : (d.updDrive n f).ledgerStop = d.ledgerStop := Dev.mk_ledgerStop ..
@[simp] theorem Dev.updDrive_flopp (n : DrvId) (f : Drive → Drive) : (d.updDrive n f).flopp = d.flopp := Dev.mk_flopp ..
@[simp] theorem Dev.updDrive_floppDst (n : DrvId) (f : Drive → Drive) : (d.updDrive n f).floppDst = d.floppDst := Dev.mk_floppDst ..
@[simp] theorem Dev.updDrive_ovl (n : DrvId) (f : Drive → Drive) : (d.updDrive n f).ovl = d.ovl := Dev.mk_ovl ..
@[simp] theorem Dev.updDrive_pages (n : DrvId) (f : Drive → Drive) : (d.updDrive n f).pages = d.pages := Dev.mk_pages ..
@[simp] theorem Dev.updDrive_jrn (n : DrvId) (f : Drive → Drive) : (d.updDrive n f).jrn = d.jrn := Dev.mk_jrn ..
@[simp] theorem Dev.updDrive_jdup (n : DrvId) (f : Drive → Drive) : (d.updDrive n f).jdup = d.jdup := Dev.mk_jdup ..
@[simp] theorem Dev.updDrive_links (n : DrvId) (f : Drive → Drive) : (d.updDrive n f).links = d.links := Dev.mk_links ..
@[simp] theorem Dev.updDrive_cmp (n : DrvId) (f : Drive → Drive) : (d.updDrive n f).cmp = d.cmp := Dev.mk_cmp ..
@[simp] theorem Dev.updDrive_agr (n : DrvId) (f : Drive → Drive) : (d.updDrive n f).agr = d.agr := Dev.mk_agr ..
@[simp] theorem Dev.updDrive_copies (n : DrvId) (f : Drive → Drive) : (d.updDrive n f).copies = d.copies := Dev.mk_copies ..
@[simp] theorem Dev.updDrive_fan (n : DrvId) (f : Drive → Drive) : (d.updDrive n f).fan = d.fan := Dev.mk_fan ..
@[simp] theorem Dev.updDrive_fanOvrDue (n : DrvId) (f : Drive → Drive) : (d.updDrive n f).fanOvrDue = d.fanOvrDue := Dev.mk_fanOvrDue ..
@[simp] theorem Dev.updDrive_fanLoopAt (n : DrvId) (f : Drive → Drive) : (d.updDrive n f).fanLoopAt = d.fanLoopAt := Dev.mk_fanLoopAt ..
@[simp] theorem Dev.updDrive_partAt (n : DrvId) (f : Drive → Drive) : (d.updDrive n f).partAt = d.partAt := Dev.mk_partAt ..
@[simp] theorem Dev.updDrive_gpo (n : DrvId) (f : Drive → Drive) : (d.updDrive n f).gpo = d.gpo := Dev.mk_gpo ..
@[simp] theorem Dev.updDrive_puff (n : DrvId) (f : Drive → Drive) : (d.updDrive n f).puff = d.puff := Dev.mk_puff ..
@[simp] theorem Dev.updDrive_can (n : DrvId) (f : Drive → Drive) : (d.updDrive n f).can = d.can := Dev.mk_can ..
@[simp] theorem Dev.updDrive_ledger (n : DrvId) (f : Drive → Drive) : (d.updDrive n f).ledger = d.ledger := Dev.mk_ledger ..
@[simp] theorem Dev.updDrive_flash (n : DrvId) (f : Drive → Drive) : (d.updDrive n f).flash = d.flash := Dev.mk_flash ..
@[simp] theorem Dev.updDrive_scrubW (n : DrvId) (f : Drive → Drive) : (d.updDrive n f).scrubW = d.scrubW := Dev.mk_scrubW ..
@[simp] theorem Dev.updDrive_refreshW (n : DrvId) (f : Drive → Drive) : (d.updDrive n f).refreshW = d.refreshW := Dev.mk_refreshW ..
@[simp] theorem Dev.updDrive_clk (n : DrvId) (f : Drive → Drive) : (d.updDrive n f).clk = d.clk := Dev.mk_clk ..
@[simp] theorem Dev.updDrive_lp (n : DrvId) (f : Drive → Drive) : (d.updDrive n f).lp = d.lp := Dev.mk_lp ..
@[simp] theorem Dev.updDrive_dbg (n : DrvId) (f : Drive → Drive) : (d.updDrive n f).dbg = d.dbg := Dev.mk_dbg ..
@[simp] theorem Dev.updDrive_jtag (n : DrvId) (f : Drive → Drive) : (d.updDrive n f).jtag = d.jtag := Dev.mk_jtag ..
@[simp] theorem Dev.updDrive_boot (n : DrvId) (f : Drive → Drive) : (d.updDrive n f).boot = d.boot := Dev.mk_boot ..
@[simp] theorem Dev.updDrive_wdCfg (n : DrvId) (f : Drive → Drive) : (d.updDrive n f).wdCfg = d.wdCfg := Dev.mk_wdCfg ..

@[simp] theorem Dev.updFan_regs (i : FanId) (f : Fan → Fan) : (d.updFan i f).regs = d.regs := Dev.mk_regs ..
@[simp] theorem Dev.updFan_shadow (i : FanId) (f : Fan → Fan) : (d.updFan i f).shadow = d.shadow := Dev.mk_shadow ..
@[simp] theorem Dev.updFan_banked (i : FanId) (f : Fan → Fan) : (d.updFan i f).banked = d.banked := Dev.mk_banked ..
@[simp] theorem Dev.updFan_mem (i : FanId) (f : Fan → Fan) : (d.updFan i f).mem = d.mem := Dev.mk_mem ..
@[simp] theorem Dev.updFan_codes (i : FanId) (f : Fan → Fan) : (d.updFan i f).codes = d.codes := Dev.mk_codes ..
@[simp] theorem Dev.updFan_freeCtr (i : FanId) (f : Fan → Fan) : (d.updFan i f).freeCtr = d.freeCtr := Dev.mk_freeCtr ..
@[simp] theorem Dev.updFan_time (i : FanId) (f : Fan → Fan) : (d.updFan i f).time = d.time := Dev.mk_time ..
@[simp] theorem Dev.updFan_phase (i : FanId) (f : Fan → Fan) : (d.updFan i f).phase = d.phase := Dev.mk_phase ..
@[simp] theorem Dev.updFan_phaseDue (i : FanId) (f : Fan → Fan) : (d.updFan i f).phaseDue = d.phaseDue := Dev.mk_phaseDue ..
@[simp] theorem Dev.updFan_cs (i : FanId) (f : Fan → Fan) : (d.updFan i f).cs = d.cs := Dev.mk_cs ..
@[simp] theorem Dev.updFan_csDue (i : FanId) (f : Fan → Fan) : (d.updFan i f).csDue = d.csDue := Dev.mk_csDue ..
@[simp] theorem Dev.updFan_pendRestart (i : FanId) (f : Fan → Fan) : (d.updFan i f).pendRestart = d.pendRestart := Dev.mk_pendRestart ..
@[simp] theorem Dev.updFan_frames (i : FanId) (f : Fan → Fan) : (d.updFan i f).frames = d.frames := Dev.mk_frames ..
@[simp] theorem Dev.updFan_frnum (i : FanId) (f : Fan → Fan) : (d.updFan i f).frnum = d.frnum := Dev.mk_frnum ..
@[simp] theorem Dev.updFan_tickt (i : FanId) (f : Fan → Fan) : (d.updFan i f).tickt = d.tickt := Dev.mk_tickt ..
@[simp] theorem Dev.updFan_period (i : FanId) (f : Fan → Fan) : (d.updFan i f).period = d.period := Dev.mk_period ..
@[simp] theorem Dev.updFan_ledgerStop (i : FanId) (f : Fan → Fan) : (d.updFan i f).ledgerStop = d.ledgerStop := Dev.mk_ledgerStop ..
@[simp] theorem Dev.updFan_flopp (i : FanId) (f : Fan → Fan) : (d.updFan i f).flopp = d.flopp := Dev.mk_flopp ..
@[simp] theorem Dev.updFan_floppDst (i : FanId) (f : Fan → Fan) : (d.updFan i f).floppDst = d.floppDst := Dev.mk_floppDst ..
@[simp] theorem Dev.updFan_ovl (i : FanId) (f : Fan → Fan) : (d.updFan i f).ovl = d.ovl := Dev.mk_ovl ..
@[simp] theorem Dev.updFan_pages (i : FanId) (f : Fan → Fan) : (d.updFan i f).pages = d.pages := Dev.mk_pages ..
@[simp] theorem Dev.updFan_jrn (i : FanId) (f : Fan → Fan) : (d.updFan i f).jrn = d.jrn := Dev.mk_jrn ..
@[simp] theorem Dev.updFan_jdup (i : FanId) (f : Fan → Fan) : (d.updFan i f).jdup = d.jdup := Dev.mk_jdup ..
@[simp] theorem Dev.updFan_links (i : FanId) (f : Fan → Fan) : (d.updFan i f).links = d.links := Dev.mk_links ..
@[simp] theorem Dev.updFan_cmp (i : FanId) (f : Fan → Fan) : (d.updFan i f).cmp = d.cmp := Dev.mk_cmp ..
@[simp] theorem Dev.updFan_agr (i : FanId) (f : Fan → Fan) : (d.updFan i f).agr = d.agr := Dev.mk_agr ..
@[simp] theorem Dev.updFan_copies (i : FanId) (f : Fan → Fan) : (d.updFan i f).copies = d.copies := Dev.mk_copies ..
@[simp] theorem Dev.updFan_drv (i : FanId) (f : Fan → Fan) : (d.updFan i f).drv = d.drv := Dev.mk_drv ..
@[simp] theorem Dev.updFan_fanOvrDue (i : FanId) (f : Fan → Fan) : (d.updFan i f).fanOvrDue = d.fanOvrDue := Dev.mk_fanOvrDue ..
@[simp] theorem Dev.updFan_fanLoopAt (i : FanId) (f : Fan → Fan) : (d.updFan i f).fanLoopAt = d.fanLoopAt := Dev.mk_fanLoopAt ..
@[simp] theorem Dev.updFan_partAt (i : FanId) (f : Fan → Fan) : (d.updFan i f).partAt = d.partAt := Dev.mk_partAt ..
@[simp] theorem Dev.updFan_gpo (i : FanId) (f : Fan → Fan) : (d.updFan i f).gpo = d.gpo := Dev.mk_gpo ..
@[simp] theorem Dev.updFan_puff (i : FanId) (f : Fan → Fan) : (d.updFan i f).puff = d.puff := Dev.mk_puff ..
@[simp] theorem Dev.updFan_can (i : FanId) (f : Fan → Fan) : (d.updFan i f).can = d.can := Dev.mk_can ..
@[simp] theorem Dev.updFan_ledger (i : FanId) (f : Fan → Fan) : (d.updFan i f).ledger = d.ledger := Dev.mk_ledger ..
@[simp] theorem Dev.updFan_flash (i : FanId) (f : Fan → Fan) : (d.updFan i f).flash = d.flash := Dev.mk_flash ..
@[simp] theorem Dev.updFan_scrubW (i : FanId) (f : Fan → Fan) : (d.updFan i f).scrubW = d.scrubW := Dev.mk_scrubW ..
@[simp] theorem Dev.updFan_refreshW (i : FanId) (f : Fan → Fan) : (d.updFan i f).refreshW = d.refreshW := Dev.mk_refreshW ..
@[simp] theorem Dev.updFan_clk (i : FanId) (f : Fan → Fan) : (d.updFan i f).clk = d.clk := Dev.mk_clk ..
@[simp] theorem Dev.updFan_lp (i : FanId) (f : Fan → Fan) : (d.updFan i f).lp = d.lp := Dev.mk_lp ..
@[simp] theorem Dev.updFan_dbg (i : FanId) (f : Fan → Fan) : (d.updFan i f).dbg = d.dbg := Dev.mk_dbg ..
@[simp] theorem Dev.updFan_jtag (i : FanId) (f : Fan → Fan) : (d.updFan i f).jtag = d.jtag := Dev.mk_jtag ..
@[simp] theorem Dev.updFan_boot (i : FanId) (f : Fan → Fan) : (d.updFan i f).boot = d.boot := Dev.mk_boot ..
@[simp] theorem Dev.updFan_wdCfg (i : FanId) (f : Fan → Fan) : (d.updFan i f).wdCfg = d.wdCfg := Dev.mk_wdCfg ..

@[simp] theorem Dev.updGpo_regs (i : Nat) (f : Gpo → Gpo) : (d.updGpo i f).regs = d.regs := Dev.mk_regs ..
@[simp] theorem Dev.updGpo_shadow (i : Nat) (f : Gpo → Gpo) : (d.updGpo i f).shadow = d.shadow := Dev.mk_shadow ..
@[simp] theorem Dev.updGpo_banked (i : Nat) (f : Gpo → Gpo) : (d.updGpo i f).banked = d.banked := Dev.mk_banked ..
@[simp] theorem Dev.updGpo_mem (i : Nat) (f : Gpo → Gpo) : (d.updGpo i f).mem = d.mem := Dev.mk_mem ..
@[simp] theorem Dev.updGpo_codes (i : Nat) (f : Gpo → Gpo) : (d.updGpo i f).codes = d.codes := Dev.mk_codes ..
@[simp] theorem Dev.updGpo_freeCtr (i : Nat) (f : Gpo → Gpo) : (d.updGpo i f).freeCtr = d.freeCtr := Dev.mk_freeCtr ..
@[simp] theorem Dev.updGpo_time (i : Nat) (f : Gpo → Gpo) : (d.updGpo i f).time = d.time := Dev.mk_time ..
@[simp] theorem Dev.updGpo_phase (i : Nat) (f : Gpo → Gpo) : (d.updGpo i f).phase = d.phase := Dev.mk_phase ..
@[simp] theorem Dev.updGpo_phaseDue (i : Nat) (f : Gpo → Gpo) : (d.updGpo i f).phaseDue = d.phaseDue := Dev.mk_phaseDue ..
@[simp] theorem Dev.updGpo_cs (i : Nat) (f : Gpo → Gpo) : (d.updGpo i f).cs = d.cs := Dev.mk_cs ..
@[simp] theorem Dev.updGpo_csDue (i : Nat) (f : Gpo → Gpo) : (d.updGpo i f).csDue = d.csDue := Dev.mk_csDue ..
@[simp] theorem Dev.updGpo_pendRestart (i : Nat) (f : Gpo → Gpo) : (d.updGpo i f).pendRestart = d.pendRestart := Dev.mk_pendRestart ..
@[simp] theorem Dev.updGpo_frames (i : Nat) (f : Gpo → Gpo) : (d.updGpo i f).frames = d.frames := Dev.mk_frames ..
@[simp] theorem Dev.updGpo_frnum (i : Nat) (f : Gpo → Gpo) : (d.updGpo i f).frnum = d.frnum := Dev.mk_frnum ..
@[simp] theorem Dev.updGpo_tickt (i : Nat) (f : Gpo → Gpo) : (d.updGpo i f).tickt = d.tickt := Dev.mk_tickt ..
@[simp] theorem Dev.updGpo_period (i : Nat) (f : Gpo → Gpo) : (d.updGpo i f).period = d.period := Dev.mk_period ..
@[simp] theorem Dev.updGpo_ledgerStop (i : Nat) (f : Gpo → Gpo) : (d.updGpo i f).ledgerStop = d.ledgerStop := Dev.mk_ledgerStop ..
@[simp] theorem Dev.updGpo_flopp (i : Nat) (f : Gpo → Gpo) : (d.updGpo i f).flopp = d.flopp := Dev.mk_flopp ..
@[simp] theorem Dev.updGpo_floppDst (i : Nat) (f : Gpo → Gpo) : (d.updGpo i f).floppDst = d.floppDst := Dev.mk_floppDst ..
@[simp] theorem Dev.updGpo_ovl (i : Nat) (f : Gpo → Gpo) : (d.updGpo i f).ovl = d.ovl := Dev.mk_ovl ..
@[simp] theorem Dev.updGpo_pages (i : Nat) (f : Gpo → Gpo) : (d.updGpo i f).pages = d.pages := Dev.mk_pages ..
@[simp] theorem Dev.updGpo_jrn (i : Nat) (f : Gpo → Gpo) : (d.updGpo i f).jrn = d.jrn := Dev.mk_jrn ..
@[simp] theorem Dev.updGpo_jdup (i : Nat) (f : Gpo → Gpo) : (d.updGpo i f).jdup = d.jdup := Dev.mk_jdup ..
@[simp] theorem Dev.updGpo_links (i : Nat) (f : Gpo → Gpo) : (d.updGpo i f).links = d.links := Dev.mk_links ..
@[simp] theorem Dev.updGpo_cmp (i : Nat) (f : Gpo → Gpo) : (d.updGpo i f).cmp = d.cmp := Dev.mk_cmp ..
@[simp] theorem Dev.updGpo_agr (i : Nat) (f : Gpo → Gpo) : (d.updGpo i f).agr = d.agr := Dev.mk_agr ..
@[simp] theorem Dev.updGpo_copies (i : Nat) (f : Gpo → Gpo) : (d.updGpo i f).copies = d.copies := Dev.mk_copies ..
@[simp] theorem Dev.updGpo_drv (i : Nat) (f : Gpo → Gpo) : (d.updGpo i f).drv = d.drv := Dev.mk_drv ..
@[simp] theorem Dev.updGpo_fan (i : Nat) (f : Gpo → Gpo) : (d.updGpo i f).fan = d.fan := Dev.mk_fan ..
@[simp] theorem Dev.updGpo_fanOvrDue (i : Nat) (f : Gpo → Gpo) : (d.updGpo i f).fanOvrDue = d.fanOvrDue := Dev.mk_fanOvrDue ..
@[simp] theorem Dev.updGpo_fanLoopAt (i : Nat) (f : Gpo → Gpo) : (d.updGpo i f).fanLoopAt = d.fanLoopAt := Dev.mk_fanLoopAt ..
@[simp] theorem Dev.updGpo_partAt (i : Nat) (f : Gpo → Gpo) : (d.updGpo i f).partAt = d.partAt := Dev.mk_partAt ..
@[simp] theorem Dev.updGpo_puff (i : Nat) (f : Gpo → Gpo) : (d.updGpo i f).puff = d.puff := Dev.mk_puff ..
@[simp] theorem Dev.updGpo_can (i : Nat) (f : Gpo → Gpo) : (d.updGpo i f).can = d.can := Dev.mk_can ..
@[simp] theorem Dev.updGpo_ledger (i : Nat) (f : Gpo → Gpo) : (d.updGpo i f).ledger = d.ledger := Dev.mk_ledger ..
@[simp] theorem Dev.updGpo_flash (i : Nat) (f : Gpo → Gpo) : (d.updGpo i f).flash = d.flash := Dev.mk_flash ..
@[simp] theorem Dev.updGpo_scrubW (i : Nat) (f : Gpo → Gpo) : (d.updGpo i f).scrubW = d.scrubW := Dev.mk_scrubW ..
@[simp] theorem Dev.updGpo_refreshW (i : Nat) (f : Gpo → Gpo) : (d.updGpo i f).refreshW = d.refreshW := Dev.mk_refreshW ..
@[simp] theorem Dev.updGpo_clk (i : Nat) (f : Gpo → Gpo) : (d.updGpo i f).clk = d.clk := Dev.mk_clk ..
@[simp] theorem Dev.updGpo_lp (i : Nat) (f : Gpo → Gpo) : (d.updGpo i f).lp = d.lp := Dev.mk_lp ..
@[simp] theorem Dev.updGpo_dbg (i : Nat) (f : Gpo → Gpo) : (d.updGpo i f).dbg = d.dbg := Dev.mk_dbg ..
@[simp] theorem Dev.updGpo_jtag (i : Nat) (f : Gpo → Gpo) : (d.updGpo i f).jtag = d.jtag := Dev.mk_jtag ..
@[simp] theorem Dev.updGpo_boot (i : Nat) (f : Gpo → Gpo) : (d.updGpo i f).boot = d.boot := Dev.mk_boot ..
@[simp] theorem Dev.updGpo_wdCfg (i : Nat) (f : Gpo → Gpo) : (d.updGpo i f).wdCfg = d.wdCfg := Dev.mk_wdCfg ..

@[simp] theorem Dev.updCan_regs (n : CanId) (f : Can → Can) : (d.updCan n f).regs = d.regs := Dev.mk_regs ..
@[simp] theorem Dev.updCan_shadow (n : CanId) (f : Can → Can) : (d.updCan n f).shadow = d.shadow := Dev.mk_shadow ..
@[simp] theorem Dev.updCan_banked (n : CanId) (f : Can → Can) : (d.updCan n f).banked = d.banked := Dev.mk_banked ..
@[simp] theorem Dev.updCan_mem (n : CanId) (f : Can → Can) : (d.updCan n f).mem = d.mem := Dev.mk_mem ..
@[simp] theorem Dev.updCan_codes (n : CanId) (f : Can → Can) : (d.updCan n f).codes = d.codes := Dev.mk_codes ..
@[simp] theorem Dev.updCan_freeCtr (n : CanId) (f : Can → Can) : (d.updCan n f).freeCtr = d.freeCtr := Dev.mk_freeCtr ..
@[simp] theorem Dev.updCan_time (n : CanId) (f : Can → Can) : (d.updCan n f).time = d.time := Dev.mk_time ..
@[simp] theorem Dev.updCan_phase (n : CanId) (f : Can → Can) : (d.updCan n f).phase = d.phase := Dev.mk_phase ..
@[simp] theorem Dev.updCan_phaseDue (n : CanId) (f : Can → Can) : (d.updCan n f).phaseDue = d.phaseDue := Dev.mk_phaseDue ..
@[simp] theorem Dev.updCan_cs (n : CanId) (f : Can → Can) : (d.updCan n f).cs = d.cs := Dev.mk_cs ..
@[simp] theorem Dev.updCan_csDue (n : CanId) (f : Can → Can) : (d.updCan n f).csDue = d.csDue := Dev.mk_csDue ..
@[simp] theorem Dev.updCan_pendRestart (n : CanId) (f : Can → Can) : (d.updCan n f).pendRestart = d.pendRestart := Dev.mk_pendRestart ..
@[simp] theorem Dev.updCan_frames (n : CanId) (f : Can → Can) : (d.updCan n f).frames = d.frames := Dev.mk_frames ..
@[simp] theorem Dev.updCan_frnum (n : CanId) (f : Can → Can) : (d.updCan n f).frnum = d.frnum := Dev.mk_frnum ..
@[simp] theorem Dev.updCan_tickt (n : CanId) (f : Can → Can) : (d.updCan n f).tickt = d.tickt := Dev.mk_tickt ..
@[simp] theorem Dev.updCan_period (n : CanId) (f : Can → Can) : (d.updCan n f).period = d.period := Dev.mk_period ..
@[simp] theorem Dev.updCan_ledgerStop (n : CanId) (f : Can → Can) : (d.updCan n f).ledgerStop = d.ledgerStop := Dev.mk_ledgerStop ..
@[simp] theorem Dev.updCan_flopp (n : CanId) (f : Can → Can) : (d.updCan n f).flopp = d.flopp := Dev.mk_flopp ..
@[simp] theorem Dev.updCan_floppDst (n : CanId) (f : Can → Can) : (d.updCan n f).floppDst = d.floppDst := Dev.mk_floppDst ..
@[simp] theorem Dev.updCan_ovl (n : CanId) (f : Can → Can) : (d.updCan n f).ovl = d.ovl := Dev.mk_ovl ..
@[simp] theorem Dev.updCan_pages (n : CanId) (f : Can → Can) : (d.updCan n f).pages = d.pages := Dev.mk_pages ..
@[simp] theorem Dev.updCan_jrn (n : CanId) (f : Can → Can) : (d.updCan n f).jrn = d.jrn := Dev.mk_jrn ..
@[simp] theorem Dev.updCan_jdup (n : CanId) (f : Can → Can) : (d.updCan n f).jdup = d.jdup := Dev.mk_jdup ..
@[simp] theorem Dev.updCan_links (n : CanId) (f : Can → Can) : (d.updCan n f).links = d.links := Dev.mk_links ..
@[simp] theorem Dev.updCan_cmp (n : CanId) (f : Can → Can) : (d.updCan n f).cmp = d.cmp := Dev.mk_cmp ..
@[simp] theorem Dev.updCan_agr (n : CanId) (f : Can → Can) : (d.updCan n f).agr = d.agr := Dev.mk_agr ..
@[simp] theorem Dev.updCan_copies (n : CanId) (f : Can → Can) : (d.updCan n f).copies = d.copies := Dev.mk_copies ..
@[simp] theorem Dev.updCan_drv (n : CanId) (f : Can → Can) : (d.updCan n f).drv = d.drv := Dev.mk_drv ..
@[simp] theorem Dev.updCan_fan (n : CanId) (f : Can → Can) : (d.updCan n f).fan = d.fan := Dev.mk_fan ..
@[simp] theorem Dev.updCan_fanOvrDue (n : CanId) (f : Can → Can) : (d.updCan n f).fanOvrDue = d.fanOvrDue := Dev.mk_fanOvrDue ..
@[simp] theorem Dev.updCan_fanLoopAt (n : CanId) (f : Can → Can) : (d.updCan n f).fanLoopAt = d.fanLoopAt := Dev.mk_fanLoopAt ..
@[simp] theorem Dev.updCan_partAt (n : CanId) (f : Can → Can) : (d.updCan n f).partAt = d.partAt := Dev.mk_partAt ..
@[simp] theorem Dev.updCan_gpo (n : CanId) (f : Can → Can) : (d.updCan n f).gpo = d.gpo := Dev.mk_gpo ..
@[simp] theorem Dev.updCan_puff (n : CanId) (f : Can → Can) : (d.updCan n f).puff = d.puff := Dev.mk_puff ..
@[simp] theorem Dev.updCan_ledger (n : CanId) (f : Can → Can) : (d.updCan n f).ledger = d.ledger := Dev.mk_ledger ..
@[simp] theorem Dev.updCan_flash (n : CanId) (f : Can → Can) : (d.updCan n f).flash = d.flash := Dev.mk_flash ..
@[simp] theorem Dev.updCan_scrubW (n : CanId) (f : Can → Can) : (d.updCan n f).scrubW = d.scrubW := Dev.mk_scrubW ..
@[simp] theorem Dev.updCan_refreshW (n : CanId) (f : Can → Can) : (d.updCan n f).refreshW = d.refreshW := Dev.mk_refreshW ..
@[simp] theorem Dev.updCan_clk (n : CanId) (f : Can → Can) : (d.updCan n f).clk = d.clk := Dev.mk_clk ..
@[simp] theorem Dev.updCan_lp (n : CanId) (f : Can → Can) : (d.updCan n f).lp = d.lp := Dev.mk_lp ..
@[simp] theorem Dev.updCan_dbg (n : CanId) (f : Can → Can) : (d.updCan n f).dbg = d.dbg := Dev.mk_dbg ..
@[simp] theorem Dev.updCan_jtag (n : CanId) (f : Can → Can) : (d.updCan n f).jtag = d.jtag := Dev.mk_jtag ..
@[simp] theorem Dev.updCan_boot (n : CanId) (f : Can → Can) : (d.updCan n f).boot = d.boot := Dev.mk_boot ..
@[simp] theorem Dev.updCan_wdCfg (n : CanId) (f : Can → Can) : (d.updCan n f).wdCfg = d.wdCfg := Dev.mk_wdCfg ..

@[simp] theorem Dev.updAgr_regs (f : Agree → Agree) : (d.updAgr f).regs = d.regs := Dev.mk_regs ..
@[simp] theorem Dev.updAgr_shadow (f : Agree → Agree) : (d.updAgr f).shadow = d.shadow := Dev.mk_shadow ..
@[simp] theorem Dev.updAgr_banked (f : Agree → Agree) : (d.updAgr f).banked = d.banked := Dev.mk_banked ..
@[simp] theorem Dev.updAgr_mem (f : Agree → Agree) : (d.updAgr f).mem = d.mem := Dev.mk_mem ..
@[simp] theorem Dev.updAgr_codes (f : Agree → Agree) : (d.updAgr f).codes = d.codes := Dev.mk_codes ..
@[simp] theorem Dev.updAgr_freeCtr (f : Agree → Agree) : (d.updAgr f).freeCtr = d.freeCtr := Dev.mk_freeCtr ..
@[simp] theorem Dev.updAgr_time (f : Agree → Agree) : (d.updAgr f).time = d.time := Dev.mk_time ..
@[simp] theorem Dev.updAgr_phase (f : Agree → Agree) : (d.updAgr f).phase = d.phase := Dev.mk_phase ..
@[simp] theorem Dev.updAgr_phaseDue (f : Agree → Agree) : (d.updAgr f).phaseDue = d.phaseDue := Dev.mk_phaseDue ..
@[simp] theorem Dev.updAgr_cs (f : Agree → Agree) : (d.updAgr f).cs = d.cs := Dev.mk_cs ..
@[simp] theorem Dev.updAgr_csDue (f : Agree → Agree) : (d.updAgr f).csDue = d.csDue := Dev.mk_csDue ..
@[simp] theorem Dev.updAgr_pendRestart (f : Agree → Agree) : (d.updAgr f).pendRestart = d.pendRestart := Dev.mk_pendRestart ..
@[simp] theorem Dev.updAgr_frames (f : Agree → Agree) : (d.updAgr f).frames = d.frames := Dev.mk_frames ..
@[simp] theorem Dev.updAgr_frnum (f : Agree → Agree) : (d.updAgr f).frnum = d.frnum := Dev.mk_frnum ..
@[simp] theorem Dev.updAgr_tickt (f : Agree → Agree) : (d.updAgr f).tickt = d.tickt := Dev.mk_tickt ..
@[simp] theorem Dev.updAgr_period (f : Agree → Agree) : (d.updAgr f).period = d.period := Dev.mk_period ..
@[simp] theorem Dev.updAgr_ledgerStop (f : Agree → Agree) : (d.updAgr f).ledgerStop = d.ledgerStop := Dev.mk_ledgerStop ..
@[simp] theorem Dev.updAgr_flopp (f : Agree → Agree) : (d.updAgr f).flopp = d.flopp := Dev.mk_flopp ..
@[simp] theorem Dev.updAgr_floppDst (f : Agree → Agree) : (d.updAgr f).floppDst = d.floppDst := Dev.mk_floppDst ..
@[simp] theorem Dev.updAgr_ovl (f : Agree → Agree) : (d.updAgr f).ovl = d.ovl := Dev.mk_ovl ..
@[simp] theorem Dev.updAgr_pages (f : Agree → Agree) : (d.updAgr f).pages = d.pages := Dev.mk_pages ..
@[simp] theorem Dev.updAgr_jrn (f : Agree → Agree) : (d.updAgr f).jrn = d.jrn := Dev.mk_jrn ..
@[simp] theorem Dev.updAgr_jdup (f : Agree → Agree) : (d.updAgr f).jdup = d.jdup := Dev.mk_jdup ..
@[simp] theorem Dev.updAgr_links (f : Agree → Agree) : (d.updAgr f).links = d.links := Dev.mk_links ..
@[simp] theorem Dev.updAgr_cmp (f : Agree → Agree) : (d.updAgr f).cmp = d.cmp := Dev.mk_cmp ..
@[simp] theorem Dev.updAgr_copies (f : Agree → Agree) : (d.updAgr f).copies = d.copies := Dev.mk_copies ..
@[simp] theorem Dev.updAgr_drv (f : Agree → Agree) : (d.updAgr f).drv = d.drv := Dev.mk_drv ..
@[simp] theorem Dev.updAgr_fan (f : Agree → Agree) : (d.updAgr f).fan = d.fan := Dev.mk_fan ..
@[simp] theorem Dev.updAgr_fanOvrDue (f : Agree → Agree) : (d.updAgr f).fanOvrDue = d.fanOvrDue := Dev.mk_fanOvrDue ..
@[simp] theorem Dev.updAgr_fanLoopAt (f : Agree → Agree) : (d.updAgr f).fanLoopAt = d.fanLoopAt := Dev.mk_fanLoopAt ..
@[simp] theorem Dev.updAgr_partAt (f : Agree → Agree) : (d.updAgr f).partAt = d.partAt := Dev.mk_partAt ..
@[simp] theorem Dev.updAgr_gpo (f : Agree → Agree) : (d.updAgr f).gpo = d.gpo := Dev.mk_gpo ..
@[simp] theorem Dev.updAgr_puff (f : Agree → Agree) : (d.updAgr f).puff = d.puff := Dev.mk_puff ..
@[simp] theorem Dev.updAgr_can (f : Agree → Agree) : (d.updAgr f).can = d.can := Dev.mk_can ..
@[simp] theorem Dev.updAgr_ledger (f : Agree → Agree) : (d.updAgr f).ledger = d.ledger := Dev.mk_ledger ..
@[simp] theorem Dev.updAgr_flash (f : Agree → Agree) : (d.updAgr f).flash = d.flash := Dev.mk_flash ..
@[simp] theorem Dev.updAgr_scrubW (f : Agree → Agree) : (d.updAgr f).scrubW = d.scrubW := Dev.mk_scrubW ..
@[simp] theorem Dev.updAgr_refreshW (f : Agree → Agree) : (d.updAgr f).refreshW = d.refreshW := Dev.mk_refreshW ..
@[simp] theorem Dev.updAgr_clk (f : Agree → Agree) : (d.updAgr f).clk = d.clk := Dev.mk_clk ..
@[simp] theorem Dev.updAgr_lp (f : Agree → Agree) : (d.updAgr f).lp = d.lp := Dev.mk_lp ..
@[simp] theorem Dev.updAgr_dbg (f : Agree → Agree) : (d.updAgr f).dbg = d.dbg := Dev.mk_dbg ..
@[simp] theorem Dev.updAgr_jtag (f : Agree → Agree) : (d.updAgr f).jtag = d.jtag := Dev.mk_jtag ..
@[simp] theorem Dev.updAgr_boot (f : Agree → Agree) : (d.updAgr f).boot = d.boot := Dev.mk_boot ..
@[simp] theorem Dev.updAgr_wdCfg (f : Agree → Agree) : (d.updAgr f).wdCfg = d.wdCfg := Dev.mk_wdCfg ..

@[simp] theorem Dev.updJobs_regs (f : List Job → List Job) : (d.updJobs f).regs = d.regs := Dev.mk_regs ..
@[simp] theorem Dev.updJobs_shadow (f : List Job → List Job) : (d.updJobs f).shadow = d.shadow := Dev.mk_shadow ..
@[simp] theorem Dev.updJobs_banked (f : List Job → List Job) : (d.updJobs f).banked = d.banked := Dev.mk_banked ..
@[simp] theorem Dev.updJobs_mem (f : List Job → List Job) : (d.updJobs f).mem = d.mem := Dev.mk_mem ..
@[simp] theorem Dev.updJobs_codes (f : List Job → List Job) : (d.updJobs f).codes = d.codes := Dev.mk_codes ..
@[simp] theorem Dev.updJobs_freeCtr (f : List Job → List Job) : (d.updJobs f).freeCtr = d.freeCtr := Dev.mk_freeCtr ..
@[simp] theorem Dev.updJobs_time (f : List Job → List Job) : (d.updJobs f).time = d.time := Dev.mk_time ..
@[simp] theorem Dev.updJobs_phase (f : List Job → List Job) : (d.updJobs f).phase = d.phase := Dev.mk_phase ..
@[simp] theorem Dev.updJobs_phaseDue (f : List Job → List Job) : (d.updJobs f).phaseDue = d.phaseDue := Dev.mk_phaseDue ..
@[simp] theorem Dev.updJobs_cs (f : List Job → List Job) : (d.updJobs f).cs = d.cs := Dev.mk_cs ..
@[simp] theorem Dev.updJobs_csDue (f : List Job → List Job) : (d.updJobs f).csDue = d.csDue := Dev.mk_csDue ..
@[simp] theorem Dev.updJobs_pendRestart (f : List Job → List Job) : (d.updJobs f).pendRestart = d.pendRestart := Dev.mk_pendRestart ..
@[simp] theorem Dev.updJobs_frames (f : List Job → List Job) : (d.updJobs f).frames = d.frames := Dev.mk_frames ..
@[simp] theorem Dev.updJobs_frnum (f : List Job → List Job) : (d.updJobs f).frnum = d.frnum := Dev.mk_frnum ..
@[simp] theorem Dev.updJobs_tickt (f : List Job → List Job) : (d.updJobs f).tickt = d.tickt := Dev.mk_tickt ..
@[simp] theorem Dev.updJobs_period (f : List Job → List Job) : (d.updJobs f).period = d.period := Dev.mk_period ..
@[simp] theorem Dev.updJobs_ledgerStop (f : List Job → List Job) : (d.updJobs f).ledgerStop = d.ledgerStop := Dev.mk_ledgerStop ..
@[simp] theorem Dev.updJobs_flopp (f : List Job → List Job) : (d.updJobs f).flopp = d.flopp := Dev.mk_flopp ..
@[simp] theorem Dev.updJobs_floppDst (f : List Job → List Job) : (d.updJobs f).floppDst = d.floppDst := Dev.mk_floppDst ..
@[simp] theorem Dev.updJobs_ovl (f : List Job → List Job) : (d.updJobs f).ovl = d.ovl := Dev.mk_ovl ..
@[simp] theorem Dev.updJobs_pages (f : List Job → List Job) : (d.updJobs f).pages = d.pages := Dev.mk_pages ..
@[simp] theorem Dev.updJobs_jrn (f : List Job → List Job) : (d.updJobs f).jrn = d.jrn := Dev.mk_jrn ..
@[simp] theorem Dev.updJobs_jdup (f : List Job → List Job) : (d.updJobs f).jdup = d.jdup := Dev.mk_jdup ..
@[simp] theorem Dev.updJobs_links (f : List Job → List Job) : (d.updJobs f).links = d.links := Dev.mk_links ..
@[simp] theorem Dev.updJobs_cmp (f : List Job → List Job) : (d.updJobs f).cmp = d.cmp := Dev.mk_cmp ..
@[simp] theorem Dev.updJobs_agr (f : List Job → List Job) : (d.updJobs f).agr = d.agr := Dev.mk_agr ..
@[simp] theorem Dev.updJobs_copies (f : List Job → List Job) : (d.updJobs f).copies = d.copies := Dev.mk_copies ..
@[simp] theorem Dev.updJobs_drv (f : List Job → List Job) : (d.updJobs f).drv = d.drv := Dev.mk_drv ..
@[simp] theorem Dev.updJobs_fan (f : List Job → List Job) : (d.updJobs f).fan = d.fan := Dev.mk_fan ..
@[simp] theorem Dev.updJobs_fanOvrDue (f : List Job → List Job) : (d.updJobs f).fanOvrDue = d.fanOvrDue := Dev.mk_fanOvrDue ..
@[simp] theorem Dev.updJobs_fanLoopAt (f : List Job → List Job) : (d.updJobs f).fanLoopAt = d.fanLoopAt := Dev.mk_fanLoopAt ..
@[simp] theorem Dev.updJobs_partAt (f : List Job → List Job) : (d.updJobs f).partAt = d.partAt := Dev.mk_partAt ..
@[simp] theorem Dev.updJobs_gpo (f : List Job → List Job) : (d.updJobs f).gpo = d.gpo := Dev.mk_gpo ..
@[simp] theorem Dev.updJobs_puff (f : List Job → List Job) : (d.updJobs f).puff = d.puff := Dev.mk_puff ..
@[simp] theorem Dev.updJobs_can (f : List Job → List Job) : (d.updJobs f).can = d.can := Dev.mk_can ..
@[simp] theorem Dev.updJobs_flash (f : List Job → List Job) : (d.updJobs f).flash = d.flash := Dev.mk_flash ..
@[simp] theorem Dev.updJobs_scrubW (f : List Job → List Job) : (d.updJobs f).scrubW = d.scrubW := Dev.mk_scrubW ..
@[simp] theorem Dev.updJobs_refreshW (f : List Job → List Job) : (d.updJobs f).refreshW = d.refreshW := Dev.mk_refreshW ..
@[simp] theorem Dev.updJobs_clk (f : List Job → List Job) : (d.updJobs f).clk = d.clk := Dev.mk_clk ..
@[simp] theorem Dev.updJobs_lp (f : List Job → List Job) : (d.updJobs f).lp = d.lp := Dev.mk_lp ..
@[simp] theorem Dev.updJobs_dbg (f : List Job → List Job) : (d.updJobs f).dbg = d.dbg := Dev.mk_dbg ..
@[simp] theorem Dev.updJobs_jtag (f : List Job → List Job) : (d.updJobs f).jtag = d.jtag := Dev.mk_jtag ..
@[simp] theorem Dev.updJobs_boot (f : List Job → List Job) : (d.updJobs f).boot = d.boot := Dev.mk_boot ..
@[simp] theorem Dev.updJobs_wdCfg (f : List Job → List Job) : (d.updJobs f).wdCfg = d.wdCfg := Dev.mk_wdCfg ..

@[simp] theorem Dev.updJtag_regs (f : Jtag → Jtag) : (d.updJtag f).regs = d.regs := Dev.mk_regs ..
@[simp] theorem Dev.updJtag_shadow (f : Jtag → Jtag) : (d.updJtag f).shadow = d.shadow := Dev.mk_shadow ..
@[simp] theorem Dev.updJtag_banked (f : Jtag → Jtag) : (d.updJtag f).banked = d.banked := Dev.mk_banked ..
@[simp] theorem Dev.updJtag_mem (f : Jtag → Jtag) : (d.updJtag f).mem = d.mem := Dev.mk_mem ..
@[simp] theorem Dev.updJtag_codes (f : Jtag → Jtag) : (d.updJtag f).codes = d.codes := Dev.mk_codes ..
@[simp] theorem Dev.updJtag_freeCtr (f : Jtag → Jtag) : (d.updJtag f).freeCtr = d.freeCtr := Dev.mk_freeCtr ..
@[simp] theorem Dev.updJtag_time (f : Jtag → Jtag) : (d.updJtag f).time = d.time := Dev.mk_time ..
@[simp] theorem Dev.updJtag_phase (f : Jtag → Jtag) : (d.updJtag f).phase = d.phase := Dev.mk_phase ..
@[simp] theorem Dev.updJtag_phaseDue (f : Jtag → Jtag) : (d.updJtag f).phaseDue = d.phaseDue := Dev.mk_phaseDue ..
@[simp] theorem Dev.updJtag_cs (f : Jtag → Jtag) : (d.updJtag f).cs = d.cs := Dev.mk_cs ..
@[simp] theorem Dev.updJtag_csDue (f : Jtag → Jtag) : (d.updJtag f).csDue = d.csDue := Dev.mk_csDue ..
@[simp] theorem Dev.updJtag_pendRestart (f : Jtag → Jtag) : (d.updJtag f).pendRestart = d.pendRestart := Dev.mk_pendRestart ..
@[simp] theorem Dev.updJtag_frames (f : Jtag → Jtag) : (d.updJtag f).frames = d.frames := Dev.mk_frames ..
@[simp] theorem Dev.updJtag_frnum (f : Jtag → Jtag) : (d.updJtag f).frnum = d.frnum := Dev.mk_frnum ..
@[simp] theorem Dev.updJtag_tickt (f : Jtag → Jtag) : (d.updJtag f).tickt = d.tickt := Dev.mk_tickt ..
@[simp] theorem Dev.updJtag_period (f : Jtag → Jtag) : (d.updJtag f).period = d.period := Dev.mk_period ..
@[simp] theorem Dev.updJtag_ledgerStop (f : Jtag → Jtag) : (d.updJtag f).ledgerStop = d.ledgerStop := Dev.mk_ledgerStop ..
@[simp] theorem Dev.updJtag_flopp (f : Jtag → Jtag) : (d.updJtag f).flopp = d.flopp := Dev.mk_flopp ..
@[simp] theorem Dev.updJtag_floppDst (f : Jtag → Jtag) : (d.updJtag f).floppDst = d.floppDst := Dev.mk_floppDst ..
@[simp] theorem Dev.updJtag_ovl (f : Jtag → Jtag) : (d.updJtag f).ovl = d.ovl := Dev.mk_ovl ..
@[simp] theorem Dev.updJtag_pages (f : Jtag → Jtag) : (d.updJtag f).pages = d.pages := Dev.mk_pages ..
@[simp] theorem Dev.updJtag_jrn (f : Jtag → Jtag) : (d.updJtag f).jrn = d.jrn := Dev.mk_jrn ..
@[simp] theorem Dev.updJtag_jdup (f : Jtag → Jtag) : (d.updJtag f).jdup = d.jdup := Dev.mk_jdup ..
@[simp] theorem Dev.updJtag_links (f : Jtag → Jtag) : (d.updJtag f).links = d.links := Dev.mk_links ..
@[simp] theorem Dev.updJtag_cmp (f : Jtag → Jtag) : (d.updJtag f).cmp = d.cmp := Dev.mk_cmp ..
@[simp] theorem Dev.updJtag_agr (f : Jtag → Jtag) : (d.updJtag f).agr = d.agr := Dev.mk_agr ..
@[simp] theorem Dev.updJtag_copies (f : Jtag → Jtag) : (d.updJtag f).copies = d.copies := Dev.mk_copies ..
@[simp] theorem Dev.updJtag_drv (f : Jtag → Jtag) : (d.updJtag f).drv = d.drv := Dev.mk_drv ..
@[simp] theorem Dev.updJtag_fan (f : Jtag → Jtag) : (d.updJtag f).fan = d.fan := Dev.mk_fan ..
@[simp] theorem Dev.updJtag_fanOvrDue (f : Jtag → Jtag) : (d.updJtag f).fanOvrDue = d.fanOvrDue := Dev.mk_fanOvrDue ..
@[simp] theorem Dev.updJtag_fanLoopAt (f : Jtag → Jtag) : (d.updJtag f).fanLoopAt = d.fanLoopAt := Dev.mk_fanLoopAt ..
@[simp] theorem Dev.updJtag_partAt (f : Jtag → Jtag) : (d.updJtag f).partAt = d.partAt := Dev.mk_partAt ..
@[simp] theorem Dev.updJtag_gpo (f : Jtag → Jtag) : (d.updJtag f).gpo = d.gpo := Dev.mk_gpo ..
@[simp] theorem Dev.updJtag_puff (f : Jtag → Jtag) : (d.updJtag f).puff = d.puff := Dev.mk_puff ..
@[simp] theorem Dev.updJtag_can (f : Jtag → Jtag) : (d.updJtag f).can = d.can := Dev.mk_can ..
@[simp] theorem Dev.updJtag_ledger (f : Jtag → Jtag) : (d.updJtag f).ledger = d.ledger := Dev.mk_ledger ..
@[simp] theorem Dev.updJtag_flash (f : Jtag → Jtag) : (d.updJtag f).flash = d.flash := Dev.mk_flash ..
@[simp] theorem Dev.updJtag_scrubW (f : Jtag → Jtag) : (d.updJtag f).scrubW = d.scrubW := Dev.mk_scrubW ..
@[simp] theorem Dev.updJtag_refreshW (f : Jtag → Jtag) : (d.updJtag f).refreshW = d.refreshW := Dev.mk_refreshW ..
@[simp] theorem Dev.updJtag_clk (f : Jtag → Jtag) : (d.updJtag f).clk = d.clk := Dev.mk_clk ..
@[simp] theorem Dev.updJtag_lp (f : Jtag → Jtag) : (d.updJtag f).lp = d.lp := Dev.mk_lp ..
@[simp] theorem Dev.updJtag_dbg (f : Jtag → Jtag) : (d.updJtag f).dbg = d.dbg := Dev.mk_dbg ..
@[simp] theorem Dev.updJtag_boot (f : Jtag → Jtag) : (d.updJtag f).boot = d.boot := Dev.mk_boot ..
@[simp] theorem Dev.updJtag_wdCfg (f : Jtag → Jtag) : (d.updJtag f).wdCfg = d.wdCfg := Dev.mk_wdCfg ..

@[simp] theorem Dev.setByte_regs (a : Nat) (b : Byte) : (d.setByte a b).regs = d.regs := Dev.mk_regs ..
@[simp] theorem Dev.setByte_shadow (a : Nat) (b : Byte) : (d.setByte a b).shadow = d.shadow := Dev.mk_shadow ..
@[simp] theorem Dev.setByte_banked (a : Nat) (b : Byte) : (d.setByte a b).banked = d.banked := Dev.mk_banked ..
@[simp] theorem Dev.setByte_codes (a : Nat) (b : Byte) : (d.setByte a b).codes = d.codes := Dev.mk_codes ..
@[simp] theorem Dev.setByte_freeCtr (a : Nat) (b : Byte) : (d.setByte a b).freeCtr = d.freeCtr := Dev.mk_freeCtr ..
@[simp] theorem Dev.setByte_time (a : Nat) (b : Byte) : (d.setByte a b).time = d.time := Dev.mk_time ..
@[simp] theorem Dev.setByte_phase (a : Nat) (b : Byte) : (d.setByte a b).phase = d.phase := Dev.mk_phase ..
@[simp] theorem Dev.setByte_phaseDue (a : Nat) (b : Byte) : (d.setByte a b).phaseDue = d.phaseDue := Dev.mk_phaseDue ..
@[simp] theorem Dev.setByte_cs (a : Nat) (b : Byte) : (d.setByte a b).cs = d.cs := Dev.mk_cs ..
@[simp] theorem Dev.setByte_csDue (a : Nat) (b : Byte) : (d.setByte a b).csDue = d.csDue := Dev.mk_csDue ..
@[simp] theorem Dev.setByte_pendRestart (a : Nat) (b : Byte) : (d.setByte a b).pendRestart = d.pendRestart := Dev.mk_pendRestart ..
@[simp] theorem Dev.setByte_frames (a : Nat) (b : Byte) : (d.setByte a b).frames = d.frames := Dev.mk_frames ..
@[simp] theorem Dev.setByte_frnum (a : Nat) (b : Byte) : (d.setByte a b).frnum = d.frnum := Dev.mk_frnum ..
@[simp] theorem Dev.setByte_tickt (a : Nat) (b : Byte) : (d.setByte a b).tickt = d.tickt := Dev.mk_tickt ..
@[simp] theorem Dev.setByte_period (a : Nat) (b : Byte) : (d.setByte a b).period = d.period := Dev.mk_period ..
@[simp] theorem Dev.setByte_ledgerStop (a : Nat) (b : Byte) : (d.setByte a b).ledgerStop = d.ledgerStop := Dev.mk_ledgerStop ..
@[simp] theorem Dev.setByte_flopp (a : Nat) (b : Byte) : (d.setByte a b).flopp = d.flopp := Dev.mk_flopp ..
@[simp] theorem Dev.setByte_floppDst (a : Nat) (b : Byte) : (d.setByte a b).floppDst = d.floppDst := Dev.mk_floppDst ..
@[simp] theorem Dev.setByte_ovl (a : Nat) (b : Byte) : (d.setByte a b).ovl = d.ovl := Dev.mk_ovl ..
@[simp] theorem Dev.setByte_pages (a : Nat) (b : Byte) : (d.setByte a b).pages = d.pages := Dev.mk_pages ..
@[simp] theorem Dev.setByte_jrn (a : Nat) (b : Byte) : (d.setByte a b).jrn = d.jrn := Dev.mk_jrn ..
@[simp] theorem Dev.setByte_jdup (a : Nat) (b : Byte) : (d.setByte a b).jdup = d.jdup := Dev.mk_jdup ..
@[simp] theorem Dev.setByte_links (a : Nat) (b : Byte) : (d.setByte a b).links = d.links := Dev.mk_links ..
@[simp] theorem Dev.setByte_cmp (a : Nat) (b : Byte) : (d.setByte a b).cmp = d.cmp := Dev.mk_cmp ..
@[simp] theorem Dev.setByte_agr (a : Nat) (b : Byte) : (d.setByte a b).agr = d.agr := Dev.mk_agr ..
@[simp] theorem Dev.setByte_copies (a : Nat) (b : Byte) : (d.setByte a b).copies = d.copies := Dev.mk_copies ..
@[simp] theorem Dev.setByte_drv (a : Nat) (b : Byte) : (d.setByte a b).drv = d.drv := Dev.mk_drv ..
@[simp] theorem Dev.setByte_fan (a : Nat) (b : Byte) : (d.setByte a b).fan = d.fan := Dev.mk_fan ..
@[simp] theorem Dev.setByte_fanOvrDue (a : Nat) (b : Byte) : (d.setByte a b).fanOvrDue = d.fanOvrDue := Dev.mk_fanOvrDue ..
@[simp] theorem Dev.setByte_fanLoopAt (a : Nat) (b : Byte) : (d.setByte a b).fanLoopAt = d.fanLoopAt := Dev.mk_fanLoopAt ..
@[simp] theorem Dev.setByte_partAt (a : Nat) (b : Byte) : (d.setByte a b).partAt = d.partAt := Dev.mk_partAt ..
@[simp] theorem Dev.setByte_gpo (a : Nat) (b : Byte) : (d.setByte a b).gpo = d.gpo := Dev.mk_gpo ..
@[simp] theorem Dev.setByte_puff (a : Nat) (b : Byte) : (d.setByte a b).puff = d.puff := Dev.mk_puff ..
@[simp] theorem Dev.setByte_can (a : Nat) (b : Byte) : (d.setByte a b).can = d.can := Dev.mk_can ..
@[simp] theorem Dev.setByte_ledger (a : Nat) (b : Byte) : (d.setByte a b).ledger = d.ledger := Dev.mk_ledger ..
@[simp] theorem Dev.setByte_flash (a : Nat) (b : Byte) : (d.setByte a b).flash = d.flash := Dev.mk_flash ..
@[simp] theorem Dev.setByte_scrubW (a : Nat) (b : Byte) : (d.setByte a b).scrubW = d.scrubW := Dev.mk_scrubW ..
@[simp] theorem Dev.setByte_refreshW (a : Nat) (b : Byte) : (d.setByte a b).refreshW = d.refreshW := Dev.mk_refreshW ..
@[simp] theorem Dev.setByte_clk (a : Nat) (b : Byte) : (d.setByte a b).clk = d.clk := Dev.mk_clk ..
@[simp] theorem Dev.setByte_lp (a : Nat) (b : Byte) : (d.setByte a b).lp = d.lp := Dev.mk_lp ..
@[simp] theorem Dev.setByte_dbg (a : Nat) (b : Byte) : (d.setByte a b).dbg = d.dbg := Dev.mk_dbg ..
@[simp] theorem Dev.setByte_jtag (a : Nat) (b : Byte) : (d.setByte a b).jtag = d.jtag := Dev.mk_jtag ..
@[simp] theorem Dev.setByte_boot (a : Nat) (b : Byte) : (d.setByte a b).boot = d.boot := Dev.mk_boot ..
@[simp] theorem Dev.setByte_wdCfg (a : Nat) (b : Byte) : (d.setByte a b).wdCfg = d.wdCfg := Dev.mk_wdCfg ..

@[simp] theorem Dev.setCode_regs (a : Nat) (c : BitVec 8) : (d.setCode a c).regs = d.regs := Dev.mk_regs ..
@[simp] theorem Dev.setCode_shadow (a : Nat) (c : BitVec 8) : (d.setCode a c).shadow = d.shadow := Dev.mk_shadow ..
@[simp] theorem Dev.setCode_banked (a : Nat) (c : BitVec 8) : (d.setCode a c).banked = d.banked := Dev.mk_banked ..
@[simp] theorem Dev.setCode_mem (a : Nat) (c : BitVec 8) : (d.setCode a c).mem = d.mem := Dev.mk_mem ..
@[simp] theorem Dev.setCode_freeCtr (a : Nat) (c : BitVec 8) : (d.setCode a c).freeCtr = d.freeCtr := Dev.mk_freeCtr ..
@[simp] theorem Dev.setCode_time (a : Nat) (c : BitVec 8) : (d.setCode a c).time = d.time := Dev.mk_time ..
@[simp] theorem Dev.setCode_phase (a : Nat) (c : BitVec 8) : (d.setCode a c).phase = d.phase := Dev.mk_phase ..
@[simp] theorem Dev.setCode_phaseDue (a : Nat) (c : BitVec 8) : (d.setCode a c).phaseDue = d.phaseDue := Dev.mk_phaseDue ..
@[simp] theorem Dev.setCode_cs (a : Nat) (c : BitVec 8) : (d.setCode a c).cs = d.cs := Dev.mk_cs ..
@[simp] theorem Dev.setCode_csDue (a : Nat) (c : BitVec 8) : (d.setCode a c).csDue = d.csDue := Dev.mk_csDue ..
@[simp] theorem Dev.setCode_pendRestart (a : Nat) (c : BitVec 8) : (d.setCode a c).pendRestart = d.pendRestart := Dev.mk_pendRestart ..
@[simp] theorem Dev.setCode_frames (a : Nat) (c : BitVec 8) : (d.setCode a c).frames = d.frames := Dev.mk_frames ..
@[simp] theorem Dev.setCode_frnum (a : Nat) (c : BitVec 8) : (d.setCode a c).frnum = d.frnum := Dev.mk_frnum ..
@[simp] theorem Dev.setCode_tickt (a : Nat) (c : BitVec 8) : (d.setCode a c).tickt = d.tickt := Dev.mk_tickt ..
@[simp] theorem Dev.setCode_period (a : Nat) (c : BitVec 8) : (d.setCode a c).period = d.period := Dev.mk_period ..
@[simp] theorem Dev.setCode_ledgerStop (a : Nat) (c : BitVec 8) : (d.setCode a c).ledgerStop = d.ledgerStop := Dev.mk_ledgerStop ..
@[simp] theorem Dev.setCode_flopp (a : Nat) (c : BitVec 8) : (d.setCode a c).flopp = d.flopp := Dev.mk_flopp ..
@[simp] theorem Dev.setCode_floppDst (a : Nat) (c : BitVec 8) : (d.setCode a c).floppDst = d.floppDst := Dev.mk_floppDst ..
@[simp] theorem Dev.setCode_ovl (a : Nat) (c : BitVec 8) : (d.setCode a c).ovl = d.ovl := Dev.mk_ovl ..
@[simp] theorem Dev.setCode_pages (a : Nat) (c : BitVec 8) : (d.setCode a c).pages = d.pages := Dev.mk_pages ..
@[simp] theorem Dev.setCode_jrn (a : Nat) (c : BitVec 8) : (d.setCode a c).jrn = d.jrn := Dev.mk_jrn ..
@[simp] theorem Dev.setCode_jdup (a : Nat) (c : BitVec 8) : (d.setCode a c).jdup = d.jdup := Dev.mk_jdup ..
@[simp] theorem Dev.setCode_links (a : Nat) (c : BitVec 8) : (d.setCode a c).links = d.links := Dev.mk_links ..
@[simp] theorem Dev.setCode_cmp (a : Nat) (c : BitVec 8) : (d.setCode a c).cmp = d.cmp := Dev.mk_cmp ..
@[simp] theorem Dev.setCode_agr (a : Nat) (c : BitVec 8) : (d.setCode a c).agr = d.agr := Dev.mk_agr ..
@[simp] theorem Dev.setCode_copies (a : Nat) (c : BitVec 8) : (d.setCode a c).copies = d.copies := Dev.mk_copies ..
@[simp] theorem Dev.setCode_drv (a : Nat) (c : BitVec 8) : (d.setCode a c).drv = d.drv := Dev.mk_drv ..
@[simp] theorem Dev.setCode_fan (a : Nat) (c : BitVec 8) : (d.setCode a c).fan = d.fan := Dev.mk_fan ..
@[simp] theorem Dev.setCode_fanOvrDue (a : Nat) (c : BitVec 8) : (d.setCode a c).fanOvrDue = d.fanOvrDue := Dev.mk_fanOvrDue ..
@[simp] theorem Dev.setCode_fanLoopAt (a : Nat) (c : BitVec 8) : (d.setCode a c).fanLoopAt = d.fanLoopAt := Dev.mk_fanLoopAt ..
@[simp] theorem Dev.setCode_partAt (a : Nat) (c : BitVec 8) : (d.setCode a c).partAt = d.partAt := Dev.mk_partAt ..
@[simp] theorem Dev.setCode_gpo (a : Nat) (c : BitVec 8) : (d.setCode a c).gpo = d.gpo := Dev.mk_gpo ..
@[simp] theorem Dev.setCode_puff (a : Nat) (c : BitVec 8) : (d.setCode a c).puff = d.puff := Dev.mk_puff ..
@[simp] theorem Dev.setCode_can (a : Nat) (c : BitVec 8) : (d.setCode a c).can = d.can := Dev.mk_can ..
@[simp] theorem Dev.setCode_ledger (a : Nat) (c : BitVec 8) : (d.setCode a c).ledger = d.ledger := Dev.mk_ledger ..
@[simp] theorem Dev.setCode_flash (a : Nat) (c : BitVec 8) : (d.setCode a c).flash = d.flash := Dev.mk_flash ..
@[simp] theorem Dev.setCode_scrubW (a : Nat) (c : BitVec 8) : (d.setCode a c).scrubW = d.scrubW := Dev.mk_scrubW ..
@[simp] theorem Dev.setCode_refreshW (a : Nat) (c : BitVec 8) : (d.setCode a c).refreshW = d.refreshW := Dev.mk_refreshW ..
@[simp] theorem Dev.setCode_clk (a : Nat) (c : BitVec 8) : (d.setCode a c).clk = d.clk := Dev.mk_clk ..
@[simp] theorem Dev.setCode_lp (a : Nat) (c : BitVec 8) : (d.setCode a c).lp = d.lp := Dev.mk_lp ..
@[simp] theorem Dev.setCode_dbg (a : Nat) (c : BitVec 8) : (d.setCode a c).dbg = d.dbg := Dev.mk_dbg ..
@[simp] theorem Dev.setCode_jtag (a : Nat) (c : BitVec 8) : (d.setCode a c).jtag = d.jtag := Dev.mk_jtag ..
@[simp] theorem Dev.setCode_boot (a : Nat) (c : BitVec 8) : (d.setCode a c).boot = d.boot := Dev.mk_boot ..
@[simp] theorem Dev.setCode_wdCfg (a : Nat) (c : BitVec 8) : (d.setCode a c).wdCfg = d.wdCfg := Dev.mk_wdCfg ..

@[simp] theorem Dev.ovlPut_regs (g : Nat) (x : Nat × Nat × Nat) : (d.ovlPut g x).regs = d.regs := Dev.mk_regs ..
@[simp] theorem Dev.ovlPut_shadow (g : Nat) (x : Nat × Nat × Nat) : (d.ovlPut g x).shadow = d.shadow := Dev.mk_shadow ..
@[simp] theorem Dev.ovlPut_banked (g : Nat) (x : Nat × Nat × Nat) : (d.ovlPut g x).banked = d.banked := Dev.mk_banked ..
@[simp] theorem Dev.ovlPut_mem (g : Nat) (x : Nat × Nat × Nat) : (d.ovlPut g x).mem = d.mem := Dev.mk_mem ..
@[simp] theorem Dev.ovlPut_codes (g : Nat) (x : Nat × Nat × Nat) : (d.ovlPut g x).codes = d.codes := Dev.mk_codes ..
@[simp] theorem Dev.ovlPut_freeCtr (g : Nat) (x : Nat × Nat × Nat) : (d.ovlPut g x).freeCtr = d.freeCtr := Dev.mk_freeCtr ..
@[simp] theorem Dev.ovlPut_time (g : Nat) (x : Nat × Nat × Nat) : (d.ovlPut g x).time = d.time := Dev.mk_time ..
@[simp] theorem Dev.ovlPut_phase (g : Nat) (x : Nat × Nat × Nat) : (d.ovlPut g x).phase = d.phase := Dev.mk_phase ..
@[simp] theorem Dev.ovlPut_phaseDue (g : Nat) (x : Nat × Nat × Nat) : (d.ovlPut g x).phaseDue = d.phaseDue := Dev.mk_phaseDue ..
@[simp] theorem Dev.ovlPut_cs (g : Nat) (x : Nat × Nat × Nat) : (d.ovlPut g x).cs = d.cs := Dev.mk_cs ..
@[simp] theorem Dev.ovlPut_csDue (g : Nat) (x : Nat × Nat × Nat) : (d.ovlPut g x).csDue = d.csDue := Dev.mk_csDue ..
@[simp] theorem Dev.ovlPut_pendRestart (g : Nat) (x : Nat × Nat × Nat) : (d.ovlPut g x).pendRestart = d.pendRestart := Dev.mk_pendRestart ..
@[simp] theorem Dev.ovlPut_frames (g : Nat) (x : Nat × Nat × Nat) : (d.ovlPut g x).frames = d.frames := Dev.mk_frames ..
@[simp] theorem Dev.ovlPut_frnum (g : Nat) (x : Nat × Nat × Nat) : (d.ovlPut g x).frnum = d.frnum := Dev.mk_frnum ..
@[simp] theorem Dev.ovlPut_tickt (g : Nat) (x : Nat × Nat × Nat) : (d.ovlPut g x).tickt = d.tickt := Dev.mk_tickt ..
@[simp] theorem Dev.ovlPut_period (g : Nat) (x : Nat × Nat × Nat) : (d.ovlPut g x).period = d.period := Dev.mk_period ..
@[simp] theorem Dev.ovlPut_ledgerStop (g : Nat) (x : Nat × Nat × Nat) : (d.ovlPut g x).ledgerStop = d.ledgerStop := Dev.mk_ledgerStop ..
@[simp] theorem Dev.ovlPut_flopp (g : Nat) (x : Nat × Nat × Nat) : (d.ovlPut g x).flopp = d.flopp := Dev.mk_flopp ..
@[simp] theorem Dev.ovlPut_floppDst (g : Nat) (x : Nat × Nat × Nat) : (d.ovlPut g x).floppDst = d.floppDst := Dev.mk_floppDst ..
@[simp] theorem Dev.ovlPut_pages (g : Nat) (x : Nat × Nat × Nat) : (d.ovlPut g x).pages = d.pages := Dev.mk_pages ..
@[simp] theorem Dev.ovlPut_jrn (g : Nat) (x : Nat × Nat × Nat) : (d.ovlPut g x).jrn = d.jrn := Dev.mk_jrn ..
@[simp] theorem Dev.ovlPut_jdup (g : Nat) (x : Nat × Nat × Nat) : (d.ovlPut g x).jdup = d.jdup := Dev.mk_jdup ..
@[simp] theorem Dev.ovlPut_links (g : Nat) (x : Nat × Nat × Nat) : (d.ovlPut g x).links = d.links := Dev.mk_links ..
@[simp] theorem Dev.ovlPut_cmp (g : Nat) (x : Nat × Nat × Nat) : (d.ovlPut g x).cmp = d.cmp := Dev.mk_cmp ..
@[simp] theorem Dev.ovlPut_agr (g : Nat) (x : Nat × Nat × Nat) : (d.ovlPut g x).agr = d.agr := Dev.mk_agr ..
@[simp] theorem Dev.ovlPut_copies (g : Nat) (x : Nat × Nat × Nat) : (d.ovlPut g x).copies = d.copies := Dev.mk_copies ..
@[simp] theorem Dev.ovlPut_drv (g : Nat) (x : Nat × Nat × Nat) : (d.ovlPut g x).drv = d.drv := Dev.mk_drv ..
@[simp] theorem Dev.ovlPut_fan (g : Nat) (x : Nat × Nat × Nat) : (d.ovlPut g x).fan = d.fan := Dev.mk_fan ..
@[simp] theorem Dev.ovlPut_fanOvrDue (g : Nat) (x : Nat × Nat × Nat) : (d.ovlPut g x).fanOvrDue = d.fanOvrDue := Dev.mk_fanOvrDue ..
@[simp] theorem Dev.ovlPut_fanLoopAt (g : Nat) (x : Nat × Nat × Nat) : (d.ovlPut g x).fanLoopAt = d.fanLoopAt := Dev.mk_fanLoopAt ..
@[simp] theorem Dev.ovlPut_partAt (g : Nat) (x : Nat × Nat × Nat) : (d.ovlPut g x).partAt = d.partAt := Dev.mk_partAt ..
@[simp] theorem Dev.ovlPut_gpo (g : Nat) (x : Nat × Nat × Nat) : (d.ovlPut g x).gpo = d.gpo := Dev.mk_gpo ..
@[simp] theorem Dev.ovlPut_puff (g : Nat) (x : Nat × Nat × Nat) : (d.ovlPut g x).puff = d.puff := Dev.mk_puff ..
@[simp] theorem Dev.ovlPut_can (g : Nat) (x : Nat × Nat × Nat) : (d.ovlPut g x).can = d.can := Dev.mk_can ..
@[simp] theorem Dev.ovlPut_ledger (g : Nat) (x : Nat × Nat × Nat) : (d.ovlPut g x).ledger = d.ledger := Dev.mk_ledger ..
@[simp] theorem Dev.ovlPut_flash (g : Nat) (x : Nat × Nat × Nat) : (d.ovlPut g x).flash = d.flash := Dev.mk_flash ..
@[simp] theorem Dev.ovlPut_scrubW (g : Nat) (x : Nat × Nat × Nat) : (d.ovlPut g x).scrubW = d.scrubW := Dev.mk_scrubW ..
@[simp] theorem Dev.ovlPut_refreshW (g : Nat) (x : Nat × Nat × Nat) : (d.ovlPut g x).refreshW = d.refreshW := Dev.mk_refreshW ..
@[simp] theorem Dev.ovlPut_clk (g : Nat) (x : Nat × Nat × Nat) : (d.ovlPut g x).clk = d.clk := Dev.mk_clk ..
@[simp] theorem Dev.ovlPut_lp (g : Nat) (x : Nat × Nat × Nat) : (d.ovlPut g x).lp = d.lp := Dev.mk_lp ..
@[simp] theorem Dev.ovlPut_dbg (g : Nat) (x : Nat × Nat × Nat) : (d.ovlPut g x).dbg = d.dbg := Dev.mk_dbg ..
@[simp] theorem Dev.ovlPut_jtag (g : Nat) (x : Nat × Nat × Nat) : (d.ovlPut g x).jtag = d.jtag := Dev.mk_jtag ..
@[simp] theorem Dev.ovlPut_boot (g : Nat) (x : Nat × Nat × Nat) : (d.ovlPut g x).boot = d.boot := Dev.mk_boot ..
@[simp] theorem Dev.ovlPut_wdCfg (g : Nat) (x : Nat × Nat × Nat) : (d.ovlPut g x).wdCfg = d.wdCfg := Dev.mk_wdCfg ..

@[simp] theorem Dev.jAdmit_regs (es : List JEntry) : (d.jAdmit es).regs = d.regs := Dev.mk_regs ..
@[simp] theorem Dev.jAdmit_shadow (es : List JEntry) : (d.jAdmit es).shadow = d.shadow := Dev.mk_shadow ..
@[simp] theorem Dev.jAdmit_banked (es : List JEntry) : (d.jAdmit es).banked = d.banked := Dev.mk_banked ..
@[simp] theorem Dev.jAdmit_mem (es : List JEntry) : (d.jAdmit es).mem = d.mem := Dev.mk_mem ..
@[simp] theorem Dev.jAdmit_codes (es : List JEntry) : (d.jAdmit es).codes = d.codes := Dev.mk_codes ..
@[simp] theorem Dev.jAdmit_freeCtr (es : List JEntry) : (d.jAdmit es).freeCtr = d.freeCtr := Dev.mk_freeCtr ..
@[simp] theorem Dev.jAdmit_time (es : List JEntry) : (d.jAdmit es).time = d.time := Dev.mk_time ..
@[simp] theorem Dev.jAdmit_phase (es : List JEntry) : (d.jAdmit es).phase = d.phase := Dev.mk_phase ..
@[simp] theorem Dev.jAdmit_phaseDue (es : List JEntry) : (d.jAdmit es).phaseDue = d.phaseDue := Dev.mk_phaseDue ..
@[simp] theorem Dev.jAdmit_cs (es : List JEntry) : (d.jAdmit es).cs = d.cs := Dev.mk_cs ..
@[simp] theorem Dev.jAdmit_csDue (es : List JEntry) : (d.jAdmit es).csDue = d.csDue := Dev.mk_csDue ..
@[simp] theorem Dev.jAdmit_pendRestart (es : List JEntry) : (d.jAdmit es).pendRestart = d.pendRestart := Dev.mk_pendRestart ..
@[simp] theorem Dev.jAdmit_frames (es : List JEntry) : (d.jAdmit es).frames = d.frames := Dev.mk_frames ..
@[simp] theorem Dev.jAdmit_frnum (es : List JEntry) : (d.jAdmit es).frnum = d.frnum := Dev.mk_frnum ..
@[simp] theorem Dev.jAdmit_tickt (es : List JEntry) : (d.jAdmit es).tickt = d.tickt := Dev.mk_tickt ..
@[simp] theorem Dev.jAdmit_period (es : List JEntry) : (d.jAdmit es).period = d.period := Dev.mk_period ..
@[simp] theorem Dev.jAdmit_ledgerStop (es : List JEntry) : (d.jAdmit es).ledgerStop = d.ledgerStop := Dev.mk_ledgerStop ..
@[simp] theorem Dev.jAdmit_flopp (es : List JEntry) : (d.jAdmit es).flopp = d.flopp := Dev.mk_flopp ..
@[simp] theorem Dev.jAdmit_floppDst (es : List JEntry) : (d.jAdmit es).floppDst = d.floppDst := Dev.mk_floppDst ..
@[simp] theorem Dev.jAdmit_ovl (es : List JEntry) : (d.jAdmit es).ovl = d.ovl := Dev.mk_ovl ..
@[simp] theorem Dev.jAdmit_pages (es : List JEntry) : (d.jAdmit es).pages = d.pages := Dev.mk_pages ..
@[simp] theorem Dev.jAdmit_jdup (es : List JEntry) : (d.jAdmit es).jdup = d.jdup := Dev.mk_jdup ..
@[simp] theorem Dev.jAdmit_links (es : List JEntry) : (d.jAdmit es).links = d.links := Dev.mk_links ..
@[simp] theorem Dev.jAdmit_cmp (es : List JEntry) : (d.jAdmit es).cmp = d.cmp := Dev.mk_cmp ..
@[simp] theorem Dev.jAdmit_agr (es : List JEntry) : (d.jAdmit es).agr = d.agr := Dev.mk_agr ..
@[simp] theorem Dev.jAdmit_copies (es : List JEntry) : (d.jAdmit es).copies = d.copies := Dev.mk_copies ..
@[simp] theorem Dev.jAdmit_drv (es : List JEntry) : (d.jAdmit es).drv = d.drv := Dev.mk_drv ..
@[simp] theorem Dev.jAdmit_fan (es : List JEntry) : (d.jAdmit es).fan = d.fan := Dev.mk_fan ..
@[simp] theorem Dev.jAdmit_fanOvrDue (es : List JEntry) : (d.jAdmit es).fanOvrDue = d.fanOvrDue := Dev.mk_fanOvrDue ..
@[simp] theorem Dev.jAdmit_fanLoopAt (es : List JEntry) : (d.jAdmit es).fanLoopAt = d.fanLoopAt := Dev.mk_fanLoopAt ..
@[simp] theorem Dev.jAdmit_partAt (es : List JEntry) : (d.jAdmit es).partAt = d.partAt := Dev.mk_partAt ..
@[simp] theorem Dev.jAdmit_gpo (es : List JEntry) : (d.jAdmit es).gpo = d.gpo := Dev.mk_gpo ..
@[simp] theorem Dev.jAdmit_puff (es : List JEntry) : (d.jAdmit es).puff = d.puff := Dev.mk_puff ..
@[simp] theorem Dev.jAdmit_can (es : List JEntry) : (d.jAdmit es).can = d.can := Dev.mk_can ..
@[simp] theorem Dev.jAdmit_ledger (es : List JEntry) : (d.jAdmit es).ledger = d.ledger := Dev.mk_ledger ..
@[simp] theorem Dev.jAdmit_flash (es : List JEntry) : (d.jAdmit es).flash = d.flash := Dev.mk_flash ..
@[simp] theorem Dev.jAdmit_scrubW (es : List JEntry) : (d.jAdmit es).scrubW = d.scrubW := Dev.mk_scrubW ..
@[simp] theorem Dev.jAdmit_refreshW (es : List JEntry) : (d.jAdmit es).refreshW = d.refreshW := Dev.mk_refreshW ..
@[simp] theorem Dev.jAdmit_clk (es : List JEntry) : (d.jAdmit es).clk = d.clk := Dev.mk_clk ..
@[simp] theorem Dev.jAdmit_lp (es : List JEntry) : (d.jAdmit es).lp = d.lp := Dev.mk_lp ..
@[simp] theorem Dev.jAdmit_dbg (es : List JEntry) : (d.jAdmit es).dbg = d.dbg := Dev.mk_dbg ..
@[simp] theorem Dev.jAdmit_jtag (es : List JEntry) : (d.jAdmit es).jtag = d.jtag := Dev.mk_jtag ..
@[simp] theorem Dev.jAdmit_boot (es : List JEntry) : (d.jAdmit es).boot = d.boot := Dev.mk_boot ..
@[simp] theorem Dev.jAdmit_wdCfg (es : List JEntry) : (d.jAdmit es).wdCfg = d.wdCfg := Dev.mk_wdCfg ..

@[simp] theorem Dev.setFldR_shadow (k hi lo v : Nat) : (d.setFldR k hi lo v).shadow = d.shadow := Dev.setReg_shadow ..
@[simp] theorem Dev.setFldR_banked (k hi lo v : Nat) : (d.setFldR k hi lo v).banked = d.banked := Dev.setReg_banked ..
@[simp] theorem Dev.setFldR_mem (k hi lo v : Nat) : (d.setFldR k hi lo v).mem = d.mem := Dev.setReg_mem ..
@[simp] theorem Dev.setFldR_codes (k hi lo v : Nat) : (d.setFldR k hi lo v).codes = d.codes := Dev.setReg_codes ..
@[simp] theorem Dev.setFldR_freeCtr (k hi lo v : Nat) : (d.setFldR k hi lo v).freeCtr = d.freeCtr := Dev.setReg_freeCtr ..
@[simp] theorem Dev.setFldR_time (k hi lo v : Nat) : (d.setFldR k hi lo v).time = d.time := Dev.setReg_time ..
@[simp] theorem Dev.setFldR_phase (k hi lo v : Nat) : (d.setFldR k hi lo v).phase = d.phase := Dev.setReg_phase ..
@[simp] theorem Dev.setFldR_phaseDue (k hi lo v : Nat) : (d.setFldR k hi lo v).phaseDue = d.phaseDue := Dev.setReg_phaseDue ..
@[simp] theorem Dev.setFldR_cs (k hi lo v : Nat) : (d.setFldR k hi lo v).cs = d.cs := Dev.setReg_cs ..
@[simp] theorem Dev.setFldR_csDue (k hi lo v : Nat) : (d.setFldR k hi lo v).csDue = d.csDue := Dev.setReg_csDue ..
@[simp] theorem Dev.setFldR_pendRestart (k hi lo v : Nat) : (d.setFldR k hi lo v).pendRestart = d.pendRestart := Dev.setReg_pendRestart ..
@[simp] theorem Dev.setFldR_frames (k hi lo v : Nat) : (d.setFldR k hi lo v).frames = d.frames := Dev.setReg_frames ..
@[simp] theorem Dev.setFldR_frnum (k hi lo v : Nat) : (d.setFldR k hi lo v).frnum = d.frnum := Dev.setReg_frnum ..
@[simp] theorem Dev.setFldR_tickt (k hi lo v : Nat) : (d.setFldR k hi lo v).tickt = d.tickt := Dev.setReg_tickt ..
@[simp] theorem Dev.setFldR_period (k hi lo v : Nat) : (d.setFldR k hi lo v).period = d.period := Dev.setReg_period ..
@[simp] theorem Dev.setFldR_ledgerStop (k hi lo v : Nat) : (d.setFldR k hi lo v).ledgerStop = d.ledgerStop := Dev.setReg_ledgerStop ..
@[simp] theorem Dev.setFldR_flopp (k hi lo v : Nat) : (d.setFldR k hi lo v).flopp = d.flopp := Dev.setReg_flopp ..
@[simp] theorem Dev.setFldR_floppDst (k hi lo v : Nat) : (d.setFldR k hi lo v).floppDst = d.floppDst := Dev.setReg_floppDst ..
@[simp] theorem Dev.setFldR_ovl (k hi lo v : Nat) : (d.setFldR k hi lo v).ovl = d.ovl := Dev.setReg_ovl ..
@[simp] theorem Dev.setFldR_pages (k hi lo v : Nat) : (d.setFldR k hi lo v).pages = d.pages := Dev.setReg_pages ..
@[simp] theorem Dev.setFldR_jrn (k hi lo v : Nat) : (d.setFldR k hi lo v).jrn = d.jrn := Dev.setReg_jrn ..
@[simp] theorem Dev.setFldR_jdup (k hi lo v : Nat) : (d.setFldR k hi lo v).jdup = d.jdup := Dev.setReg_jdup ..
@[simp] theorem Dev.setFldR_links (k hi lo v : Nat) : (d.setFldR k hi lo v).links = d.links := Dev.setReg_links ..
@[simp] theorem Dev.setFldR_cmp (k hi lo v : Nat) : (d.setFldR k hi lo v).cmp = d.cmp := Dev.setReg_cmp ..
@[simp] theorem Dev.setFldR_agr (k hi lo v : Nat) : (d.setFldR k hi lo v).agr = d.agr := Dev.setReg_agr ..
@[simp] theorem Dev.setFldR_copies (k hi lo v : Nat) : (d.setFldR k hi lo v).copies = d.copies := Dev.setReg_copies ..
@[simp] theorem Dev.setFldR_drv (k hi lo v : Nat) : (d.setFldR k hi lo v).drv = d.drv := Dev.setReg_drv ..
@[simp] theorem Dev.setFldR_fan (k hi lo v : Nat) : (d.setFldR k hi lo v).fan = d.fan := Dev.setReg_fan ..
@[simp] theorem Dev.setFldR_fanOvrDue (k hi lo v : Nat) : (d.setFldR k hi lo v).fanOvrDue = d.fanOvrDue := Dev.setReg_fanOvrDue ..
@[simp] theorem Dev.setFldR_fanLoopAt (k hi lo v : Nat) : (d.setFldR k hi lo v).fanLoopAt = d.fanLoopAt := Dev.setReg_fanLoopAt ..
@[simp] theorem Dev.setFldR_partAt (k hi lo v : Nat) : (d.setFldR k hi lo v).partAt = d.partAt := Dev.setReg_partAt ..
@[simp] theorem Dev.setFldR_gpo (k hi lo v : Nat) : (d.setFldR k hi lo v).gpo = d.gpo := Dev.setReg_gpo ..
@[simp] theorem Dev.setFldR_puff (k hi lo v : Nat) : (d.setFldR k hi lo v).puff = d.puff := Dev.setReg_puff ..
@[simp] theorem Dev.setFldR_can (k hi lo v : Nat) : (d.setFldR k hi lo v).can = d.can := Dev.setReg_can ..
@[simp] theorem Dev.setFldR_ledger (k hi lo v : Nat) : (d.setFldR k hi lo v).ledger = d.ledger := Dev.setReg_ledger ..
@[simp] theorem Dev.setFldR_flash (k hi lo v : Nat) : (d.setFldR k hi lo v).flash = d.flash := Dev.setReg_flash ..
@[simp] theorem Dev.setFldR_scrubW (k hi lo v : Nat) : (d.setFldR k hi lo v).scrubW = d.scrubW := Dev.setReg_scrubW ..
@[simp] theorem Dev.setFldR_refreshW (k hi lo v : Nat) : (d.setFldR k hi lo v).refreshW = d.refreshW := Dev.setReg_refreshW ..
@[simp] theorem Dev.setFldR_clk (k hi lo v : Nat) : (d.setFldR k hi lo v).clk = d.clk := Dev.setReg_clk ..
@[simp] theorem Dev.setFldR_lp (k hi lo v : Nat) : (d.setFldR k hi lo v).lp = d.lp := Dev.setReg_lp ..
@[simp] theorem Dev.setFldR_dbg (k hi lo v : Nat) : (d.setFldR k hi lo v).dbg = d.dbg := Dev.setReg_dbg ..
@[simp] theorem Dev.setFldR_jtag (k hi lo v : Nat) : (d.setFldR k hi lo v).jtag = d.jtag := Dev.setReg_jtag ..
@[simp] theorem Dev.setFldR_boot (k hi lo v : Nat) : (d.setFldR k hi lo v).boot = d.boot := Dev.setReg_boot ..
@[simp] theorem Dev.setFldR_wdCfg (k hi lo v : Nat) : (d.setFldR k hi lo v).wdCfg = d.wdCfg := Dev.setReg_wdCfg ..

@[simp] theorem Dev.setBitR_shadow (k i : Nat) (b : Bool) : (d.setBitR k i b).shadow = d.shadow := Dev.setReg_shadow ..
@[simp] theorem Dev.setBitR_banked (k i : Nat) (b : Bool) : (d.setBitR k i b).banked = d.banked := Dev.setReg_banked ..
@[simp] theorem Dev.setBitR_mem (k i : Nat) (b : Bool) : (d.setBitR k i b).mem = d.mem := Dev.setReg_mem ..
@[simp] theorem Dev.setBitR_codes (k i : Nat) (b : Bool) : (d.setBitR k i b).codes = d.codes := Dev.setReg_codes ..
@[simp] theorem Dev.setBitR_freeCtr (k i : Nat) (b : Bool) : (d.setBitR k i b).freeCtr = d.freeCtr := Dev.setReg_freeCtr ..
@[simp] theorem Dev.setBitR_time (k i : Nat) (b : Bool) : (d.setBitR k i b).time = d.time := Dev.setReg_time ..
@[simp] theorem Dev.setBitR_phase (k i : Nat) (b : Bool) : (d.setBitR k i b).phase = d.phase := Dev.setReg_phase ..
@[simp] theorem Dev.setBitR_phaseDue (k i : Nat) (b : Bool) : (d.setBitR k i b).phaseDue = d.phaseDue := Dev.setReg_phaseDue ..
@[simp] theorem Dev.setBitR_cs (k i : Nat) (b : Bool) : (d.setBitR k i b).cs = d.cs := Dev.setReg_cs ..
@[simp] theorem Dev.setBitR_csDue (k i : Nat) (b : Bool) : (d.setBitR k i b).csDue = d.csDue := Dev.setReg_csDue ..
@[simp] theorem Dev.setBitR_pendRestart (k i : Nat) (b : Bool) : (d.setBitR k i b).pendRestart = d.pendRestart := Dev.setReg_pendRestart ..
@[simp] theorem Dev.setBitR_frames (k i : Nat) (b : Bool) : (d.setBitR k i b).frames = d.frames := Dev.setReg_frames ..
@[simp] theorem Dev.setBitR_frnum (k i : Nat) (b : Bool) : (d.setBitR k i b).frnum = d.frnum := Dev.setReg_frnum ..
@[simp] theorem Dev.setBitR_tickt (k i : Nat) (b : Bool) : (d.setBitR k i b).tickt = d.tickt := Dev.setReg_tickt ..
@[simp] theorem Dev.setBitR_period (k i : Nat) (b : Bool) : (d.setBitR k i b).period = d.period := Dev.setReg_period ..
@[simp] theorem Dev.setBitR_ledgerStop (k i : Nat) (b : Bool) : (d.setBitR k i b).ledgerStop = d.ledgerStop := Dev.setReg_ledgerStop ..
@[simp] theorem Dev.setBitR_flopp (k i : Nat) (b : Bool) : (d.setBitR k i b).flopp = d.flopp := Dev.setReg_flopp ..
@[simp] theorem Dev.setBitR_floppDst (k i : Nat) (b : Bool) : (d.setBitR k i b).floppDst = d.floppDst := Dev.setReg_floppDst ..
@[simp] theorem Dev.setBitR_ovl (k i : Nat) (b : Bool) : (d.setBitR k i b).ovl = d.ovl := Dev.setReg_ovl ..
@[simp] theorem Dev.setBitR_pages (k i : Nat) (b : Bool) : (d.setBitR k i b).pages = d.pages := Dev.setReg_pages ..
@[simp] theorem Dev.setBitR_jrn (k i : Nat) (b : Bool) : (d.setBitR k i b).jrn = d.jrn := Dev.setReg_jrn ..
@[simp] theorem Dev.setBitR_jdup (k i : Nat) (b : Bool) : (d.setBitR k i b).jdup = d.jdup := Dev.setReg_jdup ..
@[simp] theorem Dev.setBitR_links (k i : Nat) (b : Bool) : (d.setBitR k i b).links = d.links := Dev.setReg_links ..
@[simp] theorem Dev.setBitR_cmp (k i : Nat) (b : Bool) : (d.setBitR k i b).cmp = d.cmp := Dev.setReg_cmp ..
@[simp] theorem Dev.setBitR_agr (k i : Nat) (b : Bool) : (d.setBitR k i b).agr = d.agr := Dev.setReg_agr ..
@[simp] theorem Dev.setBitR_copies (k i : Nat) (b : Bool) : (d.setBitR k i b).copies = d.copies := Dev.setReg_copies ..
@[simp] theorem Dev.setBitR_drv (k i : Nat) (b : Bool) : (d.setBitR k i b).drv = d.drv := Dev.setReg_drv ..
@[simp] theorem Dev.setBitR_fan (k i : Nat) (b : Bool) : (d.setBitR k i b).fan = d.fan := Dev.setReg_fan ..
@[simp] theorem Dev.setBitR_fanOvrDue (k i : Nat) (b : Bool) : (d.setBitR k i b).fanOvrDue = d.fanOvrDue := Dev.setReg_fanOvrDue ..
@[simp] theorem Dev.setBitR_fanLoopAt (k i : Nat) (b : Bool) : (d.setBitR k i b).fanLoopAt = d.fanLoopAt := Dev.setReg_fanLoopAt ..
@[simp] theorem Dev.setBitR_partAt (k i : Nat) (b : Bool) : (d.setBitR k i b).partAt = d.partAt := Dev.setReg_partAt ..
@[simp] theorem Dev.setBitR_gpo (k i : Nat) (b : Bool) : (d.setBitR k i b).gpo = d.gpo := Dev.setReg_gpo ..
@[simp] theorem Dev.setBitR_puff (k i : Nat) (b : Bool) : (d.setBitR k i b).puff = d.puff := Dev.setReg_puff ..
@[simp] theorem Dev.setBitR_can (k i : Nat) (b : Bool) : (d.setBitR k i b).can = d.can := Dev.setReg_can ..
@[simp] theorem Dev.setBitR_ledger (k i : Nat) (b : Bool) : (d.setBitR k i b).ledger = d.ledger := Dev.setReg_ledger ..
@[simp] theorem Dev.setBitR_flash (k i : Nat) (b : Bool) : (d.setBitR k i b).flash = d.flash := Dev.setReg_flash ..
@[simp] theorem Dev.setBitR_scrubW (k i : Nat) (b : Bool) : (d.setBitR k i b).scrubW = d.scrubW := Dev.setReg_scrubW ..
@[simp] theorem Dev.setBitR_refreshW (k i : Nat) (b : Bool) : (d.setBitR k i b).refreshW = d.refreshW := Dev.setReg_refreshW ..
@[simp] theorem Dev.setBitR_clk (k i : Nat) (b : Bool) : (d.setBitR k i b).clk = d.clk := Dev.setReg_clk ..
@[simp] theorem Dev.setBitR_lp (k i : Nat) (b : Bool) : (d.setBitR k i b).lp = d.lp := Dev.setReg_lp ..
@[simp] theorem Dev.setBitR_dbg (k i : Nat) (b : Bool) : (d.setBitR k i b).dbg = d.dbg := Dev.setReg_dbg ..
@[simp] theorem Dev.setBitR_jtag (k i : Nat) (b : Bool) : (d.setBitR k i b).jtag = d.jtag := Dev.setReg_jtag ..
@[simp] theorem Dev.setBitR_boot (k i : Nat) (b : Bool) : (d.setBitR k i b).boot = d.boot := Dev.setReg_boot ..
@[simp] theorem Dev.setBitR_wdCfg (k i : Nat) (b : Bool) : (d.setBitR k i b).wdCfg = d.wdCfg := Dev.setReg_wdCfg ..

@[simp] theorem Dev.count_shadow (k n : Nat) : (d.count k n).shadow = d.shadow := Dev.setReg_shadow ..
@[simp] theorem Dev.count_banked (k n : Nat) : (d.count k n).banked = d.banked := Dev.setReg_banked ..
@[simp] theorem Dev.count_mem (k n : Nat) : (d.count k n).mem = d.mem := Dev.setReg_mem ..
@[simp] theorem Dev.count_codes (k n : Nat) : (d.count k n).codes = d.codes := Dev.setReg_codes ..
@[simp] theorem Dev.count_freeCtr (k n : Nat) : (d.count k n).freeCtr = d.freeCtr := Dev.setReg_freeCtr ..
@[simp] theorem Dev.count_time (k n : Nat) : (d.count k n).time = d.time := Dev.setReg_time ..
@[simp] theorem Dev.count_phase (k n : Nat) : (d.count k n).phase = d.phase := Dev.setReg_phase ..
@[simp] theorem Dev.count_phaseDue (k n : Nat) : (d.count k n).phaseDue = d.phaseDue := Dev.setReg_phaseDue ..
@[simp] theorem Dev.count_cs (k n : Nat) : (d.count k n).cs = d.cs := Dev.setReg_cs ..
@[simp] theorem Dev.count_csDue (k n : Nat) : (d.count k n).csDue = d.csDue := Dev.setReg_csDue ..
@[simp] theorem Dev.count_pendRestart (k n : Nat) : (d.count k n).pendRestart = d.pendRestart := Dev.setReg_pendRestart ..
@[simp] theorem Dev.count_frames (k n : Nat) : (d.count k n).frames = d.frames := Dev.setReg_frames ..
@[simp] theorem Dev.count_frnum (k n : Nat) : (d.count k n).frnum = d.frnum := Dev.setReg_frnum ..
@[simp] theorem Dev.count_tickt (k n : Nat) : (d.count k n).tickt = d.tickt := Dev.setReg_tickt ..
@[simp] theorem Dev.count_period (k n : Nat) : (d.count k n).period = d.period := Dev.setReg_period ..
@[simp] theorem Dev.count_ledgerStop (k n : Nat) : (d.count k n).ledgerStop = d.ledgerStop := Dev.setReg_ledgerStop ..
@[simp] theorem Dev.count_flopp (k n : Nat) : (d.count k n).flopp = d.flopp := Dev.setReg_flopp ..
@[simp] theorem Dev.count_floppDst (k n : Nat) : (d.count k n).floppDst = d.floppDst := Dev.setReg_floppDst ..
@[simp] theorem Dev.count_ovl (k n : Nat) : (d.count k n).ovl = d.ovl := Dev.setReg_ovl ..
@[simp] theorem Dev.count_pages (k n : Nat) : (d.count k n).pages = d.pages := Dev.setReg_pages ..
@[simp] theorem Dev.count_jrn (k n : Nat) : (d.count k n).jrn = d.jrn := Dev.setReg_jrn ..
@[simp] theorem Dev.count_jdup (k n : Nat) : (d.count k n).jdup = d.jdup := Dev.setReg_jdup ..
@[simp] theorem Dev.count_links (k n : Nat) : (d.count k n).links = d.links := Dev.setReg_links ..
@[simp] theorem Dev.count_cmp (k n : Nat) : (d.count k n).cmp = d.cmp := Dev.setReg_cmp ..
@[simp] theorem Dev.count_agr (k n : Nat) : (d.count k n).agr = d.agr := Dev.setReg_agr ..
@[simp] theorem Dev.count_copies (k n : Nat) : (d.count k n).copies = d.copies := Dev.setReg_copies ..
@[simp] theorem Dev.count_drv (k n : Nat) : (d.count k n).drv = d.drv := Dev.setReg_drv ..
@[simp] theorem Dev.count_fan (k n : Nat) : (d.count k n).fan = d.fan := Dev.setReg_fan ..
@[simp] theorem Dev.count_fanOvrDue (k n : Nat) : (d.count k n).fanOvrDue = d.fanOvrDue := Dev.setReg_fanOvrDue ..
@[simp] theorem Dev.count_fanLoopAt (k n : Nat) : (d.count k n).fanLoopAt = d.fanLoopAt := Dev.setReg_fanLoopAt ..
@[simp] theorem Dev.count_partAt (k n : Nat) : (d.count k n).partAt = d.partAt := Dev.setReg_partAt ..
@[simp] theorem Dev.count_gpo (k n : Nat) : (d.count k n).gpo = d.gpo := Dev.setReg_gpo ..
@[simp] theorem Dev.count_puff (k n : Nat) : (d.count k n).puff = d.puff := Dev.setReg_puff ..
@[simp] theorem Dev.count_can (k n : Nat) : (d.count k n).can = d.can := Dev.setReg_can ..
@[simp] theorem Dev.count_ledger (k n : Nat) : (d.count k n).ledger = d.ledger := Dev.setReg_ledger ..
@[simp] theorem Dev.count_flash (k n : Nat) : (d.count k n).flash = d.flash := Dev.setReg_flash ..
@[simp] theorem Dev.count_scrubW (k n : Nat) : (d.count k n).scrubW = d.scrubW := Dev.setReg_scrubW ..
@[simp] theorem Dev.count_refreshW (k n : Nat) : (d.count k n).refreshW = d.refreshW := Dev.setReg_refreshW ..
@[simp] theorem Dev.count_clk (k n : Nat) : (d.count k n).clk = d.clk := Dev.setReg_clk ..
@[simp] theorem Dev.count_lp (k n : Nat) : (d.count k n).lp = d.lp := Dev.setReg_lp ..
@[simp] theorem Dev.count_dbg (k n : Nat) : (d.count k n).dbg = d.dbg := Dev.setReg_dbg ..
@[simp] theorem Dev.count_jtag (k n : Nat) : (d.count k n).jtag = d.jtag := Dev.setReg_jtag ..
@[simp] theorem Dev.count_boot (k n : Nat) : (d.count k n).boot = d.boot := Dev.setReg_boot ..
@[simp] theorem Dev.count_wdCfg (k n : Nat) : (d.count k n).wdCfg = d.wdCfg := Dev.setReg_wdCfg ..

@[simp] theorem Dev.evt_shadow (p b : Nat) : (d.evt p b).shadow = d.shadow := Dev.setBitR_shadow ..
@[simp] theorem Dev.evt_banked (p b : Nat) : (d.evt p b).banked = d.banked := Dev.setBitR_banked ..
@[simp] theorem Dev.evt_mem (p b : Nat) : (d.evt p b).mem = d.mem := Dev.setBitR_mem ..
@[simp] theorem Dev.evt_codes (p b : Nat) : (d.evt p b).codes = d.codes := Dev.setBitR_codes ..
@[simp] theorem Dev.evt_freeCtr (p b : Nat) : (d.evt p b).freeCtr = d.freeCtr := Dev.setBitR_freeCtr ..
@[simp] theorem Dev.evt_time (p b : Nat) : (d.evt p b).time = d.time := Dev.setBitR_time ..
@[simp] theorem Dev.evt_phase (p b : Nat) : (d.evt p b).phase = d.phase := Dev.setBitR_phase ..
@[simp] theorem Dev.evt_phaseDue (p b : Nat) : (d.evt p b).phaseDue = d.phaseDue := Dev.setBitR_phaseDue ..
@[simp] theorem Dev.evt_cs (p b : Nat) : (d.evt p b).cs = d.cs := Dev.setBitR_cs ..
@[simp] theorem Dev.evt_csDue (p b : Nat) : (d.evt p b).csDue = d.csDue := Dev.setBitR_csDue ..
@[simp] theorem Dev.evt_pendRestart (p b : Nat) : (d.evt p b).pendRestart = d.pendRestart := Dev.setBitR_pendRestart ..
@[simp] theorem Dev.evt_frames (p b : Nat) : (d.evt p b).frames = d.frames := Dev.setBitR_frames ..
@[simp] theorem Dev.evt_frnum (p b : Nat) : (d.evt p b).frnum = d.frnum := Dev.setBitR_frnum ..
@[simp] theorem Dev.evt_tickt (p b : Nat) : (d.evt p b).tickt = d.tickt := Dev.setBitR_tickt ..
@[simp] theorem Dev.evt_period (p b : Nat) : (d.evt p b).period = d.period := Dev.setBitR_period ..
@[simp] theorem Dev.evt_ledgerStop (p b : Nat) : (d.evt p b).ledgerStop = d.ledgerStop := Dev.setBitR_ledgerStop ..
@[simp] theorem Dev.evt_flopp (p b : Nat) : (d.evt p b).flopp = d.flopp := Dev.setBitR_flopp ..
@[simp] theorem Dev.evt_floppDst (p b : Nat) : (d.evt p b).floppDst = d.floppDst := Dev.setBitR_floppDst ..
@[simp] theorem Dev.evt_ovl (p b : Nat) : (d.evt p b).ovl = d.ovl := Dev.setBitR_ovl ..
@[simp] theorem Dev.evt_pages (p b : Nat) : (d.evt p b).pages = d.pages := Dev.setBitR_pages ..
@[simp] theorem Dev.evt_jrn (p b : Nat) : (d.evt p b).jrn = d.jrn := Dev.setBitR_jrn ..
@[simp] theorem Dev.evt_jdup (p b : Nat) : (d.evt p b).jdup = d.jdup := Dev.setBitR_jdup ..
@[simp] theorem Dev.evt_links (p b : Nat) : (d.evt p b).links = d.links := Dev.setBitR_links ..
@[simp] theorem Dev.evt_cmp (p b : Nat) : (d.evt p b).cmp = d.cmp := Dev.setBitR_cmp ..
@[simp] theorem Dev.evt_agr (p b : Nat) : (d.evt p b).agr = d.agr := Dev.setBitR_agr ..
@[simp] theorem Dev.evt_copies (p b : Nat) : (d.evt p b).copies = d.copies := Dev.setBitR_copies ..
@[simp] theorem Dev.evt_drv (p b : Nat) : (d.evt p b).drv = d.drv := Dev.setBitR_drv ..
@[simp] theorem Dev.evt_fan (p b : Nat) : (d.evt p b).fan = d.fan := Dev.setBitR_fan ..
@[simp] theorem Dev.evt_fanOvrDue (p b : Nat) : (d.evt p b).fanOvrDue = d.fanOvrDue := Dev.setBitR_fanOvrDue ..
@[simp] theorem Dev.evt_fanLoopAt (p b : Nat) : (d.evt p b).fanLoopAt = d.fanLoopAt := Dev.setBitR_fanLoopAt ..
@[simp] theorem Dev.evt_partAt (p b : Nat) : (d.evt p b).partAt = d.partAt := Dev.setBitR_partAt ..
@[simp] theorem Dev.evt_gpo (p b : Nat) : (d.evt p b).gpo = d.gpo := Dev.setBitR_gpo ..
@[simp] theorem Dev.evt_puff (p b : Nat) : (d.evt p b).puff = d.puff := Dev.setBitR_puff ..
@[simp] theorem Dev.evt_can (p b : Nat) : (d.evt p b).can = d.can := Dev.setBitR_can ..
@[simp] theorem Dev.evt_ledger (p b : Nat) : (d.evt p b).ledger = d.ledger := Dev.setBitR_ledger ..
@[simp] theorem Dev.evt_flash (p b : Nat) : (d.evt p b).flash = d.flash := Dev.setBitR_flash ..
@[simp] theorem Dev.evt_scrubW (p b : Nat) : (d.evt p b).scrubW = d.scrubW := Dev.setBitR_scrubW ..
@[simp] theorem Dev.evt_refreshW (p b : Nat) : (d.evt p b).refreshW = d.refreshW := Dev.setBitR_refreshW ..
@[simp] theorem Dev.evt_clk (p b : Nat) : (d.evt p b).clk = d.clk := Dev.setBitR_clk ..
@[simp] theorem Dev.evt_lp (p b : Nat) : (d.evt p b).lp = d.lp := Dev.setBitR_lp ..
@[simp] theorem Dev.evt_dbg (p b : Nat) : (d.evt p b).dbg = d.dbg := Dev.setBitR_dbg ..
@[simp] theorem Dev.evt_jtag (p b : Nat) : (d.evt p b).jtag = d.jtag := Dev.setBitR_jtag ..
@[simp] theorem Dev.evt_boot (p b : Nat) : (d.evt p b).boot = d.boot := Dev.setBitR_boot ..
@[simp] theorem Dev.evt_wdCfg (p b : Nat) : (d.evt p b).wdCfg = d.wdCfg := Dev.setBitR_wdCfg ..

@[simp] theorem Dev.setLstate_shadow (c : CopyId) (x : Nat) : (d.setLstate c x).shadow = d.shadow := Dev.setFldR_shadow ..
@[simp] theorem Dev.setLstate_banked (c : CopyId) (x : Nat) : (d.setLstate c x).banked = d.banked := Dev.setFldR_banked ..
@[simp] theorem Dev.setLstate_mem (c : CopyId) (x : Nat) : (d.setLstate c x).mem = d.mem := Dev.setFldR_mem ..
@[simp] theorem Dev.setLstate_codes (c : CopyId) (x : Nat) : (d.setLstate c x).codes = d.codes := Dev.setFldR_codes ..
@[simp] theorem Dev.setLstate_freeCtr (c : CopyId) (x : Nat) : (d.setLstate c x).freeCtr = d.freeCtr := Dev.setFldR_freeCtr ..
@[simp] theorem Dev.setLstate_time (c : CopyId) (x : Nat) : (d.setLstate c x).time = d.time := Dev.setFldR_time ..
@[simp] theorem Dev.setLstate_phase (c : CopyId) (x : Nat) : (d.setLstate c x).phase = d.phase := Dev.setFldR_phase ..
@[simp] theorem Dev.setLstate_phaseDue (c : CopyId) (x : Nat) : (d.setLstate c x).phaseDue = d.phaseDue := Dev.setFldR_phaseDue ..
@[simp] theorem Dev.setLstate_cs (c : CopyId) (x : Nat) : (d.setLstate c x).cs = d.cs := Dev.setFldR_cs ..
@[simp] theorem Dev.setLstate_csDue (c : CopyId) (x : Nat) : (d.setLstate c x).csDue = d.csDue := Dev.setFldR_csDue ..
@[simp] theorem Dev.setLstate_pendRestart (c : CopyId) (x : Nat) : (d.setLstate c x).pendRestart = d.pendRestart := Dev.setFldR_pendRestart ..
@[simp] theorem Dev.setLstate_frames (c : CopyId) (x : Nat) : (d.setLstate c x).frames = d.frames := Dev.setFldR_frames ..
@[simp] theorem Dev.setLstate_frnum (c : CopyId) (x : Nat) : (d.setLstate c x).frnum = d.frnum := Dev.setFldR_frnum ..
@[simp] theorem Dev.setLstate_tickt (c : CopyId) (x : Nat) : (d.setLstate c x).tickt = d.tickt := Dev.setFldR_tickt ..
@[simp] theorem Dev.setLstate_period (c : CopyId) (x : Nat) : (d.setLstate c x).period = d.period := Dev.setFldR_period ..
@[simp] theorem Dev.setLstate_ledgerStop (c : CopyId) (x : Nat) : (d.setLstate c x).ledgerStop = d.ledgerStop := Dev.setFldR_ledgerStop ..
@[simp] theorem Dev.setLstate_flopp (c : CopyId) (x : Nat) : (d.setLstate c x).flopp = d.flopp := Dev.setFldR_flopp ..
@[simp] theorem Dev.setLstate_floppDst (c : CopyId) (x : Nat) : (d.setLstate c x).floppDst = d.floppDst := Dev.setFldR_floppDst ..
@[simp] theorem Dev.setLstate_ovl (c : CopyId) (x : Nat) : (d.setLstate c x).ovl = d.ovl := Dev.setFldR_ovl ..
@[simp] theorem Dev.setLstate_pages (c : CopyId) (x : Nat) : (d.setLstate c x).pages = d.pages := Dev.setFldR_pages ..
@[simp] theorem Dev.setLstate_jrn (c : CopyId) (x : Nat) : (d.setLstate c x).jrn = d.jrn := Dev.setFldR_jrn ..
@[simp] theorem Dev.setLstate_jdup (c : CopyId) (x : Nat) : (d.setLstate c x).jdup = d.jdup := Dev.setFldR_jdup ..
@[simp] theorem Dev.setLstate_links (c : CopyId) (x : Nat) : (d.setLstate c x).links = d.links := Dev.setFldR_links ..
@[simp] theorem Dev.setLstate_cmp (c : CopyId) (x : Nat) : (d.setLstate c x).cmp = d.cmp := Dev.setFldR_cmp ..
@[simp] theorem Dev.setLstate_agr (c : CopyId) (x : Nat) : (d.setLstate c x).agr = d.agr := Dev.setFldR_agr ..
@[simp] theorem Dev.setLstate_copies (c : CopyId) (x : Nat) : (d.setLstate c x).copies = d.copies := Dev.setFldR_copies ..
@[simp] theorem Dev.setLstate_drv (c : CopyId) (x : Nat) : (d.setLstate c x).drv = d.drv := Dev.setFldR_drv ..
@[simp] theorem Dev.setLstate_fan (c : CopyId) (x : Nat) : (d.setLstate c x).fan = d.fan := Dev.setFldR_fan ..
@[simp] theorem Dev.setLstate_fanOvrDue (c : CopyId) (x : Nat) : (d.setLstate c x).fanOvrDue = d.fanOvrDue := Dev.setFldR_fanOvrDue ..
@[simp] theorem Dev.setLstate_fanLoopAt (c : CopyId) (x : Nat) : (d.setLstate c x).fanLoopAt = d.fanLoopAt := Dev.setFldR_fanLoopAt ..
@[simp] theorem Dev.setLstate_partAt (c : CopyId) (x : Nat) : (d.setLstate c x).partAt = d.partAt := Dev.setFldR_partAt ..
@[simp] theorem Dev.setLstate_gpo (c : CopyId) (x : Nat) : (d.setLstate c x).gpo = d.gpo := Dev.setFldR_gpo ..
@[simp] theorem Dev.setLstate_puff (c : CopyId) (x : Nat) : (d.setLstate c x).puff = d.puff := Dev.setFldR_puff ..
@[simp] theorem Dev.setLstate_can (c : CopyId) (x : Nat) : (d.setLstate c x).can = d.can := Dev.setFldR_can ..
@[simp] theorem Dev.setLstate_ledger (c : CopyId) (x : Nat) : (d.setLstate c x).ledger = d.ledger := Dev.setFldR_ledger ..
@[simp] theorem Dev.setLstate_flash (c : CopyId) (x : Nat) : (d.setLstate c x).flash = d.flash := Dev.setFldR_flash ..
@[simp] theorem Dev.setLstate_scrubW (c : CopyId) (x : Nat) : (d.setLstate c x).scrubW = d.scrubW := Dev.setFldR_scrubW ..
@[simp] theorem Dev.setLstate_refreshW (c : CopyId) (x : Nat) : (d.setLstate c x).refreshW = d.refreshW := Dev.setFldR_refreshW ..
@[simp] theorem Dev.setLstate_clk (c : CopyId) (x : Nat) : (d.setLstate c x).clk = d.clk := Dev.setFldR_clk ..
@[simp] theorem Dev.setLstate_lp (c : CopyId) (x : Nat) : (d.setLstate c x).lp = d.lp := Dev.setFldR_lp ..
@[simp] theorem Dev.setLstate_dbg (c : CopyId) (x : Nat) : (d.setLstate c x).dbg = d.dbg := Dev.setFldR_dbg ..
@[simp] theorem Dev.setLstate_jtag (c : CopyId) (x : Nat) : (d.setLstate c x).jtag = d.jtag := Dev.setFldR_jtag ..
@[simp] theorem Dev.setLstate_boot (c : CopyId) (x : Nat) : (d.setLstate c x).boot = d.boot := Dev.setFldR_boot ..
@[simp] theorem Dev.setLstate_wdCfg (c : CopyId) (x : Nat) : (d.setLstate c x).wdCfg = d.wdCfg := Dev.setFldR_wdCfg ..

@[simp] theorem Dev.dropJob_regs (n : Nat) : (d.dropJob n).regs = d.regs := Dev.updJobs_regs ..
@[simp] theorem Dev.dropJob_shadow (n : Nat) : (d.dropJob n).shadow = d.shadow := Dev.updJobs_shadow ..
@[simp] theorem Dev.dropJob_banked (n : Nat) : (d.dropJob n).banked = d.banked := Dev.updJobs_banked ..
@[simp] theorem Dev.dropJob_mem (n : Nat) : (d.dropJob n).mem = d.mem := Dev.updJobs_mem ..
@[simp] theorem Dev.dropJob_codes (n : Nat) : (d.dropJob n).codes = d.codes := Dev.updJobs_codes ..
@[simp] theorem Dev.dropJob_freeCtr (n : Nat) : (d.dropJob n).freeCtr = d.freeCtr := Dev.updJobs_freeCtr ..
@[simp] theorem Dev.dropJob_time (n : Nat) : (d.dropJob n).time = d.time := Dev.updJobs_time ..
@[simp] theorem Dev.dropJob_phase (n : Nat) : (d.dropJob n).phase = d.phase := Dev.updJobs_phase ..
@[simp] theorem Dev.dropJob_phaseDue (n : Nat) : (d.dropJob n).phaseDue = d.phaseDue := Dev.updJobs_phaseDue ..
@[simp] theorem Dev.dropJob_cs (n : Nat) : (d.dropJob n).cs = d.cs := Dev.updJobs_cs ..
@[simp] theorem Dev.dropJob_csDue (n : Nat) : (d.dropJob n).csDue = d.csDue := Dev.updJobs_csDue ..
@[simp] theorem Dev.dropJob_pendRestart (n : Nat) : (d.dropJob n).pendRestart = d.pendRestart := Dev.updJobs_pendRestart ..
@[simp] theorem Dev.dropJob_frames (n : Nat) : (d.dropJob n).frames = d.frames := Dev.updJobs_frames ..
@[simp] theorem Dev.dropJob_frnum (n : Nat) : (d.dropJob n).frnum = d.frnum := Dev.updJobs_frnum ..
@[simp] theorem Dev.dropJob_tickt (n : Nat) : (d.dropJob n).tickt = d.tickt := Dev.updJobs_tickt ..
@[simp] theorem Dev.dropJob_period (n : Nat) : (d.dropJob n).period = d.period := Dev.updJobs_period ..
@[simp] theorem Dev.dropJob_ledgerStop (n : Nat) : (d.dropJob n).ledgerStop = d.ledgerStop := Dev.updJobs_ledgerStop ..
@[simp] theorem Dev.dropJob_flopp (n : Nat) : (d.dropJob n).flopp = d.flopp := Dev.updJobs_flopp ..
@[simp] theorem Dev.dropJob_floppDst (n : Nat) : (d.dropJob n).floppDst = d.floppDst := Dev.updJobs_floppDst ..
@[simp] theorem Dev.dropJob_ovl (n : Nat) : (d.dropJob n).ovl = d.ovl := Dev.updJobs_ovl ..
@[simp] theorem Dev.dropJob_pages (n : Nat) : (d.dropJob n).pages = d.pages := Dev.updJobs_pages ..
@[simp] theorem Dev.dropJob_jrn (n : Nat) : (d.dropJob n).jrn = d.jrn := Dev.updJobs_jrn ..
@[simp] theorem Dev.dropJob_jdup (n : Nat) : (d.dropJob n).jdup = d.jdup := Dev.updJobs_jdup ..
@[simp] theorem Dev.dropJob_links (n : Nat) : (d.dropJob n).links = d.links := Dev.updJobs_links ..
@[simp] theorem Dev.dropJob_cmp (n : Nat) : (d.dropJob n).cmp = d.cmp := Dev.updJobs_cmp ..
@[simp] theorem Dev.dropJob_agr (n : Nat) : (d.dropJob n).agr = d.agr := Dev.updJobs_agr ..
@[simp] theorem Dev.dropJob_copies (n : Nat) : (d.dropJob n).copies = d.copies := Dev.updJobs_copies ..
@[simp] theorem Dev.dropJob_drv (n : Nat) : (d.dropJob n).drv = d.drv := Dev.updJobs_drv ..
@[simp] theorem Dev.dropJob_fan (n : Nat) : (d.dropJob n).fan = d.fan := Dev.updJobs_fan ..
@[simp] theorem Dev.dropJob_fanOvrDue (n : Nat) : (d.dropJob n).fanOvrDue = d.fanOvrDue := Dev.updJobs_fanOvrDue ..
@[simp] theorem Dev.dropJob_fanLoopAt (n : Nat) : (d.dropJob n).fanLoopAt = d.fanLoopAt := Dev.updJobs_fanLoopAt ..
@[simp] theorem Dev.dropJob_partAt (n : Nat) : (d.dropJob n).partAt = d.partAt := Dev.updJobs_partAt ..
@[simp] theorem Dev.dropJob_gpo (n : Nat) : (d.dropJob n).gpo = d.gpo := Dev.updJobs_gpo ..
@[simp] theorem Dev.dropJob_puff (n : Nat) : (d.dropJob n).puff = d.puff := Dev.updJobs_puff ..
@[simp] theorem Dev.dropJob_can (n : Nat) : (d.dropJob n).can = d.can := Dev.updJobs_can ..
@[simp] theorem Dev.dropJob_flash (n : Nat) : (d.dropJob n).flash = d.flash := Dev.updJobs_flash ..
@[simp] theorem Dev.dropJob_scrubW (n : Nat) : (d.dropJob n).scrubW = d.scrubW := Dev.updJobs_scrubW ..
@[simp] theorem Dev.dropJob_refreshW (n : Nat) : (d.dropJob n).refreshW = d.refreshW := Dev.updJobs_refreshW ..
@[simp] theorem Dev.dropJob_clk (n : Nat) : (d.dropJob n).clk = d.clk := Dev.updJobs_clk ..
@[simp] theorem Dev.dropJob_lp (n : Nat) : (d.dropJob n).lp = d.lp := Dev.updJobs_lp ..
@[simp] theorem Dev.dropJob_dbg (n : Nat) : (d.dropJob n).dbg = d.dbg := Dev.updJobs_dbg ..
@[simp] theorem Dev.dropJob_jtag (n : Nat) : (d.dropJob n).jtag = d.jtag := Dev.updJobs_jtag ..
@[simp] theorem Dev.dropJob_boot (n : Nat) : (d.dropJob n).boot = d.boot := Dev.updJobs_boot ..
@[simp] theorem Dev.dropJob_wdCfg (n : Nat) : (d.dropJob n).wdCfg = d.wdCfg := Dev.updJobs_wdCfg ..

@[simp] theorem Dev.ovlRef_regs (g : Nat) : (d.ovlRef g).regs = d.regs := Dev.ovlPut_regs ..
@[simp] theorem Dev.ovlRef_shadow (g : Nat) : (d.ovlRef g).shadow = d.shadow := Dev.ovlPut_shadow ..
@[simp] theorem Dev.ovlRef_banked (g : Nat) : (d.ovlRef g).banked = d.banked := Dev.ovlPut_banked ..
@[simp] theorem Dev.ovlRef_mem (g : Nat) : (d.ovlRef g).mem = d.mem := Dev.ovlPut_mem ..
@[simp] theorem Dev.ovlRef_codes (g : Nat) : (d.ovlRef g).codes = d.codes := Dev.ovlPut_codes ..
@[simp] theorem Dev.ovlRef_freeCtr (g : Nat) : (d.ovlRef g).freeCtr = d.freeCtr := Dev.ovlPut_freeCtr ..
@[simp] theorem Dev.ovlRef_time (g : Nat) : (d.ovlRef g).time = d.time := Dev.ovlPut_time ..
@[simp] theorem Dev.ovlRef_phase (g : Nat) : (d.ovlRef g).phase = d.phase := Dev.ovlPut_phase ..
@[simp] theorem Dev.ovlRef_phaseDue (g : Nat) : (d.ovlRef g).phaseDue = d.phaseDue := Dev.ovlPut_phaseDue ..
@[simp] theorem Dev.ovlRef_cs (g : Nat) : (d.ovlRef g).cs = d.cs := Dev.ovlPut_cs ..
@[simp] theorem Dev.ovlRef_csDue (g : Nat) : (d.ovlRef g).csDue = d.csDue := Dev.ovlPut_csDue ..
@[simp] theorem Dev.ovlRef_pendRestart (g : Nat) : (d.ovlRef g).pendRestart = d.pendRestart := Dev.ovlPut_pendRestart ..
@[simp] theorem Dev.ovlRef_frames (g : Nat) : (d.ovlRef g).frames = d.frames := Dev.ovlPut_frames ..
@[simp] theorem Dev.ovlRef_frnum (g : Nat) : (d.ovlRef g).frnum = d.frnum := Dev.ovlPut_frnum ..
@[simp] theorem Dev.ovlRef_tickt (g : Nat) : (d.ovlRef g).tickt = d.tickt := Dev.ovlPut_tickt ..
@[simp] theorem Dev.ovlRef_period (g : Nat) : (d.ovlRef g).period = d.period := Dev.ovlPut_period ..
@[simp] theorem Dev.ovlRef_ledgerStop (g : Nat) : (d.ovlRef g).ledgerStop = d.ledgerStop := Dev.ovlPut_ledgerStop ..
@[simp] theorem Dev.ovlRef_flopp (g : Nat) : (d.ovlRef g).flopp = d.flopp := Dev.ovlPut_flopp ..
@[simp] theorem Dev.ovlRef_floppDst (g : Nat) : (d.ovlRef g).floppDst = d.floppDst := Dev.ovlPut_floppDst ..
@[simp] theorem Dev.ovlRef_pages (g : Nat) : (d.ovlRef g).pages = d.pages := Dev.ovlPut_pages ..
@[simp] theorem Dev.ovlRef_jrn (g : Nat) : (d.ovlRef g).jrn = d.jrn := Dev.ovlPut_jrn ..
@[simp] theorem Dev.ovlRef_jdup (g : Nat) : (d.ovlRef g).jdup = d.jdup := Dev.ovlPut_jdup ..
@[simp] theorem Dev.ovlRef_links (g : Nat) : (d.ovlRef g).links = d.links := Dev.ovlPut_links ..
@[simp] theorem Dev.ovlRef_cmp (g : Nat) : (d.ovlRef g).cmp = d.cmp := Dev.ovlPut_cmp ..
@[simp] theorem Dev.ovlRef_agr (g : Nat) : (d.ovlRef g).agr = d.agr := Dev.ovlPut_agr ..
@[simp] theorem Dev.ovlRef_copies (g : Nat) : (d.ovlRef g).copies = d.copies := Dev.ovlPut_copies ..
@[simp] theorem Dev.ovlRef_drv (g : Nat) : (d.ovlRef g).drv = d.drv := Dev.ovlPut_drv ..
@[simp] theorem Dev.ovlRef_fan (g : Nat) : (d.ovlRef g).fan = d.fan := Dev.ovlPut_fan ..
@[simp] theorem Dev.ovlRef_fanOvrDue (g : Nat) : (d.ovlRef g).fanOvrDue = d.fanOvrDue := Dev.ovlPut_fanOvrDue ..
@[simp] theorem Dev.ovlRef_fanLoopAt (g : Nat) : (d.ovlRef g).fanLoopAt = d.fanLoopAt := Dev.ovlPut_fanLoopAt ..
@[simp] theorem Dev.ovlRef_partAt (g : Nat) : (d.ovlRef g).partAt = d.partAt := Dev.ovlPut_partAt ..
@[simp] theorem Dev.ovlRef_gpo (g : Nat) : (d.ovlRef g).gpo = d.gpo := Dev.ovlPut_gpo ..
@[simp] theorem Dev.ovlRef_puff (g : Nat) : (d.ovlRef g).puff = d.puff := Dev.ovlPut_puff ..
@[simp] theorem Dev.ovlRef_can (g : Nat) : (d.ovlRef g).can = d.can := Dev.ovlPut_can ..
@[simp] theorem Dev.ovlRef_ledger (g : Nat) : (d.ovlRef g).ledger = d.ledger := Dev.ovlPut_ledger ..
@[simp] theorem Dev.ovlRef_flash (g : Nat) : (d.ovlRef g).flash = d.flash := Dev.ovlPut_flash ..
@[simp] theorem Dev.ovlRef_scrubW (g : Nat) : (d.ovlRef g).scrubW = d.scrubW := Dev.ovlPut_scrubW ..
@[simp] theorem Dev.ovlRef_refreshW (g : Nat) : (d.ovlRef g).refreshW = d.refreshW := Dev.ovlPut_refreshW ..
@[simp] theorem Dev.ovlRef_clk (g : Nat) : (d.ovlRef g).clk = d.clk := Dev.ovlPut_clk ..
@[simp] theorem Dev.ovlRef_lp (g : Nat) : (d.ovlRef g).lp = d.lp := Dev.ovlPut_lp ..
@[simp] theorem Dev.ovlRef_dbg (g : Nat) : (d.ovlRef g).dbg = d.dbg := Dev.ovlPut_dbg ..
@[simp] theorem Dev.ovlRef_jtag (g : Nat) : (d.ovlRef g).jtag = d.jtag := Dev.ovlPut_jtag ..
@[simp] theorem Dev.ovlRef_boot (g : Nat) : (d.ovlRef g).boot = d.boot := Dev.ovlPut_boot ..
@[simp] theorem Dev.ovlRef_wdCfg (g : Nat) : (d.ovlRef g).wdCfg = d.wdCfg := Dev.ovlPut_wdCfg ..

@[simp] theorem Dev.setWordData_regs (a : Nat) (w : Word) : (d.setWordData a w).regs = d.regs := (((Dev.setByte_regs ..).trans (Dev.setByte_regs ..)).trans (Dev.setByte_regs ..)).trans (Dev.setByte_regs ..)
@[simp] theorem Dev.setWordData_shadow (a : Nat) (w : Word) : (d.setWordData a w).shadow = d.shadow := (((Dev.setByte_shadow ..).trans (Dev.setByte_shadow ..)).trans (Dev.setByte_shadow ..)).trans (Dev.setByte_shadow ..)
@[simp] theorem Dev.setWordData_banked (a : Nat) (w : Word) : (d.setWordData a w).banked = d.banked := (((Dev.setByte_banked ..).trans (Dev.setByte_banked ..)).trans (Dev.setByte_banked ..)).trans (Dev.setByte_banked ..)
@[simp] theorem Dev.setWordData_codes (a : Nat) (w : Word) : (d.setWordData a w).codes = d.codes := (((Dev.setByte_codes ..).trans (Dev.setByte_codes ..)).trans (Dev.setByte_codes ..)).trans (Dev.setByte_codes ..)
@[simp] theorem Dev.setWordData_freeCtr (a : Nat) (w : Word) : (d.setWordData a w).freeCtr = d.freeCtr := (((Dev.setByte_freeCtr ..).trans (Dev.setByte_freeCtr ..)).trans (Dev.setByte_freeCtr ..)).trans (Dev.setByte_freeCtr ..)
@[simp] theorem Dev.setWordData_time (a : Nat) (w : Word) : (d.setWordData a w).time = d.time := (((Dev.setByte_time ..).trans (Dev.setByte_time ..)).trans (Dev.setByte_time ..)).trans (Dev.setByte_time ..)
@[simp] theorem Dev.setWordData_phase (a : Nat) (w : Word) : (d.setWordData a w).phase = d.phase := (((Dev.setByte_phase ..).trans (Dev.setByte_phase ..)).trans (Dev.setByte_phase ..)).trans (Dev.setByte_phase ..)
@[simp] theorem Dev.setWordData_phaseDue (a : Nat) (w : Word) : (d.setWordData a w).phaseDue = d.phaseDue := (((Dev.setByte_phaseDue ..).trans (Dev.setByte_phaseDue ..)).trans (Dev.setByte_phaseDue ..)).trans (Dev.setByte_phaseDue ..)
@[simp] theorem Dev.setWordData_cs (a : Nat) (w : Word) : (d.setWordData a w).cs = d.cs := (((Dev.setByte_cs ..).trans (Dev.setByte_cs ..)).trans (Dev.setByte_cs ..)).trans (Dev.setByte_cs ..)
@[simp] theorem Dev.setWordData_csDue (a : Nat) (w : Word) : (d.setWordData a w).csDue = d.csDue := (((Dev.setByte_csDue ..).trans (Dev.setByte_csDue ..)).trans (Dev.setByte_csDue ..)).trans (Dev.setByte_csDue ..)
@[simp] theorem Dev.setWordData_pendRestart (a : Nat) (w : Word) : (d.setWordData a w).pendRestart = d.pendRestart := (((Dev.setByte_pendRestart ..).trans (Dev.setByte_pendRestart ..)).trans (Dev.setByte_pendRestart ..)).trans (Dev.setByte_pendRestart ..)
@[simp] theorem Dev.setWordData_frames (a : Nat) (w : Word) : (d.setWordData a w).frames = d.frames := (((Dev.setByte_frames ..).trans (Dev.setByte_frames ..)).trans (Dev.setByte_frames ..)).trans (Dev.setByte_frames ..)
@[simp] theorem Dev.setWordData_frnum (a : Nat) (w : Word) : (d.setWordData a w).frnum = d.frnum := (((Dev.setByte_frnum ..).trans (Dev.setByte_frnum ..)).trans (Dev.setByte_frnum ..)).trans (Dev.setByte_frnum ..)
@[simp] theorem Dev.setWordData_tickt (a : Nat) (w : Word) : (d.setWordData a w).tickt = d.tickt := (((Dev.setByte_tickt ..).trans (Dev.setByte_tickt ..)).trans (Dev.setByte_tickt ..)).trans (Dev.setByte_tickt ..)
@[simp] theorem Dev.setWordData_period (a : Nat) (w : Word) : (d.setWordData a w).period = d.period := (((Dev.setByte_period ..).trans (Dev.setByte_period ..)).trans (Dev.setByte_period ..)).trans (Dev.setByte_period ..)
@[simp] theorem Dev.setWordData_ledgerStop (a : Nat) (w : Word) : (d.setWordData a w).ledgerStop = d.ledgerStop := (((Dev.setByte_ledgerStop ..).trans (Dev.setByte_ledgerStop ..)).trans (Dev.setByte_ledgerStop ..)).trans (Dev.setByte_ledgerStop ..)
@[simp] theorem Dev.setWordData_flopp (a : Nat) (w : Word) : (d.setWordData a w).flopp = d.flopp := (((Dev.setByte_flopp ..).trans (Dev.setByte_flopp ..)).trans (Dev.setByte_flopp ..)).trans (Dev.setByte_flopp ..)
@[simp] theorem Dev.setWordData_floppDst (a : Nat) (w : Word) : (d.setWordData a w).floppDst = d.floppDst := (((Dev.setByte_floppDst ..).trans (Dev.setByte_floppDst ..)).trans (Dev.setByte_floppDst ..)).trans (Dev.setByte_floppDst ..)
@[simp] theorem Dev.setWordData_ovl (a : Nat) (w : Word) : (d.setWordData a w).ovl = d.ovl := (((Dev.setByte_ovl ..).trans (Dev.setByte_ovl ..)).trans (Dev.setByte_ovl ..)).trans (Dev.setByte_ovl ..)
@[simp] theorem Dev.setWordData_pages (a : Nat) (w : Word) : (d.setWordData a w).pages = d.pages := (((Dev.setByte_pages ..).trans (Dev.setByte_pages ..)).trans (Dev.setByte_pages ..)).trans (Dev.setByte_pages ..)
@[simp] theorem Dev.setWordData_jrn (a : Nat) (w : Word) : (d.setWordData a w).jrn = d.jrn := (((Dev.setByte_jrn ..).trans (Dev.setByte_jrn ..)).trans (Dev.setByte_jrn ..)).trans (Dev.setByte_jrn ..)
@[simp] theorem Dev.setWordData_jdup (a : Nat) (w : Word) : (d.setWordData a w).jdup = d.jdup := (((Dev.setByte_jdup ..).trans (Dev.setByte_jdup ..)).trans (Dev.setByte_jdup ..)).trans (Dev.setByte_jdup ..)
@[simp] theorem Dev.setWordData_links (a : Nat) (w : Word) : (d.setWordData a w).links = d.links := (((Dev.setByte_links ..).trans (Dev.setByte_links ..)).trans (Dev.setByte_links ..)).trans (Dev.setByte_links ..)
@[simp] theorem Dev.setWordData_cmp (a : Nat) (w : Word) : (d.setWordData a w).cmp = d.cmp := (((Dev.setByte_cmp ..).trans (Dev.setByte_cmp ..)).trans (Dev.setByte_cmp ..)).trans (Dev.setByte_cmp ..)
@[simp] theorem Dev.setWordData_agr (a : Nat) (w : Word) : (d.setWordData a w).agr = d.agr := (((Dev.setByte_agr ..).trans (Dev.setByte_agr ..)).trans (Dev.setByte_agr ..)).trans (Dev.setByte_agr ..)
@[simp] theorem Dev.setWordData_copies (a : Nat) (w : Word) : (d.setWordData a w).copies = d.copies := (((Dev.setByte_copies ..).trans (Dev.setByte_copies ..)).trans (Dev.setByte_copies ..)).trans (Dev.setByte_copies ..)
@[simp] theorem Dev.setWordData_drv (a : Nat) (w : Word) : (d.setWordData a w).drv = d.drv := (((Dev.setByte_drv ..).trans (Dev.setByte_drv ..)).trans (Dev.setByte_drv ..)).trans (Dev.setByte_drv ..)
@[simp] theorem Dev.setWordData_fan (a : Nat) (w : Word) : (d.setWordData a w).fan = d.fan := (((Dev.setByte_fan ..).trans (Dev.setByte_fan ..)).trans (Dev.setByte_fan ..)).trans (Dev.setByte_fan ..)
@[simp] theorem Dev.setWordData_fanOvrDue (a : Nat) (w : Word) : (d.setWordData a w).fanOvrDue = d.fanOvrDue := (((Dev.setByte_fanOvrDue ..).trans (Dev.setByte_fanOvrDue ..)).trans (Dev.setByte_fanOvrDue ..)).trans (Dev.setByte_fanOvrDue ..)
@[simp] theorem Dev.setWordData_fanLoopAt (a : Nat) (w : Word) : (d.setWordData a w).fanLoopAt = d.fanLoopAt := (((Dev.setByte_fanLoopAt ..).trans (Dev.setByte_fanLoopAt ..)).trans (Dev.setByte_fanLoopAt ..)).trans (Dev.setByte_fanLoopAt ..)
@[simp] theorem Dev.setWordData_partAt (a : Nat) (w : Word) : (d.setWordData a w).partAt = d.partAt := (((Dev.setByte_partAt ..).trans (Dev.setByte_partAt ..)).trans (Dev.setByte_partAt ..)).trans (Dev.setByte_partAt ..)
@[simp] theorem Dev.setWordData_gpo (a : Nat) (w : Word) : (d.setWordData a w).gpo = d.gpo := (((Dev.setByte_gpo ..).trans (Dev.setByte_gpo ..)).trans (Dev.setByte_gpo ..)).trans (Dev.setByte_gpo ..)
@[simp] theorem Dev.setWordData_puff (a : Nat) (w : Word) : (d.setWordData a w).puff = d.puff := (((Dev.setByte_puff ..).trans (Dev.setByte_puff ..)).trans (Dev.setByte_puff ..)).trans (Dev.setByte_puff ..)
@[simp] theorem Dev.setWordData_can (a : Nat) (w : Word) : (d.setWordData a w).can = d.can := (((Dev.setByte_can ..).trans (Dev.setByte_can ..)).trans (Dev.setByte_can ..)).trans (Dev.setByte_can ..)
@[simp] theorem Dev.setWordData_ledger (a : Nat) (w : Word) : (d.setWordData a w).ledger = d.ledger := (((Dev.setByte_ledger ..).trans (Dev.setByte_ledger ..)).trans (Dev.setByte_ledger ..)).trans (Dev.setByte_ledger ..)
@[simp] theorem Dev.setWordData_flash (a : Nat) (w : Word) : (d.setWordData a w).flash = d.flash := (((Dev.setByte_flash ..).trans (Dev.setByte_flash ..)).trans (Dev.setByte_flash ..)).trans (Dev.setByte_flash ..)
@[simp] theorem Dev.setWordData_scrubW (a : Nat) (w : Word) : (d.setWordData a w).scrubW = d.scrubW := (((Dev.setByte_scrubW ..).trans (Dev.setByte_scrubW ..)).trans (Dev.setByte_scrubW ..)).trans (Dev.setByte_scrubW ..)
@[simp] theorem Dev.setWordData_refreshW (a : Nat) (w : Word) : (d.setWordData a w).refreshW = d.refreshW := (((Dev.setByte_refreshW ..).trans (Dev.setByte_refreshW ..)).trans (Dev.setByte_refreshW ..)).trans (Dev.setByte_refreshW ..)
@[simp] theorem Dev.setWordData_clk (a : Nat) (w : Word) : (d.setWordData a w).clk = d.clk := (((Dev.setByte_clk ..).trans (Dev.setByte_clk ..)).trans (Dev.setByte_clk ..)).trans (Dev.setByte_clk ..)
@[simp] theorem Dev.setWordData_lp (a : Nat) (w : Word) : (d.setWordData a w).lp = d.lp := (((Dev.setByte_lp ..).trans (Dev.setByte_lp ..)).trans (Dev.setByte_lp ..)).trans (Dev.setByte_lp ..)
@[simp] theorem Dev.setWordData_dbg (a : Nat) (w : Word) : (d.setWordData a w).dbg = d.dbg := (((Dev.setByte_dbg ..).trans (Dev.setByte_dbg ..)).trans (Dev.setByte_dbg ..)).trans (Dev.setByte_dbg ..)
@[simp] theorem Dev.setWordData_jtag (a : Nat) (w : Word) : (d.setWordData a w).jtag = d.jtag := (((Dev.setByte_jtag ..).trans (Dev.setByte_jtag ..)).trans (Dev.setByte_jtag ..)).trans (Dev.setByte_jtag ..)
@[simp] theorem Dev.setWordData_boot (a : Nat) (w : Word) : (d.setWordData a w).boot = d.boot := (((Dev.setByte_boot ..).trans (Dev.setByte_boot ..)).trans (Dev.setByte_boot ..)).trans (Dev.setByte_boot ..)
@[simp] theorem Dev.setWordData_wdCfg (a : Nat) (w : Word) : (d.setWordData a w).wdCfg = d.wdCfg := (((Dev.setByte_wdCfg ..).trans (Dev.setByte_wdCfg ..)).trans (Dev.setByte_wdCfg ..)).trans (Dev.setByte_wdCfg ..)

@[simp] theorem Dev.setWord_regs (a : Nat) (w : Word) (c : BitVec 7) : (d.setWord a w c).regs = d.regs := (Dev.setCode_regs ..).trans (Dev.setWordData_regs ..)
@[simp] theorem Dev.setWord_shadow (a : Nat) (w : Word) (c : BitVec 7) : (d.setWord a w c).shadow = d.shadow := (Dev.setCode_shadow ..).trans (Dev.setWordData_shadow ..)
@[simp] theorem Dev.setWord_banked (a : Nat) (w : Word) (c : BitVec 7) : (d.setWord a w c).banked = d.banked := (Dev.setCode_banked ..).trans (Dev.setWordData_banked ..)
@[simp] theorem Dev.setWord_freeCtr (a : Nat) (w : Word) (c : BitVec 7) : (d.setWord a w c).freeCtr = d.freeCtr := (Dev.setCode_freeCtr ..).trans (Dev.setWordData_freeCtr ..)
@[simp] theorem Dev.setWord_time (a : Nat) (w : Word) (c : BitVec 7) : (d.setWord a w c).time = d.time := (Dev.setCode_time ..).trans (Dev.setWordData_time ..)
@[simp] theorem Dev.setWord_phase (a : Nat) (w : Word) (c : BitVec 7) : (d.setWord a w c).phase = d.phase := (Dev.setCode_phase ..).trans (Dev.setWordData_phase ..)
@[simp] theorem Dev.setWord_phaseDue (a : Nat) (w : Word) (c : BitVec 7) : (d.setWord a w c).phaseDue = d.phaseDue := (Dev.setCode_phaseDue ..).trans (Dev.setWordData_phaseDue ..)
@[simp] theorem Dev.setWord_cs (a : Nat) (w : Word) (c : BitVec 7) : (d.setWord a w c).cs = d.cs := (Dev.setCode_cs ..).trans (Dev.setWordData_cs ..)
@[simp] theorem Dev.setWord_csDue (a : Nat) (w : Word) (c : BitVec 7) : (d.setWord a w c).csDue = d.csDue := (Dev.setCode_csDue ..).trans (Dev.setWordData_csDue ..)
@[simp] theorem Dev.setWord_pendRestart (a : Nat) (w : Word) (c : BitVec 7) : (d.setWord a w c).pendRestart = d.pendRestart := (Dev.setCode_pendRestart ..).trans (Dev.setWordData_pendRestart ..)
@[simp] theorem Dev.setWord_frames (a : Nat) (w : Word) (c : BitVec 7) : (d.setWord a w c).frames = d.frames := (Dev.setCode_frames ..).trans (Dev.setWordData_frames ..)
@[simp] theorem Dev.setWord_frnum (a : Nat) (w : Word) (c : BitVec 7) : (d.setWord a w c).frnum = d.frnum := (Dev.setCode_frnum ..).trans (Dev.setWordData_frnum ..)
@[simp] theorem Dev.setWord_tickt (a : Nat) (w : Word) (c : BitVec 7) : (d.setWord a w c).tickt = d.tickt := (Dev.setCode_tickt ..).trans (Dev.setWordData_tickt ..)
@[simp] theorem Dev.setWord_period (a : Nat) (w : Word) (c : BitVec 7) : (d.setWord a w c).period = d.period := (Dev.setCode_period ..).trans (Dev.setWordData_period ..)
@[simp] theorem Dev.setWord_ledgerStop (a : Nat) (w : Word) (c : BitVec 7) : (d.setWord a w c).ledgerStop = d.ledgerStop := (Dev.setCode_ledgerStop ..).trans (Dev.setWordData_ledgerStop ..)
@[simp] theorem Dev.setWord_flopp (a : Nat) (w : Word) (c : BitVec 7) : (d.setWord a w c).flopp = d.flopp := (Dev.setCode_flopp ..).trans (Dev.setWordData_flopp ..)
@[simp] theorem Dev.setWord_floppDst (a : Nat) (w : Word) (c : BitVec 7) : (d.setWord a w c).floppDst = d.floppDst := (Dev.setCode_floppDst ..).trans (Dev.setWordData_floppDst ..)
@[simp] theorem Dev.setWord_ovl (a : Nat) (w : Word) (c : BitVec 7) : (d.setWord a w c).ovl = d.ovl := (Dev.setCode_ovl ..).trans (Dev.setWordData_ovl ..)
@[simp] theorem Dev.setWord_pages (a : Nat) (w : Word) (c : BitVec 7) : (d.setWord a w c).pages = d.pages := (Dev.setCode_pages ..).trans (Dev.setWordData_pages ..)
@[simp] theorem Dev.setWord_jrn (a : Nat) (w : Word) (c : BitVec 7) : (d.setWord a w c).jrn = d.jrn := (Dev.setCode_jrn ..).trans (Dev.setWordData_jrn ..)
@[simp] theorem Dev.setWord_jdup (a : Nat) (w : Word) (c : BitVec 7) : (d.setWord a w c).jdup = d.jdup := (Dev.setCode_jdup ..).trans (Dev.setWordData_jdup ..)
@[simp] theorem Dev.setWord_links (a : Nat) (w : Word) (c : BitVec 7) : (d.setWord a w c).links = d.links := (Dev.setCode_links ..).trans (Dev.setWordData_links ..)
@[simp] theorem Dev.setWord_cmp (a : Nat) (w : Word) (c : BitVec 7) : (d.setWord a w c).cmp = d.cmp := (Dev.setCode_cmp ..).trans (Dev.setWordData_cmp ..)
@[simp] theorem Dev.setWord_agr (a : Nat) (w : Word) (c : BitVec 7) : (d.setWord a w c).agr = d.agr := (Dev.setCode_agr ..).trans (Dev.setWordData_agr ..)
@[simp] theorem Dev.setWord_copies (a : Nat) (w : Word) (c : BitVec 7) : (d.setWord a w c).copies = d.copies := (Dev.setCode_copies ..).trans (Dev.setWordData_copies ..)
@[simp] theorem Dev.setWord_drv (a : Nat) (w : Word) (c : BitVec 7) : (d.setWord a w c).drv = d.drv := (Dev.setCode_drv ..).trans (Dev.setWordData_drv ..)
@[simp] theorem Dev.setWord_fan (a : Nat) (w : Word) (c : BitVec 7) : (d.setWord a w c).fan = d.fan := (Dev.setCode_fan ..).trans (Dev.setWordData_fan ..)
@[simp] theorem Dev.setWord_fanOvrDue (a : Nat) (w : Word) (c : BitVec 7) : (d.setWord a w c).fanOvrDue = d.fanOvrDue := (Dev.setCode_fanOvrDue ..).trans (Dev.setWordData_fanOvrDue ..)
@[simp] theorem Dev.setWord_fanLoopAt (a : Nat) (w : Word) (c : BitVec 7) : (d.setWord a w c).fanLoopAt = d.fanLoopAt := (Dev.setCode_fanLoopAt ..).trans (Dev.setWordData_fanLoopAt ..)
@[simp] theorem Dev.setWord_partAt (a : Nat) (w : Word) (c : BitVec 7) : (d.setWord a w c).partAt = d.partAt := (Dev.setCode_partAt ..).trans (Dev.setWordData_partAt ..)
@[simp] theorem Dev.setWord_gpo (a : Nat) (w : Word) (c : BitVec 7) : (d.setWord a w c).gpo = d.gpo := (Dev.setCode_gpo ..).trans (Dev.setWordData_gpo ..)
@[simp] theorem Dev.setWord_puff (a : Nat) (w : Word) (c : BitVec 7) : (d.setWord a w c).puff = d.puff := (Dev.setCode_puff ..).trans (Dev.setWordData_puff ..)
@[simp] theorem Dev.setWord_can (a : Nat) (w : Word) (c : BitVec 7) : (d.setWord a w c).can = d.can := (Dev.setCode_can ..).trans (Dev.setWordData_can ..)
@[simp] theorem Dev.setWord_ledger (a : Nat) (w : Word) (c : BitVec 7) : (d.setWord a w c).ledger = d.ledger := (Dev.setCode_ledger ..).trans (Dev.setWordData_ledger ..)
@[simp] theorem Dev.setWord_flash (a : Nat) (w : Word) (c : BitVec 7) : (d.setWord a w c).flash = d.flash := (Dev.setCode_flash ..).trans (Dev.setWordData_flash ..)
@[simp] theorem Dev.setWord_scrubW (a : Nat) (w : Word) (c : BitVec 7) : (d.setWord a w c).scrubW = d.scrubW := (Dev.setCode_scrubW ..).trans (Dev.setWordData_scrubW ..)
@[simp] theorem Dev.setWord_refreshW (a : Nat) (w : Word) (c : BitVec 7) : (d.setWord a w c).refreshW = d.refreshW := (Dev.setCode_refreshW ..).trans (Dev.setWordData_refreshW ..)
@[simp] theorem Dev.setWord_clk (a : Nat) (w : Word) (c : BitVec 7) : (d.setWord a w c).clk = d.clk := (Dev.setCode_clk ..).trans (Dev.setWordData_clk ..)
@[simp] theorem Dev.setWord_lp (a : Nat) (w : Word) (c : BitVec 7) : (d.setWord a w c).lp = d.lp := (Dev.setCode_lp ..).trans (Dev.setWordData_lp ..)
@[simp] theorem Dev.setWord_dbg (a : Nat) (w : Word) (c : BitVec 7) : (d.setWord a w c).dbg = d.dbg := (Dev.setCode_dbg ..).trans (Dev.setWordData_dbg ..)
@[simp] theorem Dev.setWord_jtag (a : Nat) (w : Word) (c : BitVec 7) : (d.setWord a w c).jtag = d.jtag := (Dev.setCode_jtag ..).trans (Dev.setWordData_jtag ..)
@[simp] theorem Dev.setWord_boot (a : Nat) (w : Word) (c : BitVec 7) : (d.setWord a w c).boot = d.boot := (Dev.setCode_boot ..).trans (Dev.setWordData_boot ..)
@[simp] theorem Dev.setWord_wdCfg (a : Nat) (w : Word) (c : BitVec 7) : (d.setWord a w c).wdCfg = d.wdCfg := (Dev.setCode_wdCfg ..).trans (Dev.setWordData_wdCfg ..)

@[simp] theorem Dev.putWord_regs (a : Nat) (w : Word) : (d.putWord a w).regs = d.regs := Dev.setWord_regs ..
@[simp] theorem Dev.putWord_shadow (a : Nat) (w : Word) : (d.putWord a w).shadow = d.shadow := Dev.setWord_shadow ..
@[simp] theorem Dev.putWord_banked (a : Nat) (w : Word) : (d.putWord a w).banked = d.banked := Dev.setWord_banked ..
@[simp] theorem Dev.putWord_freeCtr (a : Nat) (w : Word) : (d.putWord a w).freeCtr = d.freeCtr := Dev.setWord_freeCtr ..
@[simp] theorem Dev.putWord_time (a : Nat) (w : Word) : (d.putWord a w).time = d.time := Dev.setWord_time ..
@[simp] theorem Dev.putWord_phase (a : Nat) (w : Word) : (d.putWord a w).phase = d.phase := Dev.setWord_phase ..
@[simp] theorem Dev.putWord_phaseDue (a : Nat) (w : Word) : (d.putWord a w).phaseDue = d.phaseDue := Dev.setWord_phaseDue ..
@[simp] theorem Dev.putWord_cs (a : Nat) (w : Word) : (d.putWord a w).cs = d.cs := Dev.setWord_cs ..
@[simp] theorem Dev.putWord_csDue (a : Nat) (w : Word) : (d.putWord a w).csDue = d.csDue := Dev.setWord_csDue ..
@[simp] theorem Dev.putWord_pendRestart (a : Nat) (w : Word) : (d.putWord a w).pendRestart = d.pendRestart := Dev.setWord_pendRestart ..
@[simp] theorem Dev.putWord_frames (a : Nat) (w : Word) : (d.putWord a w).frames = d.frames := Dev.setWord_frames ..
@[simp] theorem Dev.putWord_frnum (a : Nat) (w : Word) : (d.putWord a w).frnum = d.frnum := Dev.setWord_frnum ..
@[simp] theorem Dev.putWord_tickt (a : Nat) (w : Word) : (d.putWord a w).tickt = d.tickt := Dev.setWord_tickt ..
@[simp] theorem Dev.putWord_period (a : Nat) (w : Word) : (d.putWord a w).period = d.period := Dev.setWord_period ..
@[simp] theorem Dev.putWord_ledgerStop (a : Nat) (w : Word) : (d.putWord a w).ledgerStop = d.ledgerStop := Dev.setWord_ledgerStop ..
@[simp] theorem Dev.putWord_flopp (a : Nat) (w : Word) : (d.putWord a w).flopp = d.flopp := Dev.setWord_flopp ..
@[simp] theorem Dev.putWord_floppDst (a : Nat) (w : Word) : (d.putWord a w).floppDst = d.floppDst := Dev.setWord_floppDst ..
@[simp] theorem Dev.putWord_ovl (a : Nat) (w : Word) : (d.putWord a w).ovl = d.ovl := Dev.setWord_ovl ..
@[simp] theorem Dev.putWord_pages (a : Nat) (w : Word) : (d.putWord a w).pages = d.pages := Dev.setWord_pages ..
@[simp] theorem Dev.putWord_jrn (a : Nat) (w : Word) : (d.putWord a w).jrn = d.jrn := Dev.setWord_jrn ..
@[simp] theorem Dev.putWord_jdup (a : Nat) (w : Word) : (d.putWord a w).jdup = d.jdup := Dev.setWord_jdup ..
@[simp] theorem Dev.putWord_links (a : Nat) (w : Word) : (d.putWord a w).links = d.links := Dev.setWord_links ..
@[simp] theorem Dev.putWord_cmp (a : Nat) (w : Word) : (d.putWord a w).cmp = d.cmp := Dev.setWord_cmp ..
@[simp] theorem Dev.putWord_agr (a : Nat) (w : Word) : (d.putWord a w).agr = d.agr := Dev.setWord_agr ..
@[simp] theorem Dev.putWord_copies (a : Nat) (w : Word) : (d.putWord a w).copies = d.copies := Dev.setWord_copies ..
@[simp] theorem Dev.putWord_drv (a : Nat) (w : Word) : (d.putWord a w).drv = d.drv := Dev.setWord_drv ..
@[simp] theorem Dev.putWord_fan (a : Nat) (w : Word) : (d.putWord a w).fan = d.fan := Dev.setWord_fan ..
@[simp] theorem Dev.putWord_fanOvrDue (a : Nat) (w : Word) : (d.putWord a w).fanOvrDue = d.fanOvrDue := Dev.setWord_fanOvrDue ..
@[simp] theorem Dev.putWord_fanLoopAt (a : Nat) (w : Word) : (d.putWord a w).fanLoopAt = d.fanLoopAt := Dev.setWord_fanLoopAt ..
@[simp] theorem Dev.putWord_partAt (a : Nat) (w : Word) : (d.putWord a w).partAt = d.partAt := Dev.setWord_partAt ..
@[simp] theorem Dev.putWord_gpo (a : Nat) (w : Word) : (d.putWord a w).gpo = d.gpo := Dev.setWord_gpo ..
@[simp] theorem Dev.putWord_puff (a : Nat) (w : Word) : (d.putWord a w).puff = d.puff := Dev.setWord_puff ..
@[simp] theorem Dev.putWord_can (a : Nat) (w : Word) : (d.putWord a w).can = d.can := Dev.setWord_can ..
@[simp] theorem Dev.putWord_ledger (a : Nat) (w : Word) : (d.putWord a w).ledger = d.ledger := Dev.setWord_ledger ..
@[simp] theorem Dev.putWord_flash (a : Nat) (w : Word) : (d.putWord a w).flash = d.flash := Dev.setWord_flash ..
@[simp] theorem Dev.putWord_scrubW (a : Nat) (w : Word) : (d.putWord a w).scrubW = d.scrubW := Dev.setWord_scrubW ..
@[simp] theorem Dev.putWord_refreshW (a : Nat) (w : Word) : (d.putWord a w).refreshW = d.refreshW := Dev.setWord_refreshW ..
@[simp] theorem Dev.putWord_clk (a : Nat) (w : Word) : (d.putWord a w).clk = d.clk := Dev.setWord_clk ..
@[simp] theorem Dev.putWord_lp (a : Nat) (w : Word) : (d.putWord a w).lp = d.lp := Dev.setWord_lp ..
@[simp] theorem Dev.putWord_dbg (a : Nat) (w : Word) : (d.putWord a w).dbg = d.dbg := Dev.setWord_dbg ..
@[simp] theorem Dev.putWord_jtag (a : Nat) (w : Word) : (d.putWord a w).jtag = d.jtag := Dev.setWord_jtag ..
@[simp] theorem Dev.putWord_boot (a : Nat) (w : Word) : (d.putWord a w).boot = d.boot := Dev.setWord_boot ..
@[simp] theorem Dev.putWord_wdCfg (a : Nat) (w : Word) : (d.putWord a w).wdCfg = d.wdCfg := Dev.setWord_wdCfg ..

@[simp] theorem Dev.setPointers_shadow (h s c m : Word) : (d.setPointers h s c m).shadow = d.shadow := ((((Dev.mk_shadow ..).trans (Dev.setReg_shadow ..)).trans (Dev.setReg_shadow ..)).trans (Dev.setReg_shadow ..)).trans (Dev.setReg_shadow ..)
@[simp] theorem Dev.setPointers_banked (h s c m : Word) : (d.setPointers h s c m).banked = d.banked := ((((Dev.mk_banked ..).trans (Dev.setReg_banked ..)).trans (Dev.setReg_banked ..)).trans (Dev.setReg_banked ..)).trans (Dev.setReg_banked ..)
@[simp] theorem Dev.setPointers_mem (h s c m : Word) : (d.setPointers h s c m).mem = d.mem := ((((Dev.mk_mem ..).trans (Dev.setReg_mem ..)).trans (Dev.setReg_mem ..)).trans (Dev.setReg_mem ..)).trans (Dev.setReg_mem ..)
@[simp] theorem Dev.setPointers_codes (h s c m : Word) : (d.setPointers h s c m).codes = d.codes := ((((Dev.mk_codes ..).trans (Dev.setReg_codes ..)).trans (Dev.setReg_codes ..)).trans (Dev.setReg_codes ..)).trans (Dev.setReg_codes ..)
@[simp] theorem Dev.setPointers_freeCtr (h s c m : Word) : (d.setPointers h s c m).freeCtr = d.freeCtr := ((((Dev.mk_freeCtr ..).trans (Dev.setReg_freeCtr ..)).trans (Dev.setReg_freeCtr ..)).trans (Dev.setReg_freeCtr ..)).trans (Dev.setReg_freeCtr ..)
@[simp] theorem Dev.setPointers_time (h s c m : Word) : (d.setPointers h s c m).time = d.time := ((((Dev.mk_time ..).trans (Dev.setReg_time ..)).trans (Dev.setReg_time ..)).trans (Dev.setReg_time ..)).trans (Dev.setReg_time ..)
@[simp] theorem Dev.setPointers_phase (h s c m : Word) : (d.setPointers h s c m).phase = d.phase := ((((Dev.mk_phase ..).trans (Dev.setReg_phase ..)).trans (Dev.setReg_phase ..)).trans (Dev.setReg_phase ..)).trans (Dev.setReg_phase ..)
@[simp] theorem Dev.setPointers_phaseDue (h s c m : Word) : (d.setPointers h s c m).phaseDue = d.phaseDue := ((((Dev.mk_phaseDue ..).trans (Dev.setReg_phaseDue ..)).trans (Dev.setReg_phaseDue ..)).trans (Dev.setReg_phaseDue ..)).trans (Dev.setReg_phaseDue ..)
@[simp] theorem Dev.setPointers_cs (h s c m : Word) : (d.setPointers h s c m).cs = d.cs := ((((Dev.mk_cs ..).trans (Dev.setReg_cs ..)).trans (Dev.setReg_cs ..)).trans (Dev.setReg_cs ..)).trans (Dev.setReg_cs ..)
@[simp] theorem Dev.setPointers_csDue (h s c m : Word) : (d.setPointers h s c m).csDue = d.csDue := ((((Dev.mk_csDue ..).trans (Dev.setReg_csDue ..)).trans (Dev.setReg_csDue ..)).trans (Dev.setReg_csDue ..)).trans (Dev.setReg_csDue ..)
@[simp] theorem Dev.setPointers_pendRestart (h s c m : Word) : (d.setPointers h s c m).pendRestart = d.pendRestart := ((((Dev.mk_pendRestart ..).trans (Dev.setReg_pendRestart ..)).trans (Dev.setReg_pendRestart ..)).trans (Dev.setReg_pendRestart ..)).trans (Dev.setReg_pendRestart ..)
@[simp] theorem Dev.setPointers_frames (h s c m : Word) : (d.setPointers h s c m).frames = d.frames := ((((Dev.mk_frames ..).trans (Dev.setReg_frames ..)).trans (Dev.setReg_frames ..)).trans (Dev.setReg_frames ..)).trans (Dev.setReg_frames ..)
@[simp] theorem Dev.setPointers_frnum (h s c m : Word) : (d.setPointers h s c m).frnum = d.frnum := ((((Dev.mk_frnum ..).trans (Dev.setReg_frnum ..)).trans (Dev.setReg_frnum ..)).trans (Dev.setReg_frnum ..)).trans (Dev.setReg_frnum ..)
@[simp] theorem Dev.setPointers_tickt (h s c m : Word) : (d.setPointers h s c m).tickt = d.tickt := ((((Dev.mk_tickt ..).trans (Dev.setReg_tickt ..)).trans (Dev.setReg_tickt ..)).trans (Dev.setReg_tickt ..)).trans (Dev.setReg_tickt ..)
@[simp] theorem Dev.setPointers_period (h s c m : Word) : (d.setPointers h s c m).period = d.period := ((((Dev.mk_period ..).trans (Dev.setReg_period ..)).trans (Dev.setReg_period ..)).trans (Dev.setReg_period ..)).trans (Dev.setReg_period ..)
@[simp] theorem Dev.setPointers_ledgerStop (h s c m : Word) : (d.setPointers h s c m).ledgerStop = d.ledgerStop := ((((Dev.mk_ledgerStop ..).trans (Dev.setReg_ledgerStop ..)).trans (Dev.setReg_ledgerStop ..)).trans (Dev.setReg_ledgerStop ..)).trans (Dev.setReg_ledgerStop ..)
@[simp] theorem Dev.setPointers_flopp (h s c m : Word) : (d.setPointers h s c m).flopp = d.flopp := ((((Dev.mk_flopp ..).trans (Dev.setReg_flopp ..)).trans (Dev.setReg_flopp ..)).trans (Dev.setReg_flopp ..)).trans (Dev.setReg_flopp ..)
@[simp] theorem Dev.setPointers_floppDst (h s c m : Word) : (d.setPointers h s c m).floppDst = d.floppDst := ((((Dev.mk_floppDst ..).trans (Dev.setReg_floppDst ..)).trans (Dev.setReg_floppDst ..)).trans (Dev.setReg_floppDst ..)).trans (Dev.setReg_floppDst ..)
@[simp] theorem Dev.setPointers_ovl (h s c m : Word) : (d.setPointers h s c m).ovl = d.ovl := ((((Dev.mk_ovl ..).trans (Dev.setReg_ovl ..)).trans (Dev.setReg_ovl ..)).trans (Dev.setReg_ovl ..)).trans (Dev.setReg_ovl ..)
@[simp] theorem Dev.setPointers_pages (h s c m : Word) : (d.setPointers h s c m).pages = d.pages := ((((Dev.mk_pages ..).trans (Dev.setReg_pages ..)).trans (Dev.setReg_pages ..)).trans (Dev.setReg_pages ..)).trans (Dev.setReg_pages ..)
@[simp] theorem Dev.setPointers_jrn (h s c m : Word) : (d.setPointers h s c m).jrn = d.jrn := ((((Dev.mk_jrn ..).trans (Dev.setReg_jrn ..)).trans (Dev.setReg_jrn ..)).trans (Dev.setReg_jrn ..)).trans (Dev.setReg_jrn ..)
@[simp] theorem Dev.setPointers_links (h s c m : Word) : (d.setPointers h s c m).links = d.links := ((((Dev.mk_links ..).trans (Dev.setReg_links ..)).trans (Dev.setReg_links ..)).trans (Dev.setReg_links ..)).trans (Dev.setReg_links ..)
@[simp] theorem Dev.setPointers_cmp (h s c m : Word) : (d.setPointers h s c m).cmp = d.cmp := ((((Dev.mk_cmp ..).trans (Dev.setReg_cmp ..)).trans (Dev.setReg_cmp ..)).trans (Dev.setReg_cmp ..)).trans (Dev.setReg_cmp ..)
@[simp] theorem Dev.setPointers_agr (h s c m : Word) : (d.setPointers h s c m).agr = d.agr := ((((Dev.mk_agr ..).trans (Dev.setReg_agr ..)).trans (Dev.setReg_agr ..)).trans (Dev.setReg_agr ..)).trans (Dev.setReg_agr ..)
@[simp] theorem Dev.setPointers_copies (h s c m : Word) : (d.setPointers h s c m).copies = d.copies := ((((Dev.mk_copies ..).trans (Dev.setReg_copies ..)).trans (Dev.setReg_copies ..)).trans (Dev.setReg_copies ..)).trans (Dev.setReg_copies ..)
@[simp] theorem Dev.setPointers_drv (h s c m : Word) : (d.setPointers h s c m).drv = d.drv := ((((Dev.mk_drv ..).trans (Dev.setReg_drv ..)).trans (Dev.setReg_drv ..)).trans (Dev.setReg_drv ..)).trans (Dev.setReg_drv ..)
@[simp] theorem Dev.setPointers_fan (h s c m : Word) : (d.setPointers h s c m).fan = d.fan := ((((Dev.mk_fan ..).trans (Dev.setReg_fan ..)).trans (Dev.setReg_fan ..)).trans (Dev.setReg_fan ..)).trans (Dev.setReg_fan ..)
@[simp] theorem Dev.setPointers_fanOvrDue (h s c m : Word) : (d.setPointers h s c m).fanOvrDue = d.fanOvrDue := ((((Dev.mk_fanOvrDue ..).trans (Dev.setReg_fanOvrDue ..)).trans (Dev.setReg_fanOvrDue ..)).trans (Dev.setReg_fanOvrDue ..)).trans (Dev.setReg_fanOvrDue ..)
@[simp] theorem Dev.setPointers_fanLoopAt (h s c m : Word) : (d.setPointers h s c m).fanLoopAt = d.fanLoopAt := ((((Dev.mk_fanLoopAt ..).trans (Dev.setReg_fanLoopAt ..)).trans (Dev.setReg_fanLoopAt ..)).trans (Dev.setReg_fanLoopAt ..)).trans (Dev.setReg_fanLoopAt ..)
@[simp] theorem Dev.setPointers_partAt (h s c m : Word) : (d.setPointers h s c m).partAt = d.partAt := ((((Dev.mk_partAt ..).trans (Dev.setReg_partAt ..)).trans (Dev.setReg_partAt ..)).trans (Dev.setReg_partAt ..)).trans (Dev.setReg_partAt ..)
@[simp] theorem Dev.setPointers_gpo (h s c m : Word) : (d.setPointers h s c m).gpo = d.gpo := ((((Dev.mk_gpo ..).trans (Dev.setReg_gpo ..)).trans (Dev.setReg_gpo ..)).trans (Dev.setReg_gpo ..)).trans (Dev.setReg_gpo ..)
@[simp] theorem Dev.setPointers_puff (h s c m : Word) : (d.setPointers h s c m).puff = d.puff := ((((Dev.mk_puff ..).trans (Dev.setReg_puff ..)).trans (Dev.setReg_puff ..)).trans (Dev.setReg_puff ..)).trans (Dev.setReg_puff ..)
@[simp] theorem Dev.setPointers_can (h s c m : Word) : (d.setPointers h s c m).can = d.can := ((((Dev.mk_can ..).trans (Dev.setReg_can ..)).trans (Dev.setReg_can ..)).trans (Dev.setReg_can ..)).trans (Dev.setReg_can ..)
@[simp] theorem Dev.setPointers_ledger (h s c m : Word) : (d.setPointers h s c m).ledger = d.ledger := ((((Dev.mk_ledger ..).trans (Dev.setReg_ledger ..)).trans (Dev.setReg_ledger ..)).trans (Dev.setReg_ledger ..)).trans (Dev.setReg_ledger ..)
@[simp] theorem Dev.setPointers_flash (h s c m : Word) : (d.setPointers h s c m).flash = d.flash := ((((Dev.mk_flash ..).trans (Dev.setReg_flash ..)).trans (Dev.setReg_flash ..)).trans (Dev.setReg_flash ..)).trans (Dev.setReg_flash ..)
@[simp] theorem Dev.setPointers_scrubW (h s c m : Word) : (d.setPointers h s c m).scrubW = d.scrubW := ((((Dev.mk_scrubW ..).trans (Dev.setReg_scrubW ..)).trans (Dev.setReg_scrubW ..)).trans (Dev.setReg_scrubW ..)).trans (Dev.setReg_scrubW ..)
@[simp] theorem Dev.setPointers_refreshW (h s c m : Word) : (d.setPointers h s c m).refreshW = d.refreshW := ((((Dev.mk_refreshW ..).trans (Dev.setReg_refreshW ..)).trans (Dev.setReg_refreshW ..)).trans (Dev.setReg_refreshW ..)).trans (Dev.setReg_refreshW ..)
@[simp] theorem Dev.setPointers_clk (h s c m : Word) : (d.setPointers h s c m).clk = d.clk := ((((Dev.mk_clk ..).trans (Dev.setReg_clk ..)).trans (Dev.setReg_clk ..)).trans (Dev.setReg_clk ..)).trans (Dev.setReg_clk ..)
@[simp] theorem Dev.setPointers_lp (h s c m : Word) : (d.setPointers h s c m).lp = d.lp := ((((Dev.mk_lp ..).trans (Dev.setReg_lp ..)).trans (Dev.setReg_lp ..)).trans (Dev.setReg_lp ..)).trans (Dev.setReg_lp ..)
@[simp] theorem Dev.setPointers_dbg (h s c m : Word) : (d.setPointers h s c m).dbg = d.dbg := ((((Dev.mk_dbg ..).trans (Dev.setReg_dbg ..)).trans (Dev.setReg_dbg ..)).trans (Dev.setReg_dbg ..)).trans (Dev.setReg_dbg ..)
@[simp] theorem Dev.setPointers_jtag (h s c m : Word) : (d.setPointers h s c m).jtag = d.jtag := ((((Dev.mk_jtag ..).trans (Dev.setReg_jtag ..)).trans (Dev.setReg_jtag ..)).trans (Dev.setReg_jtag ..)).trans (Dev.setReg_jtag ..)
@[simp] theorem Dev.setPointers_boot (h s c m : Word) : (d.setPointers h s c m).boot = d.boot := ((((Dev.mk_boot ..).trans (Dev.setReg_boot ..)).trans (Dev.setReg_boot ..)).trans (Dev.setReg_boot ..)).trans (Dev.setReg_boot ..)
@[simp] theorem Dev.setPointers_wdCfg (h s c m : Word) : (d.setPointers h s c m).wdCfg = d.wdCfg := ((((Dev.mk_wdCfg ..).trans (Dev.setReg_wdCfg ..)).trans (Dev.setReg_wdCfg ..)).trans (Dev.setReg_wdCfg ..)).trans (Dev.setReg_wdCfg ..)

@[simp] theorem Dev.setBankReg_shadow (w : World) (k : Nat) (v : Word) : (d.setBankReg w k v).shadow = d.shadow := by
  cases w
  · exact Dev.setReg_shadow ..
  · exact Dev.mk_shadow ..
@[simp] theorem Dev.setBankReg_mem (w : World) (k : Nat) (v : Word) : (d.setBankReg w k v).mem = d.mem := by
  cases w
  · exact Dev.setReg_mem ..
  · exact Dev.mk_mem ..
@[simp] theorem Dev.setBankReg_codes (w : World) (k : Nat) (v : Word) : (d.setBankReg w k v).codes = d.codes := by
  cases w
  · exact Dev.setReg_codes ..
  · exact Dev.mk_codes ..
@[simp] theorem Dev.setBankReg_freeCtr (w : World) (k : Nat) (v : Word) : (d.setBankReg w k v).freeCtr = d.freeCtr := by
  cases w
  · exact Dev.setReg_freeCtr ..
  · exact Dev.mk_freeCtr ..
@[simp] theorem Dev.setBankReg_time (w : World) (k : Nat) (v : Word) : (d.setBankReg w k v).time = d.time := by
  cases w
  · exact Dev.setReg_time ..
  · exact Dev.mk_time ..
@[simp] theorem Dev.setBankReg_phase (w : World) (k : Nat) (v : Word) : (d.setBankReg w k v).phase = d.phase := by
  cases w
  · exact Dev.setReg_phase ..
  · exact Dev.mk_phase ..
@[simp] theorem Dev.setBankReg_phaseDue (w : World) (k : Nat) (v : Word) : (d.setBankReg w k v).phaseDue = d.phaseDue := by
  cases w
  · exact Dev.setReg_phaseDue ..
  · exact Dev.mk_phaseDue ..
@[simp] theorem Dev.setBankReg_cs (w : World) (k : Nat) (v : Word) : (d.setBankReg w k v).cs = d.cs := by
  cases w
  · exact Dev.setReg_cs ..
  · exact Dev.mk_cs ..
@[simp] theorem Dev.setBankReg_csDue (w : World) (k : Nat) (v : Word) : (d.setBankReg w k v).csDue = d.csDue := by
  cases w
  · exact Dev.setReg_csDue ..
  · exact Dev.mk_csDue ..
@[simp] theorem Dev.setBankReg_pendRestart (w : World) (k : Nat) (v : Word) : (d.setBankReg w k v).pendRestart = d.pendRestart := by
  cases w
  · exact Dev.setReg_pendRestart ..
  · exact Dev.mk_pendRestart ..
@[simp] theorem Dev.setBankReg_frames (w : World) (k : Nat) (v : Word) : (d.setBankReg w k v).frames = d.frames := by
  cases w
  · exact Dev.setReg_frames ..
  · exact Dev.mk_frames ..
@[simp] theorem Dev.setBankReg_frnum (w : World) (k : Nat) (v : Word) : (d.setBankReg w k v).frnum = d.frnum := by
  cases w
  · exact Dev.setReg_frnum ..
  · exact Dev.mk_frnum ..
@[simp] theorem Dev.setBankReg_tickt (w : World) (k : Nat) (v : Word) : (d.setBankReg w k v).tickt = d.tickt := by
  cases w
  · exact Dev.setReg_tickt ..
  · exact Dev.mk_tickt ..
@[simp] theorem Dev.setBankReg_period (w : World) (k : Nat) (v : Word) : (d.setBankReg w k v).period = d.period := by
  cases w
  · exact Dev.setReg_period ..
  · exact Dev.mk_period ..
@[simp] theorem Dev.setBankReg_ledgerStop (w : World) (k : Nat) (v : Word) : (d.setBankReg w k v).ledgerStop = d.ledgerStop := by
  cases w
  · exact Dev.setReg_ledgerStop ..
  · exact Dev.mk_ledgerStop ..
@[simp] theorem Dev.setBankReg_flopp (w : World) (k : Nat) (v : Word) : (d.setBankReg w k v).flopp = d.flopp := by
  cases w
  · exact Dev.setReg_flopp ..
  · exact Dev.mk_flopp ..
@[simp] theorem Dev.setBankReg_floppDst (w : World) (k : Nat) (v : Word) : (d.setBankReg w k v).floppDst = d.floppDst := by
  cases w
  · exact Dev.setReg_floppDst ..
  · exact Dev.mk_floppDst ..
@[simp] theorem Dev.setBankReg_ovl (w : World) (k : Nat) (v : Word) : (d.setBankReg w k v).ovl = d.ovl := by
  cases w
  · exact Dev.setReg_ovl ..
  · exact Dev.mk_ovl ..
@[simp] theorem Dev.setBankReg_pages (w : World) (k : Nat) (v : Word) : (d.setBankReg w k v).pages = d.pages := by
  cases w
  · exact Dev.setReg_pages ..
  · exact Dev.mk_pages ..
@[simp] theorem Dev.setBankReg_jrn (w : World) (k : Nat) (v : Word) : (d.setBankReg w k v).jrn = d.jrn := by
  cases w
  · exact Dev.setReg_jrn ..
  · exact Dev.mk_jrn ..
@[simp] theorem Dev.setBankReg_jdup (w : World) (k : Nat) (v : Word) : (d.setBankReg w k v).jdup = d.jdup := by
  cases w
  · exact Dev.setReg_jdup ..
  · exact Dev.mk_jdup ..
@[simp] theorem Dev.setBankReg_links (w : World) (k : Nat) (v : Word) : (d.setBankReg w k v).links = d.links := by
  cases w
  · exact Dev.setReg_links ..
  · exact Dev.mk_links ..
@[simp] theorem Dev.setBankReg_cmp (w : World) (k : Nat) (v : Word) : (d.setBankReg w k v).cmp = d.cmp := by
  cases w
  · exact Dev.setReg_cmp ..
  · exact Dev.mk_cmp ..
@[simp] theorem Dev.setBankReg_agr (w : World) (k : Nat) (v : Word) : (d.setBankReg w k v).agr = d.agr := by
  cases w
  · exact Dev.setReg_agr ..
  · exact Dev.mk_agr ..
@[simp] theorem Dev.setBankReg_copies (w : World) (k : Nat) (v : Word) : (d.setBankReg w k v).copies = d.copies := by
  cases w
  · exact Dev.setReg_copies ..
  · exact Dev.mk_copies ..
@[simp] theorem Dev.setBankReg_drv (w : World) (k : Nat) (v : Word) : (d.setBankReg w k v).drv = d.drv := by
  cases w
  · exact Dev.setReg_drv ..
  · exact Dev.mk_drv ..
@[simp] theorem Dev.setBankReg_fan (w : World) (k : Nat) (v : Word) : (d.setBankReg w k v).fan = d.fan := by
  cases w
  · exact Dev.setReg_fan ..
  · exact Dev.mk_fan ..
@[simp] theorem Dev.setBankReg_fanOvrDue (w : World) (k : Nat) (v : Word) : (d.setBankReg w k v).fanOvrDue = d.fanOvrDue := by
  cases w
  · exact Dev.setReg_fanOvrDue ..
  · exact Dev.mk_fanOvrDue ..
@[simp] theorem Dev.setBankReg_fanLoopAt (w : World) (k : Nat) (v : Word) : (d.setBankReg w k v).fanLoopAt = d.fanLoopAt := by
  cases w
  · exact Dev.setReg_fanLoopAt ..
  · exact Dev.mk_fanLoopAt ..
@[simp] theorem Dev.setBankReg_partAt (w : World) (k : Nat) (v : Word) : (d.setBankReg w k v).partAt = d.partAt := by
  cases w
  · exact Dev.setReg_partAt ..
  · exact Dev.mk_partAt ..
@[simp] theorem Dev.setBankReg_gpo (w : World) (k : Nat) (v : Word) : (d.setBankReg w k v).gpo = d.gpo := by
  cases w
  · exact Dev.setReg_gpo ..
  · exact Dev.mk_gpo ..
@[simp] theorem Dev.setBankReg_puff (w : World) (k : Nat) (v : Word) : (d.setBankReg w k v).puff = d.puff := by
  cases w
  · exact Dev.setReg_puff ..
  · exact Dev.mk_puff ..
@[simp] theorem Dev.setBankReg_can (w : World) (k : Nat) (v : Word) : (d.setBankReg w k v).can = d.can := by
  cases w
  · exact Dev.setReg_can ..
  · exact Dev.mk_can ..
@[simp] theorem Dev.setBankReg_ledger (w : World) (k : Nat) (v : Word) : (d.setBankReg w k v).ledger = d.ledger := by
  cases w
  · exact Dev.setReg_ledger ..
  · exact Dev.mk_ledger ..
@[simp] theorem Dev.setBankReg_flash (w : World) (k : Nat) (v : Word) : (d.setBankReg w k v).flash = d.flash := by
  cases w
  · exact Dev.setReg_flash ..
  · exact Dev.mk_flash ..
@[simp] theorem Dev.setBankReg_scrubW (w : World) (k : Nat) (v : Word) : (d.setBankReg w k v).scrubW = d.scrubW := by
  cases w
  · exact Dev.setReg_scrubW ..
  · exact Dev.mk_scrubW ..
@[simp] theorem Dev.setBankReg_refreshW (w : World) (k : Nat) (v : Word) : (d.setBankReg w k v).refreshW = d.refreshW := by
  cases w
  · exact Dev.setReg_refreshW ..
  · exact Dev.mk_refreshW ..
@[simp] theorem Dev.setBankReg_clk (w : World) (k : Nat) (v : Word) : (d.setBankReg w k v).clk = d.clk := by
  cases w
  · exact Dev.setReg_clk ..
  · exact Dev.mk_clk ..
@[simp] theorem Dev.setBankReg_lp (w : World) (k : Nat) (v : Word) : (d.setBankReg w k v).lp = d.lp := by
  cases w
  · exact Dev.setReg_lp ..
  · exact Dev.mk_lp ..
@[simp] theorem Dev.setBankReg_dbg (w : World) (k : Nat) (v : Word) : (d.setBankReg w k v).dbg = d.dbg := by
  cases w
  · exact Dev.setReg_dbg ..
  · exact Dev.mk_dbg ..
@[simp] theorem Dev.setBankReg_jtag (w : World) (k : Nat) (v : Word) : (d.setBankReg w k v).jtag = d.jtag := by
  cases w
  · exact Dev.setReg_jtag ..
  · exact Dev.mk_jtag ..
@[simp] theorem Dev.setBankReg_boot (w : World) (k : Nat) (v : Word) : (d.setBankReg w k v).boot = d.boot := by
  cases w
  · exact Dev.setReg_boot ..
  · exact Dev.mk_boot ..
@[simp] theorem Dev.setBankReg_wdCfg (w : World) (k : Nat) (v : Word) : (d.setBankReg w k v).wdCfg = d.wdCfg := by
  cases w
  · exact Dev.setReg_wdCfg ..
  · exact Dev.mk_wdCfg ..

@[simp] theorem Dev.at_regs (n : Nat) : (d.at n).regs = d.regs := by
  unfold Dev.at
  split
  · exact Dev.mk_regs ..
  · rfl
@[simp] theorem Dev.at_shadow (n : Nat) : (d.at n).shadow = d.shadow := by
  unfold Dev.at
  split
  · exact Dev.mk_shadow ..
  · rfl
@[simp] theorem Dev.at_banked (n : Nat) : (d.at n).banked = d.banked := by
  unfold Dev.at
  split
  · exact Dev.mk_banked ..
  · rfl
@[simp] theorem Dev.at_mem (n : Nat) : (d.at n).mem = d.mem := by
  unfold Dev.at
  split
  · exact Dev.mk_mem ..
  · rfl
@[simp] theorem Dev.at_codes (n : Nat) : (d.at n).codes = d.codes := by
  unfold Dev.at
  split
  · exact Dev.mk_codes ..
  · rfl
@[simp] theorem Dev.at_freeCtr (n : Nat) : (d.at n).freeCtr = d.freeCtr := by
  unfold Dev.at
  split
  · exact Dev.mk_freeCtr ..
  · rfl
@[simp] theorem Dev.at_phase (n : Nat) : (d.at n).phase = d.phase := by
  unfold Dev.at
  split
  · exact Dev.mk_phase ..
  · rfl
@[simp] theorem Dev.at_phaseDue (n : Nat) : (d.at n).phaseDue = d.phaseDue := by
  unfold Dev.at
  split
  · exact Dev.mk_phaseDue ..
  · rfl
@[simp] theorem Dev.at_cs (n : Nat) : (d.at n).cs = d.cs := by
  unfold Dev.at
  split
  · exact Dev.mk_cs ..
  · rfl
@[simp] theorem Dev.at_csDue (n : Nat) : (d.at n).csDue = d.csDue := by
  unfold Dev.at
  split
  · exact Dev.mk_csDue ..
  · rfl
@[simp] theorem Dev.at_pendRestart (n : Nat) : (d.at n).pendRestart = d.pendRestart := by
  unfold Dev.at
  split
  · exact Dev.mk_pendRestart ..
  · rfl
@[simp] theorem Dev.at_frames (n : Nat) : (d.at n).frames = d.frames := by
  unfold Dev.at
  split
  · exact Dev.mk_frames ..
  · rfl
@[simp] theorem Dev.at_frnum (n : Nat) : (d.at n).frnum = d.frnum := by
  unfold Dev.at
  split
  · exact Dev.mk_frnum ..
  · rfl
@[simp] theorem Dev.at_tickt (n : Nat) : (d.at n).tickt = d.tickt := by
  unfold Dev.at
  split
  · exact Dev.mk_tickt ..
  · rfl
@[simp] theorem Dev.at_period (n : Nat) : (d.at n).period = d.period := by
  unfold Dev.at
  split
  · exact Dev.mk_period ..
  · rfl
@[simp] theorem Dev.at_ledgerStop (n : Nat) : (d.at n).ledgerStop = d.ledgerStop := by
  unfold Dev.at
  split
  · exact Dev.mk_ledgerStop ..
  · rfl
@[simp] theorem Dev.at_flopp (n : Nat) : (d.at n).flopp = d.flopp := by
  unfold Dev.at
  split
  · exact Dev.mk_flopp ..
  · rfl
@[simp] theorem Dev.at_floppDst (n : Nat) : (d.at n).floppDst = d.floppDst := by
  unfold Dev.at
  split
  · exact Dev.mk_floppDst ..
  · rfl
@[simp] theorem Dev.at_ovl (n : Nat) : (d.at n).ovl = d.ovl := by
  unfold Dev.at
  split
  · exact Dev.mk_ovl ..
  · rfl
@[simp] theorem Dev.at_pages (n : Nat) : (d.at n).pages = d.pages := by
  unfold Dev.at
  split
  · exact Dev.mk_pages ..
  · rfl
@[simp] theorem Dev.at_jrn (n : Nat) : (d.at n).jrn = d.jrn := by
  unfold Dev.at
  split
  · exact Dev.mk_jrn ..
  · rfl
@[simp] theorem Dev.at_jdup (n : Nat) : (d.at n).jdup = d.jdup := by
  unfold Dev.at
  split
  · exact Dev.mk_jdup ..
  · rfl
@[simp] theorem Dev.at_links (n : Nat) : (d.at n).links = d.links := by
  unfold Dev.at
  split
  · exact Dev.mk_links ..
  · rfl
@[simp] theorem Dev.at_cmp (n : Nat) : (d.at n).cmp = d.cmp := by
  unfold Dev.at
  split
  · exact Dev.mk_cmp ..
  · rfl
@[simp] theorem Dev.at_agr (n : Nat) : (d.at n).agr = d.agr := by
  unfold Dev.at
  split
  · exact Dev.mk_agr ..
  · rfl
@[simp] theorem Dev.at_copies (n : Nat) : (d.at n).copies = d.copies := by
  unfold Dev.at
  split
  · exact Dev.mk_copies ..
  · rfl
@[simp] theorem Dev.at_drv (n : Nat) : (d.at n).drv = d.drv := by
  unfold Dev.at
  split
  · exact Dev.mk_drv ..
  · rfl
@[simp] theorem Dev.at_fan (n : Nat) : (d.at n).fan = d.fan := by
  unfold Dev.at
  split
  · exact Dev.mk_fan ..
  · rfl
@[simp] theorem Dev.at_fanOvrDue (n : Nat) : (d.at n).fanOvrDue = d.fanOvrDue := by
  unfold Dev.at
  split
  · exact Dev.mk_fanOvrDue ..
  · rfl
@[simp] theorem Dev.at_fanLoopAt (n : Nat) : (d.at n).fanLoopAt = d.fanLoopAt := by
  unfold Dev.at
  split
  · exact Dev.mk_fanLoopAt ..
  · rfl
@[simp] theorem Dev.at_partAt (n : Nat) : (d.at n).partAt = d.partAt := by
  unfold Dev.at
  split
  · exact Dev.mk_partAt ..
  · rfl
@[simp] theorem Dev.at_gpo (n : Nat) : (d.at n).gpo = d.gpo := by
  unfold Dev.at
  split
  · exact Dev.mk_gpo ..
  · rfl
@[simp] theorem Dev.at_puff (n : Nat) : (d.at n).puff = d.puff := by
  unfold Dev.at
  split
  · exact Dev.mk_puff ..
  · rfl
@[simp] theorem Dev.at_can (n : Nat) : (d.at n).can = d.can := by
  unfold Dev.at
  split
  · exact Dev.mk_can ..
  · rfl
@[simp] theorem Dev.at_ledger (n : Nat) : (d.at n).ledger = d.ledger := by
  unfold Dev.at
  split
  · exact Dev.mk_ledger ..
  · rfl
@[simp] theorem Dev.at_flash (n : Nat) : (d.at n).flash = d.flash := by
  unfold Dev.at
  split
  · exact Dev.mk_flash ..
  · rfl
@[simp] theorem Dev.at_scrubW (n : Nat) : (d.at n).scrubW = d.scrubW := by
  unfold Dev.at
  split
  · exact Dev.mk_scrubW ..
  · rfl
@[simp] theorem Dev.at_refreshW (n : Nat) : (d.at n).refreshW = d.refreshW := by
  unfold Dev.at
  split
  · exact Dev.mk_refreshW ..
  · rfl
@[simp] theorem Dev.at_clk (n : Nat) : (d.at n).clk = d.clk := by
  unfold Dev.at
  split
  · exact Dev.mk_clk ..
  · rfl
@[simp] theorem Dev.at_lp (n : Nat) : (d.at n).lp = d.lp := by
  unfold Dev.at
  split
  · exact Dev.mk_lp ..
  · rfl
@[simp] theorem Dev.at_dbg (n : Nat) : (d.at n).dbg = d.dbg := by
  unfold Dev.at
  split
  · exact Dev.mk_dbg ..
  · rfl
@[simp] theorem Dev.at_jtag (n : Nat) : (d.at n).jtag = d.jtag := by
  unfold Dev.at
  split
  · exact Dev.mk_jtag ..
  · rfl
@[simp] theorem Dev.at_boot (n : Nat) : (d.at n).boot = d.boot := by
  unfold Dev.at
  split
  · exact Dev.mk_boot ..
  · rfl
@[simp] theorem Dev.at_wdCfg (n : Nat) : (d.at n).wdCfg = d.wdCfg := by
  unfold Dev.at
  split
  · exact Dev.mk_wdCfg ..
  · rfl

@[simp] theorem Dev.jRefuseT_shadow (n : Nat) : (d.jRefuseT n).shadow = d.shadow := ((Dev.ovlRef_shadow ..).trans (Dev.count_shadow ..)).trans (Dev.mk_shadow ..)
@[simp] theorem Dev.jRefuseT_banked (n : Nat) : (d.jRefuseT n).banked = d.banked := ((Dev.ovlRef_banked ..).trans (Dev.count_banked ..)).trans (Dev.mk_banked ..)
@[simp] theorem Dev.jRefuseT_mem (n : Nat) : (d.jRefuseT n).mem = d.mem := ((Dev.ovlRef_mem ..).trans (Dev.count_mem ..)).trans (Dev.mk_mem ..)
@[simp] theorem Dev.jRefuseT_codes (n : Nat) : (d.jRefuseT n).codes = d.codes := ((Dev.ovlRef_codes ..).trans (Dev.count_codes ..)).trans (Dev.mk_codes ..)
@[simp] theorem Dev.jRefuseT_freeCtr (n : Nat) : (d.jRefuseT n).freeCtr = d.freeCtr := ((Dev.ovlRef_freeCtr ..).trans (Dev.count_freeCtr ..)).trans (Dev.mk_freeCtr ..)
@[simp] theorem Dev.jRefuseT_time (n : Nat) : (d.jRefuseT n).time = d.time := ((Dev.ovlRef_time ..).trans (Dev.count_time ..)).trans (Dev.mk_time ..)
@[simp] theorem Dev.jRefuseT_phase (n : Nat) : (d.jRefuseT n).phase = d.phase := ((Dev.ovlRef_phase ..).trans (Dev.count_phase ..)).trans (Dev.mk_phase ..)
@[simp] theorem Dev.jRefuseT_phaseDue (n : Nat) : (d.jRefuseT n).phaseDue = d.phaseDue := ((Dev.ovlRef_phaseDue ..).trans (Dev.count_phaseDue ..)).trans (Dev.mk_phaseDue ..)
@[simp] theorem Dev.jRefuseT_cs (n : Nat) : (d.jRefuseT n).cs = d.cs := ((Dev.ovlRef_cs ..).trans (Dev.count_cs ..)).trans (Dev.mk_cs ..)
@[simp] theorem Dev.jRefuseT_csDue (n : Nat) : (d.jRefuseT n).csDue = d.csDue := ((Dev.ovlRef_csDue ..).trans (Dev.count_csDue ..)).trans (Dev.mk_csDue ..)
@[simp] theorem Dev.jRefuseT_pendRestart (n : Nat) : (d.jRefuseT n).pendRestart = d.pendRestart := ((Dev.ovlRef_pendRestart ..).trans (Dev.count_pendRestart ..)).trans (Dev.mk_pendRestart ..)
@[simp] theorem Dev.jRefuseT_frames (n : Nat) : (d.jRefuseT n).frames = d.frames := ((Dev.ovlRef_frames ..).trans (Dev.count_frames ..)).trans (Dev.mk_frames ..)
@[simp] theorem Dev.jRefuseT_frnum (n : Nat) : (d.jRefuseT n).frnum = d.frnum := ((Dev.ovlRef_frnum ..).trans (Dev.count_frnum ..)).trans (Dev.mk_frnum ..)
@[simp] theorem Dev.jRefuseT_tickt (n : Nat) : (d.jRefuseT n).tickt = d.tickt := ((Dev.ovlRef_tickt ..).trans (Dev.count_tickt ..)).trans (Dev.mk_tickt ..)
@[simp] theorem Dev.jRefuseT_period (n : Nat) : (d.jRefuseT n).period = d.period := ((Dev.ovlRef_period ..).trans (Dev.count_period ..)).trans (Dev.mk_period ..)
@[simp] theorem Dev.jRefuseT_ledgerStop (n : Nat) : (d.jRefuseT n).ledgerStop = d.ledgerStop := ((Dev.ovlRef_ledgerStop ..).trans (Dev.count_ledgerStop ..)).trans (Dev.mk_ledgerStop ..)
@[simp] theorem Dev.jRefuseT_flopp (n : Nat) : (d.jRefuseT n).flopp = d.flopp := ((Dev.ovlRef_flopp ..).trans (Dev.count_flopp ..)).trans (Dev.mk_flopp ..)
@[simp] theorem Dev.jRefuseT_floppDst (n : Nat) : (d.jRefuseT n).floppDst = d.floppDst := ((Dev.ovlRef_floppDst ..).trans (Dev.count_floppDst ..)).trans (Dev.mk_floppDst ..)
@[simp] theorem Dev.jRefuseT_pages (n : Nat) : (d.jRefuseT n).pages = d.pages := ((Dev.ovlRef_pages ..).trans (Dev.count_pages ..)).trans (Dev.mk_pages ..)
@[simp] theorem Dev.jRefuseT_jdup (n : Nat) : (d.jRefuseT n).jdup = d.jdup := ((Dev.ovlRef_jdup ..).trans (Dev.count_jdup ..)).trans (Dev.mk_jdup ..)
@[simp] theorem Dev.jRefuseT_links (n : Nat) : (d.jRefuseT n).links = d.links := ((Dev.ovlRef_links ..).trans (Dev.count_links ..)).trans (Dev.mk_links ..)
@[simp] theorem Dev.jRefuseT_cmp (n : Nat) : (d.jRefuseT n).cmp = d.cmp := ((Dev.ovlRef_cmp ..).trans (Dev.count_cmp ..)).trans (Dev.mk_cmp ..)
@[simp] theorem Dev.jRefuseT_agr (n : Nat) : (d.jRefuseT n).agr = d.agr := ((Dev.ovlRef_agr ..).trans (Dev.count_agr ..)).trans (Dev.mk_agr ..)
@[simp] theorem Dev.jRefuseT_copies (n : Nat) : (d.jRefuseT n).copies = d.copies := ((Dev.ovlRef_copies ..).trans (Dev.count_copies ..)).trans (Dev.mk_copies ..)
@[simp] theorem Dev.jRefuseT_drv (n : Nat) : (d.jRefuseT n).drv = d.drv := ((Dev.ovlRef_drv ..).trans (Dev.count_drv ..)).trans (Dev.mk_drv ..)
@[simp] theorem Dev.jRefuseT_fan (n : Nat) : (d.jRefuseT n).fan = d.fan := ((Dev.ovlRef_fan ..).trans (Dev.count_fan ..)).trans (Dev.mk_fan ..)
@[simp] theorem Dev.jRefuseT_fanOvrDue (n : Nat) : (d.jRefuseT n).fanOvrDue = d.fanOvrDue := ((Dev.ovlRef_fanOvrDue ..).trans (Dev.count_fanOvrDue ..)).trans (Dev.mk_fanOvrDue ..)
@[simp] theorem Dev.jRefuseT_fanLoopAt (n : Nat) : (d.jRefuseT n).fanLoopAt = d.fanLoopAt := ((Dev.ovlRef_fanLoopAt ..).trans (Dev.count_fanLoopAt ..)).trans (Dev.mk_fanLoopAt ..)
@[simp] theorem Dev.jRefuseT_partAt (n : Nat) : (d.jRefuseT n).partAt = d.partAt := ((Dev.ovlRef_partAt ..).trans (Dev.count_partAt ..)).trans (Dev.mk_partAt ..)
@[simp] theorem Dev.jRefuseT_gpo (n : Nat) : (d.jRefuseT n).gpo = d.gpo := ((Dev.ovlRef_gpo ..).trans (Dev.count_gpo ..)).trans (Dev.mk_gpo ..)
@[simp] theorem Dev.jRefuseT_puff (n : Nat) : (d.jRefuseT n).puff = d.puff := ((Dev.ovlRef_puff ..).trans (Dev.count_puff ..)).trans (Dev.mk_puff ..)
@[simp] theorem Dev.jRefuseT_can (n : Nat) : (d.jRefuseT n).can = d.can := ((Dev.ovlRef_can ..).trans (Dev.count_can ..)).trans (Dev.mk_can ..)
@[simp] theorem Dev.jRefuseT_ledger (n : Nat) : (d.jRefuseT n).ledger = d.ledger := ((Dev.ovlRef_ledger ..).trans (Dev.count_ledger ..)).trans (Dev.mk_ledger ..)
@[simp] theorem Dev.jRefuseT_flash (n : Nat) : (d.jRefuseT n).flash = d.flash := ((Dev.ovlRef_flash ..).trans (Dev.count_flash ..)).trans (Dev.mk_flash ..)
@[simp] theorem Dev.jRefuseT_scrubW (n : Nat) : (d.jRefuseT n).scrubW = d.scrubW := ((Dev.ovlRef_scrubW ..).trans (Dev.count_scrubW ..)).trans (Dev.mk_scrubW ..)
@[simp] theorem Dev.jRefuseT_refreshW (n : Nat) : (d.jRefuseT n).refreshW = d.refreshW := ((Dev.ovlRef_refreshW ..).trans (Dev.count_refreshW ..)).trans (Dev.mk_refreshW ..)
@[simp] theorem Dev.jRefuseT_clk (n : Nat) : (d.jRefuseT n).clk = d.clk := ((Dev.ovlRef_clk ..).trans (Dev.count_clk ..)).trans (Dev.mk_clk ..)
@[simp] theorem Dev.jRefuseT_lp (n : Nat) : (d.jRefuseT n).lp = d.lp := ((Dev.ovlRef_lp ..).trans (Dev.count_lp ..)).trans (Dev.mk_lp ..)
@[simp] theorem Dev.jRefuseT_dbg (n : Nat) : (d.jRefuseT n).dbg = d.dbg := ((Dev.ovlRef_dbg ..).trans (Dev.count_dbg ..)).trans (Dev.mk_dbg ..)
@[simp] theorem Dev.jRefuseT_jtag (n : Nat) : (d.jRefuseT n).jtag = d.jtag := ((Dev.ovlRef_jtag ..).trans (Dev.count_jtag ..)).trans (Dev.mk_jtag ..)
@[simp] theorem Dev.jRefuseT_boot (n : Nat) : (d.jRefuseT n).boot = d.boot := ((Dev.ovlRef_boot ..).trans (Dev.count_boot ..)).trans (Dev.mk_boot ..)
@[simp] theorem Dev.jRefuseT_wdCfg (n : Nat) : (d.jRefuseT n).wdCfg = d.wdCfg := ((Dev.ovlRef_wdCfg ..).trans (Dev.count_wdCfg ..)).trans (Dev.mk_wdCfg ..)

@[simp] theorem Dev.jRefuseB_shadow (n : Nat) : (d.jRefuseB n).shadow = d.shadow := ((Dev.ovlRef_shadow ..).trans (Dev.count_shadow ..)).trans (Dev.mk_shadow ..)
@[simp] theorem Dev.jRefuseB_banked (n : Nat) : (d.jRefuseB n).banked = d.banked := ((Dev.ovlRef_banked ..).trans (Dev.count_banked ..)).trans (Dev.mk_banked ..)
@[simp] theorem Dev.jRefuseB_mem (n : Nat) : (d.jRefuseB n).mem = d.mem := ((Dev.ovlRef_mem ..).trans (Dev.count_mem ..)).trans (Dev.mk_mem ..)
@[simp] theorem Dev.jRefuseB_codes (n : Nat) : (d.jRefuseB n).codes = d.codes := ((Dev.ovlRef_codes ..).trans (Dev.count_codes ..)).trans (Dev.mk_codes ..)
@[simp] theorem Dev.jRefuseB_freeCtr (n : Nat) : (d.jRefuseB n).freeCtr = d.freeCtr := ((Dev.ovlRef_freeCtr ..).trans (Dev.count_freeCtr ..)).trans (Dev.mk_freeCtr ..)
@[simp] theorem Dev.jRefuseB_time (n : Nat) : (d.jRefuseB n).time = d.time := ((Dev.ovlRef_time ..).trans (Dev.count_time ..)).trans (Dev.mk_time ..)
@[simp] theorem Dev.jRefuseB_phase (n : Nat) : (d.jRefuseB n).phase = d.phase := ((Dev.ovlRef_phase ..).trans (Dev.count_phase ..)).trans (Dev.mk_phase ..)
@[simp] theorem Dev.jRefuseB_phaseDue (n : Nat) : (d.jRefuseB n).phaseDue = d.phaseDue := ((Dev.ovlRef_phaseDue ..).trans (Dev.count_phaseDue ..)).trans (Dev.mk_phaseDue ..)
@[simp] theorem Dev.jRefuseB_cs (n : Nat) : (d.jRefuseB n).cs = d.cs := ((Dev.ovlRef_cs ..).trans (Dev.count_cs ..)).trans (Dev.mk_cs ..)
@[simp] theorem Dev.jRefuseB_csDue (n : Nat) : (d.jRefuseB n).csDue = d.csDue := ((Dev.ovlRef_csDue ..).trans (Dev.count_csDue ..)).trans (Dev.mk_csDue ..)
@[simp] theorem Dev.jRefuseB_pendRestart (n : Nat) : (d.jRefuseB n).pendRestart = d.pendRestart := ((Dev.ovlRef_pendRestart ..).trans (Dev.count_pendRestart ..)).trans (Dev.mk_pendRestart ..)
@[simp] theorem Dev.jRefuseB_frames (n : Nat) : (d.jRefuseB n).frames = d.frames := ((Dev.ovlRef_frames ..).trans (Dev.count_frames ..)).trans (Dev.mk_frames ..)
@[simp] theorem Dev.jRefuseB_frnum (n : Nat) : (d.jRefuseB n).frnum = d.frnum := ((Dev.ovlRef_frnum ..).trans (Dev.count_frnum ..)).trans (Dev.mk_frnum ..)
@[simp] theorem Dev.jRefuseB_tickt (n : Nat) : (d.jRefuseB n).tickt = d.tickt := ((Dev.ovlRef_tickt ..).trans (Dev.count_tickt ..)).trans (Dev.mk_tickt ..)
@[simp] theorem Dev.jRefuseB_period (n : Nat) : (d.jRefuseB n).period = d.period := ((Dev.ovlRef_period ..).trans (Dev.count_period ..)).trans (Dev.mk_period ..)
@[simp] theorem Dev.jRefuseB_ledgerStop (n : Nat) : (d.jRefuseB n).ledgerStop = d.ledgerStop := ((Dev.ovlRef_ledgerStop ..).trans (Dev.count_ledgerStop ..)).trans (Dev.mk_ledgerStop ..)
@[simp] theorem Dev.jRefuseB_flopp (n : Nat) : (d.jRefuseB n).flopp = d.flopp := ((Dev.ovlRef_flopp ..).trans (Dev.count_flopp ..)).trans (Dev.mk_flopp ..)
@[simp] theorem Dev.jRefuseB_floppDst (n : Nat) : (d.jRefuseB n).floppDst = d.floppDst := ((Dev.ovlRef_floppDst ..).trans (Dev.count_floppDst ..)).trans (Dev.mk_floppDst ..)
@[simp] theorem Dev.jRefuseB_pages (n : Nat) : (d.jRefuseB n).pages = d.pages := ((Dev.ovlRef_pages ..).trans (Dev.count_pages ..)).trans (Dev.mk_pages ..)
@[simp] theorem Dev.jRefuseB_jdup (n : Nat) : (d.jRefuseB n).jdup = d.jdup := ((Dev.ovlRef_jdup ..).trans (Dev.count_jdup ..)).trans (Dev.mk_jdup ..)
@[simp] theorem Dev.jRefuseB_links (n : Nat) : (d.jRefuseB n).links = d.links := ((Dev.ovlRef_links ..).trans (Dev.count_links ..)).trans (Dev.mk_links ..)
@[simp] theorem Dev.jRefuseB_cmp (n : Nat) : (d.jRefuseB n).cmp = d.cmp := ((Dev.ovlRef_cmp ..).trans (Dev.count_cmp ..)).trans (Dev.mk_cmp ..)
@[simp] theorem Dev.jRefuseB_agr (n : Nat) : (d.jRefuseB n).agr = d.agr := ((Dev.ovlRef_agr ..).trans (Dev.count_agr ..)).trans (Dev.mk_agr ..)
@[simp] theorem Dev.jRefuseB_copies (n : Nat) : (d.jRefuseB n).copies = d.copies := ((Dev.ovlRef_copies ..).trans (Dev.count_copies ..)).trans (Dev.mk_copies ..)
@[simp] theorem Dev.jRefuseB_drv (n : Nat) : (d.jRefuseB n).drv = d.drv := ((Dev.ovlRef_drv ..).trans (Dev.count_drv ..)).trans (Dev.mk_drv ..)
@[simp] theorem Dev.jRefuseB_fan (n : Nat) : (d.jRefuseB n).fan = d.fan := ((Dev.ovlRef_fan ..).trans (Dev.count_fan ..)).trans (Dev.mk_fan ..)
@[simp] theorem Dev.jRefuseB_fanOvrDue (n : Nat) : (d.jRefuseB n).fanOvrDue = d.fanOvrDue := ((Dev.ovlRef_fanOvrDue ..).trans (Dev.count_fanOvrDue ..)).trans (Dev.mk_fanOvrDue ..)
@[simp] theorem Dev.jRefuseB_fanLoopAt (n : Nat) : (d.jRefuseB n).fanLoopAt = d.fanLoopAt := ((Dev.ovlRef_fanLoopAt ..).trans (Dev.count_fanLoopAt ..)).trans (Dev.mk_fanLoopAt ..)
@[simp] theorem Dev.jRefuseB_partAt (n : Nat) : (d.jRefuseB n).partAt = d.partAt := ((Dev.ovlRef_partAt ..).trans (Dev.count_partAt ..)).trans (Dev.mk_partAt ..)
@[simp] theorem Dev.jRefuseB_gpo (n : Nat) : (d.jRefuseB n).gpo = d.gpo := ((Dev.ovlRef_gpo ..).trans (Dev.count_gpo ..)).trans (Dev.mk_gpo ..)
@[simp] theorem Dev.jRefuseB_puff (n : Nat) : (d.jRefuseB n).puff = d.puff := ((Dev.ovlRef_puff ..).trans (Dev.count_puff ..)).trans (Dev.mk_puff ..)
@[simp] theorem Dev.jRefuseB_can (n : Nat) : (d.jRefuseB n).can = d.can := ((Dev.ovlRef_can ..).trans (Dev.count_can ..)).trans (Dev.mk_can ..)
@[simp] theorem Dev.jRefuseB_ledger (n : Nat) : (d.jRefuseB n).ledger = d.ledger := ((Dev.ovlRef_ledger ..).trans (Dev.count_ledger ..)).trans (Dev.mk_ledger ..)
@[simp] theorem Dev.jRefuseB_flash (n : Nat) : (d.jRefuseB n).flash = d.flash := ((Dev.ovlRef_flash ..).trans (Dev.count_flash ..)).trans (Dev.mk_flash ..)
@[simp] theorem Dev.jRefuseB_scrubW (n : Nat) : (d.jRefuseB n).scrubW = d.scrubW := ((Dev.ovlRef_scrubW ..).trans (Dev.count_scrubW ..)).trans (Dev.mk_scrubW ..)
@[simp] theorem Dev.jRefuseB_refreshW (n : Nat) : (d.jRefuseB n).refreshW = d.refreshW := ((Dev.ovlRef_refreshW ..).trans (Dev.count_refreshW ..)).trans (Dev.mk_refreshW ..)
@[simp] theorem Dev.jRefuseB_clk (n : Nat) : (d.jRefuseB n).clk = d.clk := ((Dev.ovlRef_clk ..).trans (Dev.count_clk ..)).trans (Dev.mk_clk ..)
@[simp] theorem Dev.jRefuseB_lp (n : Nat) : (d.jRefuseB n).lp = d.lp := ((Dev.ovlRef_lp ..).trans (Dev.count_lp ..)).trans (Dev.mk_lp ..)
@[simp] theorem Dev.jRefuseB_dbg (n : Nat) : (d.jRefuseB n).dbg = d.dbg := ((Dev.ovlRef_dbg ..).trans (Dev.count_dbg ..)).trans (Dev.mk_dbg ..)
@[simp] theorem Dev.jRefuseB_jtag (n : Nat) : (d.jRefuseB n).jtag = d.jtag := ((Dev.ovlRef_jtag ..).trans (Dev.count_jtag ..)).trans (Dev.mk_jtag ..)
@[simp] theorem Dev.jRefuseB_boot (n : Nat) : (d.jRefuseB n).boot = d.boot := ((Dev.ovlRef_boot ..).trans (Dev.count_boot ..)).trans (Dev.mk_boot ..)
@[simp] theorem Dev.jRefuseB_wdCfg (n : Nat) : (d.jRefuseB n).wdCfg = d.wdCfg := ((Dev.ovlRef_wdCfg ..).trans (Dev.count_wdCfg ..)).trans (Dev.mk_wdCfg ..)

@[simp] theorem Dev.jput_shadow (e : JEntry) : (d.jput e).shadow = d.shadow := by
  unfold Dev.jput
  split <;> (try split) <;> (try split) <;> first | exact Dev.jAdmit_shadow .. | exact Dev.jRefuseB_shadow .. | exact Dev.mk_shadow ..
@[simp] theorem Dev.jput_banked (e : JEntry) : (d.jput e).banked = d.banked := by
  unfold Dev.jput
  split <;> (try split) <;> (try split) <;> first | exact Dev.jAdmit_banked .. | exact Dev.jRefuseB_banked .. | exact Dev.mk_banked ..
@[simp] theorem Dev.jput_mem (e : JEntry) : (d.jput e).mem = d.mem := by
  unfold Dev.jput
  split <;> (try split) <;> (try split) <;> first | exact Dev.jAdmit_mem .. | exact Dev.jRefuseB_mem .. | exact Dev.mk_mem ..
@[simp] theorem Dev.jput_codes (e : JEntry) : (d.jput e).codes = d.codes := by
  unfold Dev.jput
  split <;> (try split) <;> (try split) <;> first | exact Dev.jAdmit_codes .. | exact Dev.jRefuseB_codes .. | exact Dev.mk_codes ..
@[simp] theorem Dev.jput_freeCtr (e : JEntry) : (d.jput e).freeCtr = d.freeCtr := by
  unfold Dev.jput
  split <;> (try split) <;> (try split) <;> first | exact Dev.jAdmit_freeCtr .. | exact Dev.jRefuseB_freeCtr .. | exact Dev.mk_freeCtr ..
@[simp] theorem Dev.jput_time (e : JEntry) : (d.jput e).time = d.time := by
  unfold Dev.jput
  split <;> (try split) <;> (try split) <;> first | exact Dev.jAdmit_time .. | exact Dev.jRefuseB_time .. | exact Dev.mk_time ..
@[simp] theorem Dev.jput_phase (e : JEntry) : (d.jput e).phase = d.phase := by
  unfold Dev.jput
  split <;> (try split) <;> (try split) <;> first | exact Dev.jAdmit_phase .. | exact Dev.jRefuseB_phase .. | exact Dev.mk_phase ..
@[simp] theorem Dev.jput_phaseDue (e : JEntry) : (d.jput e).phaseDue = d.phaseDue := by
  unfold Dev.jput
  split <;> (try split) <;> (try split) <;> first | exact Dev.jAdmit_phaseDue .. | exact Dev.jRefuseB_phaseDue .. | exact Dev.mk_phaseDue ..
@[simp] theorem Dev.jput_cs (e : JEntry) : (d.jput e).cs = d.cs := by
  unfold Dev.jput
  split <;> (try split) <;> (try split) <;> first | exact Dev.jAdmit_cs .. | exact Dev.jRefuseB_cs .. | exact Dev.mk_cs ..
@[simp] theorem Dev.jput_csDue (e : JEntry) : (d.jput e).csDue = d.csDue := by
  unfold Dev.jput
  split <;> (try split) <;> (try split) <;> first | exact Dev.jAdmit_csDue .. | exact Dev.jRefuseB_csDue .. | exact Dev.mk_csDue ..
@[simp] theorem Dev.jput_pendRestart (e : JEntry) : (d.jput e).pendRestart = d.pendRestart := by
  unfold Dev.jput
  split <;> (try split) <;> (try split) <;> first | exact Dev.jAdmit_pendRestart .. | exact Dev.jRefuseB_pendRestart .. | exact Dev.mk_pendRestart ..
@[simp] theorem Dev.jput_frames (e : JEntry) : (d.jput e).frames = d.frames := by
  unfold Dev.jput
  split <;> (try split) <;> (try split) <;> first | exact Dev.jAdmit_frames .. | exact Dev.jRefuseB_frames .. | exact Dev.mk_frames ..
@[simp] theorem Dev.jput_frnum (e : JEntry) : (d.jput e).frnum = d.frnum := by
  unfold Dev.jput
  split <;> (try split) <;> (try split) <;> first | exact Dev.jAdmit_frnum .. | exact Dev.jRefuseB_frnum .. | exact Dev.mk_frnum ..
@[simp] theorem Dev.jput_tickt (e : JEntry) : (d.jput e).tickt = d.tickt := by
  unfold Dev.jput
  split <;> (try split) <;> (try split) <;> first | exact Dev.jAdmit_tickt .. | exact Dev.jRefuseB_tickt .. | exact Dev.mk_tickt ..
@[simp] theorem Dev.jput_period (e : JEntry) : (d.jput e).period = d.period := by
  unfold Dev.jput
  split <;> (try split) <;> (try split) <;> first | exact Dev.jAdmit_period .. | exact Dev.jRefuseB_period .. | exact Dev.mk_period ..
@[simp] theorem Dev.jput_ledgerStop (e : JEntry) : (d.jput e).ledgerStop = d.ledgerStop := by
  unfold Dev.jput
  split <;> (try split) <;> (try split) <;> first | exact Dev.jAdmit_ledgerStop .. | exact Dev.jRefuseB_ledgerStop .. | exact Dev.mk_ledgerStop ..
@[simp] theorem Dev.jput_flopp (e : JEntry) : (d.jput e).flopp = d.flopp := by
  unfold Dev.jput
  split <;> (try split) <;> (try split) <;> first | exact Dev.jAdmit_flopp .. | exact Dev.jRefuseB_flopp .. | exact Dev.mk_flopp ..
@[simp] theorem Dev.jput_floppDst (e : JEntry) : (d.jput e).floppDst = d.floppDst := by
  unfold Dev.jput
  split <;> (try split) <;> (try split) <;> first | exact Dev.jAdmit_floppDst .. | exact Dev.jRefuseB_floppDst .. | exact Dev.mk_floppDst ..
@[simp] theorem Dev.jput_pages (e : JEntry) : (d.jput e).pages = d.pages := by
  unfold Dev.jput
  split <;> (try split) <;> (try split) <;> first | exact Dev.jAdmit_pages .. | exact Dev.jRefuseB_pages .. | exact Dev.mk_pages ..
@[simp] theorem Dev.jput_jdup (e : JEntry) : (d.jput e).jdup = d.jdup := by
  unfold Dev.jput
  split <;> (try split) <;> (try split) <;> first | exact Dev.jAdmit_jdup .. | exact Dev.jRefuseB_jdup .. | exact Dev.mk_jdup ..
@[simp] theorem Dev.jput_links (e : JEntry) : (d.jput e).links = d.links := by
  unfold Dev.jput
  split <;> (try split) <;> (try split) <;> first | exact Dev.jAdmit_links .. | exact Dev.jRefuseB_links .. | exact Dev.mk_links ..
@[simp] theorem Dev.jput_cmp (e : JEntry) : (d.jput e).cmp = d.cmp := by
  unfold Dev.jput
  split <;> (try split) <;> (try split) <;> first | exact Dev.jAdmit_cmp .. | exact Dev.jRefuseB_cmp .. | exact Dev.mk_cmp ..
@[simp] theorem Dev.jput_agr (e : JEntry) : (d.jput e).agr = d.agr := by
  unfold Dev.jput
  split <;> (try split) <;> (try split) <;> first | exact Dev.jAdmit_agr .. | exact Dev.jRefuseB_agr .. | exact Dev.mk_agr ..
@[simp] theorem Dev.jput_copies (e : JEntry) : (d.jput e).copies = d.copies := by
  unfold Dev.jput
  split <;> (try split) <;> (try split) <;> first | exact Dev.jAdmit_copies .. | exact Dev.jRefuseB_copies .. | exact Dev.mk_copies ..
@[simp] theorem Dev.jput_drv (e : JEntry) : (d.jput e).drv = d.drv := by
  unfold Dev.jput
  split <;> (try split) <;> (try split) <;> first | exact Dev.jAdmit_drv .. | exact Dev.jRefuseB_drv .. | exact Dev.mk_drv ..
@[simp] theorem Dev.jput_fan (e : JEntry) : (d.jput e).fan = d.fan := by
  unfold Dev.jput
  split <;> (try split) <;> (try split) <;> first | exact Dev.jAdmit_fan .. | exact Dev.jRefuseB_fan .. | exact Dev.mk_fan ..
@[simp] theorem Dev.jput_fanOvrDue (e : JEntry) : (d.jput e).fanOvrDue = d.fanOvrDue := by
  unfold Dev.jput
  split <;> (try split) <;> (try split) <;> first | exact Dev.jAdmit_fanOvrDue .. | exact Dev.jRefuseB_fanOvrDue .. | exact Dev.mk_fanOvrDue ..
@[simp] theorem Dev.jput_fanLoopAt (e : JEntry) : (d.jput e).fanLoopAt = d.fanLoopAt := by
  unfold Dev.jput
  split <;> (try split) <;> (try split) <;> first | exact Dev.jAdmit_fanLoopAt .. | exact Dev.jRefuseB_fanLoopAt .. | exact Dev.mk_fanLoopAt ..
@[simp] theorem Dev.jput_partAt (e : JEntry) : (d.jput e).partAt = d.partAt := by
  unfold Dev.jput
  split <;> (try split) <;> (try split) <;> first | exact Dev.jAdmit_partAt .. | exact Dev.jRefuseB_partAt .. | exact Dev.mk_partAt ..
@[simp] theorem Dev.jput_gpo (e : JEntry) : (d.jput e).gpo = d.gpo := by
  unfold Dev.jput
  split <;> (try split) <;> (try split) <;> first | exact Dev.jAdmit_gpo .. | exact Dev.jRefuseB_gpo .. | exact Dev.mk_gpo ..
@[simp] theorem Dev.jput_puff (e : JEntry) : (d.jput e).puff = d.puff := by
  unfold Dev.jput
  split <;> (try split) <;> (try split) <;> first | exact Dev.jAdmit_puff .. | exact Dev.jRefuseB_puff .. | exact Dev.mk_puff ..
@[simp] theorem Dev.jput_can (e : JEntry) : (d.jput e).can = d.can := by
  unfold Dev.jput
  split <;> (try split) <;> (try split) <;> first | exact Dev.jAdmit_can .. | exact Dev.jRefuseB_can .. | exact Dev.mk_can ..
@[simp] theorem Dev.jput_ledger (e : JEntry) : (d.jput e).ledger = d.ledger := by
  unfold Dev.jput
  split <;> (try split) <;> (try split) <;> first | exact Dev.jAdmit_ledger .. | exact Dev.jRefuseB_ledger .. | exact Dev.mk_ledger ..
@[simp] theorem Dev.jput_flash (e : JEntry) : (d.jput e).flash = d.flash := by
  unfold Dev.jput
  split <;> (try split) <;> (try split) <;> first | exact Dev.jAdmit_flash .. | exact Dev.jRefuseB_flash .. | exact Dev.mk_flash ..
@[simp] theorem Dev.jput_scrubW (e : JEntry) : (d.jput e).scrubW = d.scrubW := by
  unfold Dev.jput
  split <;> (try split) <;> (try split) <;> first | exact Dev.jAdmit_scrubW .. | exact Dev.jRefuseB_scrubW .. | exact Dev.mk_scrubW ..
@[simp] theorem Dev.jput_refreshW (e : JEntry) : (d.jput e).refreshW = d.refreshW := by
  unfold Dev.jput
  split <;> (try split) <;> (try split) <;> first | exact Dev.jAdmit_refreshW .. | exact Dev.jRefuseB_refreshW .. | exact Dev.mk_refreshW ..
@[simp] theorem Dev.jput_clk (e : JEntry) : (d.jput e).clk = d.clk := by
  unfold Dev.jput
  split <;> (try split) <;> (try split) <;> first | exact Dev.jAdmit_clk .. | exact Dev.jRefuseB_clk .. | exact Dev.mk_clk ..
@[simp] theorem Dev.jput_lp (e : JEntry) : (d.jput e).lp = d.lp := by
  unfold Dev.jput
  split <;> (try split) <;> (try split) <;> first | exact Dev.jAdmit_lp .. | exact Dev.jRefuseB_lp .. | exact Dev.mk_lp ..
@[simp] theorem Dev.jput_dbg (e : JEntry) : (d.jput e).dbg = d.dbg := by
  unfold Dev.jput
  split <;> (try split) <;> (try split) <;> first | exact Dev.jAdmit_dbg .. | exact Dev.jRefuseB_dbg .. | exact Dev.mk_dbg ..
@[simp] theorem Dev.jput_jtag (e : JEntry) : (d.jput e).jtag = d.jtag := by
  unfold Dev.jput
  split <;> (try split) <;> (try split) <;> first | exact Dev.jAdmit_jtag .. | exact Dev.jRefuseB_jtag .. | exact Dev.mk_jtag ..
@[simp] theorem Dev.jput_boot (e : JEntry) : (d.jput e).boot = d.boot := by
  unfold Dev.jput
  split <;> (try split) <;> (try split) <;> first | exact Dev.jAdmit_boot .. | exact Dev.jRefuseB_boot .. | exact Dev.mk_boot ..
@[simp] theorem Dev.jput_wdCfg (e : JEntry) : (d.jput e).wdCfg = d.wdCfg := by
  unfold Dev.jput
  split <;> (try split) <;> (try split) <;> first | exact Dev.jAdmit_wdCfg .. | exact Dev.jRefuseB_wdCfg .. | exact Dev.mk_wdCfg ..

@[simp] theorem Dev.jlog_shadow (a b c e : Nat) (x y : Word) : (d.jlog a b c e x y).shadow = d.shadow := Dev.jput_shadow ..
@[simp] theorem Dev.jlog_banked (a b c e : Nat) (x y : Word) : (d.jlog a b c e x y).banked = d.banked := Dev.jput_banked ..
@[simp] theorem Dev.jlog_mem (a b c e : Nat) (x y : Word) : (d.jlog a b c e x y).mem = d.mem := Dev.jput_mem ..
@[simp] theorem Dev.jlog_codes (a b c e : Nat) (x y : Word) : (d.jlog a b c e x y).codes = d.codes := Dev.jput_codes ..
@[simp] theorem Dev.jlog_freeCtr (a b c e : Nat) (x y : Word) : (d.jlog a b c e x y).freeCtr = d.freeCtr := Dev.jput_freeCtr ..
@[simp] theorem Dev.jlog_time (a b c e : Nat) (x y : Word) : (d.jlog a b c e x y).time = d.time := Dev.jput_time ..
@[simp] theorem Dev.jlog_phase (a b c e : Nat) (x y : Word) : (d.jlog a b c e x y).phase = d.phase := Dev.jput_phase ..
@[simp] theorem Dev.jlog_phaseDue (a b c e : Nat) (x y : Word) : (d.jlog a b c e x y).phaseDue = d.phaseDue := Dev.jput_phaseDue ..
@[simp] theorem Dev.jlog_cs (a b c e : Nat) (x y : Word) : (d.jlog a b c e x y).cs = d.cs := Dev.jput_cs ..
@[simp] theorem Dev.jlog_csDue (a b c e : Nat) (x y : Word) : (d.jlog a b c e x y).csDue = d.csDue := Dev.jput_csDue ..
@[simp] theorem Dev.jlog_pendRestart (a b c e : Nat) (x y : Word) : (d.jlog a b c e x y).pendRestart = d.pendRestart := Dev.jput_pendRestart ..
@[simp] theorem Dev.jlog_frames (a b c e : Nat) (x y : Word) : (d.jlog a b c e x y).frames = d.frames := Dev.jput_frames ..
@[simp] theorem Dev.jlog_frnum (a b c e : Nat) (x y : Word) : (d.jlog a b c e x y).frnum = d.frnum := Dev.jput_frnum ..
@[simp] theorem Dev.jlog_tickt (a b c e : Nat) (x y : Word) : (d.jlog a b c e x y).tickt = d.tickt := Dev.jput_tickt ..
@[simp] theorem Dev.jlog_period (a b c e : Nat) (x y : Word) : (d.jlog a b c e x y).period = d.period := Dev.jput_period ..
@[simp] theorem Dev.jlog_ledgerStop (a b c e : Nat) (x y : Word) : (d.jlog a b c e x y).ledgerStop = d.ledgerStop := Dev.jput_ledgerStop ..
@[simp] theorem Dev.jlog_flopp (a b c e : Nat) (x y : Word) : (d.jlog a b c e x y).flopp = d.flopp := Dev.jput_flopp ..
@[simp] theorem Dev.jlog_floppDst (a b c e : Nat) (x y : Word) : (d.jlog a b c e x y).floppDst = d.floppDst := Dev.jput_floppDst ..
@[simp] theorem Dev.jlog_pages (a b c e : Nat) (x y : Word) : (d.jlog a b c e x y).pages = d.pages := Dev.jput_pages ..
@[simp] theorem Dev.jlog_jdup (a b c e : Nat) (x y : Word) : (d.jlog a b c e x y).jdup = d.jdup := Dev.jput_jdup ..
@[simp] theorem Dev.jlog_links (a b c e : Nat) (x y : Word) : (d.jlog a b c e x y).links = d.links := Dev.jput_links ..
@[simp] theorem Dev.jlog_cmp (a b c e : Nat) (x y : Word) : (d.jlog a b c e x y).cmp = d.cmp := Dev.jput_cmp ..
@[simp] theorem Dev.jlog_agr (a b c e : Nat) (x y : Word) : (d.jlog a b c e x y).agr = d.agr := Dev.jput_agr ..
@[simp] theorem Dev.jlog_copies (a b c e : Nat) (x y : Word) : (d.jlog a b c e x y).copies = d.copies := Dev.jput_copies ..
@[simp] theorem Dev.jlog_drv (a b c e : Nat) (x y : Word) : (d.jlog a b c e x y).drv = d.drv := Dev.jput_drv ..
@[simp] theorem Dev.jlog_fan (a b c e : Nat) (x y : Word) : (d.jlog a b c e x y).fan = d.fan := Dev.jput_fan ..
@[simp] theorem Dev.jlog_fanOvrDue (a b c e : Nat) (x y : Word) : (d.jlog a b c e x y).fanOvrDue = d.fanOvrDue := Dev.jput_fanOvrDue ..
@[simp] theorem Dev.jlog_fanLoopAt (a b c e : Nat) (x y : Word) : (d.jlog a b c e x y).fanLoopAt = d.fanLoopAt := Dev.jput_fanLoopAt ..
@[simp] theorem Dev.jlog_partAt (a b c e : Nat) (x y : Word) : (d.jlog a b c e x y).partAt = d.partAt := Dev.jput_partAt ..
@[simp] theorem Dev.jlog_gpo (a b c e : Nat) (x y : Word) : (d.jlog a b c e x y).gpo = d.gpo := Dev.jput_gpo ..
@[simp] theorem Dev.jlog_puff (a b c e : Nat) (x y : Word) : (d.jlog a b c e x y).puff = d.puff := Dev.jput_puff ..
@[simp] theorem Dev.jlog_can (a b c e : Nat) (x y : Word) : (d.jlog a b c e x y).can = d.can := Dev.jput_can ..
@[simp] theorem Dev.jlog_ledger (a b c e : Nat) (x y : Word) : (d.jlog a b c e x y).ledger = d.ledger := Dev.jput_ledger ..
@[simp] theorem Dev.jlog_flash (a b c e : Nat) (x y : Word) : (d.jlog a b c e x y).flash = d.flash := Dev.jput_flash ..
@[simp] theorem Dev.jlog_scrubW (a b c e : Nat) (x y : Word) : (d.jlog a b c e x y).scrubW = d.scrubW := Dev.jput_scrubW ..
@[simp] theorem Dev.jlog_refreshW (a b c e : Nat) (x y : Word) : (d.jlog a b c e x y).refreshW = d.refreshW := Dev.jput_refreshW ..
@[simp] theorem Dev.jlog_clk (a b c e : Nat) (x y : Word) : (d.jlog a b c e x y).clk = d.clk := Dev.jput_clk ..
@[simp] theorem Dev.jlog_lp (a b c e : Nat) (x y : Word) : (d.jlog a b c e x y).lp = d.lp := Dev.jput_lp ..
@[simp] theorem Dev.jlog_dbg (a b c e : Nat) (x y : Word) : (d.jlog a b c e x y).dbg = d.dbg := Dev.jput_dbg ..
@[simp] theorem Dev.jlog_jtag (a b c e : Nat) (x y : Word) : (d.jlog a b c e x y).jtag = d.jtag := Dev.jput_jtag ..
@[simp] theorem Dev.jlog_boot (a b c e : Nat) (x y : Word) : (d.jlog a b c e x y).boot = d.boot := Dev.jput_boot ..
@[simp] theorem Dev.jlog_wdCfg (a b c e : Nat) (x y : Word) : (d.jlog a b c e x y).wdCfg = d.wdCfg := Dev.jput_wdCfg ..

@[simp] theorem Dev.jmode_shadow (a b c : Nat) (x y : Word) : (d.jmode a b c x y).shadow = d.shadow := Dev.jlog_shadow ..
@[simp] theorem Dev.jmode_banked (a b c : Nat) (x y : Word) : (d.jmode a b c x y).banked = d.banked := Dev.jlog_banked ..
@[simp] theorem Dev.jmode_mem (a b c : Nat) (x y : Word) : (d.jmode a b c x y).mem = d.mem := Dev.jlog_mem ..
@[simp] theorem Dev.jmode_codes (a b c : Nat) (x y : Word) : (d.jmode a b c x y).codes = d.codes := Dev.jlog_codes ..
@[simp] theorem Dev.jmode_freeCtr (a b c : Nat) (x y : Word) : (d.jmode a b c x y).freeCtr = d.freeCtr := Dev.jlog_freeCtr ..
@[simp] theorem Dev.jmode_time (a b c : Nat) (x y : Word) : (d.jmode a b c x y).time = d.time := Dev.jlog_time ..
@[simp] theorem Dev.jmode_phase (a b c : Nat) (x y : Word) : (d.jmode a b c x y).phase = d.phase := Dev.jlog_phase ..
@[simp] theorem Dev.jmode_phaseDue (a b c : Nat) (x y : Word) : (d.jmode a b c x y).phaseDue = d.phaseDue := Dev.jlog_phaseDue ..
@[simp] theorem Dev.jmode_cs (a b c : Nat) (x y : Word) : (d.jmode a b c x y).cs = d.cs := Dev.jlog_cs ..
@[simp] theorem Dev.jmode_csDue (a b c : Nat) (x y : Word) : (d.jmode a b c x y).csDue = d.csDue := Dev.jlog_csDue ..
@[simp] theorem Dev.jmode_pendRestart (a b c : Nat) (x y : Word) : (d.jmode a b c x y).pendRestart = d.pendRestart := Dev.jlog_pendRestart ..
@[simp] theorem Dev.jmode_frames (a b c : Nat) (x y : Word) : (d.jmode a b c x y).frames = d.frames := Dev.jlog_frames ..
@[simp] theorem Dev.jmode_frnum (a b c : Nat) (x y : Word) : (d.jmode a b c x y).frnum = d.frnum := Dev.jlog_frnum ..
@[simp] theorem Dev.jmode_tickt (a b c : Nat) (x y : Word) : (d.jmode a b c x y).tickt = d.tickt := Dev.jlog_tickt ..
@[simp] theorem Dev.jmode_period (a b c : Nat) (x y : Word) : (d.jmode a b c x y).period = d.period := Dev.jlog_period ..
@[simp] theorem Dev.jmode_ledgerStop (a b c : Nat) (x y : Word) : (d.jmode a b c x y).ledgerStop = d.ledgerStop := Dev.jlog_ledgerStop ..
@[simp] theorem Dev.jmode_flopp (a b c : Nat) (x y : Word) : (d.jmode a b c x y).flopp = d.flopp := Dev.jlog_flopp ..
@[simp] theorem Dev.jmode_floppDst (a b c : Nat) (x y : Word) : (d.jmode a b c x y).floppDst = d.floppDst := Dev.jlog_floppDst ..
@[simp] theorem Dev.jmode_pages (a b c : Nat) (x y : Word) : (d.jmode a b c x y).pages = d.pages := Dev.jlog_pages ..
@[simp] theorem Dev.jmode_jdup (a b c : Nat) (x y : Word) : (d.jmode a b c x y).jdup = d.jdup := Dev.jlog_jdup ..
@[simp] theorem Dev.jmode_links (a b c : Nat) (x y : Word) : (d.jmode a b c x y).links = d.links := Dev.jlog_links ..
@[simp] theorem Dev.jmode_cmp (a b c : Nat) (x y : Word) : (d.jmode a b c x y).cmp = d.cmp := Dev.jlog_cmp ..
@[simp] theorem Dev.jmode_agr (a b c : Nat) (x y : Word) : (d.jmode a b c x y).agr = d.agr := Dev.jlog_agr ..
@[simp] theorem Dev.jmode_copies (a b c : Nat) (x y : Word) : (d.jmode a b c x y).copies = d.copies := Dev.jlog_copies ..
@[simp] theorem Dev.jmode_drv (a b c : Nat) (x y : Word) : (d.jmode a b c x y).drv = d.drv := Dev.jlog_drv ..
@[simp] theorem Dev.jmode_fan (a b c : Nat) (x y : Word) : (d.jmode a b c x y).fan = d.fan := Dev.jlog_fan ..
@[simp] theorem Dev.jmode_fanOvrDue (a b c : Nat) (x y : Word) : (d.jmode a b c x y).fanOvrDue = d.fanOvrDue := Dev.jlog_fanOvrDue ..
@[simp] theorem Dev.jmode_fanLoopAt (a b c : Nat) (x y : Word) : (d.jmode a b c x y).fanLoopAt = d.fanLoopAt := Dev.jlog_fanLoopAt ..
@[simp] theorem Dev.jmode_partAt (a b c : Nat) (x y : Word) : (d.jmode a b c x y).partAt = d.partAt := Dev.jlog_partAt ..
@[simp] theorem Dev.jmode_gpo (a b c : Nat) (x y : Word) : (d.jmode a b c x y).gpo = d.gpo := Dev.jlog_gpo ..
@[simp] theorem Dev.jmode_puff (a b c : Nat) (x y : Word) : (d.jmode a b c x y).puff = d.puff := Dev.jlog_puff ..
@[simp] theorem Dev.jmode_can (a b c : Nat) (x y : Word) : (d.jmode a b c x y).can = d.can := Dev.jlog_can ..
@[simp] theorem Dev.jmode_ledger (a b c : Nat) (x y : Word) : (d.jmode a b c x y).ledger = d.ledger := Dev.jlog_ledger ..
@[simp] theorem Dev.jmode_flash (a b c : Nat) (x y : Word) : (d.jmode a b c x y).flash = d.flash := Dev.jlog_flash ..
@[simp] theorem Dev.jmode_scrubW (a b c : Nat) (x y : Word) : (d.jmode a b c x y).scrubW = d.scrubW := Dev.jlog_scrubW ..
@[simp] theorem Dev.jmode_refreshW (a b c : Nat) (x y : Word) : (d.jmode a b c x y).refreshW = d.refreshW := Dev.jlog_refreshW ..
@[simp] theorem Dev.jmode_clk (a b c : Nat) (x y : Word) : (d.jmode a b c x y).clk = d.clk := Dev.jlog_clk ..
@[simp] theorem Dev.jmode_lp (a b c : Nat) (x y : Word) : (d.jmode a b c x y).lp = d.lp := Dev.jlog_lp ..
@[simp] theorem Dev.jmode_dbg (a b c : Nat) (x y : Word) : (d.jmode a b c x y).dbg = d.dbg := Dev.jlog_dbg ..
@[simp] theorem Dev.jmode_jtag (a b c : Nat) (x y : Word) : (d.jmode a b c x y).jtag = d.jtag := Dev.jlog_jtag ..
@[simp] theorem Dev.jmode_boot (a b c : Nat) (x y : Word) : (d.jmode a b c x y).boot = d.boot := Dev.jlog_boot ..
@[simp] theorem Dev.jmode_wdCfg (a b c : Nat) (x y : Word) : (d.jmode a b c x y).wdCfg = d.wdCfg := Dev.jlog_wdCfg ..

@[simp] theorem Dev.faultAt_shadow (a b c e : Nat) (x : Word) (f : Nat) : (d.faultAt a b c e x f).shadow = d.shadow := (Dev.jlog_shadow ..).trans (Dev.setReg_shadow ..)
@[simp] theorem Dev.faultAt_banked (a b c e : Nat) (x : Word) (f : Nat) : (d.faultAt a b c e x f).banked = d.banked := (Dev.jlog_banked ..).trans (Dev.setReg_banked ..)
@[simp] theorem Dev.faultAt_mem (a b c e : Nat) (x : Word) (f : Nat) : (d.faultAt a b c e x f).mem = d.mem := (Dev.jlog_mem ..).trans (Dev.setReg_mem ..)
@[simp] theorem Dev.faultAt_codes (a b c e : Nat) (x : Word) (f : Nat) : (d.faultAt a b c e x f).codes = d.codes := (Dev.jlog_codes ..).trans (Dev.setReg_codes ..)
@[simp] theorem Dev.faultAt_freeCtr (a b c e : Nat) (x : Word) (f : Nat) : (d.faultAt a b c e x f).freeCtr = d.freeCtr := (Dev.jlog_freeCtr ..).trans (Dev.setReg_freeCtr ..)
@[simp] theorem Dev.faultAt_time (a b c e : Nat) (x : Word) (f : Nat) : (d.faultAt a b c e x f).time = d.time := (Dev.jlog_time ..).trans (Dev.setReg_time ..)
@[simp] theorem Dev.faultAt_phase (a b c e : Nat) (x : Word) (f : Nat) : (d.faultAt a b c e x f).phase = d.phase := (Dev.jlog_phase ..).trans (Dev.setReg_phase ..)
@[simp] theorem Dev.faultAt_phaseDue (a b c e : Nat) (x : Word) (f : Nat) : (d.faultAt a b c e x f).phaseDue = d.phaseDue := (Dev.jlog_phaseDue ..).trans (Dev.setReg_phaseDue ..)
@[simp] theorem Dev.faultAt_cs (a b c e : Nat) (x : Word) (f : Nat) : (d.faultAt a b c e x f).cs = d.cs := (Dev.jlog_cs ..).trans (Dev.setReg_cs ..)
@[simp] theorem Dev.faultAt_csDue (a b c e : Nat) (x : Word) (f : Nat) : (d.faultAt a b c e x f).csDue = d.csDue := (Dev.jlog_csDue ..).trans (Dev.setReg_csDue ..)
@[simp] theorem Dev.faultAt_pendRestart (a b c e : Nat) (x : Word) (f : Nat) : (d.faultAt a b c e x f).pendRestart = d.pendRestart := (Dev.jlog_pendRestart ..).trans (Dev.setReg_pendRestart ..)
@[simp] theorem Dev.faultAt_frames (a b c e : Nat) (x : Word) (f : Nat) : (d.faultAt a b c e x f).frames = d.frames := (Dev.jlog_frames ..).trans (Dev.setReg_frames ..)
@[simp] theorem Dev.faultAt_frnum (a b c e : Nat) (x : Word) (f : Nat) : (d.faultAt a b c e x f).frnum = d.frnum := (Dev.jlog_frnum ..).trans (Dev.setReg_frnum ..)
@[simp] theorem Dev.faultAt_tickt (a b c e : Nat) (x : Word) (f : Nat) : (d.faultAt a b c e x f).tickt = d.tickt := (Dev.jlog_tickt ..).trans (Dev.setReg_tickt ..)
@[simp] theorem Dev.faultAt_period (a b c e : Nat) (x : Word) (f : Nat) : (d.faultAt a b c e x f).period = d.period := (Dev.jlog_period ..).trans (Dev.setReg_period ..)
@[simp] theorem Dev.faultAt_ledgerStop (a b c e : Nat) (x : Word) (f : Nat) : (d.faultAt a b c e x f).ledgerStop = d.ledgerStop := (Dev.jlog_ledgerStop ..).trans (Dev.setReg_ledgerStop ..)
@[simp] theorem Dev.faultAt_flopp (a b c e : Nat) (x : Word) (f : Nat) : (d.faultAt a b c e x f).flopp = d.flopp := (Dev.jlog_flopp ..).trans (Dev.setReg_flopp ..)
@[simp] theorem Dev.faultAt_floppDst (a b c e : Nat) (x : Word) (f : Nat) : (d.faultAt a b c e x f).floppDst = d.floppDst := (Dev.jlog_floppDst ..).trans (Dev.setReg_floppDst ..)
@[simp] theorem Dev.faultAt_pages (a b c e : Nat) (x : Word) (f : Nat) : (d.faultAt a b c e x f).pages = d.pages := (Dev.jlog_pages ..).trans (Dev.setReg_pages ..)
@[simp] theorem Dev.faultAt_jdup (a b c e : Nat) (x : Word) (f : Nat) : (d.faultAt a b c e x f).jdup = d.jdup := (Dev.jlog_jdup ..).trans (Dev.setReg_jdup ..)
@[simp] theorem Dev.faultAt_links (a b c e : Nat) (x : Word) (f : Nat) : (d.faultAt a b c e x f).links = d.links := (Dev.jlog_links ..).trans (Dev.setReg_links ..)
@[simp] theorem Dev.faultAt_cmp (a b c e : Nat) (x : Word) (f : Nat) : (d.faultAt a b c e x f).cmp = d.cmp := (Dev.jlog_cmp ..).trans (Dev.setReg_cmp ..)
@[simp] theorem Dev.faultAt_agr (a b c e : Nat) (x : Word) (f : Nat) : (d.faultAt a b c e x f).agr = d.agr := (Dev.jlog_agr ..).trans (Dev.setReg_agr ..)
@[simp] theorem Dev.faultAt_copies (a b c e : Nat) (x : Word) (f : Nat) : (d.faultAt a b c e x f).copies = d.copies := (Dev.jlog_copies ..).trans (Dev.setReg_copies ..)
@[simp] theorem Dev.faultAt_drv (a b c e : Nat) (x : Word) (f : Nat) : (d.faultAt a b c e x f).drv = d.drv := (Dev.jlog_drv ..).trans (Dev.setReg_drv ..)
@[simp] theorem Dev.faultAt_fan (a b c e : Nat) (x : Word) (f : Nat) : (d.faultAt a b c e x f).fan = d.fan := (Dev.jlog_fan ..).trans (Dev.setReg_fan ..)
@[simp] theorem Dev.faultAt_fanOvrDue (a b c e : Nat) (x : Word) (f : Nat) : (d.faultAt a b c e x f).fanOvrDue = d.fanOvrDue := (Dev.jlog_fanOvrDue ..).trans (Dev.setReg_fanOvrDue ..)
@[simp] theorem Dev.faultAt_fanLoopAt (a b c e : Nat) (x : Word) (f : Nat) : (d.faultAt a b c e x f).fanLoopAt = d.fanLoopAt := (Dev.jlog_fanLoopAt ..).trans (Dev.setReg_fanLoopAt ..)
@[simp] theorem Dev.faultAt_partAt (a b c e : Nat) (x : Word) (f : Nat) : (d.faultAt a b c e x f).partAt = d.partAt := (Dev.jlog_partAt ..).trans (Dev.setReg_partAt ..)
@[simp] theorem Dev.faultAt_gpo (a b c e : Nat) (x : Word) (f : Nat) : (d.faultAt a b c e x f).gpo = d.gpo := (Dev.jlog_gpo ..).trans (Dev.setReg_gpo ..)
@[simp] theorem Dev.faultAt_puff (a b c e : Nat) (x : Word) (f : Nat) : (d.faultAt a b c e x f).puff = d.puff := (Dev.jlog_puff ..).trans (Dev.setReg_puff ..)
@[simp] theorem Dev.faultAt_can (a b c e : Nat) (x : Word) (f : Nat) : (d.faultAt a b c e x f).can = d.can := (Dev.jlog_can ..).trans (Dev.setReg_can ..)
@[simp] theorem Dev.faultAt_ledger (a b c e : Nat) (x : Word) (f : Nat) : (d.faultAt a b c e x f).ledger = d.ledger := (Dev.jlog_ledger ..).trans (Dev.setReg_ledger ..)
@[simp] theorem Dev.faultAt_flash (a b c e : Nat) (x : Word) (f : Nat) : (d.faultAt a b c e x f).flash = d.flash := (Dev.jlog_flash ..).trans (Dev.setReg_flash ..)
@[simp] theorem Dev.faultAt_scrubW (a b c e : Nat) (x : Word) (f : Nat) : (d.faultAt a b c e x f).scrubW = d.scrubW := (Dev.jlog_scrubW ..).trans (Dev.setReg_scrubW ..)
@[simp] theorem Dev.faultAt_refreshW (a b c e : Nat) (x : Word) (f : Nat) : (d.faultAt a b c e x f).refreshW = d.refreshW := (Dev.jlog_refreshW ..).trans (Dev.setReg_refreshW ..)
@[simp] theorem Dev.faultAt_clk (a b c e : Nat) (x : Word) (f : Nat) : (d.faultAt a b c e x f).clk = d.clk := (Dev.jlog_clk ..).trans (Dev.setReg_clk ..)
@[simp] theorem Dev.faultAt_lp (a b c e : Nat) (x : Word) (f : Nat) : (d.faultAt a b c e x f).lp = d.lp := (Dev.jlog_lp ..).trans (Dev.setReg_lp ..)
@[simp] theorem Dev.faultAt_dbg (a b c e : Nat) (x : Word) (f : Nat) : (d.faultAt a b c e x f).dbg = d.dbg := (Dev.jlog_dbg ..).trans (Dev.setReg_dbg ..)
@[simp] theorem Dev.faultAt_jtag (a b c e : Nat) (x : Word) (f : Nat) : (d.faultAt a b c e x f).jtag = d.jtag := (Dev.jlog_jtag ..).trans (Dev.setReg_jtag ..)
@[simp] theorem Dev.faultAt_boot (a b c e : Nat) (x : Word) (f : Nat) : (d.faultAt a b c e x f).boot = d.boot := (Dev.jlog_boot ..).trans (Dev.setReg_boot ..)
@[simp] theorem Dev.faultAt_wdCfg (a b c e : Nat) (x : Word) (f : Nat) : (d.faultAt a b c e x f).wdCfg = d.wdCfg := (Dev.jlog_wdCfg ..).trans (Dev.setReg_wdCfg ..)

@[simp] theorem Dev.fault_shadow (a b c : Nat) (x : Word) (f : Nat) : (d.fault a b c x f).shadow = d.shadow := Dev.faultAt_shadow ..
@[simp] theorem Dev.fault_banked (a b c : Nat) (x : Word) (f : Nat) : (d.fault a b c x f).banked = d.banked := Dev.faultAt_banked ..
@[simp] theorem Dev.fault_mem (a b c : Nat) (x : Word) (f : Nat) : (d.fault a b c x f).mem = d.mem := Dev.faultAt_mem ..
@[simp] theorem Dev.fault_codes (a b c : Nat) (x : Word) (f : Nat) : (d.fault a b c x f).codes = d.codes := Dev.faultAt_codes ..
@[simp] theorem Dev.fault_freeCtr (a b c : Nat) (x : Word) (f : Nat) : (d.fault a b c x f).freeCtr = d.freeCtr := Dev.faultAt_freeCtr ..
@[simp] theorem Dev.fault_time (a b c : Nat) (x : Word) (f : Nat) : (d.fault a b c x f).time = d.time := Dev.faultAt_time ..
@[simp] theorem Dev.fault_phase (a b c : Nat) (x : Word) (f : Nat) : (d.fault a b c x f).phase = d.phase := Dev.faultAt_phase ..
@[simp] theorem Dev.fault_phaseDue (a b c : Nat) (x : Word) (f : Nat) : (d.fault a b c x f).phaseDue = d.phaseDue := Dev.faultAt_phaseDue ..
@[simp] theorem Dev.fault_cs (a b c : Nat) (x : Word) (f : Nat) : (d.fault a b c x f).cs = d.cs := Dev.faultAt_cs ..
@[simp] theorem Dev.fault_csDue (a b c : Nat) (x : Word) (f : Nat) : (d.fault a b c x f).csDue = d.csDue := Dev.faultAt_csDue ..
@[simp] theorem Dev.fault_pendRestart (a b c : Nat) (x : Word) (f : Nat) : (d.fault a b c x f).pendRestart = d.pendRestart := Dev.faultAt_pendRestart ..
@[simp] theorem Dev.fault_frames (a b c : Nat) (x : Word) (f : Nat) : (d.fault a b c x f).frames = d.frames := Dev.faultAt_frames ..
@[simp] theorem Dev.fault_frnum (a b c : Nat) (x : Word) (f : Nat) : (d.fault a b c x f).frnum = d.frnum := Dev.faultAt_frnum ..
@[simp] theorem Dev.fault_tickt (a b c : Nat) (x : Word) (f : Nat) : (d.fault a b c x f).tickt = d.tickt := Dev.faultAt_tickt ..
@[simp] theorem Dev.fault_period (a b c : Nat) (x : Word) (f : Nat) : (d.fault a b c x f).period = d.period := Dev.faultAt_period ..
@[simp] theorem Dev.fault_ledgerStop (a b c : Nat) (x : Word) (f : Nat) : (d.fault a b c x f).ledgerStop = d.ledgerStop := Dev.faultAt_ledgerStop ..
@[simp] theorem Dev.fault_flopp (a b c : Nat) (x : Word) (f : Nat) : (d.fault a b c x f).flopp = d.flopp := Dev.faultAt_flopp ..
@[simp] theorem Dev.fault_floppDst (a b c : Nat) (x : Word) (f : Nat) : (d.fault a b c x f).floppDst = d.floppDst := Dev.faultAt_floppDst ..
@[simp] theorem Dev.fault_pages (a b c : Nat) (x : Word) (f : Nat) : (d.fault a b c x f).pages = d.pages := Dev.faultAt_pages ..
@[simp] theorem Dev.fault_jdup (a b c : Nat) (x : Word) (f : Nat) : (d.fault a b c x f).jdup = d.jdup := Dev.faultAt_jdup ..
@[simp] theorem Dev.fault_links (a b c : Nat) (x : Word) (f : Nat) : (d.fault a b c x f).links = d.links := Dev.faultAt_links ..
@[simp] theorem Dev.fault_cmp (a b c : Nat) (x : Word) (f : Nat) : (d.fault a b c x f).cmp = d.cmp := Dev.faultAt_cmp ..
@[simp] theorem Dev.fault_agr (a b c : Nat) (x : Word) (f : Nat) : (d.fault a b c x f).agr = d.agr := Dev.faultAt_agr ..
@[simp] theorem Dev.fault_copies (a b c : Nat) (x : Word) (f : Nat) : (d.fault a b c x f).copies = d.copies := Dev.faultAt_copies ..
@[simp] theorem Dev.fault_drv (a b c : Nat) (x : Word) (f : Nat) : (d.fault a b c x f).drv = d.drv := Dev.faultAt_drv ..
@[simp] theorem Dev.fault_fan (a b c : Nat) (x : Word) (f : Nat) : (d.fault a b c x f).fan = d.fan := Dev.faultAt_fan ..
@[simp] theorem Dev.fault_fanOvrDue (a b c : Nat) (x : Word) (f : Nat) : (d.fault a b c x f).fanOvrDue = d.fanOvrDue := Dev.faultAt_fanOvrDue ..
@[simp] theorem Dev.fault_fanLoopAt (a b c : Nat) (x : Word) (f : Nat) : (d.fault a b c x f).fanLoopAt = d.fanLoopAt := Dev.faultAt_fanLoopAt ..
@[simp] theorem Dev.fault_partAt (a b c : Nat) (x : Word) (f : Nat) : (d.fault a b c x f).partAt = d.partAt := Dev.faultAt_partAt ..
@[simp] theorem Dev.fault_gpo (a b c : Nat) (x : Word) (f : Nat) : (d.fault a b c x f).gpo = d.gpo := Dev.faultAt_gpo ..
@[simp] theorem Dev.fault_puff (a b c : Nat) (x : Word) (f : Nat) : (d.fault a b c x f).puff = d.puff := Dev.faultAt_puff ..
@[simp] theorem Dev.fault_can (a b c : Nat) (x : Word) (f : Nat) : (d.fault a b c x f).can = d.can := Dev.faultAt_can ..
@[simp] theorem Dev.fault_ledger (a b c : Nat) (x : Word) (f : Nat) : (d.fault a b c x f).ledger = d.ledger := Dev.faultAt_ledger ..
@[simp] theorem Dev.fault_flash (a b c : Nat) (x : Word) (f : Nat) : (d.fault a b c x f).flash = d.flash := Dev.faultAt_flash ..
@[simp] theorem Dev.fault_scrubW (a b c : Nat) (x : Word) (f : Nat) : (d.fault a b c x f).scrubW = d.scrubW := Dev.faultAt_scrubW ..
@[simp] theorem Dev.fault_refreshW (a b c : Nat) (x : Word) (f : Nat) : (d.fault a b c x f).refreshW = d.refreshW := Dev.faultAt_refreshW ..
@[simp] theorem Dev.fault_clk (a b c : Nat) (x : Word) (f : Nat) : (d.fault a b c x f).clk = d.clk := Dev.faultAt_clk ..
@[simp] theorem Dev.fault_lp (a b c : Nat) (x : Word) (f : Nat) : (d.fault a b c x f).lp = d.lp := Dev.faultAt_lp ..
@[simp] theorem Dev.fault_dbg (a b c : Nat) (x : Word) (f : Nat) : (d.fault a b c x f).dbg = d.dbg := Dev.faultAt_dbg ..
@[simp] theorem Dev.fault_jtag (a b c : Nat) (x : Word) (f : Nat) : (d.fault a b c x f).jtag = d.jtag := Dev.faultAt_jtag ..
@[simp] theorem Dev.fault_boot (a b c : Nat) (x : Word) (f : Nat) : (d.fault a b c x f).boot = d.boot := Dev.faultAt_boot ..
@[simp] theorem Dev.fault_wdCfg (a b c : Nat) (x : Word) (f : Nat) : (d.fault a b c x f).wdCfg = d.wdCfg := Dev.faultAt_wdCfg ..

@[simp] theorem Dev.guardOvr_shadow (a b c : Nat) : (d.guardOvr a b c).shadow = d.shadow := (Dev.fault_shadow ..).trans (Dev.count_shadow ..)
@[simp] theorem Dev.guardOvr_banked (a b c : Nat) : (d.guardOvr a b c).banked = d.banked := (Dev.fault_banked ..).trans (Dev.count_banked ..)
@[simp] theorem Dev.guardOvr_mem (a b c : Nat) : (d.guardOvr a b c).mem = d.mem := (Dev.fault_mem ..).trans (Dev.count_mem ..)
@[simp] theorem Dev.guardOvr_codes (a b c : Nat) : (d.guardOvr a b c).codes = d.codes := (Dev.fault_codes ..).trans (Dev.count_codes ..)
@[simp] theorem Dev.guardOvr_freeCtr (a b c : Nat) : (d.guardOvr a b c).freeCtr = d.freeCtr := (Dev.fault_freeCtr ..).trans (Dev.count_freeCtr ..)
@[simp] theorem Dev.guardOvr_time (a b c : Nat) : (d.guardOvr a b c).time = d.time := (Dev.fault_time ..).trans (Dev.count_time ..)
@[simp] theorem Dev.guardOvr_phase (a b c : Nat) : (d.guardOvr a b c).phase = d.phase := (Dev.fault_phase ..).trans (Dev.count_phase ..)
@[simp] theorem Dev.guardOvr_phaseDue (a b c : Nat) : (d.guardOvr a b c).phaseDue = d.phaseDue := (Dev.fault_phaseDue ..).trans (Dev.count_phaseDue ..)
@[simp] theorem Dev.guardOvr_cs (a b c : Nat) : (d.guardOvr a b c).cs = d.cs := (Dev.fault_cs ..).trans (Dev.count_cs ..)
@[simp] theorem Dev.guardOvr_csDue (a b c : Nat) : (d.guardOvr a b c).csDue = d.csDue := (Dev.fault_csDue ..).trans (Dev.count_csDue ..)
@[simp] theorem Dev.guardOvr_pendRestart (a b c : Nat) : (d.guardOvr a b c).pendRestart = d.pendRestart := (Dev.fault_pendRestart ..).trans (Dev.count_pendRestart ..)
@[simp] theorem Dev.guardOvr_frames (a b c : Nat) : (d.guardOvr a b c).frames = d.frames := (Dev.fault_frames ..).trans (Dev.count_frames ..)
@[simp] theorem Dev.guardOvr_frnum (a b c : Nat) : (d.guardOvr a b c).frnum = d.frnum := (Dev.fault_frnum ..).trans (Dev.count_frnum ..)
@[simp] theorem Dev.guardOvr_tickt (a b c : Nat) : (d.guardOvr a b c).tickt = d.tickt := (Dev.fault_tickt ..).trans (Dev.count_tickt ..)
@[simp] theorem Dev.guardOvr_period (a b c : Nat) : (d.guardOvr a b c).period = d.period := (Dev.fault_period ..).trans (Dev.count_period ..)
@[simp] theorem Dev.guardOvr_ledgerStop (a b c : Nat) : (d.guardOvr a b c).ledgerStop = d.ledgerStop := (Dev.fault_ledgerStop ..).trans (Dev.count_ledgerStop ..)
@[simp] theorem Dev.guardOvr_flopp (a b c : Nat) : (d.guardOvr a b c).flopp = d.flopp := (Dev.fault_flopp ..).trans (Dev.count_flopp ..)
@[simp] theorem Dev.guardOvr_floppDst (a b c : Nat) : (d.guardOvr a b c).floppDst = d.floppDst := (Dev.fault_floppDst ..).trans (Dev.count_floppDst ..)
@[simp] theorem Dev.guardOvr_pages (a b c : Nat) : (d.guardOvr a b c).pages = d.pages := (Dev.fault_pages ..).trans (Dev.count_pages ..)
@[simp] theorem Dev.guardOvr_jdup (a b c : Nat) : (d.guardOvr a b c).jdup = d.jdup := (Dev.fault_jdup ..).trans (Dev.count_jdup ..)
@[simp] theorem Dev.guardOvr_links (a b c : Nat) : (d.guardOvr a b c).links = d.links := (Dev.fault_links ..).trans (Dev.count_links ..)
@[simp] theorem Dev.guardOvr_cmp (a b c : Nat) : (d.guardOvr a b c).cmp = d.cmp := (Dev.fault_cmp ..).trans (Dev.count_cmp ..)
@[simp] theorem Dev.guardOvr_agr (a b c : Nat) : (d.guardOvr a b c).agr = d.agr := (Dev.fault_agr ..).trans (Dev.count_agr ..)
@[simp] theorem Dev.guardOvr_copies (a b c : Nat) : (d.guardOvr a b c).copies = d.copies := (Dev.fault_copies ..).trans (Dev.count_copies ..)
@[simp] theorem Dev.guardOvr_drv (a b c : Nat) : (d.guardOvr a b c).drv = d.drv := (Dev.fault_drv ..).trans (Dev.count_drv ..)
@[simp] theorem Dev.guardOvr_fan (a b c : Nat) : (d.guardOvr a b c).fan = d.fan := (Dev.fault_fan ..).trans (Dev.count_fan ..)
@[simp] theorem Dev.guardOvr_fanOvrDue (a b c : Nat) : (d.guardOvr a b c).fanOvrDue = d.fanOvrDue := (Dev.fault_fanOvrDue ..).trans (Dev.count_fanOvrDue ..)
@[simp] theorem Dev.guardOvr_fanLoopAt (a b c : Nat) : (d.guardOvr a b c).fanLoopAt = d.fanLoopAt := (Dev.fault_fanLoopAt ..).trans (Dev.count_fanLoopAt ..)
@[simp] theorem Dev.guardOvr_partAt (a b c : Nat) : (d.guardOvr a b c).partAt = d.partAt := (Dev.fault_partAt ..).trans (Dev.count_partAt ..)
@[simp] theorem Dev.guardOvr_gpo (a b c : Nat) : (d.guardOvr a b c).gpo = d.gpo := (Dev.fault_gpo ..).trans (Dev.count_gpo ..)
@[simp] theorem Dev.guardOvr_puff (a b c : Nat) : (d.guardOvr a b c).puff = d.puff := (Dev.fault_puff ..).trans (Dev.count_puff ..)
@[simp] theorem Dev.guardOvr_can (a b c : Nat) : (d.guardOvr a b c).can = d.can := (Dev.fault_can ..).trans (Dev.count_can ..)
@[simp] theorem Dev.guardOvr_ledger (a b c : Nat) : (d.guardOvr a b c).ledger = d.ledger := (Dev.fault_ledger ..).trans (Dev.count_ledger ..)
@[simp] theorem Dev.guardOvr_flash (a b c : Nat) : (d.guardOvr a b c).flash = d.flash := (Dev.fault_flash ..).trans (Dev.count_flash ..)
@[simp] theorem Dev.guardOvr_scrubW (a b c : Nat) : (d.guardOvr a b c).scrubW = d.scrubW := (Dev.fault_scrubW ..).trans (Dev.count_scrubW ..)
@[simp] theorem Dev.guardOvr_refreshW (a b c : Nat) : (d.guardOvr a b c).refreshW = d.refreshW := (Dev.fault_refreshW ..).trans (Dev.count_refreshW ..)
@[simp] theorem Dev.guardOvr_clk (a b c : Nat) : (d.guardOvr a b c).clk = d.clk := (Dev.fault_clk ..).trans (Dev.count_clk ..)
@[simp] theorem Dev.guardOvr_lp (a b c : Nat) : (d.guardOvr a b c).lp = d.lp := (Dev.fault_lp ..).trans (Dev.count_lp ..)
@[simp] theorem Dev.guardOvr_dbg (a b c : Nat) : (d.guardOvr a b c).dbg = d.dbg := (Dev.fault_dbg ..).trans (Dev.count_dbg ..)
@[simp] theorem Dev.guardOvr_jtag (a b c : Nat) : (d.guardOvr a b c).jtag = d.jtag := (Dev.fault_jtag ..).trans (Dev.count_jtag ..)
@[simp] theorem Dev.guardOvr_boot (a b c : Nat) : (d.guardOvr a b c).boot = d.boot := (Dev.fault_boot ..).trans (Dev.count_boot ..)
@[simp] theorem Dev.guardOvr_wdCfg (a b c : Nat) : (d.guardOvr a b c).wdCfg = d.wdCfg := (Dev.fault_wdCfg ..).trans (Dev.count_wdCfg ..)

@[simp] theorem Dev.admDly_shadow (g c : Nat) : (d.admDly g c).shadow = d.shadow := by
  unfold Dev.admDly
  split <;> (try split) <;> first | exact Dev.count_shadow .. | rfl
@[simp] theorem Dev.admDly_banked (g c : Nat) : (d.admDly g c).banked = d.banked := by
  unfold Dev.admDly
  split <;> (try split) <;> first | exact Dev.count_banked .. | rfl
@[simp] theorem Dev.admDly_mem (g c : Nat) : (d.admDly g c).mem = d.mem := by
  unfold Dev.admDly
  split <;> (try split) <;> first | exact Dev.count_mem .. | rfl
@[simp] theorem Dev.admDly_codes (g c : Nat) : (d.admDly g c).codes = d.codes := by
  unfold Dev.admDly
  split <;> (try split) <;> first | exact Dev.count_codes .. | rfl
@[simp] theorem Dev.admDly_freeCtr (g c : Nat) : (d.admDly g c).freeCtr = d.freeCtr := by
  unfold Dev.admDly
  split <;> (try split) <;> first | exact Dev.count_freeCtr .. | rfl
@[simp] theorem Dev.admDly_time (g c : Nat) : (d.admDly g c).time = d.time := by
  unfold Dev.admDly
  split <;> (try split) <;> first | exact Dev.count_time .. | rfl
@[simp] theorem Dev.admDly_phase (g c : Nat) : (d.admDly g c).phase = d.phase := by
  unfold Dev.admDly
  split <;> (try split) <;> first | exact Dev.count_phase .. | rfl
@[simp] theorem Dev.admDly_phaseDue (g c : Nat) : (d.admDly g c).phaseDue = d.phaseDue := by
  unfold Dev.admDly
  split <;> (try split) <;> first | exact Dev.count_phaseDue .. | rfl
@[simp] theorem Dev.admDly_cs (g c : Nat) : (d.admDly g c).cs = d.cs := by
  unfold Dev.admDly
  split <;> (try split) <;> first | exact Dev.count_cs .. | rfl
@[simp] theorem Dev.admDly_csDue (g c : Nat) : (d.admDly g c).csDue = d.csDue := by
  unfold Dev.admDly
  split <;> (try split) <;> first | exact Dev.count_csDue .. | rfl
@[simp] theorem Dev.admDly_pendRestart (g c : Nat) : (d.admDly g c).pendRestart = d.pendRestart := by
  unfold Dev.admDly
  split <;> (try split) <;> first | exact Dev.count_pendRestart .. | rfl
@[simp] theorem Dev.admDly_frames (g c : Nat) : (d.admDly g c).frames = d.frames := by
  unfold Dev.admDly
  split <;> (try split) <;> first | exact Dev.count_frames .. | rfl
@[simp] theorem Dev.admDly_frnum (g c : Nat) : (d.admDly g c).frnum = d.frnum := by
  unfold Dev.admDly
  split <;> (try split) <;> first | exact Dev.count_frnum .. | rfl
@[simp] theorem Dev.admDly_tickt (g c : Nat) : (d.admDly g c).tickt = d.tickt := by
  unfold Dev.admDly
  split <;> (try split) <;> first | exact Dev.count_tickt .. | rfl
@[simp] theorem Dev.admDly_period (g c : Nat) : (d.admDly g c).period = d.period := by
  unfold Dev.admDly
  split <;> (try split) <;> first | exact Dev.count_period .. | rfl
@[simp] theorem Dev.admDly_ledgerStop (g c : Nat) : (d.admDly g c).ledgerStop = d.ledgerStop := by
  unfold Dev.admDly
  split <;> (try split) <;> first | exact Dev.count_ledgerStop .. | rfl
@[simp] theorem Dev.admDly_flopp (g c : Nat) : (d.admDly g c).flopp = d.flopp := by
  unfold Dev.admDly
  split <;> (try split) <;> first | exact Dev.count_flopp .. | rfl
@[simp] theorem Dev.admDly_floppDst (g c : Nat) : (d.admDly g c).floppDst = d.floppDst := by
  unfold Dev.admDly
  split <;> (try split) <;> first | exact Dev.count_floppDst .. | rfl
@[simp] theorem Dev.admDly_ovl (g c : Nat) : (d.admDly g c).ovl = d.ovl := by
  unfold Dev.admDly
  split <;> (try split) <;> first | exact Dev.count_ovl .. | rfl
@[simp] theorem Dev.admDly_pages (g c : Nat) : (d.admDly g c).pages = d.pages := by
  unfold Dev.admDly
  split <;> (try split) <;> first | exact Dev.count_pages .. | rfl
@[simp] theorem Dev.admDly_jrn (g c : Nat) : (d.admDly g c).jrn = d.jrn := by
  unfold Dev.admDly
  split <;> (try split) <;> first | exact Dev.count_jrn .. | rfl
@[simp] theorem Dev.admDly_jdup (g c : Nat) : (d.admDly g c).jdup = d.jdup := by
  unfold Dev.admDly
  split <;> (try split) <;> first | exact Dev.count_jdup .. | rfl
@[simp] theorem Dev.admDly_links (g c : Nat) : (d.admDly g c).links = d.links := by
  unfold Dev.admDly
  split <;> (try split) <;> first | exact Dev.count_links .. | rfl
@[simp] theorem Dev.admDly_cmp (g c : Nat) : (d.admDly g c).cmp = d.cmp := by
  unfold Dev.admDly
  split <;> (try split) <;> first | exact Dev.count_cmp .. | rfl
@[simp] theorem Dev.admDly_agr (g c : Nat) : (d.admDly g c).agr = d.agr := by
  unfold Dev.admDly
  split <;> (try split) <;> first | exact Dev.count_agr .. | rfl
@[simp] theorem Dev.admDly_copies (g c : Nat) : (d.admDly g c).copies = d.copies := by
  unfold Dev.admDly
  split <;> (try split) <;> first | exact Dev.count_copies .. | rfl
@[simp] theorem Dev.admDly_drv (g c : Nat) : (d.admDly g c).drv = d.drv := by
  unfold Dev.admDly
  split <;> (try split) <;> first | exact Dev.count_drv .. | rfl
@[simp] theorem Dev.admDly_fan (g c : Nat) : (d.admDly g c).fan = d.fan := by
  unfold Dev.admDly
  split <;> (try split) <;> first | exact Dev.count_fan .. | rfl
@[simp] theorem Dev.admDly_fanOvrDue (g c : Nat) : (d.admDly g c).fanOvrDue = d.fanOvrDue := by
  unfold Dev.admDly
  split <;> (try split) <;> first | exact Dev.count_fanOvrDue .. | rfl
@[simp] theorem Dev.admDly_fanLoopAt (g c : Nat) : (d.admDly g c).fanLoopAt = d.fanLoopAt := by
  unfold Dev.admDly
  split <;> (try split) <;> first | exact Dev.count_fanLoopAt .. | rfl
@[simp] theorem Dev.admDly_partAt (g c : Nat) : (d.admDly g c).partAt = d.partAt := by
  unfold Dev.admDly
  split <;> (try split) <;> first | exact Dev.count_partAt .. | rfl
@[simp] theorem Dev.admDly_gpo (g c : Nat) : (d.admDly g c).gpo = d.gpo := by
  unfold Dev.admDly
  split <;> (try split) <;> first | exact Dev.count_gpo .. | rfl
@[simp] theorem Dev.admDly_puff (g c : Nat) : (d.admDly g c).puff = d.puff := by
  unfold Dev.admDly
  split <;> (try split) <;> first | exact Dev.count_puff .. | rfl
@[simp] theorem Dev.admDly_can (g c : Nat) : (d.admDly g c).can = d.can := by
  unfold Dev.admDly
  split <;> (try split) <;> first | exact Dev.count_can .. | rfl
@[simp] theorem Dev.admDly_ledger (g c : Nat) : (d.admDly g c).ledger = d.ledger := by
  unfold Dev.admDly
  split <;> (try split) <;> first | exact Dev.count_ledger .. | rfl
@[simp] theorem Dev.admDly_flash (g c : Nat) : (d.admDly g c).flash = d.flash := by
  unfold Dev.admDly
  split <;> (try split) <;> first | exact Dev.count_flash .. | rfl
@[simp] theorem Dev.admDly_scrubW (g c : Nat) : (d.admDly g c).scrubW = d.scrubW := by
  unfold Dev.admDly
  split <;> (try split) <;> first | exact Dev.count_scrubW .. | rfl
@[simp] theorem Dev.admDly_refreshW (g c : Nat) : (d.admDly g c).refreshW = d.refreshW := by
  unfold Dev.admDly
  split <;> (try split) <;> first | exact Dev.count_refreshW .. | rfl
@[simp] theorem Dev.admDly_clk (g c : Nat) : (d.admDly g c).clk = d.clk := by
  unfold Dev.admDly
  split <;> (try split) <;> first | exact Dev.count_clk .. | rfl
@[simp] theorem Dev.admDly_lp (g c : Nat) : (d.admDly g c).lp = d.lp := by
  unfold Dev.admDly
  split <;> (try split) <;> first | exact Dev.count_lp .. | rfl
@[simp] theorem Dev.admDly_dbg (g c : Nat) : (d.admDly g c).dbg = d.dbg := by
  unfold Dev.admDly
  split <;> (try split) <;> first | exact Dev.count_dbg .. | rfl
@[simp] theorem Dev.admDly_jtag (g c : Nat) : (d.admDly g c).jtag = d.jtag := by
  unfold Dev.admDly
  split <;> (try split) <;> first | exact Dev.count_jtag .. | rfl
@[simp] theorem Dev.admDly_boot (g c : Nat) : (d.admDly g c).boot = d.boot := by
  unfold Dev.admDly
  split <;> (try split) <;> first | exact Dev.count_boot .. | rfl
@[simp] theorem Dev.admDly_wdCfg (g c : Nat) : (d.admDly g c).wdCfg = d.wdCfg := by
  unfold Dev.admDly
  split <;> (try split) <;> first | exact Dev.count_wdCfg .. | rfl

@[simp] theorem Dev.admRef_shadow (g c : Nat) : (d.admRef g c).shadow = d.shadow := by
  unfold Dev.admRef
  split <;> (try split) <;> first | exact (Dev.ovlRef_shadow ..).trans (Dev.count_shadow ..) | rfl
@[simp] theorem Dev.admRef_banked (g c : Nat) : (d.admRef g c).banked = d.banked := by
  unfold Dev.admRef
  split <;> (try split) <;> first | exact (Dev.ovlRef_banked ..).trans (Dev.count_banked ..) | rfl
@[simp] theorem Dev.admRef_mem (g c : Nat) : (d.admRef g c).mem = d.mem := by
  unfold Dev.admRef
  split <;> (try split) <;> first | exact (Dev.ovlRef_mem ..).trans (Dev.count_mem ..) | rfl
@[simp] theorem Dev.admRef_codes (g c : Nat) : (d.admRef g c).codes = d.codes := by
  unfold Dev.admRef
  split <;> (try split) <;> first | exact (Dev.ovlRef_codes ..).trans (Dev.count_codes ..) | rfl
@[simp] theorem Dev.admRef_freeCtr (g c : Nat) : (d.admRef g c).freeCtr = d.freeCtr := by
  unfold Dev.admRef
  split <;> (try split) <;> first | exact (Dev.ovlRef_freeCtr ..).trans (Dev.count_freeCtr ..) | rfl
@[simp] theorem Dev.admRef_time (g c : Nat) : (d.admRef g c).time = d.time := by
  unfold Dev.admRef
  split <;> (try split) <;> first | exact (Dev.ovlRef_time ..).trans (Dev.count_time ..) | rfl
@[simp] theorem Dev.admRef_phase (g c : Nat) : (d.admRef g c).phase = d.phase := by
  unfold Dev.admRef
  split <;> (try split) <;> first | exact (Dev.ovlRef_phase ..).trans (Dev.count_phase ..) | rfl
@[simp] theorem Dev.admRef_phaseDue (g c : Nat) : (d.admRef g c).phaseDue = d.phaseDue := by
  unfold Dev.admRef
  split <;> (try split) <;> first | exact (Dev.ovlRef_phaseDue ..).trans (Dev.count_phaseDue ..) | rfl
@[simp] theorem Dev.admRef_cs (g c : Nat) : (d.admRef g c).cs = d.cs := by
  unfold Dev.admRef
  split <;> (try split) <;> first | exact (Dev.ovlRef_cs ..).trans (Dev.count_cs ..) | rfl
@[simp] theorem Dev.admRef_csDue (g c : Nat) : (d.admRef g c).csDue = d.csDue := by
  unfold Dev.admRef
  split <;> (try split) <;> first | exact (Dev.ovlRef_csDue ..).trans (Dev.count_csDue ..) | rfl
@[simp] theorem Dev.admRef_pendRestart (g c : Nat) : (d.admRef g c).pendRestart = d.pendRestart := by
  unfold Dev.admRef
  split <;> (try split) <;> first | exact (Dev.ovlRef_pendRestart ..).trans (Dev.count_pendRestart ..) | rfl
@[simp] theorem Dev.admRef_frames (g c : Nat) : (d.admRef g c).frames = d.frames := by
  unfold Dev.admRef
  split <;> (try split) <;> first | exact (Dev.ovlRef_frames ..).trans (Dev.count_frames ..) | rfl
@[simp] theorem Dev.admRef_frnum (g c : Nat) : (d.admRef g c).frnum = d.frnum := by
  unfold Dev.admRef
  split <;> (try split) <;> first | exact (Dev.ovlRef_frnum ..).trans (Dev.count_frnum ..) | rfl
@[simp] theorem Dev.admRef_tickt (g c : Nat) : (d.admRef g c).tickt = d.tickt := by
  unfold Dev.admRef
  split <;> (try split) <;> first | exact (Dev.ovlRef_tickt ..).trans (Dev.count_tickt ..) | rfl
@[simp] theorem Dev.admRef_period (g c : Nat) : (d.admRef g c).period = d.period := by
  unfold Dev.admRef
  split <;> (try split) <;> first | exact (Dev.ovlRef_period ..).trans (Dev.count_period ..) | rfl
@[simp] theorem Dev.admRef_ledgerStop (g c : Nat) : (d.admRef g c).ledgerStop = d.ledgerStop := by
  unfold Dev.admRef
  split <;> (try split) <;> first | exact (Dev.ovlRef_ledgerStop ..).trans (Dev.count_ledgerStop ..) | rfl
@[simp] theorem Dev.admRef_flopp (g c : Nat) : (d.admRef g c).flopp = d.flopp := by
  unfold Dev.admRef
  split <;> (try split) <;> first | exact (Dev.ovlRef_flopp ..).trans (Dev.count_flopp ..) | rfl
@[simp] theorem Dev.admRef_floppDst (g c : Nat) : (d.admRef g c).floppDst = d.floppDst := by
  unfold Dev.admRef
  split <;> (try split) <;> first | exact (Dev.ovlRef_floppDst ..).trans (Dev.count_floppDst ..) | rfl
@[simp] theorem Dev.admRef_pages (g c : Nat) : (d.admRef g c).pages = d.pages := by
  unfold Dev.admRef
  split <;> (try split) <;> first | exact (Dev.ovlRef_pages ..).trans (Dev.count_pages ..) | rfl
@[simp] theorem Dev.admRef_jrn (g c : Nat) : (d.admRef g c).jrn = d.jrn := by
  unfold Dev.admRef
  split <;> (try split) <;> first | exact (Dev.ovlRef_jrn ..).trans (Dev.count_jrn ..) | rfl
@[simp] theorem Dev.admRef_jdup (g c : Nat) : (d.admRef g c).jdup = d.jdup := by
  unfold Dev.admRef
  split <;> (try split) <;> first | exact (Dev.ovlRef_jdup ..).trans (Dev.count_jdup ..) | rfl
@[simp] theorem Dev.admRef_links (g c : Nat) : (d.admRef g c).links = d.links := by
  unfold Dev.admRef
  split <;> (try split) <;> first | exact (Dev.ovlRef_links ..).trans (Dev.count_links ..) | rfl
@[simp] theorem Dev.admRef_cmp (g c : Nat) : (d.admRef g c).cmp = d.cmp := by
  unfold Dev.admRef
  split <;> (try split) <;> first | exact (Dev.ovlRef_cmp ..).trans (Dev.count_cmp ..) | rfl
@[simp] theorem Dev.admRef_agr (g c : Nat) : (d.admRef g c).agr = d.agr := by
  unfold Dev.admRef
  split <;> (try split) <;> first | exact (Dev.ovlRef_agr ..).trans (Dev.count_agr ..) | rfl
@[simp] theorem Dev.admRef_copies (g c : Nat) : (d.admRef g c).copies = d.copies := by
  unfold Dev.admRef
  split <;> (try split) <;> first | exact (Dev.ovlRef_copies ..).trans (Dev.count_copies ..) | rfl
@[simp] theorem Dev.admRef_drv (g c : Nat) : (d.admRef g c).drv = d.drv := by
  unfold Dev.admRef
  split <;> (try split) <;> first | exact (Dev.ovlRef_drv ..).trans (Dev.count_drv ..) | rfl
@[simp] theorem Dev.admRef_fan (g c : Nat) : (d.admRef g c).fan = d.fan := by
  unfold Dev.admRef
  split <;> (try split) <;> first | exact (Dev.ovlRef_fan ..).trans (Dev.count_fan ..) | rfl
@[simp] theorem Dev.admRef_fanOvrDue (g c : Nat) : (d.admRef g c).fanOvrDue = d.fanOvrDue := by
  unfold Dev.admRef
  split <;> (try split) <;> first | exact (Dev.ovlRef_fanOvrDue ..).trans (Dev.count_fanOvrDue ..) | rfl
@[simp] theorem Dev.admRef_fanLoopAt (g c : Nat) : (d.admRef g c).fanLoopAt = d.fanLoopAt := by
  unfold Dev.admRef
  split <;> (try split) <;> first | exact (Dev.ovlRef_fanLoopAt ..).trans (Dev.count_fanLoopAt ..) | rfl
@[simp] theorem Dev.admRef_partAt (g c : Nat) : (d.admRef g c).partAt = d.partAt := by
  unfold Dev.admRef
  split <;> (try split) <;> first | exact (Dev.ovlRef_partAt ..).trans (Dev.count_partAt ..) | rfl
@[simp] theorem Dev.admRef_gpo (g c : Nat) : (d.admRef g c).gpo = d.gpo := by
  unfold Dev.admRef
  split <;> (try split) <;> first | exact (Dev.ovlRef_gpo ..).trans (Dev.count_gpo ..) | rfl
@[simp] theorem Dev.admRef_puff (g c : Nat) : (d.admRef g c).puff = d.puff := by
  unfold Dev.admRef
  split <;> (try split) <;> first | exact (Dev.ovlRef_puff ..).trans (Dev.count_puff ..) | rfl
@[simp] theorem Dev.admRef_can (g c : Nat) : (d.admRef g c).can = d.can := by
  unfold Dev.admRef
  split <;> (try split) <;> first | exact (Dev.ovlRef_can ..).trans (Dev.count_can ..) | rfl
@[simp] theorem Dev.admRef_ledger (g c : Nat) : (d.admRef g c).ledger = d.ledger := by
  unfold Dev.admRef
  split <;> (try split) <;> first | exact (Dev.ovlRef_ledger ..).trans (Dev.count_ledger ..) | rfl
@[simp] theorem Dev.admRef_flash (g c : Nat) : (d.admRef g c).flash = d.flash := by
  unfold Dev.admRef
  split <;> (try split) <;> first | exact (Dev.ovlRef_flash ..).trans (Dev.count_flash ..) | rfl
@[simp] theorem Dev.admRef_scrubW (g c : Nat) : (d.admRef g c).scrubW = d.scrubW := by
  unfold Dev.admRef
  split <;> (try split) <;> first | exact (Dev.ovlRef_scrubW ..).trans (Dev.count_scrubW ..) | rfl
@[simp] theorem Dev.admRef_refreshW (g c : Nat) : (d.admRef g c).refreshW = d.refreshW := by
  unfold Dev.admRef
  split <;> (try split) <;> first | exact (Dev.ovlRef_refreshW ..).trans (Dev.count_refreshW ..) | rfl
@[simp] theorem Dev.admRef_clk (g c : Nat) : (d.admRef g c).clk = d.clk := by
  unfold Dev.admRef
  split <;> (try split) <;> first | exact (Dev.ovlRef_clk ..).trans (Dev.count_clk ..) | rfl
@[simp] theorem Dev.admRef_lp (g c : Nat) : (d.admRef g c).lp = d.lp := by
  unfold Dev.admRef
  split <;> (try split) <;> first | exact (Dev.ovlRef_lp ..).trans (Dev.count_lp ..) | rfl
@[simp] theorem Dev.admRef_dbg (g c : Nat) : (d.admRef g c).dbg = d.dbg := by
  unfold Dev.admRef
  split <;> (try split) <;> first | exact (Dev.ovlRef_dbg ..).trans (Dev.count_dbg ..) | rfl
@[simp] theorem Dev.admRef_jtag (g c : Nat) : (d.admRef g c).jtag = d.jtag := by
  unfold Dev.admRef
  split <;> (try split) <;> first | exact (Dev.ovlRef_jtag ..).trans (Dev.count_jtag ..) | rfl
@[simp] theorem Dev.admRef_boot (g c : Nat) : (d.admRef g c).boot = d.boot := by
  unfold Dev.admRef
  split <;> (try split) <;> first | exact (Dev.ovlRef_boot ..).trans (Dev.count_boot ..) | rfl
@[simp] theorem Dev.admRef_wdCfg (g c : Nat) : (d.admRef g c).wdCfg = d.wdCfg := by
  unfold Dev.admRef
  split <;> (try split) <;> first | exact (Dev.ovlRef_wdCfg ..).trans (Dev.count_wdCfg ..) | rfl

@[simp] theorem Dev.setPstate_shadow (p : Nat) : (d.setPstate p).shadow = d.shadow := by
  unfold Dev.setPstate
  split
  · rfl
  · exact (Dev.jmode_shadow ..).trans (Dev.setFldR_shadow ..)
@[simp] theorem Dev.setPstate_banked (p : Nat) : (d.setPstate p).banked = d.banked := by
  unfold Dev.setPstate
  split
  · rfl
  · exact (Dev.jmode_banked ..).trans (Dev.setFldR_banked ..)
@[simp] theorem Dev.setPstate_mem (p : Nat) : (d.setPstate p).mem = d.mem := by
  unfold Dev.setPstate
  split
  · rfl
  · exact (Dev.jmode_mem ..).trans (Dev.setFldR_mem ..)
@[simp] theorem Dev.setPstate_codes (p : Nat) : (d.setPstate p).codes = d.codes := by
  unfold Dev.setPstate
  split
  · rfl
  · exact (Dev.jmode_codes ..).trans (Dev.setFldR_codes ..)
@[simp] theorem Dev.setPstate_freeCtr (p : Nat) : (d.setPstate p).freeCtr = d.freeCtr := by
  unfold Dev.setPstate
  split
  · rfl
  · exact (Dev.jmode_freeCtr ..).trans (Dev.setFldR_freeCtr ..)
@[simp] theorem Dev.setPstate_time (p : Nat) : (d.setPstate p).time = d.time := by
  unfold Dev.setPstate
  split
  · rfl
  · exact (Dev.jmode_time ..).trans (Dev.setFldR_time ..)
@[simp] theorem Dev.setPstate_phase (p : Nat) : (d.setPstate p).phase = d.phase := by
  unfold Dev.setPstate
  split
  · rfl
  · exact (Dev.jmode_phase ..).trans (Dev.setFldR_phase ..)
@[simp] theorem Dev.setPstate_phaseDue (p : Nat) : (d.setPstate p).phaseDue = d.phaseDue := by
  unfold Dev.setPstate
  split
  · rfl
  · exact (Dev.jmode_phaseDue ..).trans (Dev.setFldR_phaseDue ..)
@[simp] theorem Dev.setPstate_cs (p : Nat) : (d.setPstate p).cs = d.cs := by
  unfold Dev.setPstate
  split
  · rfl
  · exact (Dev.jmode_cs ..).trans (Dev.setFldR_cs ..)
@[simp] theorem Dev.setPstate_csDue (p : Nat) : (d.setPstate p).csDue = d.csDue := by
  unfold Dev.setPstate
  split
  · rfl
  · exact (Dev.jmode_csDue ..).trans (Dev.setFldR_csDue ..)
@[simp] theorem Dev.setPstate_pendRestart (p : Nat) : (d.setPstate p).pendRestart = d.pendRestart := by
  unfold Dev.setPstate
  split
  · rfl
  · exact (Dev.jmode_pendRestart ..).trans (Dev.setFldR_pendRestart ..)
@[simp] theorem Dev.setPstate_frames (p : Nat) : (d.setPstate p).frames = d.frames := by
  unfold Dev.setPstate
  split
  · rfl
  · exact (Dev.jmode_frames ..).trans (Dev.setFldR_frames ..)
@[simp] theorem Dev.setPstate_frnum (p : Nat) : (d.setPstate p).frnum = d.frnum := by
  unfold Dev.setPstate
  split
  · rfl
  · exact (Dev.jmode_frnum ..).trans (Dev.setFldR_frnum ..)
@[simp] theorem Dev.setPstate_tickt (p : Nat) : (d.setPstate p).tickt = d.tickt := by
  unfold Dev.setPstate
  split
  · rfl
  · exact (Dev.jmode_tickt ..).trans (Dev.setFldR_tickt ..)
@[simp] theorem Dev.setPstate_period (p : Nat) : (d.setPstate p).period = d.period := by
  unfold Dev.setPstate
  split
  · rfl
  · exact (Dev.jmode_period ..).trans (Dev.setFldR_period ..)
@[simp] theorem Dev.setPstate_ledgerStop (p : Nat) : (d.setPstate p).ledgerStop = d.ledgerStop := by
  unfold Dev.setPstate
  split
  · rfl
  · exact (Dev.jmode_ledgerStop ..).trans (Dev.setFldR_ledgerStop ..)
@[simp] theorem Dev.setPstate_flopp (p : Nat) : (d.setPstate p).flopp = d.flopp := by
  unfold Dev.setPstate
  split
  · rfl
  · exact (Dev.jmode_flopp ..).trans (Dev.setFldR_flopp ..)
@[simp] theorem Dev.setPstate_floppDst (p : Nat) : (d.setPstate p).floppDst = d.floppDst := by
  unfold Dev.setPstate
  split
  · rfl
  · exact (Dev.jmode_floppDst ..).trans (Dev.setFldR_floppDst ..)
@[simp] theorem Dev.setPstate_pages (p : Nat) : (d.setPstate p).pages = d.pages := by
  unfold Dev.setPstate
  split
  · rfl
  · exact (Dev.jmode_pages ..).trans (Dev.setFldR_pages ..)
@[simp] theorem Dev.setPstate_jdup (p : Nat) : (d.setPstate p).jdup = d.jdup := by
  unfold Dev.setPstate
  split
  · rfl
  · exact (Dev.jmode_jdup ..).trans (Dev.setFldR_jdup ..)
@[simp] theorem Dev.setPstate_links (p : Nat) : (d.setPstate p).links = d.links := by
  unfold Dev.setPstate
  split
  · rfl
  · exact (Dev.jmode_links ..).trans (Dev.setFldR_links ..)
@[simp] theorem Dev.setPstate_cmp (p : Nat) : (d.setPstate p).cmp = d.cmp := by
  unfold Dev.setPstate
  split
  · rfl
  · exact (Dev.jmode_cmp ..).trans (Dev.setFldR_cmp ..)
@[simp] theorem Dev.setPstate_agr (p : Nat) : (d.setPstate p).agr = d.agr := by
  unfold Dev.setPstate
  split
  · rfl
  · exact (Dev.jmode_agr ..).trans (Dev.setFldR_agr ..)
@[simp] theorem Dev.setPstate_copies (p : Nat) : (d.setPstate p).copies = d.copies := by
  unfold Dev.setPstate
  split
  · rfl
  · exact (Dev.jmode_copies ..).trans (Dev.setFldR_copies ..)
@[simp] theorem Dev.setPstate_drv (p : Nat) : (d.setPstate p).drv = d.drv := by
  unfold Dev.setPstate
  split
  · rfl
  · exact (Dev.jmode_drv ..).trans (Dev.setFldR_drv ..)
@[simp] theorem Dev.setPstate_fan (p : Nat) : (d.setPstate p).fan = d.fan := by
  unfold Dev.setPstate
  split
  · rfl
  · exact (Dev.jmode_fan ..).trans (Dev.setFldR_fan ..)
@[simp] theorem Dev.setPstate_fanOvrDue (p : Nat) : (d.setPstate p).fanOvrDue = d.fanOvrDue := by
  unfold Dev.setPstate
  split
  · rfl
  · exact (Dev.jmode_fanOvrDue ..).trans (Dev.setFldR_fanOvrDue ..)
@[simp] theorem Dev.setPstate_fanLoopAt (p : Nat) : (d.setPstate p).fanLoopAt = d.fanLoopAt := by
  unfold Dev.setPstate
  split
  · rfl
  · exact (Dev.jmode_fanLoopAt ..).trans (Dev.setFldR_fanLoopAt ..)
@[simp] theorem Dev.setPstate_partAt (p : Nat) : (d.setPstate p).partAt = d.partAt := by
  unfold Dev.setPstate
  split
  · rfl
  · exact (Dev.jmode_partAt ..).trans (Dev.setFldR_partAt ..)
@[simp] theorem Dev.setPstate_gpo (p : Nat) : (d.setPstate p).gpo = d.gpo := by
  unfold Dev.setPstate
  split
  · rfl
  · exact (Dev.jmode_gpo ..).trans (Dev.setFldR_gpo ..)
@[simp] theorem Dev.setPstate_puff (p : Nat) : (d.setPstate p).puff = d.puff := by
  unfold Dev.setPstate
  split
  · rfl
  · exact (Dev.jmode_puff ..).trans (Dev.setFldR_puff ..)
@[simp] theorem Dev.setPstate_can (p : Nat) : (d.setPstate p).can = d.can := by
  unfold Dev.setPstate
  split
  · rfl
  · exact (Dev.jmode_can ..).trans (Dev.setFldR_can ..)
@[simp] theorem Dev.setPstate_ledger (p : Nat) : (d.setPstate p).ledger = d.ledger := by
  unfold Dev.setPstate
  split
  · rfl
  · exact (Dev.jmode_ledger ..).trans (Dev.setFldR_ledger ..)
@[simp] theorem Dev.setPstate_flash (p : Nat) : (d.setPstate p).flash = d.flash := by
  unfold Dev.setPstate
  split
  · rfl
  · exact (Dev.jmode_flash ..).trans (Dev.setFldR_flash ..)
@[simp] theorem Dev.setPstate_scrubW (p : Nat) : (d.setPstate p).scrubW = d.scrubW := by
  unfold Dev.setPstate
  split
  · rfl
  · exact (Dev.jmode_scrubW ..).trans (Dev.setFldR_scrubW ..)
@[simp] theorem Dev.setPstate_refreshW (p : Nat) : (d.setPstate p).refreshW = d.refreshW := by
  unfold Dev.setPstate
  split
  · rfl
  · exact (Dev.jmode_refreshW ..).trans (Dev.setFldR_refreshW ..)
@[simp] theorem Dev.setPstate_clk (p : Nat) : (d.setPstate p).clk = d.clk := by
  unfold Dev.setPstate
  split
  · rfl
  · exact (Dev.jmode_clk ..).trans (Dev.setFldR_clk ..)
@[simp] theorem Dev.setPstate_lp (p : Nat) : (d.setPstate p).lp = d.lp := by
  unfold Dev.setPstate
  split
  · rfl
  · exact (Dev.jmode_lp ..).trans (Dev.setFldR_lp ..)
@[simp] theorem Dev.setPstate_dbg (p : Nat) : (d.setPstate p).dbg = d.dbg := by
  unfold Dev.setPstate
  split
  · rfl
  · exact (Dev.jmode_dbg ..).trans (Dev.setFldR_dbg ..)
@[simp] theorem Dev.setPstate_jtag (p : Nat) : (d.setPstate p).jtag = d.jtag := by
  unfold Dev.setPstate
  split
  · rfl
  · exact (Dev.jmode_jtag ..).trans (Dev.setFldR_jtag ..)
@[simp] theorem Dev.setPstate_boot (p : Nat) : (d.setPstate p).boot = d.boot := by
  unfold Dev.setPstate
  split
  · rfl
  · exact (Dev.jmode_boot ..).trans (Dev.setFldR_boot ..)
@[simp] theorem Dev.setPstate_wdCfg (p : Nat) : (d.setPstate p).wdCfg = d.wdCfg := by
  unfold Dev.setPstate
  split
  · rfl
  · exact (Dev.jmode_wdCfg ..).trans (Dev.setFldR_wdCfg ..)

@[simp] theorem Dev.mile_shadow (n : Nat) (x : Word) : (d.mile n x).shadow = d.shadow := (Dev.jlog_shadow ..).trans (Dev.setFldR_shadow ..)
@[simp] theorem Dev.mile_banked (n : Nat) (x : Word) : (d.mile n x).banked = d.banked := (Dev.jlog_banked ..).trans (Dev.setFldR_banked ..)
@[simp] theorem Dev.mile_mem (n : Nat) (x : Word) : (d.mile n x).mem = d.mem := (Dev.jlog_mem ..).trans (Dev.setFldR_mem ..)
@[simp] theorem Dev.mile_codes (n : Nat) (x : Word) : (d.mile n x).codes = d.codes := (Dev.jlog_codes ..).trans (Dev.setFldR_codes ..)
@[simp] theorem Dev.mile_freeCtr (n : Nat) (x : Word) : (d.mile n x).freeCtr = d.freeCtr := (Dev.jlog_freeCtr ..).trans (Dev.setFldR_freeCtr ..)
@[simp] theorem Dev.mile_time (n : Nat) (x : Word) : (d.mile n x).time = d.time := (Dev.jlog_time ..).trans (Dev.setFldR_time ..)
@[simp] theorem Dev.mile_phase (n : Nat) (x : Word) : (d.mile n x).phase = d.phase := (Dev.jlog_phase ..).trans (Dev.setFldR_phase ..)
@[simp] theorem Dev.mile_phaseDue (n : Nat) (x : Word) : (d.mile n x).phaseDue = d.phaseDue := (Dev.jlog_phaseDue ..).trans (Dev.setFldR_phaseDue ..)
@[simp] theorem Dev.mile_cs (n : Nat) (x : Word) : (d.mile n x).cs = d.cs := (Dev.jlog_cs ..).trans (Dev.setFldR_cs ..)
@[simp] theorem Dev.mile_csDue (n : Nat) (x : Word) : (d.mile n x).csDue = d.csDue := (Dev.jlog_csDue ..).trans (Dev.setFldR_csDue ..)
@[simp] theorem Dev.mile_pendRestart (n : Nat) (x : Word) : (d.mile n x).pendRestart = d.pendRestart := (Dev.jlog_pendRestart ..).trans (Dev.setFldR_pendRestart ..)
@[simp] theorem Dev.mile_frames (n : Nat) (x : Word) : (d.mile n x).frames = d.frames := (Dev.jlog_frames ..).trans (Dev.setFldR_frames ..)
@[simp] theorem Dev.mile_frnum (n : Nat) (x : Word) : (d.mile n x).frnum = d.frnum := (Dev.jlog_frnum ..).trans (Dev.setFldR_frnum ..)
@[simp] theorem Dev.mile_tickt (n : Nat) (x : Word) : (d.mile n x).tickt = d.tickt := (Dev.jlog_tickt ..).trans (Dev.setFldR_tickt ..)
@[simp] theorem Dev.mile_period (n : Nat) (x : Word) : (d.mile n x).period = d.period := (Dev.jlog_period ..).trans (Dev.setFldR_period ..)
@[simp] theorem Dev.mile_ledgerStop (n : Nat) (x : Word) : (d.mile n x).ledgerStop = d.ledgerStop := (Dev.jlog_ledgerStop ..).trans (Dev.setFldR_ledgerStop ..)
@[simp] theorem Dev.mile_flopp (n : Nat) (x : Word) : (d.mile n x).flopp = d.flopp := (Dev.jlog_flopp ..).trans (Dev.setFldR_flopp ..)
@[simp] theorem Dev.mile_floppDst (n : Nat) (x : Word) : (d.mile n x).floppDst = d.floppDst := (Dev.jlog_floppDst ..).trans (Dev.setFldR_floppDst ..)
@[simp] theorem Dev.mile_pages (n : Nat) (x : Word) : (d.mile n x).pages = d.pages := (Dev.jlog_pages ..).trans (Dev.setFldR_pages ..)
@[simp] theorem Dev.mile_jdup (n : Nat) (x : Word) : (d.mile n x).jdup = d.jdup := (Dev.jlog_jdup ..).trans (Dev.setFldR_jdup ..)
@[simp] theorem Dev.mile_links (n : Nat) (x : Word) : (d.mile n x).links = d.links := (Dev.jlog_links ..).trans (Dev.setFldR_links ..)
@[simp] theorem Dev.mile_cmp (n : Nat) (x : Word) : (d.mile n x).cmp = d.cmp := (Dev.jlog_cmp ..).trans (Dev.setFldR_cmp ..)
@[simp] theorem Dev.mile_agr (n : Nat) (x : Word) : (d.mile n x).agr = d.agr := (Dev.jlog_agr ..).trans (Dev.setFldR_agr ..)
@[simp] theorem Dev.mile_copies (n : Nat) (x : Word) : (d.mile n x).copies = d.copies := (Dev.jlog_copies ..).trans (Dev.setFldR_copies ..)
@[simp] theorem Dev.mile_drv (n : Nat) (x : Word) : (d.mile n x).drv = d.drv := (Dev.jlog_drv ..).trans (Dev.setFldR_drv ..)
@[simp] theorem Dev.mile_fan (n : Nat) (x : Word) : (d.mile n x).fan = d.fan := (Dev.jlog_fan ..).trans (Dev.setFldR_fan ..)
@[simp] theorem Dev.mile_fanOvrDue (n : Nat) (x : Word) : (d.mile n x).fanOvrDue = d.fanOvrDue := (Dev.jlog_fanOvrDue ..).trans (Dev.setFldR_fanOvrDue ..)
@[simp] theorem Dev.mile_fanLoopAt (n : Nat) (x : Word) : (d.mile n x).fanLoopAt = d.fanLoopAt := (Dev.jlog_fanLoopAt ..).trans (Dev.setFldR_fanLoopAt ..)
@[simp] theorem Dev.mile_partAt (n : Nat) (x : Word) : (d.mile n x).partAt = d.partAt := (Dev.jlog_partAt ..).trans (Dev.setFldR_partAt ..)
@[simp] theorem Dev.mile_gpo (n : Nat) (x : Word) : (d.mile n x).gpo = d.gpo := (Dev.jlog_gpo ..).trans (Dev.setFldR_gpo ..)
@[simp] theorem Dev.mile_puff (n : Nat) (x : Word) : (d.mile n x).puff = d.puff := (Dev.jlog_puff ..).trans (Dev.setFldR_puff ..)
@[simp] theorem Dev.mile_can (n : Nat) (x : Word) : (d.mile n x).can = d.can := (Dev.jlog_can ..).trans (Dev.setFldR_can ..)
@[simp] theorem Dev.mile_ledger (n : Nat) (x : Word) : (d.mile n x).ledger = d.ledger := (Dev.jlog_ledger ..).trans (Dev.setFldR_ledger ..)
@[simp] theorem Dev.mile_flash (n : Nat) (x : Word) : (d.mile n x).flash = d.flash := (Dev.jlog_flash ..).trans (Dev.setFldR_flash ..)
@[simp] theorem Dev.mile_scrubW (n : Nat) (x : Word) : (d.mile n x).scrubW = d.scrubW := (Dev.jlog_scrubW ..).trans (Dev.setFldR_scrubW ..)
@[simp] theorem Dev.mile_refreshW (n : Nat) (x : Word) : (d.mile n x).refreshW = d.refreshW := (Dev.jlog_refreshW ..).trans (Dev.setFldR_refreshW ..)
@[simp] theorem Dev.mile_clk (n : Nat) (x : Word) : (d.mile n x).clk = d.clk := (Dev.jlog_clk ..).trans (Dev.setFldR_clk ..)
@[simp] theorem Dev.mile_lp (n : Nat) (x : Word) : (d.mile n x).lp = d.lp := (Dev.jlog_lp ..).trans (Dev.setFldR_lp ..)
@[simp] theorem Dev.mile_dbg (n : Nat) (x : Word) : (d.mile n x).dbg = d.dbg := (Dev.jlog_dbg ..).trans (Dev.setFldR_dbg ..)
@[simp] theorem Dev.mile_jtag (n : Nat) (x : Word) : (d.mile n x).jtag = d.jtag := (Dev.jlog_jtag ..).trans (Dev.setFldR_jtag ..)
@[simp] theorem Dev.mile_boot (n : Nat) (x : Word) : (d.mile n x).boot = d.boot := (Dev.jlog_boot ..).trans (Dev.setFldR_boot ..)
@[simp] theorem Dev.mile_wdCfg (n : Nat) (x : Word) : (d.mile n x).wdCfg = d.wdCfg := (Dev.jlog_wdCfg ..).trans (Dev.setFldR_wdCfg ..)

end Sys2Proof.Machine
end

