-- ==== Sys2Proof/Laws/Store.lean ====
section
/-! SUPPORT. Laws/Store.lean: the laws of sparse data: a read after a write, and the canonical form that every
operation keeps. -/

namespace Sys2Proof.Machine

open Sys2Proof

variable {β : Type} [DecidableEq β] {dflt : Nat → β}

@[simp] theorem mapGet_nil (k : Nat) : mapGet dflt [] k = dflt k := rfl

omit [DecidableEq β] in
theorem mapGet_mapErase_same (m : Map β) (k : Nat) : mapGet dflt (mapErase m k) k = dflt k := by
  induction m with
  | nil => rfl
  | cons e m ih =>
    obtain ⟨a, v⟩ := e
    by_cases h : a = k <;> simp [mapErase, mapGet, h, ih]

omit [DecidableEq β] in
theorem mapGet_mapErase_ne (m : Map β) {k j : Nat} (hj : j ≠ k) : mapGet dflt (mapErase m k) j = mapGet dflt m j := by
  induction m with
  | nil => rfl
  | cons e m ih =>
    obtain ⟨a, v⟩ := e
    by_cases h : a = k
    · subst h; simp [mapErase, mapGet, ih, Ne.symm hj]
    · simp [mapErase, mapGet, h, ih]

omit [DecidableEq β] in
theorem mapGet_mapInsert_ne (m : Map β) {k j : Nat} (v : β) (hj : j ≠ k) :
    mapGet dflt (mapInsert m k v) j = mapGet dflt m j := by
  induction m with
  | nil => simp [mapInsert, mapGet, Ne.symm hj]
  | cons e m ih =>
    obtain ⟨a, w⟩ := e
    by_cases h : k < a
    · simp [mapInsert, h, mapGet, Ne.symm hj]
    · simp only [mapInsert, h, if_false, mapGet, ih]

omit [DecidableEq β] in
theorem mapGet_mapInsert_erased (m : Map β) (k : Nat) (v : β) :
    mapGet dflt (mapInsert (mapErase m k) k v) k = v := by
  induction m with
  | nil => simp [mapErase, mapInsert, mapGet]
  | cons e m ih =>
    obtain ⟨a, w⟩ := e
    by_cases h : a = k
    · simp [mapErase, h, ih]
    · by_cases hk : k < a
      · simp [mapErase, h, mapInsert, hk, mapGet]
      · simp [mapErase, h, mapInsert, hk, mapGet, ih]

/-- A read after a write to the same key gives the value written. -/
@[simp] theorem mapGet_mapPut_same (m : Map β) (k : Nat) (v : β) : mapGet dflt (mapPut dflt m k v) k = v := by
  unfold mapPut
  split
  · next h => rw [mapGet_mapErase_same, h]
  · exact mapGet_mapInsert_erased m k v

/-- A write leaves every other key alone. -/
theorem mapGet_mapPut_ne (m : Map β) {k j : Nat} (v : β) (hj : j ≠ k) :
    mapGet dflt (mapPut dflt m k v) j = mapGet dflt m j := by
  unfold mapPut
  split
  · exact mapGet_mapErase_ne m hj
  · rw [mapGet_mapInsert_ne _ v hj, mapGet_mapErase_ne m hj]

/-- A read after a write. -/
theorem mapGet_mapPut (m : Map β) (k j : Nat) (v : β) :
    mapGet dflt (mapPut dflt m k v) j = if j = k then v else mapGet dflt m j := by
  by_cases h : j = k
  · subst h; simp
  · simp [h, mapGet_mapPut_ne m v h]

omit [DecidableEq β] in
/-- Of a filtered map, a key that stays reads as before and one that goes reads as unlisted. -/
theorem mapGet_mapKeep (p : Nat → Bool) (m : Map β) (k : Nat) :
    mapGet dflt (mapKeep p m) k = if p k then mapGet dflt m k else dflt k := by
  induction m with
  | nil => simp [mapKeep]
  | cons e m ih =>
    obtain ⟨a, v⟩ := e
    unfold mapKeep at *
    by_cases hp : p a
    · simp only [List.filter_cons, hp, if_true, mapGet]
      by_cases ha : a = k
      · subst ha; simp [hp]
      · simp [ha, ih]
    · simp only [List.filter_cons, hp, mapGet]
      by_cases ha : a = k
      · subst ha; simp [ih, hp]
      · simp [ha, ih]

/-! The canonical form. -/

/-- The canonical form as a property: keys rise, and no entry holds the default. -/
def MapOk (dflt : Nat → β) (m : Map β) : Prop :=
  List.Pairwise (fun x y : Nat × β => x.1 < y.1) m ∧ ∀ e ∈ m, e.2 ≠ dflt e.1

theorem mapWf_iff (m : Map β) : mapWf dflt m = true ↔ MapOk dflt m := by
  induction m with
  | nil => simp [mapWf, MapOk]
  | cons e m ih =>
    obtain ⟨a, v⟩ := e
    cases m with
    | nil => simp [mapWf, MapOk]
    | cons f m =>
      obtain ⟨b, w⟩ := f
      simp only [mapWf, Bool.and_eq_true, decide_eq_true_eq, ih, MapOk, List.pairwise_cons, List.mem_cons, forall_eq_or_imp]
      constructor
      · rintro ⟨⟨hv, hab⟩, ⟨hb, hm⟩, hw, hr⟩
        refine ⟨⟨⟨hab, ?_⟩, hb, hm⟩, hv, hw, hr⟩
        intro x hx
        exact lt_trans hab (hb x hx)
      · rintro ⟨⟨⟨hab, _⟩, hb, hm⟩, hv, hw, hr⟩
        exact ⟨⟨hv, hab⟩, ⟨hb, hm⟩, hw, hr⟩

theorem mapWf_nil : mapWf dflt ([] : Map β) = true := rfl

omit [DecidableEq β] in
theorem mapErase_eq_filter (m : Map β) (k : Nat) : mapErase m k = m.filter (fun e => decide (e.1 ≠ k)) := by
  induction m with
  | nil => rfl
  | cons e m ih =>
    obtain ⟨a, v⟩ := e
    by_cases h : a = k <;> simp [mapErase, h, ih]

omit [DecidableEq β] in
theorem mapOk_filter {m : Map β} (p : Nat × β → Bool) (h : MapOk dflt m) : MapOk dflt (m.filter p) :=
  ⟨h.1.filter p, fun e he => h.2 e (List.mem_of_mem_filter he)⟩

omit [DecidableEq β] in
theorem mem_mapInsert {m : Map β} {k : Nat} {v : β} {e : Nat × β} (h : e ∈ mapInsert m k v) : e = (k, v) ∨ e ∈ m := by
  induction m with
  | nil => simpa [mapInsert] using h
  | cons f m ih =>
    obtain ⟨a, w⟩ := f
    by_cases hk : k < a
    · simpa [mapInsert, hk] using h
    · simp only [mapInsert, hk, if_false, List.mem_cons] at h ⊢
      rcases h with h | h
      · exact .inr (.inl h)
      · rcases ih h with h | h
        · exact .inl h
        · exact .inr (.inr h)

omit [DecidableEq β] in
theorem mapOk_mapInsert {m : Map β} {k : Nat} {v : β} (h : MapOk dflt m) (hk : ∀ e ∈ m, e.1 ≠ k) (hv : v ≠ dflt k) :
    MapOk dflt (mapInsert m k v) := by
  induction m with
  | nil => simp [mapInsert, MapOk, hv]
  | cons f m ih =>
    obtain ⟨a, w⟩ := f
    have hm : MapOk dflt m := ⟨(List.pairwise_cons.1 h.1).2, fun e he => h.2 e (List.mem_cons_of_mem _ he)⟩
    have ha := (List.pairwise_cons.1 h.1).1
    have hka : a ≠ k := hk (a, w) (by simp)
    by_cases hl : k < a
    · refine ⟨?_, ?_⟩
      · simp only [mapInsert, hl, if_true, List.pairwise_cons]
        refine ⟨?_, ha, hm.1⟩
        intro e he
        rcases List.mem_cons.1 he with rfl | he
        · exact hl
        · exact lt_trans hl (ha e he)
      · intro e he
        simp only [mapInsert, hl, if_true, List.mem_cons] at he
        rcases he with rfl | rfl | he
        · exact hv
        · exact h.2 _ (by simp)
        · exact hm.2 e he
    · have ih' := ih hm (fun e he => hk e (List.mem_cons_of_mem _ he))
      refine ⟨?_, ?_⟩
      · simp only [mapInsert, hl, if_false, List.pairwise_cons]
        refine ⟨?_, ih'.1⟩
        intro e he
        rcases mem_mapInsert he with rfl | he
        · exact lt_of_le_of_ne (Nat.le_of_not_lt hl) hka
        · exact ha e he
      · intro e he
        simp only [mapInsert, hl, if_false, List.mem_cons] at he
        rcases he with rfl | he
        · exact h.2 _ (by simp)
        · exact ih'.2 e he

/-- Every write keeps the canonical form. -/
theorem mapWf_mapPut {m : Map β} (k : Nat) (v : β) (h : mapWf dflt m = true) : mapWf dflt (mapPut dflt m k v) = true := by
  rw [mapWf_iff] at h ⊢
  unfold mapPut
  rw [mapErase_eq_filter]
  split
  · exact mapOk_filter _ h
  · next hv =>
    refine mapOk_mapInsert (mapOk_filter _ h) ?_ hv
    intro e he
    have := (List.mem_filter.1 he).2
    simpa using this

/-- Every filter keeps the canonical form. -/
theorem mapWf_mapKeep {m : Map β} (p : Nat → Bool) (h : mapWf dflt m = true) : mapWf dflt (mapKeep p m) = true := by
  rw [mapWf_iff] at h ⊢
  exact mapOk_filter _ h

end Sys2Proof.Machine
end

