-- ==== Sys2Proof/WellFormed.lean ====
section
/-! DEFINITION. WellFormed.lean: the commands that the spec's formats allow: what a field of an operand cannot say by
its width alone. A command outside these formats has no place on the device's interfaces. -/

namespace Sys2Proof

/-- A register offset is a multiple of 4 (R41). -/
def offOk (off : BitVec 12) : Bool := off.toNat % 4 == 0

/-- The bytes that a DLC stands for (R361). -/
def dlcBytes (dlc : Nat) (fdf : Bool) : Nat :=
  if dlc ≤ 8 then dlc
  else if !fdf then 8
  else match dlc with
    | 9 => 12
    | 10 => 16
    | 11 => 20
    | 12 => 24
    | 13 => 32
    | 14 => 48
    | _ => 64

/-- A CAN frame (R361, R365): its data has the length of its DLC, a remote frame is classical and has none, a standard
identifier has 11 bits, and bit-rate switching belongs to FD frames. -/
def frameOk (f : CanFrame) : Bool :=
  (if f.rtr then !f.fdf && f.data.isEmpty else f.data.length == dlcBytes f.dlc.toNat f.fdf)
    && (f.xtd || decide (f.id.toNat < 2048)) && (f.fdf || !f.brs)

/-- A well-formed command. -/
def Instr.wellFormed (i : Instr) : Bool :=
  match i with
  | .shadowWrite _ _ off _ => offOk off
  | .lvWrite _ _ off _ => offOk off
  | .registerWrite _ _ off _ => offOk off
  | .splitReadLo _ _ off => offOk off
  | .splitReadHi _ _ off => offOk off
  | .cal _ _ ws => ws.length == 5
  | .dbgrsp _ _ _ _ result _ _ => result != 3
  | .flashJobUnitDone programmed _ => decide (programmed.length ≤ 1024)
  | .txcmdSubmit _ _ slot => decide (slot.toNat < 48)
  | .txcmdCancel _ slot => decide (slot.toNat < 48)
  | .txDeadline _ slot => decide (slot.toNat < 48)
  | .txGuardOverrun _ slot => decide (slot.toNat < 48)
  | .rxFrame _ f _ => frameOk f
  | .cvctlGo _ v => v.getLsbD 31
  | .swrstCoreset _ v => v.extractLsb' 0 2 == 1
  | .swrstHub _ v => v.extractLsb' 0 2 == 2
  | .loaderProgram _ data => data.length == 8
  | .dbgReadReg _ n => decide (n.toNat < 32)
  | .dbgWriteReg _ n => decide (n.toNat < 32)
  | .dbgReadCsr _ n => decide (n.toNat < 4096)
  | .dbgWriteCsr _ n => decide (n.toNat < 4096)
  | .dbgStep _ n => decide (0 < n.toNat)
  | .powerOn | .referencePllLock | .otpLoadDone | .retentionCheckDone | .imageCheckDone | .copyPowerOn
  | .copyPllLocked | .releaseDecision | .frameTick | .overloadRaise _ | .overloadFall _ | .pgCommit _ _ _
  | .commitApply _ | .commitJournalDeadline _ | .shdisc _ _ | .lvWriteApply | .lvWriteTimeout | .pgEvtset _ _ _
  | .pgLock _ _ _ | .journalEntryWrite | .journalEntryTimeout | .jrnlRdsel _ _ | .jrnlFlush _ _ | .journalAutoFlush
  | .journalFlushEnd | .groupConversionEnd _ _ _ _ _ | .calibrationStart | .dinEdge _ _ _ _ | .overTemperature _
  | .trainingStateTimer _ _ | .resume _ _ | .train _ _ | .config _ _ _ | .ping _ _ | .echo _ _ _ | .flitCorrupt _ _ _
  | .ackTimer _ _ | .replayTimeout _ _ | .lostimeExpiry _ _ | .resyncStateTimer _ _ | .copyReplayStoreError _ _
  | .hubReplayStoreError _ _ | .grantSendTimer _ | .read _ _ _ | .write _ _ _ | .fetch _ _ _ | .drvSafeTrip _ _ _
  | .tripSafe _ _ | .tripReq _ _ | .fanSafeStop _ _ | .gpoSafeOff _ _ | .releaseSafeEnter _ _ | .compareComplete _ _
  | .compareTimeout _ | .requestExecute _ _ | .schedulerDeadline _ | .responseReserve _ | .responseQueueDeadline _
  | .releaseClr _ _ _ | .sample _ _ _ | .dinrec _ _ _ _ | .analogExchangeClose _ | .digitalExchangeClose
  | .plausibilityFault _ | .outlierFault _ _ | .missingSamplesFault _ | .deliveryOpen | .agreed _ _ _
  | .drpPropose _ _ _ _ _ | .drpReplace _ _ _ _ _ | .drpConfirm _ _ _ | .deliveryRetirePoint _
  | .retrepPeriodic _ _ _ _ | .retrepAccept _ _ _ _ | .retrepOverrun _ _ _ _ | .tick _ _ _ _ _ _ _
  | .tickExtrapolate _ | .cfgbc _ _ _ _ _ _ | .corerel _ _ _ _ _ _ | .linkcfg _ _ _ | .idle _ _ _ _ | .grant _ _ _
  | .rddata _ _ _ _ _ _ | .wrack _ _ _ _ _ | .line0 _ _ _ _ _ | .line1 _ _ _ _ _ | .lstatFrameReport _ _ _
  | .lstatEventReport _ _ _ _ _ | .dbgcmd _ _ _ _ _ _ | .integerOp _ _ _ | .load _ _ _ _ _ _ | .store _ _ _ _ _ _
  | .call _ _ _ | .ret _ _ _ _ _ | .fence _ | .fenceI _ | .ecall _ | .ebreak _ _ | .gate _ _ | .xretTrap _
  | .xretGate _ | .wswitch _ _ _ _ | .hush _ | .unhush _ | .eventEntry _ | .hushOverrun _ | .retireLoRead _ _
  | .reqerrRead _ _ | .reqerrWrite _ _ | .sspWrite _ _ _ | .gtbaseWrite _ _ _ | .csrWrite _ _ _ | .icacheScrub _
  | .qadd _ _ _ _ _ | .qsub _ _ _ _ _ | .qmul _ _ _ _ _ _ | .qshl _ _ _ _ _ | .qshr _ _ _ _ _ | .pack _ _ _ _ _ _
  | .padd _ _ _ _ _ | .psub _ _ _ _ _ | .pmul _ _ _ _ _ _ | .mac _ _ _ _ | .msu _ _ _ _ | .mul0 _ _ _ | .pmac _ _ _ _
  | .pmsc _ _ _ _ | .pmacx _ _ _ _ | .pmscx _ _ _ _ | .accext _ _ _ | .accrdl _ _ | .accrdh _ _ | .accrdg _ _
  | .accwrl _ _ | .accwrh _ _ | .accwrg _ _ | .accclr _ | .accldq _ _ | .sin _ _ _ | .cos _ _ _ | .atan2 _ _ _ _
  | .sqrt _ _ _ | .recip _ _ _ _ | .exp2 _ _ _ | .flashJobEnd | .flashReadWindow _ _ | .sramScrub | .retentionRefresh
  | .ueClear _ _ | .pwmPeriodStart _ | .driveOverrun _ | .observerLoss _ | .ocComparator _ _ | .ocBlankingEnd _
  | .ovComparator _ _ | .trackerEvent _ _ _ _ | .trackerInvalid _ | .fanPwmPeriod _ | .tachEdge _ _ | .fanLoopTick
  | .fanStall _ | .fanRetryoffEnd _ | .fanKickEnd _ | .fanRcntClear _ | .fanOverrun | .fanPlausWindow _ | .gpoBbmOn _
  | .gpoReadbackMismatch _ _ | .gpoOvercurrent _ | .puffballEntry | .puffKickEnd | .distressFrame | .txcmdRecover _
  | .txSelect _ _ | .txComplete _ | .txArbitrationLost _ | .txError _ _ | .rxError _ _ | .rxcmdPop _ _
  | .rxDeadline _ | .rxGuardOverrun _ | .busoffRecoveryStart _ | .busoffRecovered _ | .canStop _ | .partnerAgeTick
  | .partnerLeft _ | .vsupHBrownout | .copySupplyBrownout _ _ | .supplyOvervoltage _ _ | .vioBrownout _
  | .holdsnsConversion _ _ | .ledgerMsTick | .mainsLoss | .mainsReturn | .rideStepStart | .ledgerAdmit
  | .ledgerWaitTimeout | .ledgerGuardOverrun | .capCheckSinkOn | .capCheckEnd | .lowPowerEntry | .lowPowerStop
  | .dozeWake _ | .dozeClockRestored _ | .hibernateWake | .crystalOk | .crystalTimeout | .clockMonitorWindow _
  | .hclkStop | .lfclkStop | .rstNAssert | .loaderLedger _ _ | .loaderErase _ | .loaderRead _ | .loaderOtpwrite _ _
  | .loaderJread _ | .loaderBoot | .jtagIdcode | .jtagSamplePreload _ | .jtagExtest | .jtagClamp | .jtagBypass _
  | .dbgaccRead _ | .dbgaccWrite _ _ | .unlockChallenge _ | .unlockResponse _ | .dbgHalt _ | .dbgReadPc _
  | .dbgWritePc _ | .dbgResume _ | .debugStepDone _ | .otpReadWindow _ _ | .wdogKick _ _ | .wdogExpiry
  | .hubCrosscheckFault _ | .supplyBackInRange _ _ | .retentionSupplyLoss | .illegalInstruction _ _
  | .resyncPatternDetect _ _ | .busIntegrationEnd _ | .linkGuardOverrun _ | .schedulerGuardOverrun
  | .digitalAperture _ _ => true

end Sys2Proof
end

