-- ==== Sys2Proof/Tests/Slice0.lean ====
section
/-! SUPPORT. Tests/Slice0.lean: for every statement with hypotheses, states that meet the hypotheses of each of its clauses; checks
of single commands against the worked examples of the spec; and an ill-formed command for every check of WellFormed. -/

set_option linter.unusedVariables false
set_option Elab.async false

namespace Sys2Proof.Tests

open Sys2Proof Sys2Proof.Machine

/-! States. -/

def setR (ks : List (Nat × Nat)) (d : Dev) : Dev := ks.foldl (fun d k => d.setReg k.1 (toWord k.2)) d

def liveCopy : Copy := { Dev.copyReset with powered := true, released := true, hush := false, link := .active, side := { Dev.sideReset CopyFlit with lastGood := 100 }, grant := 64, time := ⟨5, true, 0x18000000, 20000, 20000, false, 0⟩ }

def liveLink : HubLink := { Dev.linkReset with side := { Dev.sideReset HubFlit with lastGood := 100 }, grant := 64, lastGrant := 64 }

def run3 : Dev :=
  setR [(Reg.sys_DEVID, 0xB5031100), (Reg.sys_SVCLVL, 0x700), (Reg.pwr_STAT, 1), (Reg.release_LATCH, 0), (Reg.retn_STAT, 0),
        (Reg.linkx_STAT 0, 0x70000000), (Reg.linkx_STAT 1, 0x70000000), (Reg.linkx_STAT 2, 0x70000000),
        (Reg.jrnl_HEADSLOT, 4), (Reg.jrnl_HEAD, 4), (Reg.jrnl_COUNT, 5)]
  { Dev.reset with phase := .run, cs := .running, frames := true, time := 50000, frnum := 5, tickt := 40000, copies := Tri.const liveCopy, links := Tri.const liveLink, boot := { Dev.reset.boot with variant := 3 }, jdup := ⟨4, 4, 5, 0⟩ }

def imgWith (crc tag p0 : Nat) : Dev :=
  let ws : List (Nat × Word) :=
    [(0x3FF000, 0x31524C4B), (0x3FF004, 0x00010000), (0x3FF008, 0), (0x3FF00C, 0), (0x3FF010, 8)]
      ++ (List.range 27).map (fun i => (0x3FF014 + 4 * i, 0)) ++ [(0x3FF080, toWord crc), (0x3FF100, toWord tag), (0x3FF104, toWord p0)]
  { Dev.reset with
    phase := .imgCheck, phaseDue := 16000,
    mem := ws.flatMap (fun (e : Nat × Word) => (List.range 4).map (fun i => (e.1 + i, e.2.extractLsb' (8 * i) 8))),
    codes := ws.map (fun (e : Nat × Word) => (e.1, (ecc e.2 (toWord e.1)).setWidth 8)) }

def imgDev : Dev := imgWith 951250659 0x101 1

def base : List Dev := [
  Dev.reset, { Dev.reset with phase := .pllWait, phaseDue := 8000 },
  { Dev.reset with phase := .otpLoad, phaseDue := 12000 },
  { Dev.reset with phase := .retCheck, phaseDue := 14000, flopp := true, floppDst := 0x1000 },
  { Dev.reset with phase := .retCheck, phaseDue := 14000, boot := { Dev.reset.boot with loaderHeld := true } },
  setR [(Reg.retn_STAT, 1)] { Dev.reset with phase := .retCheck, phaseDue := 14000 },
  { Dev.reset with phase := .imgCheck, phaseDue := 16000 },
  imgDev, {imgDev with frames := true}, imgWith 951250659 0x101 0,
  run3, { run3 with phase := .hibernating }, { run3 with cs := .waiting, csDue := 54000 },
  { run3 with cs := .locking, csDue := 130000 }, setR [(Reg.pwr_STAT, 4)] { run3 with cs := .locking, csDue := 130000, links := Tri.const { liveLink with eqStored := true } },
  { run3 with cs := .training }, setR [(Reg.linkx_STAT 1, 0xF0000000)] ({ run3 with cs := .training, boot := {run3.boot with variant := 3}, copies := run3.copies.set 1 Dev.copyReset }),
  setR [(Reg.linkx_STAT 1, 0xF0000000)] ({ run3 with cs := .training, boot := {run3.boot with variant := 2}, copies := run3.copies.set 1 Dev.copyReset }),
  setR [(Reg.linkx_STAT 1, 0xF0000000), (Reg.linkx_STAT 2, 0xF0000000)] ({ run3 with cs := .training, copies := (run3.copies.set 1 Dev.copyReset).set 2 Dev.copyReset }),
  setR [(Reg.sys_SVCLVL, 0x703), (Reg.pwr_SUPSTAT, 2)] { run3 with cs := .running },
  setR [(Reg.ledger_PLANCTL, 0x10)] run3 ]

def st (d : Dev) : State := ⟨[.ledgerMsTick], d⟩

def mkLine (a : Nat) : ILine :=
  let ws : List CWord := (List.range 8).map (fun i => ⟨toWord (i * 0x01010101), ecc (toWord (i * 0x01010101)) (toWord (a + 4*i))⟩)
  ⟨toWord a, ws, ⟨0, 0⟩⟩

def withIc (x : Copy) (pcs : List Nat) : Copy :=
  pcs.foldl (fun x a => { x with icache := x.icache.put (a / 32 % 256 * 4) (some (mkLine (a/32*32))) }) x

def cx (f : Copy → Copy) : Copy :=
  f (withIc { liveCopy with pc := 0x20000024, x := (((liveCopy.x.set 1 0x20000100).set 5 0x20000011).set 2 0x55).set 7 0xFFFFFFF7, retire := 10 } [0x20000020, 0x20000040])

def cst (f : Copy → Copy) : Dev := { run3 with copies := Tri.const (cx f) }

def ent (n : Nat) : List SEntry := (List.range n).map (fun i => ⟨.call, toWord (0x20000100 + 4*i)⟩)

namespace Ca

def dl (v : Option CWord) : Dev := cst (fun x => {x with dcache := ⟨[(0, some ⟨0x20000000, [none,none,none,none,v,none,none,none]⟩)], []⟩})
def sts0 : List Dev := [cst id, cst (fun x => {x with pc := 0x2000003E}), dl (some ⟨5, ecc 5 0x20000010⟩), dl (some ⟨7, 0⟩), dl none, cst (fun x => {x with retire := 63, hush := true}), cst (fun x => {x with x := x.x.set 5 0x40004010}), cst (fun x => {x with x := x.x.set 5 0x70004010})]

end Ca

namespace Cb

def stk (n cnt : Nat) (f : List SEntry → List SEntry) (w : World) (r : Fin 4) (x : Copy) : Copy := x.updStack w r (fun _ => ⟨f (ent n), toWord (0x20008000 + cnt*4)⟩)
def g1 (w0 w1 w2 : Nat) : CopyWait := .gate 3 ⟨some (toWord w0), some (toWord w1), some (toWord w2), some 0⟩
def pl : List Dev := [0,3,32].flatMap (fun n => [0,4,121,120].map (fun cnt => cst (stk n cnt id .iron 0))) ++ [cst (fun x => stk 3 0 (fun l => ⟨.gsp, 0x20000100⟩ :: l) .iron 0 x), cst (fun x => stk 3 3 id .tin 3 {x with world := .tin, ring := 3})]
def o2 : Outst := ⟨3, .write, ⟨7, 10, 3, .iron, 0, 1, false, 0xF, 0x20000010, 5, 0, 0⟩, .posted false, none⟩
def fl : List Dev := [cst id, cst (fun x => {x with out := [o2]}), cst (fun x => {x with iron := {x.iron with reqerr := 0x2FFA6}})]
def gt : List Dev := [0x104, 0x904, 0x4, 0x100, 0xA00, 3, 0x3, 0x307].flatMap (fun w1 => [cst (fun x => {x with gtbaseI := 0x401, gtbaseT := 0x801, wait := g1 0x20000100 w1 0x77}), cst (fun x => {x with gtbaseI := 0x401, gtbaseT := 0x801, world := .tin, ring := 3, wait := g1 0x20000100 w1 0x77}),cst (fun x => {x with gtbaseI := 0x401, gtbaseT := 0x801, world := .iron, ring := 2, wait := g1 0x20000100 w1 0x77})])
def eb : List Dev := [setR [(Reg.dbg_CTRL, 16)] (cst id)]
def tr : List Dev := [0, 1, 0x2, 0x17, 0x16, 0x10F, 0x0B, 0x03, 0x05, 0x36].flatMap (fun (es : Nat) => [[], [⟨.tsp, 0x66⟩], ent 3, ⟨.tsp, 0x66⟩ :: ent 3].flatMap (fun l => [cst (fun x => {x.updStack .iron 0 (fun t => {t with top := l}) with iron := {(x.updStack .iron 0 (fun t => {t with top := l})).iron with estatus := BitVec.ofNat 6 es, epc := 0x20000200}, ibusy := true}), cst (fun x => {x.updStack .tin 0 (fun t => {t with top := l}) with world := .tin, tin := {(x.updStack .tin 0 (fun t => {t with top := l})).tin with estatus := BitVec.ofNat 6 es, epc := 0x20000200}, tbusy := true, tdflt := true})]))
def gr : List Dev := [0, 1, 0x6, 0x17, 0x16, 0x10F, 0x0B, 3,0x33].flatMap (fun (es : Nat) => [[⟨.gstat, toWord es⟩, ⟨.gpc, 0x20000100⟩] ++ ent 3, [⟨.gsp, 3⟩, ⟨.gstat, toWord es⟩, ⟨.gpc, 0x20000100⟩] ++ (ent 3).drop 1, [⟨.call, 0x20000100⟩] ++ ent 3, []].flatMap (fun l => [cst (stk 0 0 (fun _ => l) .iron 0), cst (fun x => stk 0 0 (fun _ => l) .iron 2 {x with ring := 2}), cst (fun x => stk 0 0 (fun _ => l) .tin 3 {x with ring := 3, world := .tin}), cst (fun x => stk 0 0 (fun _ => l) .tin 0 {x with ring := 0, world := .tin})]))
def hs : List Dev := [cst id, cst (fun x => {x with ring := 2}), cst (fun x => {x with world := .tin}), cst (fun x => {x with world := .tin, hushmax := 0xFF}), cst (fun x => {x with world := .tin, hushmax := 0xFF00FF})]
def sts : List Dev := pl ++ fl ++ gt ++ eb ++ tr ++ gr ++ hs

end Cb

namespace Ce

def g1 (w0 w1 w2 : Nat) : CopyWait := .gate 3 ⟨some (toWord w0), some (toWord w1), some (toWord w2), some 0⟩
def o2 : Outst := ⟨3, .write, ⟨7, 10, 3, .iron, 0, 1, false, 0xF, 0x20000010, 5, 0, 0⟩, .posted false, none⟩
def fl : List Dev := [cst id, cst (fun x => {x with out := [o2]}), cst (fun x => {x with iron := {x.iron with reqerr := 0x2FFA6}})]
def gt : List Dev := [0xF8, 0x1FC, 0xFC, 0xAF8, 0x3FB, 0x307].flatMap (fun w1 => [cst (fun x => {x with gtbaseI := 0x401, gtbaseT := 0x801, wait := g1 0x20000100 w1 0x77}), cst (fun x => {x with gtbaseI := 0x401, gtbaseT := 0x801, world := .tin, ring := 3, wait := g1 0x20000100 w1 0x77}),cst (fun x => {x with gtbaseI := 0x401, gtbaseT := 0x801, world := .iron, ring := 2, wait := g1 0x20000100 w1 0x77})])
def sts : List Dev := gt ++ [cst id] ++ fl

end Ce

namespace Cc

def evs : List Dev := [false, true].flatMap (fun h => [none, some (5, 9)].flatMap (fun tck => [false, true].flatMap (fun agr => [0, 0x30].flatMap (fun (ip : BitVec 64) => [World.iron, .tin].map (fun w => cst (fun x => {x with hush := h, hushCnt := if h then 20 else 0, hushmax := 0x100010, world := w, tck := tck, agr := agr, iron := {x.iron with pages := ip}, tin := {x.tin with pages := 0x8000000000000000}}))))))
def crs : List Dev := [World.iron, .tin].flatMap (fun w => [0, 2].flatMap (fun r => [0, 1].map (fun (l : Nat) => cst (fun x => {x with world := w, ring := r, gtbaseI := toWord (0x400 + l), gtbaseT := toWord (0x800 + l), x := (x.x.set 6 0x20008404).set 1 0x00004C03, iron := {x.iron with reqerr := 7}}))))
def sts : List Dev := evs ++ crs

end Cc

namespace Cd

def sts : List Dev := [0,1,2].flatMap (fun (m : BitVec 2) => [(0x40000000, 0x40000000, 0), (0x80000000, 0x80000000, 2^71-1), (0x7FFF8000, 0x00007FFF, 2^71), (0x20, 0xFFFFFFE5, 0x123456789ABCDEF012)].map (fun (a, b, q) => cst (fun x => {x with bmode := m, bstat := 0x20, acc := BitVec.ofNat 72 q, x := (x.x.set 5 (toWord a)).set 6 (toWord b)})))

end Cd

namespace Boot

def wx : List Dev := [imgWith 2748438514 0x1EE 1]

end Boot

namespace Link

def cf1 : ConfigMsg := ⟨true, false, 0, 0, 3, false, 9⟩
def cf2 : ConfigMsg := ⟨false, false, 0, 0, 5, false, 9⟩
def cpy (f : Copy → Copy) (d : Dev) : Dev := { d with copies := ⟨f d.copies.a, f d.copies.b, f d.copies.c⟩ }
def lnk (f : HubLink → HubLink) (d : Dev) : Dev := { d with links := ⟨f d.links.a, f d.links.b, f d.links.c⟩ }
def cf (q : BitVec 12) : BitVec 12 × CopyFlit := (q, .retrep 1 0 0)
def hfl (q : BitVec 12) : BitVec 12 × HubFlit := (q, if q = 1 then .wrack 5 3 0 else .drp 0 1 2 ⟨false, false, false, 0⟩)
def sideD : Dev := lnk (fun L => {L with side := {L.side with unacked := [hfl 1, hfl 2, hfl 3], expSeq := 1, ackDue := some 49990, replayDue := some 49000, timeouts := 1}, grantDue := some 49990, grant := 70})
  (cpy (fun x => {x with side := {x.side with unacked := [cf 1, cf 2, cf 3], expSeq := 1, ackDue := some 50000, replayDue := some 49000, timeouts := 1}, issued := 5}) run3)
def many (n : Nat) (d : Dev) : Dev := lnk (fun L => {L with side := {L.side with timeouts := n, lastGood := 0}}) (cpy (fun x => {x with side := {x.side with timeouts := n, lastGood := 0}}) d)
def tr (st : Nat) (t : Training) (att : Nat) : Dev := setR ((List.range 3).map (fun i => (Reg.linkx_STAT i, st * 0x10000000 + att * 0x10000))) (lnk (fun L => {L with stateDue := 49000, tr := t}) (cpy (fun x => {x with link := .training, sense := {x.sense with calWords := [some [1], some [2], some [3], some [4]]}}) run3))
def t0 : Training := ⟨0,0,none,none,0⟩
def t32 : Training := ⟨32,32,some cf1,some cf2,0⟩
def rs (t : Training) (ph : Nat) : Dev := lnk (fun L => {L with tr := {t with phase := ph}, resyncTrig := 3}) (cpy (fun x => {x with link := .resync}) (tr 8 t 0) )
def cals (l : List (Option (List Word))) (d : Dev) : Dev := cpy (fun x => {x with sense := {x.sense with calWords := l}, echo := some 77}) d
def linkStates : List Dev := [run3, sideD, many 4 sideD, many 5 sideD, {sideD with time := 3000000}, cpy (fun x => {x with grant := 40000}) run3]
  ++ ([1,2,3,4,5,6].flatMap (fun st => [tr st t0 1, tr st t32 1, tr st t32 3, tr st t0 3, tr st {t0 with seenH := 8, seenC := 7, cfgH := some cf1, cfgC := some cf2} 1]))
  ++ [cals [none,none,none,none] (tr 6 t0 1), cals [some [1,2,3,4,5,6,7], some [1,2,3,4,5,6,7], some [1,2,3,4,5,6,7], none] (tr 6 t0 1), tr 9 t32 0, tr 9 t0 0]
  ++ [rs t0 0, rs t32 1, rs t32 2, rs t0 1, cpy (fun x => {x with link := .active}) (rs t0 0), cpy (fun x => {x with link := .resync}) run3]
  ++ [cpy (fun x => {x with time := ⟨1000, true, 0x18000000, 20000, 20000, true, 5⟩}) run3, cpy (fun x => {x with time := ⟨1000, false, 0x18000000, 20000, 20000, false, 5⟩}) run3, cpy (fun x => {x with time := ⟨1000, true, 0x18000000, 20000, 20000, false, 5⟩}) run3]
def wx : List Dev := [tr 6 {t0 with cfgH := some cf2, cfgC := some cf2} 1, tr 6 {t0 with cfgH := some {cf1 with seq := 77}, cfgC := some cf2} 1]

end Link

namespace Copy

def ev1 : Events := ⟨true, true, false, 0xF0⟩
def ev2 : Events := ⟨false, true, true, 0⟩
def fourE (a : Nat) : Four CWord := ⟨⟨1, ecc 1 (toWord a)⟩, ⟨2, ecc 2 (toWord (a+4))⟩, ⟨3, ecc 3 (toWord (a+8))⟩, ⟨4, ecc 4 (toWord (a+12))⟩⟩
def rq (w : World) (a : Nat) : Req := ⟨7, 10, 3, w, 0, 1, false, 0xF, toWord a, 5, 0, 0⟩
def o1 : Outst := ⟨3, .read, rq .iron 0x20000010, .loadWait .lw 5 0x20000010 false, none⟩
def o1b : Outst := ⟨3, .read, rq .iron 0x20000010, .loadWait .lbu 5 0x20000011 true, none⟩
def o2 : Outst := ⟨3, .write, rq .iron 0x20000010, .posted false, none⟩
def o2t : Outst := ⟨3, .write, rq .tin 0x20000010, .posted true, none⟩
def o3 : Outst := ⟨3, .fetch, rq .iron 0x20000020, .fetch 0x20000020, none⟩
def o3b : Outst := {o3 with line0 := some (0, fourE 0x20000020)}
def cpy (f : Copy → Copy) (d : Dev) : Dev := { d with copies := ⟨f d.copies.a, f d.copies.b, f d.copies.c⟩ }
def xb : Dev := cpy (fun x => {x with pc := 0x20000024, x := (x.x.set 5 0x55).set 7 0x77, retire := 10}) run3
def w1 (o : Outst) (w : CopyWait) : Dev := cpy (fun x => {x with out := [o], wait := w}) xb
def copyStates : List Dev := [xb, cpy (fun x => {x with retire := 9}) xb, cpy (fun x => {x with armed := some ⟨7, 9, ev1, true⟩}) xb, cpy (fun x => {x with armed := some ⟨7, 9, ev2, true⟩}) xb, cpy (fun x => {x with armed := some ⟨7, 9, ev2, false⟩}) xb, setR [(Reg.irqd_ROUTE_LO, 0x30)] (cpy (fun x => {x with armed := some ⟨7, 9, ev1, true⟩, retire := 10}) xb),
  w1 o1 (.load 4), w1 o1b (.load 2), w1 o2 .none, w1 o2t .none, cpy (fun x => {x with iron := {x.iron with reqerr := 0x1FFA6}}) (w1 o2 .none), w1 o3 (.fetch 0x20000020), w1 o3b (.fetch 0x20000020),
  cpy (fun x => {x with debug := true}) xb, cpy (fun x => {x with debug := true, dbgInval := true}) xb, cpy (fun x => {x with step := some 0}) xb]

end Copy

namespace Pages

def pb : Dev := setR [(Reg.guard_ACC 3, 0x0100), (Reg.guard_ACC 0xC, 0x3F3F)] { run3 with ledger := {run3.ledger with e := 10000000} }
def shadowed (k v : Nat) (p : Nat) (d : Dev) : Dev := ((d.setShad k (toWord v)).setTouched p true).setOwner p (some .iron)
def cm (p : Nat) (vals : List (Nat × Word)) (adm : Bool) : Commit := ⟨p, 0xC5000005, vals, vals.isEmpty, adm, none, .hub⟩
def ps1 : List Dev := [ shadowed 0x2040 1000 2 (setR [(Reg.ledger_VMIN, 5000), (Reg.ledger_MLFILT, 1)] pb), shadowed 0x1E040 0x00050003 0x1E pb, setR [(Reg.pgLock 2, 1)] (shadowed 0x2040 1000 2 pb) ]
def withC (c : Commit) (d : Dev) : Dev := { d with pages := {d.pages with commits := [c]} }
def je : JEntry := pb.jEntry 4 2 0x40 0 77 66 5 false
def je2 : JEntry := pb.jEntry 1 2 0x24 0 77 66 5 true
def lj : LvJob := ⟨3, Reg.release_RSTCFG, 5, 5, .jtag, true, none⟩
def lj0 : LvJob := {lj with admitted := false}
def wts : List JWait := [⟨.event, [je], 45000⟩, ⟨.commit 2, [je2, je], 45000⟩, ⟨.lvWrite 3, [je], 45000⟩]
def fjo : Job := ⟨9, .flush, 2, 0, 2710, true, 0, false, none⟩
def jq (q : List JEntry) (d : Dev) : Dev := { d with jrn := { d.jrn with queue := q, wroteAt := 40000 } }
def pageStates : List Dev := [pb, setR [(Reg.sys_SVCLVL, 0x702)] pb, setR [(Reg.pgLock 2, 1), (Reg.pgLock 0xC, 1), (Reg.pgLock 5, 1)] pb, {pb with pages := {pb.pages with lv := [lj]}}, {pb with pages := {pb.pages with lv := [{lj with key := Reg.fan_TARGET 0}]}}] ++ ps1
  ++ [withC (cm 2 [(0x2040, 77)] true) pb, withC (cm 0xA [(0xA044, 77)] true) pb, withC (cm 0x0C [(Reg.release_RSTCFG, 0x123)] true) pb, withC (cm 5 [] true) pb, withC (cm 0x11 [] true) pb, jq [je2] (withC (cm 0x0C [(Reg.release_RSTCFG, 0x123)] true) pb)]
  ++ wts.map (fun w => let d := withC (cm 2 [(0x2040, 77)] false) {pb with pages := {pb.pages with lv := [lj0]}}; { d with jrn := {d.jrn with waiting := [w]}, pages := {d.pages with lv := [lj0]} })
  ++ [jq [je] pb, jq [je, je2] pb, jq [je] (setR [(Reg.jrnl_COUNT, 384), (Reg.jrnl_HEADSLOT, 383), (Reg.jrnl_HEAD, 1000), (Reg.jrnl_MIRHEAD, 600)] pb), jq [je] (setR [(Reg.jrnl_COUNT, 384), (Reg.jrnl_HEADSLOT, 383), (Reg.jrnl_HEAD, 1000), (Reg.jrnl_MIRHEAD, 900)] pb)]
  ++ [Dev.putWords ((List.range 40).map (fun i => toWord (i/8))) 0x30000000 pb, {pb with jrn := {pb.jrn with mirValid := true, mirBase := 0x2000}}, setR [(Reg.jrnl_MIRCFG, 3)] {pb with jrn := {pb.jrn with mirValid := true, mirBase := 0x2000}}, {pb with jrn := {pb.jrn with mirValid := true, mirBase := 0x2000, flushJob := some 9, flushN := 1}, ledger := {pb.ledger with jobs := [fjo]}, time := 500000000, flopp := true}]
  ++ [setR [(Reg.pgEvt 0x12, 7), (Reg.pgFault 0x12, 0x32010001), (Reg.sram_UEADDR, 0x20000040), (Reg.pgFault 0x05, 0xFFFFFFFF), (Reg.pgFault 0x15, 0xFFFFFFFF)] pb]
def wx : List Dev := [{ pb with jrn := { pb.jrn with waiting := [⟨.lvWrite 7, [], 0⟩] }, pages := { pb.pages with lv := [{lj with id := 7, admitted := false, csn := none}] } },
  { pb with pages := { pb.pages with owner := [(2, some .tin)] } }]

end Pages

namespace Split

def pb : Dev := setR [(Reg.guard_ACC 3, 0x0100), (Reg.guard_ACC 0xC, 0x3F3F)] { run3 with ledger := {run3.ledger with e := 10000000} }
def shadowed (k v : Nat) (p : Nat) (d : Dev) : Dev := ((d.setShad k (toWord v)).setTouched p true).setOwner p (some .iron)
def cm (p : Nat) (vals : List (Nat × Word)) (adm : Bool) : Commit := ⟨p, 0xC5000005, vals, vals.isEmpty, adm, none, .hub⟩
def ps1 : List Dev := [ shadowed 0x2040 1000 2 (setR [(Reg.ledger_VMIN, 5000), (Reg.ledger_MLFILT, 1)] pb), shadowed 0x1E040 0x00050003 0x1E pb, setR [(Reg.pgLock 2, 1)] (shadowed 0x2040 1000 2 pb) ]
def withC (c : Commit) (d : Dev) : Dev := { d with pages := {d.pages with commits := [c]} }
def je : JEntry := pb.jEntry 4 2 0x40 0 77 66 5 false
def je2 : JEntry := pb.jEntry 1 2 0x24 0 77 66 5 true
def lj : LvJob := ⟨3, Reg.release_RSTCFG, 5, 5, .jtag, true, none⟩
def lj0 : LvJob := {lj with admitted := false}
def wts : List JWait := [⟨.event, [je], 45000⟩, ⟨.commit 2, [je2, je], 45000⟩, ⟨.lvWrite 3, [je], 45000⟩]
def fjo : Job := ⟨9, .flush, 2, 0, 2710, true, 0, false, none⟩
def jq (q : List JEntry) (d : Dev) : Dev := { d with jrn := { d.jrn with queue := q, wroteAt := 40000 } }
def pageStates : List Dev := [pb, setR [(Reg.sys_SVCLVL, 0x702)] pb, setR [(Reg.pgLock 2, 1), (Reg.pgLock 0xC, 1), (Reg.pgLock 5, 1)] pb, {pb with pages := {pb.pages with lv := [lj]}}, {pb with pages := {pb.pages with lv := [{lj with key := Reg.fan_TARGET 0}]}}] ++ ps1
  ++ [withC (cm 2 [(0x2040, 77)] true) pb, withC (cm 0xA [(0xA044, 77)] true) pb, withC (cm 0x0C [(Reg.release_RSTCFG, 0x123)] true) pb, withC (cm 5 [] true) pb, withC (cm 0x11 [] true) pb, jq [je2] (withC (cm 0x0C [(Reg.release_RSTCFG, 0x123)] true) pb)]
  ++ wts.map (fun w => let d := withC (cm 2 [(0x2040, 77)] false) {pb with pages := {pb.pages with lv := [lj0]}}; { d with jrn := {d.jrn with waiting := [w]}, pages := {d.pages with lv := [lj0]} })
  ++ [jq [je] pb, jq [je, je2] pb, jq [je] (setR [(Reg.jrnl_COUNT, 384), (Reg.jrnl_HEADSLOT, 383), (Reg.jrnl_HEAD, 1000), (Reg.jrnl_MIRHEAD, 600)] pb), jq [je] (setR [(Reg.jrnl_COUNT, 384), (Reg.jrnl_HEADSLOT, 383), (Reg.jrnl_HEAD, 1000), (Reg.jrnl_MIRHEAD, 900)] pb)]
  ++ [Dev.putWords ((List.range 40).map (fun i => toWord (i/8))) 0x30000000 pb, {pb with jrn := {pb.jrn with mirValid := true, mirBase := 0x2000}}, setR [(Reg.jrnl_MIRCFG, 3)] {pb with jrn := {pb.jrn with mirValid := true, mirBase := 0x2000}}, {pb with jrn := {pb.jrn with mirValid := true, mirBase := 0x2000, flushJob := some 9, flushN := 1}, ledger := {pb.ledger with jobs := [fjo]}, time := 500000000, flopp := true}]
  ++ [setR [(Reg.pgEvt 0x12, 7), (Reg.pgFault 0x12, 0x32010001), (Reg.sram_UEADDR, 0x20000040), (Reg.pgFault 0x05, 0xFFFFFFFF), (Reg.pgFault 0x15, 0xFFFFFFFF)] pb]
def wx : List Dev := [{ run3 with pages := { run3.pages with snaps := [(0x2060 * 4, ⟨true, 5⟩)] } }]

end Split

namespace Power

def fj : FlashJob := ⟨2, 0x2000, 0, 3, 0, 0, false, false, []⟩
def jobA : Job := ⟨1, .flashErase, 1, 38400, 0, false, 40000, false, some fj⟩
def jobB : Job := ⟨2, .flush, 2, 2400, 0, false, 40000, false, none⟩
def jobG : Job := ⟨3, .flush, 0, 240000000, 0, false, 40000, false, none⟩
def led (js : List Job) (e : Nat) (d : Dev) : Dev := { d with ledger := { d.ledger with jobs := js, nextJob := 4, e := e } }
def plan (w0 w1 : Nat) (d : Dev) : Dev :=
  setR [(Reg.ledger_PLANCTL, 0x20011), (Reg.pwr_STAT, 2), (stepKey 0 0, w0), (stepKey 0 1, w1)] d
def ck1 : CapCheck := ⟨1, 24000, 0, 20, 10, 90000⟩
def ck2 : CapCheck := ⟨2, 24000, 23990, 20, 10, 90000⟩
def rho1 : Dev := { run3 with clk := { run3.clk with rhoNew := run3.clk.rhoNew.set 1 (some 0x20000000) } }
def rho2 : Dev := { rho1 with clk := { rho1.clk with rhoNew := rho1.clk.rhoNew.set 2 (some 0x10000000) } }
def powerStates : List Dev := base ++ [
  setR [(Reg.sys_SVCLVL, 0x501)] run3, setR [(Reg.sys_SVCLVL, 0x301)] { run3 with copies := run3.copies.set 2 Dev.copyReset },
  setR [(Reg.ledger_MLCFG, 23000), (Reg.ledger_MLFILT, 3), (Reg.ledger_PLANCTL, 1)] { run3 with ledger := { run3.ledger with below := 4 } },
  setR [(Reg.ledger_MLCFG, 23000), (Reg.ledger_MLFILT, 3)] { run3 with ledger := { run3.ledger with below := 4 } },
  setR [(Reg.ledger_MLCFG, 23000), (Reg.ledger_MLFILT, 3), (Reg.pwr_STAT, 2), (Reg.ledger_PLANCTL, 0x11)] { run3 with ledger := { run3.ledger with above := 4 } },
  plan 0 0 run3, plan 3 0 run3, plan 0x10 100 run3, plan 0x50 100 run3, plan 0x10 100 (led [] 100000 run3), plan 0 1000 run3,
  led [jobA, jobB] 100000000 run3, led [jobB] 100000000 run3, led [jobA] 0 run3, led [jobB, jobG] 0 run3, led [jobG] 0 run3, led [{jobB with cls := 0}] 10000 run3,
  setR [(Reg.ledger_WAIT, 0x00100010)] (led [jobA, jobB] 10 run3),
  setR [(Reg.pwr_HOLDSNS, 24000), (Reg.ledger_CVCTL, 0x20000A01)] (led [] 100000000 run3),
  setR [(Reg.pwr_HOLDSNS, 24000)] { run3 with ledger := { run3.ledger with cap := some ck1 } },
  setR [(Reg.pwr_HOLDSNS, 23554)] { run3 with ledger := { run3.ledger with cap := some ck2, jobs := [⟨7, .capCheck, 2, 1, 1, true, 0, false, none⟩] } },
  setR [(Reg.pwr_HOLDSNS, 24554)] { run3 with ledger := { run3.ledger with cap := some ck2 } },
  setR [(Reg.pwr_HOLDSNS, 23554), (Reg.ledger_CAPNF, 900000), (Reg.ledger_CVCTL, 0x100000)] { run3 with ledger := { run3.ledger with cap := some ck2 } },
  setR [(Reg.pwr_STAT, 3)] { run3 with lp := ⟨true, false, none⟩ }, setR [(Reg.pwr_STAT, 5)] { run3 with lp := ⟨true, false, none⟩ },
  setR [(Reg.pwr_STAT, 3)] { run3 with lp := ⟨false, true, none⟩ }, setR [(Reg.pwr_STAT, 5)] { run3 with lp := ⟨false, true, none⟩ },
  setR [(Reg.pwr_STAT, 6), (Reg.pwr_WAKECFG, 5)] { run3 with phase := .dozing }, setR [(Reg.pwr_STAT, 3), (Reg.pwr_WAKECFG, 5)] run3,
  { run3 with phase := .dozeWake }, { run3 with clk := { run3.clk with starting := true } }, rho1, rho2, setR [(Reg.clk_STAT, 1)] rho1, setR [(Reg.clk_STAT, 1)] rho2 ]

end Power

namespace Sense

def q4 : Four Half := ⟨0, 30000, 0xFFFF, 12345⟩
def smp (f : Word) (g : GroupId) (ge : Byte) (e : Bool) : SampleMsg := ⟨f, g, ge, e, false, false, false, 0, q4, ⟨false,false,false,false⟩, ⟨false,false,false,false⟩, 0, 0⟩
def dr : DinRec := ⟨true, 3, true, false, 1234, 5678⟩
def dinm (f ge : Byte) : DinMsg := ⟨f, ge, ⟨dr, dr, dr, dr⟩⟩
def dlv0 : Delivery := ⟨1, 100, ⟨true, false, false, 0⟩, none, Tri.const false⟩
def dlv1 : Delivery := { dlv0 with answered := ⟨false, true, true⟩ }
def cm (p : Nat) : Commit := ⟨p, 0xC5000006, [(p * 0x1000 + 0x40, 0x1234), (p * 0x1000 + 0x44, 0xFFFFFFFF)], false, true, none, .hub⟩
def cfgS : List (Nat × Nat) := [(Reg.sensecfg_GRPCFG 0, 0x80001000), (Reg.sensecfg_GRPCFG 1, 0x80001000), (Reg.sensecfg_DINCFG, 0x80300100), (Reg.sensecfg_DEDGE, 0xFFFFFE)] ++ (List.range 8).map (fun c => (Reg.sensecfg_CHZERO c, 0x80000000))
def sn : Sense := { Dev.senseReset with cfg := (setR cfgS Dev.reset).regs, ofs := List.replicate 12 65536, gain := (List.range 12).map (fun i => (1500000000 : Int) + i) }
def scop : Copy := { liveCopy with sense := sn, time := { liveCopy.time with c := 100 } }
def runS : Dev := setR cfgS { run3 with copies := Tri.const scop }
def opn (d : Dev) : Dev := { d with agr := { d.agr with aOpen := ⟨true, true, false⟩, dOpen := true, rules := d.agreeSettings } }
def full (d : Dev) : Dev := { d with agr := { d.agr with msgs := Tri.const ⟨some (smp 5 0 0 false), some (smp 5 1 0 false), none⟩, din := Tri.const ⟨some (dinm 5 0), some (dinm 5 0), some (dinm 5 0)⟩ } }
def senseStates : List Dev := [ Dev.reset, run3, runS, { runS with time := 40100 }, opn { runS with time := 40100 }, opn runS, full (opn runS),
  full (opn (setR ((List.range 12).map (fun c => (Reg.agree_ACH c, 0x00010000 + c))) runS)),
  { runS with copies := Tri.const { scop with sense := { sn with runFrom := some 0, runGroups := ⟨true, false, true⟩ } } },
  { runS with copies := Tri.const { scop with sense := { sn with runFrom := some 3, runGroups := ⟨true, false, true⟩ } } },
  { runS with agr := { runS.agr with tempHot := ⟨8, 7, 9⟩ } },
  { runS with agr := { runS.agr with plDue := List.replicate 24 true } },
  opn { runS with agr := { runS.agr with msgMissing := ⟨9, 0, 4⟩, outl := ⟨List.replicate 24 3, List.replicate 24 9, List.replicate 24 0⟩ } },
  (let d := setR [(Reg.agree_CFG, 0x00640030), (Reg.agree_DCFG, 0x03000000)] (setR ((List.range 12).map (fun c => (Reg.agree_ACH c, 0x00040000))) runS); let e := opn d;
    { e with agr := { e.agr with msgMissing := ⟨9, 0, 4⟩, outl := ⟨List.replicate 24 3, List.replicate 24 9, List.replicate 24 0⟩ } }),
  { runS with agr := { runS.agr with tckPend := true, agrPend := [(5, ⟨1,2,3,4,5⟩)], maxRetire := 60 } },
  { runS with agr := { runS.agr with tckPend := true, drpUsed := 4 } },
  { runS with agr := { runS.agr with dlv := some dlv0, nextId := 2 } }, { runS with agr := { runS.agr with dlv := some dlv1, nextId := 2 } },
  { runS with agr := { runS.agr with dlv := some dlv1, nextId := 2, replUsed := 1 } },
  setR [(0x15040, 1), (0x1E010, 0)] { run3 with pages := { run3.pages with commits := [cm 0x15, cm 0x19] } },
  setR [(Reg.tbase_PERIOD, 30000)] { run3 with ovl := [(0, (0, 5, 0)), (3, (1, 0, 9))] },
  setR [(Reg.sys_OVLSUM, 0x3FF)] { run3 with ovl := [(0, (0, 5, 0)), (3, (1, 0, 9))] },
  setR (((List.range 10).map (fun g => (admBase g, 3)))) { run3 with ovl := [(0, (0, 5, 0)), (3, (1, 0, 9)), (8, (0, 3, 0))] },
  setR (((List.range 10).map (fun g => (admBase g, 3))) ++ [(Reg.sys_OVLSUM, 0x3FF)]) { run3 with ovl := [(0, (0, 5, 0)), (3, (1, 0, 9)), (8, (0, 3, 0))] } ]
def wx : List Dev := [setR [(Reg.jrnl_ADM_WIN, 0), (admBase 0, 0), (admBase 1, 0)] run3]

end Sense

namespace Compare

def sreg (k v : Nat) : Req := ⟨7, 10, 3, .iron, 0, 1, false, 0xF, toWord (0x40000000 + k), toWord v, 0, rcrcOf (toWord (0x40000000 + k)) (toWord v)⟩
def rq (a : Nat) (be : BitVec 4) (v : Nat) (cls : BitVec 2) : Req := ⟨7, 10, 3, .iron, 0, cls, false, be, toWord a, toWord v, ecc (toWord v) (toWord a), 0⟩
def rqs : List Req := [rq 0x20000010 0xF 0x1234 1, { rq 0x20000010 0xF 0x1234 0 with ecc := 5 }, rq 0x40000048 0xF 0 2, rq 0x70000000 0xF 0 1, { rq 0x30003000 0xF 77 1 with reissue := true }]
def safes : List (Nat × Nat) := [(Reg.drv_SAFE 0, 1), (Reg.drv_SAFE 1, 1), (Reg.drv_SAFE 2, 1), (Reg.trip_SAFE, 0xF), (Reg.trip_REQ, 0x800000AB), (Reg.fan_SAFE, 0xF), (Reg.gpo_SAFE, 0x5A), (Reg.release_SAFE, 1)]
def sent (k v : Nat) (arr : Tri (Option Arrival) → Tri (Option Arrival)) : CmpEntry :=
  { csn := 7, first := 50002, arr := arr (Tri.const (some ⟨.write, sreg k v, 50002⟩)), agreed := Tri.const none, stage := .opened, winner := 0, safeDone := false, relAt := 0, delayed := false, refusal := none, flits := [], answered := Tri.const false }
def ent (ty : ReqType) (q : Req) (st : Stage) : CmpEntry :=
  { csn := 7, first := 50002, arr := Tri.const (some ⟨ty, q, 100⟩), agreed := Tri.const (some true), stage := st, winner := 0, safeDone := false, relAt := 50000, delayed := false, refusal := none, flits := [], answered := Tri.const false }
def oent (x : Tri Nat) (present : Tri Bool) : CmpEntry :=
  let f (c : CopyId) : Option Arrival := if present.get c then some ⟨.write, rq 0x20000010 0xF (x.get c) 1, 50002 + c.val⟩ else none
  { ent .write (rq 0x20000010 0xF 1 1) .opened with arr := ⟨f 0, f 1, f 2⟩, agreed := Tri.const none }
def aent (z : CopyId) : CmpEntry := { oent ⟨1,1,1⟩ ⟨z != 0, z != 1, z != 2⟩ with stage := .released, agreed := Tri.const (some true) }
def ents : List CmpEntry :=
  safes.map (fun x => sent x.1 x.2 id) ++ [sent Reg.gpo_SAFE 0xFF (fun a => a.set 0 none), { sent Reg.gpo_SAFE 0xFF id with safeDone := true }]
  ++ ([ReqType.read, .write, .fetch].flatMap (fun ty => rqs.flatMap (fun q => [ent ty q .released, ent ty q .reserved])))
  ++ [oent ⟨1,1,1⟩ ⟨true,true,true⟩, oent ⟨2,1,1⟩ ⟨true,true,true⟩, oent ⟨1,2,1⟩ ⟨true,true,true⟩, oent ⟨1,1,2⟩ ⟨true,true,true⟩, oent ⟨1,2,3⟩ ⟨true,true,true⟩, oent ⟨1,1,1⟩ ⟨true,true,false⟩, oent ⟨1,1,1⟩ ⟨true,false,false⟩]
  ++ [aent 0, aent 1, aent 2]
def pairRun : Dev := setR [(Reg.sys_SVCLVL, 0x301), (Reg.release_RSTCFG, 3)] { run3 with copies := run3.copies.set 2 Dev.copyReset }
def c1e (ty : ReqType) (q : Req) (g : Bool) : CacheEntry := ⟨7, if g then Req.digest ty { q with reissue := false } else 1, [.rddata 7 0 0 ⟨5, 5⟩]⟩
def full48 (L : HubLink) : HubLink := { L with resTimely := 20, resBulk := 28, resGuard := 80 }
def cmpStates : List Dev := [run3, pairRun, { run3 with links := Tri.const { liveLink with grant := 0 } }]
  ++ ents.map (fun e => { run3 with cmp := [e] }) ++ (ents.map (fun e => { pairRun with cmp := [e] }))
  ++ ents.map (fun e => { run3 with cmp := [e], links := Tri.const (full48 liveLink) })
  ++ [ { run3 with links := Tri.const { liveLink with cache := [c1e .read (rqs.getD 4 (rq 0 0 0 0)) true] } }, { run3 with links := Tri.const { liveLink with cache := [c1e .read (rqs.getD 4 (rq 0 0 0 0)) false] } },
       { run3 with cmp := [{ oent ⟨1,1,1⟩ ⟨true,false,true⟩ with csn := 9 }], links := Tri.const { liveLink with cache := [c1e .read (rqs.getD 4 (rq 0 0 0 0)) true] } } ]
def latched (d : Dev) : Dev := setR [(Reg.release_LATCH, 0xFFF1), (Reg.drv_TSTAT 0, 0x63), (Reg.drv_TSTAT 1, 0x41), (Reg.gpo_ON, 0xFF), (Reg.fan_CFG 0, 1), (Reg.fan_CFG 1, 2)] d
def clrStates : List Dev := [run3, latched run3, setR [(Reg.release_RSTCFG, 0x640000), (Reg.release_RSTCNT, 0x630000)] (latched run3), setR [(Reg.release_RSTCFG, 0x640000), (Reg.release_RSTCNT, 0x640000)] (latched run3)]

end Compare

namespace Mem

def fjP : FlashJob := ⟨1, 0x1000, 0x20000100, 2, 0, 0, true, false, []⟩
def fjL : FlashJob := ⟨1, 0x1000, 0x20000100, 2, 1, 0, true, false, [1,2,3,4,5,6,7,8]⟩
def fjE : FlashJob := ⟨2, 0x1000, 0, 2, 0, 0, true, false, []⟩
def fjB : FlashJob := ⟨3, 0x1000, 0, 2, 1, 0, true, false, []⟩
def fjs : List FlashJob := [fjP, fjL, fjE, fjB, {fjP with done := 2}, {fjP with result := 2}, {fjE with result := 1, done := 1}, {fjB with done := 0, result := 4}]
def fjob : Job := ⟨1, .flashErase, 1, 38400, 38400, true, 40000, false, none⟩
def fjob2 : Job := ⟨2, .flush, 1, 38400, 38400, true, 40000, false, none⟩
def raw (ws : List Word) (a : Nat) (d : Dev) : Dev :=
  { d with mem := d.mem ++ ws.zipIdx.flatMap (fun (e : Word × Nat) => (List.range 4).map (fun j => (a + 4 * e.2 + j, e.1.extractLsb' (8 * j) 8))),
           codes := d.codes ++ ws.zipIdx.map (fun (e : Word × Nat) => (a + 4 * e.2, (ecc e.1 (toWord (a + 4 * e.2))).setWidth 8)) }
def withJob (j : FlashJob) : Dev := raw ((List.range 16).map (fun i => toWord (i * 77))) 0x20000100 { run3 with flash := some j, ledger := { run3.ledger with jobs := [fjob, fjob2] }, flopp := true }
def bflip (a i : Nat) (d : Dev) : Dev :=
  if d.mem.any (fun e => e.1 == a) then { d with mem := d.mem.map (fun e => if e.1 == a then (a, e.2 ^^^ BitVec.ofNat 8 (2 ^ i)) else e) }
  else d.setByte a (d.byte a ^^^ BitVec.ofNat 8 (2 ^ i))
def blankSt : Dev := { run3 with flash := some fjB, ledger := { run3.ledger with jobs := [fjob, fjob2] }, flopp := true }
def memStates : List Dev := blankSt :: (fjs.map withJob) ++ [withJob fjP |> bflip 0x20000104 3, (withJob fjP |> bflip 0x20000104 3) |> bflip 0x20000104 4,
   (withJob fjE).putWord 0x1010 5, (withJob fjB).putWord 0x2010 5, run3, (run3.putWord 0x1000 77), (run3.putWord 0x1004 78) |> bflip 0x1005 2,
   raw [1,2,3,4] 0x20000000 (setR [(Reg.sram_SCRUB, 5)] run3), (raw [1,2,3,4] 0x20000000 (setR [(Reg.sram_SCRUB, 5)] run3)) |> bflip 0x20000002 1,
   (setR [(Reg.sram_SCRUB, 5)] run3), { (setR [(Reg.sram_SCRUB, 5), (Reg.pgFault 0x12, 1)] run3) with scrubW := ⟨0, 0, [0x20000000], []⟩ },
   bflip 0x30000001 1 run3, bflip 0x30000001 2 (bflip 0x30000001 1 run3), {bflip 0x30000001 2 (bflip 0x30000001 1 run3) with phase := .hibernating},
   bflip 0x50000041 2 run3, run3.putWord 0x50000504 99 ]

end Mem

namespace Drives

def evs (l : List Nat) (dt : Nat) : List TrkEvent := (l.zip (List.range l.length)).map (fun x => ⟨Fin.ofNat 6 x.1, BitVec.ofNat 64 (45000 - dt * x.2)⟩)
def dr (f : Drive → Drive) (d : Dev) : Dev := { d with drv := ⟨f (d.drv.get 0), f (d.drv.get 1), f (d.drv.get 2)⟩ }
def b0 : Dev := setR [(Reg.drv_PWMCTL 0, 0x80000000+6250), (Reg.drv_PWMCTL 1, 0x80000000+12500), (Reg.drv_PWMCTL 2, 5000), (Reg.drv_PHOFS 0, 100), (Reg.drv_PHOFS 1, 12499), (Reg.drv_MODECTL 0, 3), (Reg.drv_MODECTL 1, 1),
   (Reg.drv_OCCFG 0, 100), (Reg.drv_OCCFG 1, 0x00100064), (Reg.drv_OVCFG 0, 400), (Reg.drv_TRIPCFG 0, 0x100 + 0x24), (Reg.drv_TRIPCFG 1, 0x11), (Reg.drv_TRIPCFG 2, 0x3D), (Reg.drv_CMPU 0, 77), (Reg.drv_CMPW 1, 78)] run3
def b1 := dr (fun v => {v with configured := true, periodAt := 50000 - 5, periodOn := true, periodHp := 6250, periodCmp := Tri.const 100000 }) b0
def driveStates : List Dev := [b0, dr (fun v => {v with configured := true}) b0, b1, dr (fun v => {v with periodAt := 100}) b1, dr (fun v => {v with periodAt := 49900, changeAt := 32 * 49990, hiOff := Tri.const (32*49990)}) b1,
  dr (fun v => {v with ovrDue := true, obsDue := 2}) b1, dr (fun v => {v with ovrDue := true, obsDue := 1, vcode := 500}) b1, setR [(Reg.drv_TSTAT 0, 0x10), (Reg.drv_MSTAT 0, 0x18), (Reg.drv_TSTAT 1, 0x18)] (dr (fun v => {v with ovrDue := true, obsDue := 2}) b1),
  setR [(Reg.drv_TSTAT 0, 0x4), (Reg.drv_MSTAT 0, 0x18)] (dr (fun v => {v with ovrDue := true, obsDue := 3}) b1),
  dr (fun v => {v with blankEnd := some 50010, icode := 500}) b1, dr (fun v => {v with blankEnd := some 50010, icode := 50}) b1,
  dr (fun v => {v with blankEnd := some 49000, icode := 500, changeAt := 32 * 49990, hiOff := Tri.const (32*49990)}) b1,
  dr (fun v => {v with lastEvts := evs [0] 100, runLen := 1}) b1, dr (fun v => {v with lastEvts := evs [1, 0] 100, runLen := 2}) b1, dr (fun v => {v with lastEvts := evs [0,1] 100, runLen := 2, runDir := true}) b1,
  dr (fun v => {v with lastEvts := evs [0,5,4,3,2,1] 100, runLen := 6}) b1, dr (fun v => {v with lastEvts := evs [0,5,4,3,2,1,0] 1000, runLen := 7, trkValid := true}) b1, dr (fun v => {v with lastEvts := evs [0,5,4,3,2,1,0] 5000, runLen := 7, trkValid := true}) b1,
  setR [(Reg.drv_TRKSTAT 0, 0xFFFF0001), (Reg.drv_ASC_SPEED 0, 50), (Reg.drv_TRKSPD 0, 49)] (dr (fun v => {v with lastEvts := evs [5,0,1,2,3,4,5] 5000, runLen := 7, trkValid := true, runDir := true, obsDue := 2}) b1)]

end Drives

namespace Fans

def fn (f : Fan → Fan) (d : Dev) : Dev := { d with fan := ⟨f (d.fan.get 0), f (d.fan.get 1), f (d.fan.get 2), f (d.fan.get 3)⟩ }
def f0 : Dev := setR [(Reg.fan_CFG 0, 0x00640202), (Reg.fan_CFG 1, 0x0064022A), (Reg.fan_CFG 2, 0x00640139), (Reg.fan_STAT 0, 2), (Reg.fan_STAT 1, 0x0102), (Reg.fan_STAT 2, 0x0302),
   (Reg.fan_KP 0, 0x1000000), (Reg.fan_KI 0, 0x100000), (Reg.fan_TARGET 0, 1000*65536), (Reg.fan_DLIM 0, 0xC0001000), (Reg.fan_DUTY 2, 0x8000), (Reg.fan_STALL 0, 0x00640005), (Reg.fan_STALL 1, 0x00640005), (Reg.fan_RETRY 0, 0x0340050A), (Reg.fan_RETRY 1, 0x0340050A), (Reg.fan_RETRY 2, 0x0340050A),
   (Reg.fan_PLAUS 0, 0x0402), (Reg.fan_PLAUS 1, 0x0402)] run3
def f1 := fn (fun f => {f with edges := [49000, 40000, 30000, 20000, 10000], fresh := 5, trev := 18000, stall := 5, lastDuty := 0x2000, integ := 0x2000 * 0x1000000}) f0
def fanStates : List Dev := [f0, f1, fn (fun f => {f with preload := true}) f1, {f1 with fanLoopAt := 40000, time := 399000}, {f1 with fanLoopAt := 40000, time := 400000}, {f1 with fanLoopAt := 40000, time := 900000 }, {f1 with fanLoopAt := 50000000, time := 51000000 },
   fn (fun f => {f with integ := 0x7FFFFFFFFFFF}) f1, setR [(Reg.fan_SPEED 0, 500*65536)] f1, setR [(Reg.fan_SPEED 0, 1500*65536)] f1, setR [(Reg.fan_SPEED 0, 1001*65536)] (fn (fun f => {f with integ := 0x0FFF * 0x1000000}) f1),
   fn (fun f => {f with fresh := 1}) f1, fn (fun f => {f with stall := 0, good := 20}) f1, setR [(Reg.fan_STAT 0, 3), (Reg.fan_STAT 1, 1)] (fn (fun f => {f with phaseEnd := 60000}) f1),
   setR [(Reg.puff_CFG, 0x23)] (setR [(Reg.fan_STAT 0, 3), (Reg.fan_STAT 1, 1)] (fn (fun f => {f with phaseEnd := 60000}) f1)), {f1 with fanOvrDue := true}, setR [(Reg.puff_CFG, 0x23)] {f1 with fanOvrDue := true},
   fn (fun f => {f with nwin := 4, hcnt := 300, ccnt := 299}) f1, fn (fun f => {f with nwin := 4, hcnt := 300, ccnt := 290}) f1, fn (fun f => {f with nwin := 4, hcnt := 300, ccnt := 290, failed := true}) f1, fn (fun f => {f with nwin := 4, hcnt := 300, ccnt := 290, failed := true, voidWin := true}) f1, fn (fun f => {f with nwin := 4, hcnt := 300, ccnt := 299, failed := true}) f1]
def gp (f : Gpo → Gpo) (d : Dev) : Dev := { d with gpo := d.gpo.map f }
def g0 : Dev := setR [(Reg.gpo_ON, 0x5F), (Reg.gpo_CFG, 0x00050003), (Reg.gpo_RBCFG, 0x00030024), (Reg.release_LATCH, 0x200)] run3
def gpoStates : List Dev := [g0, gp (fun g => {g with bbmEnd := some 60000}) g0, setR [(Reg.release_LATCH, 1)] (gp (fun g => {g with bbmEnd := some 50010}) g0), gp (fun g => {g with on := true, drain := false, since := 49000}) g0, gp (fun g => {g with on := true, drain := true, told := true}) g0, gp (fun g => {g with on := false, drain := false, told := true}) g0]
def cn (f : Can → Can) (d : Dev) : Dev := { d with can := ⟨f (d.can.get 0), f (d.can.get 1)⟩ }
def p0 : Dev := setR [(Reg.puff_CFG, 0x05020037), (Reg.puff_DUTY, 0x40008000), (Reg.sys_SVCLVL, 0), (Reg.puff_DPFX, 0x123456), (Reg.fan_SPEED 0, 5000*65536+77), (Reg.fan_SPEED 1, 1300*65536+77)] g0
def slotted : Dev := setR [(Reg.can_SLOTST 0 3, 0x100), (Reg.can_SLOTST 1 5, 0x200)] (cn (fun c => {c with slots := [(3, some ⟨[1,2], 100, false, false⟩), (5, some ⟨[1,2], 100, false, false⟩)]}) p0)
def puffStates : List Dev := [{ p0 with puff := {p0.puff with insvcFrom := some 50000}}, setR [(Reg.sys_SVCLVL, 0x702)] { slotted with puff := {p0.puff with insvcFrom := some 49000}},
  setR [(Reg.puff_STAT, 0x00FF0011)] { p0 with puff := ⟨some 3, 50000, true, 50000⟩ }, setR [(Reg.puff_STAT, 0xFFFF0011), (Reg.can_PSTAT 0, 2)] { p0 with puff := ⟨some 3, 50000, true, 50000⟩ }, setR [(Reg.puff_STAT, 0xFFFF0021), (Reg.can_PSTAT 0, 4)] (cn (fun c => {c with internal := some []}) { p0 with puff := ⟨some 3, 50000, false, 50000⟩ }),
  setR [(Reg.puff_STAT, 0xFFFF0011), (Reg.clk_STAT, 1)] { p0 with puff := ⟨some 3, 50000, true, 50000⟩ }, setR [(Reg.puff_STAT, 0xFFFF0021), (Reg.can_PSTAT 0, 2)] (cn (fun c => {c with active := some 48, internal := some [1]}) { p0 with puff := ⟨some 3, 50000, false, 50000⟩ })]
def wx : List Dev := [f0, fn (fun f => {f with pinAt := 50000}) f0]

end Fans

namespace Can

def fr : CanFrame := ⟨0x123, false, false, false, false, false, 4, [1,2,3,4]⟩
def fr2 : CanFrame := ⟨0x1FFF1234, true, false, true, true, false, 9, [1,2,3,4,5,6,7,8,9,10,11,0xAA]⟩
def stgW (id fl : Nat) : List Word := [toWord id, toWord fl] ++ (List.range 16).map toWord
def ts (id fl sub : Nat) : TxSlot := ⟨stgW id fl, sub, false, false⟩
def tss : List TxSlot := [ts 0x100 0x008 49000, ts 0x120 0x040 48000, ts 0x120 0x080 47000, ts 0x90 0x048 49999, {ts 0x100 0x008 49000 with cancel := true}, ts 0x200 0x068 49000, {ts 0x100 0x8 1000 with overran := true}, ts 0x100 0x1040 49000, ts 0x20 0x06001040 49999]
def cn (f : Can → Can) (d : Dev) : Dev := { d with can := ⟨f (d.can.get 0), f (d.can.get 1)⟩ }
def put (k : Nat) (t : TxSlot) (st : Nat) (d : Dev) : Dev := Dev.each (fun n d => (d.setReg (Reg.can_SLOTST n.val k) (toWord (st * 256))).setTxSlot n k (some t)) canIds d
def c0 : Dev := setR [(Reg.can_CFG 0, 0x000005C1 % 0x10000), (Reg.can_CFG 1, 0x00000587), (Reg.can_TXDL 0, 0x00010001), (Reg.can_TXDL 1, 0x00140014), (Reg.can_PSTAT 0, 2), (Reg.can_PSTAT 1, 2), (Reg.can_GSB 0, 0x00010001), (Reg.can_RXSB 0, 0x00010001), (Reg.can_RXDL 0, 0x000A0002), (Reg.can_TXSB 0, 0x00010001),
   (Reg.part_ENT 0, 0x40000100), (Reg.part_ENT 1, 0x80000100), (Reg.part_ENT 2, 0xC0000100), (Reg.part_IDHI 0, 0x1FF), (Reg.part_IDHI 1, 0x1FF), (Reg.part_PSTAT 0, 0x00020002), (Reg.part_PSTAT 1, 0x00050003), (Reg.part_PSTAT 2, 0xFFFF0006), (Reg.part_TIM 0, 0x00020001), (Reg.part_TIM 2, 0x00050001), (Reg.part_PSTAT 48, 3),
   (Reg.can_FID 0 1, 0x40000123), (Reg.can_FMASK 0 1, 0x800007FF), (Reg.can_FID 1 2, 0x40000123), (Reg.can_FMASK 1 2, 0xA00007FF), (Reg.can_FID 0 3, 0x60001234), (Reg.can_FMASK 0 3, 0xC000FFFF), (Reg.can_FID 1 4, 0x60001234), (Reg.can_FMASK 1 4, 0x0000FFFF)] run3
def stage (l : List (Nat × Nat)) (d : Dev) : Dev := (Dev.each (fun n d => l.foldl (fun d x => d.setBankReg .iron (Reg.can_TXSTG n.val x.1) (toWord x.2)) d) canIds d)
def many (m : Nat) (fl : Nat) (d : Dev) : Dev := (List.range m).foldl (fun d i => put (i + 8) (ts 0x100 fl 49000) 1 d) d
def act (k : Nat) (t : TxSlot) (d : Dev) : Dev := cn (fun c => {c with active := some k, selected := some k, tecN := 5}) (put k t 2 d)
def ri (c : BitVec 2) (s : Nat) : RxItem := ⟨fr, 1, c, 7, s, false⟩
def canStates1 : List Dev := [c0, stage [(0, 0x100), (1, 8)] c0, stage [(0, 0x900), (1, 8)] c0, stage [(0, 0x80000100), (1, 0x58)] c0, stage [(0, 0x100), (1, 0x88)] (many 24 0x88 c0), stage [(0, 0x100), (1, 0x88)] (many 23 0x88 c0), stage [(0,0),(1,0x48)] (setR [(Reg.can_CFG 0, 0), (Reg.can_PSTAT 0, 4), (Reg.can_PSTAT 1, 4)] c0), put 3 (ts 0x100 8 49000) 2 c0,
  put 3 (ts 0x100 8 49000) 1 (put 9 (ts 0x120 0x40 48000) 1 (put 10 (ts 0x90 0x40 48000) 1 (put 20 (ts 0x20 0x80 0) 1 (put 40 (ts 0x20 0x06001040 49999) 1 c0)))), put 10 (ts 0x90 0x148 49999) 1 (put 20 (ts 0x20 0x248 49000) 1 c0)]
def canStates2 : List Dev := (tss.flatMap (fun t => [put 9 t 1 c0, act 9 t c0, act 3 t c0])) ++ [cn (fun c => {c with tecN := 124}) (act 9 (ts 0x100 0x8 1) c0), cn (fun c => {c with tecN := 250}) (act 9 (ts 0x100 0x8 1) c0), setR [(Reg.can_PSTAT 0, 3)] (cn (fun c => {c with tecN := 130}) (act 9 (ts 0x120 0x48 49000) c0))]
def rxs (l : List RxItem) (d : Dev) : Dev := cn (fun c => {c with rx := l}) d
def canStates3 : List Dev := [c0, setR [(Reg.can_FMASK 0 1, 0xA00007FF), (Reg.can_FMASK 1 2, 0x800007FF)] c0, setR [(Reg.can_FMASK 0 1, 0xC00007FF), (Reg.can_FMASK 1 2, 0xC00007FF)] c0].flatMap (fun d => [d, rxs [ri 0 0] d, rxs [ri 2 0, ri 1 49000, ri 1 0] d, rxs [{ri 0 0 with frame := fr2}] d, rxs [ri 2 49000, ri 0 49000, ri 0 0] d, rxs (List.replicate 32 (ri 2 0)) d, rxs (List.replicate 32 (ri 2 0) ++ List.replicate 24 (ri 1 0)) d, rxs (List.replicate 64 (ri 0 0)) d, rxs (List.replicate 56 (ri 1 0) ++ List.replicate 8 (ri 0 0)) d, rxs (List.replicate 8 (ri 2 0) ++ List.replicate 56 (ri 0 0)) d])
def canStates4 : List Dev := [c0, setR [(Reg.can_PSTAT 0, 4), (Reg.can_PSTAT 1, 4)] (cn (fun c => {c with boAt := some 50000}) c0), setR [(Reg.can_PSTAT 0, 5), (Reg.can_PSTAT 1, 5)] c0, setR [(Reg.can_PSTAT 0, 1), (Reg.can_PSTAT 1, 1)] (put 9 (ts 0x120 0x48 49000) 1 c0), setR [(Reg.can_PSTAT 0, 1), (Reg.can_PSTAT 1, 1)] (cn (fun c => {c with tecN := 128}) c0),
   cn (fun c => {c with stopping := true}) (put 3 (ts 0x100 8 0) 1 (put 9 (ts 0x120 0x48 49000) 1 c0)), {c0 with partAt := 800000, time := 900000}, setR [(Reg.can_CFG 0, 0)] c0]
def wx : List Dev := [act 9 (ts 0x120 0x40 0) c0, act 9 (ts 0x120 0x48 0) c0]

end Can

namespace Jtag

def j0 : Dev := { run3 with jtag := {run3.jtag with preload := 0x35}, fan := Quad.const {Dev.fanReset with configured := true} }
def svc : Dev := setR [(Reg.boot_STAT, 0x100A0)] {j0 with phase := .service, cs := .idle, ledger := {run3.ledger with e := 100000}}
def jtagStates : List Dev := [Dev.reset, j0, {j0 with gpo := j0.gpo.map (fun g => {g with on := true})}, setR [(Reg.drv_TRIPCFG 0, 1), (Reg.drv_TRIPCFG 1, 3), (Reg.drv_MSTAT 2, 0x18)] j0, setR [(Reg.dbg_STAT, 0x11)] j0, setR [(Reg.dbg_STAT, 0x21)] j0, setR [(Reg.dbg_STAT, 0x30)] j0, setR [(Reg.sys_SVCLVL, 0x702), (Reg.dbg_STAT, 1)] j0, {j0 with phase := .pllWait}, setR [(Reg.pwr_SUPSTAT, 0x10)] j0, setR [(Reg.guard_ACC 0x3, 0x100)] j0,
  setR [(Reg.dbg_STAT, 0x10)] {j0 with dbg := {j0.dbg with challenge := some 0x1122334455667788}}, setR [(Reg.dbg_STAT, 0x110)] {j0 with dbg := {j0.dbg with challenge := some 0x1122334455667788}}, setR [(Reg.dbg_STAT, 0x210)] {j0 with dbg := {j0.dbg with challenge := some 0x1122334455667788}}, setR [(Reg.dbg_STAT, 0x220)] {j0 with dbg := {j0.dbg with challenge := some 0x1122334455667788}},
  svc, setR [(Reg.ledger_CAPNF, 5), (Reg.ledger_VMIN, 5000)] svc, svc.putWord 0x50000008 3, setR [(Reg.puff_STAT, 1)] svc, {svc with ledger := {svc.ledger with e := 0}}]

end Jtag

namespace Debug

def h0 : Dev := setR [(Reg.dbg_STAT, 1), (Reg.dbg_DATA, 0x77)] { run3 with dbg := {run3.dbg with dcid := 1, inval := true} }
def open1 (a : Tri (Option (Byte × BitVec 2 × Word))) : Dev := { h0 with dbg := {h0.dbg with dcid := 2, cmd := some (1, 5), answers := a } }
def paird (d : Dev) : Dev := setR [(Reg.sys_SVCLVL, 0x301)] { d with copies := d.copies.set 2 Dev.copyReset }
def pf (d : Dev) : Dev := setR [(Reg.puff_CFG, 0x05020037)] d
def debugStates : List Dev := [run3, h0, {h0 with agr := {h0.agr with ctlUsed := 2}}, {h0 with dbg := {h0.dbg with inval := false}},
  {run3 with dbg := {run3.dbg with reports := ⟨true, true, false⟩}}, {run3 with dbg := {run3.dbg with reports := ⟨true, false, false⟩}}, paird {run3 with dbg := {run3.dbg with reports := ⟨true, false, false⟩}},
  open1 (Tri.const none), open1 ⟨some (1, 0, 9), some (1, 0, 9), none⟩, open1 ⟨some (1, 0, 9), none, some (1, 0, 9)⟩, open1 ⟨none, some (7, 0, 0), some (7, 0, 0)⟩, paird (open1 ⟨some (1, 0, 9), none, none⟩), paird (open1 ⟨none, some (7, 0, 0), none⟩),
  setR [(Reg.wdog_STAT, 0x00005AF0)] run3, setR [(Reg.wdog_STAT, 0x0040A50F), (Reg.release_RSTCFG, 3)] {run3 with wdCfg := 0x00020040}, setR [(Reg.wdog_STAT, 0x00015AF0), (Reg.release_RSTCFG, 3)] {run3 with wdCfg := 0x00020040}, setR [(Reg.wdog_STAT, 0x0040A50F), (Reg.dbg_CTRL, 0x20), (Reg.dbg_STAT, 1)] run3, pf run3, pf (setR [(Reg.sys_SVCLVL, 0x703)] run3), setR [(Reg.sys_SVCLVL, 0x703)] run3]

end Debug

/-! The image of the boot witnesses passes every check: its CRC is taken in parts. -/

theorem crcBits_append (w p : Nat) (as bs : List Bool) (c : Nat) : crcBits w p (as ++ bs) c = crcBits w p bs (crcBits w p as c) := by
  induction as generalizing c with
  | nil => rfl
  | cons a as ih => exact ih _

def bytesOf (ws : List Word) : List Byte := ws.flatMap wordBytes
def hdrBytes : List Byte :=
  bytesOf [0x31524C4B, 0x00010000, 0, 0] ++ (bytesOf [8, 0, 0, 0] ++ (bytesOf [0, 0, 0, 0] ++ (bytesOf [0, 0, 0, 0] ++ (bytesOf [0, 0, 0, 0]
    ++ (bytesOf [0, 0, 0, 0] ++ (bytesOf [0, 0, 0, 0] ++ bytesOf [0, 0, 0, 0]))))))

def crcPart (ws : List Word) (c : Nat) : Nat := crcBits 32 0x1EDC6F41 ((bytesOf ws).flatMap byteBitsL) c

theorem crc_part0 : crcPart [0x31524C4B, 0x00010000, 0, 0] 0xFFFFFFFF = 3251420432 := by decide +kernel
theorem crc_part1 : crcPart [8, 0, 0, 0] 3251420432 = 653385174 := by decide +kernel
theorem crc_part2 : crcPart [0, 0, 0, 0] 653385174 = 1856243038 := by decide +kernel
theorem crc_part3 : crcPart [0, 0, 0, 0] 1856243038 = 2664899749 := by decide +kernel
theorem crc_part4 : crcPart [0, 0, 0, 0] 2664899749 = 1824225751 := by decide +kernel
theorem crc_part5 : crcPart [0, 0, 0, 0] 1824225751 = 477796650 := by decide +kernel
theorem crc_part6 : crcPart [0, 0, 0, 0] 477796650 = 2718459067 := by decide +kernel
theorem crc_part7 : crcPart [0, 0, 0, 0] 2718459067 = 4128126316 := by decide +kernel

theorem crc_hdr : crcBits 32 0x1EDC6F41 (hdrBytes.flatMap byteBitsL) 0xFFFFFFFF = 4128126316 := by
  have h0 := crc_part0; have h1 := crc_part1; have h2 := crc_part2; have h3 := crc_part3
  have h4 := crc_part4; have h5 := crc_part5; have h6 := crc_part6; have h7 := crc_part7
  unfold crcPart at h0 h1 h2 h3 h4 h5 h6 h7
  unfold hdrBytes
  rw [List.flatMap_append, crcBits_append, h0, List.flatMap_append, crcBits_append, h1, List.flatMap_append, crcBits_append, h2,
    List.flatMap_append, crcBits_append, h3, List.flatMap_append, crcBits_append, h4, List.flatMap_append, crcBits_append, h5,
    List.flatMap_append, crcBits_append, h6, h7]

theorem crc_img (rs : List Word) (v : Word)
    (h : toWord (revBits 32 (crcPart rs 4128126316) ^^^ 0xFFFFFFFF) = v) : crc32c ([] ++ hdrBytes ++ bytesOf rs) = v := by
  unfold crc32c
  rw [List.nil_append, List.flatMap_append, crcBits_append, crc_hdr]
  exact h

theorem img_check (d : Dev) (rs : List Word) (v : Word) (hc : d.flashBytes 0 (d.imgLen / 4) = some [])
    (hh : d.flashBytes 0x3FF000 32 = some hdrBytes) (hr : d.recBytes = some (bytesOf rs)) (hb : d.hdrBad 0x80 = false)
    (hv : d.hdr 0x80 = v) (h : toWord (revBits 32 (crcPart rs 4128126316) ^^^ 0xFFFFFFFF) = v)
    (h1 : ¬ (d.hdrBad 0 ∨ d.hdr 0 ≠ 0x31524C4B)) (h2 : ¬ (d.hdrBad 4 ∨ fld (d.hdr 4) 31 16 ≠ 1))
    (h3 : ¬ (d.hdrBad 8 ∨ d.hdrBad 0x10 ∨ d.imgLen % 32 ≠ 0 ∨ 0x3F0000 < d.imgLen ∨ 0xF00 < d.recLen))
    (h5 : ¬ (d.sigChecked ∧ d.imgSigOk = false)) : d.imgCheck = 0 := by
  have hk : d.imgCrcOk = true := by unfold Dev.imgCrcOk; rw [hc, hh, hr]; simpa [hb, hv] using crc_img rs v h
  unfold Dev.imgCheck
  rw [if_neg h1, if_neg h2, if_neg h3, if_neg (by rw [hk]; decide), if_neg h5]

theorem img_accepted : imgDev.imgCheck = 0 :=
  img_check imgDev [0x101, 1] 951250659 (by decide +kernel) (by decide +kernel) (by decide +kernel) (by decide +kernel) (by decide +kernel)
    (by decide +kernel) (by decide +kernel) (by decide +kernel) (by decide +kernel) (by decide +kernel)

theorem img_badRecord : (imgWith 2748438514 0x1EE 1).imgCheck = 0 :=
  img_check _ [0x1EE, 1] 2748438514 (by decide +kernel) (by decide +kernel) (by decide +kernel) (by decide +kernel) (by decide +kernel)
    (by decide +kernel) (by decide +kernel) (by decide +kernel) (by decide +kernel) (by decide +kernel)

theorem memDflt_flash (a : Nat) (h : a < 0x400000) : memDflt a = 0xFF := by
  unfold memDflt isFlash; rw [decide_eq_true h]; rfl
theorem erased_empty (d : Dev) (a : Nat) (hm : d.mem = []) (hc : d.codes = []) (h : a + 4 ≤ 0x400000) : d.erased a = true := by
  have hw : ∀ k, k < 4 → d.byte (a + k) = 0xFF := fun k hk => by
    unfold Dev.byte; rw [hm]; exact memDflt_flash _ (by omega)
  have hk : d.code a = 0x7F := by
    unfold Dev.code; rw [hc]; show codeDflt a = _
    unfold codeDflt isFlash; rw [decide_eq_true (by omega : a < 0x400000)]; rfl
  have h0 := hw 0 (by omega)
  unfold Dev.erased Dev.word
  rw [hk, hw 1 (by omega), hw 2 (by omega), hw 3 (by omega), show d.byte a = 0xFF from h0]
  decide

/-! Single commands and operations against the worked examples and tables of the spec. -/

/-- The device after one command. -/
def after (i : Instr) (d : Dev) : Dev :=
  match exec i (st d) with
  | .next t => t.dev
  | _ => d

/-- A copy that executes a Bronze instruction with x11, x12, ACC and BMODE as given. -/
def bx (m : BitVec 2) (a b : Nat) (acc : Nat) : Dev :=
  cst (fun x => { x with bmode := m, acc := BitVec.ofNat 72 acc, x := (x.x.set 11 (toWord a)).set 12 (toWord b) })

/-- Register `r` of copy A. -/
def ra (d : Dev) (r : BitVec 5) : Word := (d.copy 0).xr r

-- 08_bronze_arithmetic.md, worked example: Park projection on a pair, PMAC then ACCEXT with RNE and RHA.
theorem test_pmac_park : ((after (.pmac 0 true 12 11) (bx 1 0x40002000 0x6ED94000 0)).copy 0).acc = 0x23B6400000000000 := by decide +kernel
theorem test_accext_rne :
    let d := after (.accext 0 0xC6F 13) (bx 1 0 0 0x23B6400000000000)
    ra d 13 = 0x476C ∧ (d.copy 0).acc = 0 ∧ (d.copy 0).bstat = 0 := by decide +kernel
theorem test_accext_rha : ra (after (.accext 0 0xCEF 13) (bx 1 0 0 0x23B6400000000000)) 13 = 0x476D := by decide +kernel

-- 08, worked example: rounding modes of QMUL on −2.5.
theorem test_qmul_rha : ra (after (.qmul 0 true 12 11 1 10) (bx 1 0xFFFFFFFB 0x40000000 0)) 10 = 0xFFFFFFFD := by decide +kernel
theorem test_qmul_rtz : ra (after (.qmul 0 true 12 11 2 10) (bx 1 0xFFFFFFFD 0x40000000 0)) 10 = 0xFFFFFFFF := by decide +kernel

-- 08, worked example: overflow of QADD, saturated, and the arithmetic trap.
theorem test_qadd_saturates : ra (after (.qadd 0 true 12 11 10) (bx 1 0x60000000 0x30000000 0)) 10 = 0x7FFFFFFF := by decide +kernel
theorem test_qadd_traps :
    let y := (after (.qadd 0 true 12 11 10) (bx 2 0x60000000 0x30000000 0)).copy 0
    y.xr 10 = 0 ∧ y.iron.epc = 0x20000024 ∧ y.iron.ecause = 8 ∧ y.iron.eval = 0x02C5852B ∧ y.iron.aux = 0x000000037FFFFFFF := by
  decide +kernel

-- 08, worked example: check values of the function instructions.
theorem test_sqrt_half : ra (after (.sqrt 0 11 10) (bx 1 0x40000000 0 0)) 10 = 0x5A82799A := by decide +kernel
theorem test_recip : ra (after (.recip 0 12 11 10) (bx 1 0x60000000 1 0)) 10 = 0x55555555 := by decide +kernel
theorem test_exp2_minus_one : ra (after (.exp2 0 11 10) (bx 1 0x80000000 0 0)) 10 = 0x20000000 := by decide +kernel

-- 09_memories.md, worked example: the code of a stored word, a flipped bit, a wrong word, and RCRC.
theorem test_ecc : ecc 0x42 0x20004A20 = 0x41 := by decide +kernel
theorem test_ecc_corrects : checkWord 0x2 0x41 0x20004A20 = .corrected 0x42 := by decide +kernel
theorem test_ecc_wrong_word : ecc 0x42 0x20004A24 = 0x4E ∧ checkWord 0x42 0x4E 0x20004A20 = .bad := by decide +kernel
theorem test_rcrc : rcrcOf 0x40015024 0xC5003100 = 0x8A := by decide +kernel

/-- Copy A of 06_zuster_core.md's worked example: Iron ring 1, timely, the word at 0x2000_4A20 in its data cache. -/
def zx (v : Nat) : Dev :=
  cst (fun x => ({ x with ring := 1, csn := 0x310F0, retire := 0x234111, x := (x.x.set 10 0x20004A20).set 5 (toWord v) }).dcFill 0x20004A20
    ⟨0x41, ecc 0x41 0x20004A20⟩)

-- 06, worked example: the READ of a load that hits, and the WRITE of the store.
theorem test_lw_hit :
    let y := (after (.load 0 .lw 5 10 0 false) (zx 0)).copy 0
    y.xr 5 = 0x41 ∧ y.wait = .none ∧
      y.out.map (fun o => (o.ty, o.req)) = [(.read, ⟨0x310F0, 0x234111, 0, .iron, 1, 1, false, 0xF, 0x20004A20, 0, 0, 0⟩)] := by decide +kernel
theorem test_sw :
    let y := (after (.store 0 .sw 10 5 0 false) (zx 0x42)).copy 0
    y.out.map (fun o => (o.ty, o.req)) = [(.write, ⟨0x310F0, 0x234111, 0, .iron, 1, 1, false, 0xF, 0x20004A20, 0x42, 0x41, 0⟩)] := by decide +kernel

/-- The caller of 07_worlds_rings_traps.md's worked example, with the words of GATE 5's entry read. -/
def gx : Dev :=
  cst (fun x => (withIc { x with
      world := .tin, ring := 3, bmode := 1, hush := false, gtbaseT := 0x0020F001, hushmax := 0x04001000, pc := 0x00204C36,
      retire := 0x512A00, x := x.x.set 2 0x200D9F40,
      wait := .gate 5 ⟨some 0x6A00, some 0x38D, some 0x200E7F00, some 0⟩ } [0x00204C20]).updStack .iron 1
        (fun _ => ⟨ent 4, 0x20008000⟩))

-- 07, worked example: the call through GATE 5.
theorem test_gate_enters :
    let y := (after (.gate 0 5) gx).copy 0
    y.world = .iron ∧ y.ring = 1 ∧ y.hush = false ∧ y.bmode = 1 ∧ y.pc = 0x6A00 ∧ y.xr 2 = 0x200E7F00 ∧
      (y.stack .iron 1).top.take 3 = [⟨.gsp, 0x200D9F40⟩, ⟨.gstat, 0x17⟩, ⟨.gpc, 0x00204C3A⟩] ∧ (y.stack .iron 1).top.length = 7 := by
  decide +kernel

/-- The service of the example, with TCK taken and entry 63 of the locked Iron table in flash. -/
def sx : Dev :=
  let w (a : Nat) (v : Word) : List (Nat × Byte) := (wordBytes v).zipIdx.map (fun e => (a + e.2, e.1))
  let d := cst (fun x => (withIc { x with
      ring := 1, bmode := 1, hush := false, gtbaseI := 0x0020E001, pc := 0x6A3C, tck := some (0x6A42, 0x512A1D),
      x := x.x.set 2 0x200E7E90 } [0x6A20]).updStack .iron 0 (fun _ => ⟨[], 0x20008000⟩))
  { d with mem := w 0x20E3F4 0x108 ++ w 0x20E3F8 0x200EFF00,
           codes := [(0x20E3F4, (ecc 0x108 0x20E3F4).setWidth 8), (0x20E3F8, (ecc 0x200EFF00 0x20E3F8).setWidth 8)] }

-- 07, worked example: the tick is taken.
theorem test_tick_entry :
    let y := (after (.eventEntry 0) sx).copy 0
    y.iron.estatus = 0x12 ∧ y.iron.epc = 0x6A3C ∧ y.iron.ecause = 0x80000010 ∧ y.iron.eval = 0x6A42 ∧
      y.iron.aux = 0x512A1D ∧ y.status = 0x108 ∧ y.xr 2 = 0x200EFF00 ∧ y.pc = 0x200 ∧
      (y.stack .iron 0).top = [⟨.tsp, 0x200E7E90⟩] := by decide +kernel

-- 07, worked example: XRET 0 of the handler, and XRET 1 of the service.
theorem test_xret_trap :
    let y := (after (.xretTrap 0) (cst (fun x => { x with
      ibusy := true, hush := true, x := x.x.set 2 0x200EFF00,
      iron := { x.iron with estatus := 0x12, epc := 0x6A3C, stk := { x.iron.stk with a := ⟨[⟨.tsp, 0x200E7E90⟩], 0x20008000⟩ } } }))).copy 0
    y.status = 0x12 ∧ y.pc = 0x6A3C ∧ y.xr 2 = 0x200E7E90 ∧ (y.stack .iron 0).top = [] := by decide +kernel
theorem test_xret_gate :
    let y := (after (.xretGate 0) (cst (fun x => ({ x with ring := 1, bmode := 1, hush := false }).updStack .iron 1
      (fun _ => ⟨([⟨.gsp, 0x200D9F40⟩, ⟨.gstat, 0x17⟩, ⟨.gpc, 0x00204C3A⟩] : List SEntry) ++ ent 4, 0x20008000⟩)))).copy 0
    y.status = 0x17 ∧ y.xr 2 = 0x200D9F40 ∧ y.pc = 0x00204C3A ∧ (y.stack .iron 1).top = ent 4 := by decide +kernel

/-- KIND, PAGE, SRC, NEW and PREV of the entries that wait to be written. -/
def jview (d : Dev) : List (Nat × Nat × Nat × Word × Word) :=
  d.jrn.queue.map (fun e => (e.kind.toNat, e.page.toNat, e.src.toNat, e.new, e.prev))

-- 16_fault_catalogue.md, worked example: copy C's supply falls.
theorem test_copy_brownout :
    let d := after (.copySupplyBrownout 2 3540) run3
    d.reg Reg.sys_SVCLVL = 0x301 ∧ (7, 3, 3, 0xB, 0xDD4) ∈ jview d ∧ (6, 0, 3, 0x301, 0x700) ∈ jview d := by decide +kernel

/-- A compare entry of 10_compare_release.md's divergence in the trio: A and B agree and have been served, C differs. -/
def dx : Dev :=
  let q (v : Word) : Req := ⟨0x422B0, 0x900, 3, .iron, 0, 1, false, 0xF, 0x20001F00, v, ecc v 0x20001F00, 0⟩
  let e : CmpEntry :=
    { csn := 0x422B0, first := 50000, arr := ⟨some ⟨.write, q 0x1A40, 50000⟩, some ⟨.write, q 0x1A40, 50003⟩, some ⟨.write, q 0x1840, 50030⟩⟩,
      agreed := ⟨some true, none, none⟩, stage := .executed, winner := 0, safeDone := false, relAt := 50007, delayed := false,
      refusal := none, flits := [], answered := ⟨true, true, false⟩ }
  setR [(Reg.cmp_CODE, 0x1717)] { run3 with cmp := [e] }

-- 10, worked example: a divergence in the trio.
theorem test_divergence :
    let d := after (.compareComplete 0x422B0 .regular) dx
    d.reg Reg.sys_SVCLVL = 0x301 ∧ d.reg Reg.cmp_LASTCSN = 0x422B0 ∧ d.reg Reg.cmp_LASTDET = 0x54006 ∧
      (7, 0xB, 3, 1, 0x422B0) ∈ jview d ∧ (6, 0, 3, 0x301, 0x700) ∈ jview d := by decide +kernel

-- 03_sense.md, worked example: the calibration, a conversion, and saturation.
theorem test_calibration :
    calA 65712 786208 = 1074337937 ∧ calOfs 65712 5 32768 1074337937 = 524214 ∧ calGain 1074337937 0x40000000 0 = 0x40091891 := by
  decide +kernel
theorem test_conversion : senseY 41250 524214 1074337937 = (8491, false) ∧ senseY 65535 524214 1074337937 = (32767, true) := by decide +kernel

-- 05_input_agreement.md, worked example: MEAN and MAX, and the digital record of DIN0.
theorem test_agree_mean : (ruleMean 16 [⟨0, 8491⟩, ⟨1, 8496⟩]).val = some 8494 := by decide +kernel
theorem test_agree_max : ruleEnd true 8 false [⟨0, 20110⟩, ⟨1, 20125⟩] = ⟨some 20125, true, [0, 1], none⟩ := by decide +kernel
theorem test_agree_din :
    (agreeDin true 4 [⟨true, 2, true, false, 3417, 15902⟩, ⟨true, 2, true, false, 3418, 15905⟩]).1
      = ⟨true, 2, true, false, 3418, 15904⟩ := by decide +kernel

-- 11_drive_channels.md, worked example: the hand-over guard, the blend, the modulator, and TRKSPD.
theorem test_handover_guard : guardPasses (-1200, 5000) (3900, 3300) 1024 = false ∧ guardPasses (4096, 3072) (3900, 3300) 1024 = true := by
  decide +kernel
theorem test_blend : blendVec (3880, 3325) (4096, 3072) 1 4 = (3934, 3262) ∧ blendVec (3840, 3372) (4096, 3072) 3 4 = (4032, 3147) := by
  decide +kernel
theorem test_modulate : modulate (4096, 3072) 12500 = (146262, 188786, 253738, false) := by decide +kernel

/-- Fan 0 of 12_fan_channels_outputs.md's worked example, under CLOSED. -/
def fx (pre : Bool) (integ : Int) : Dev :=
  let d := setR [(Reg.fan_CFG 0, 0x01F4F202), (Reg.fan_STAT 0, 2), (Reg.fan_KP 0, 8389), (Reg.fan_KI 0, 336), (Reg.fan_DLIM 0, 0xFFFF1000),
    (Reg.fan_TARGET 0, 0x04B00000), (Reg.fan_SPEED 0, 0x049C0000)] run3
  d.updFan 0 (fun f => { f with edges := [399000], trev := 20338983, preload := pre, lastDuty := 0x6000, integ := integ })

-- 12, worked example: the speed, the preload, and the next loop tick.
theorem test_fan_speed : speedOf 20338983 = 0x049C0000 := by decide +kernel
theorem test_fan_preload :
    let f := (after .fanLoopTick (fx true 0)).fanCh 0
    f.integ = 401327783936 ∧ f.duty = 24576 := by decide +kernel
theorem test_fan_loop :
    let f := (after .fanLoopTick (fx false 401327783936)).fanCh 0
    f.integ = 401768185856 ∧ f.duty = 0x601A := by decide +kernel

/-- CAN0 of 13_can_partners.md's worked example. -/
def cb : Dev := setR [(Reg.can_CFG 0, 0x5C7), (Reg.can_TXDL 0, 0x01F401F4), (Reg.can_PSTAT 0, 2), (Reg.part_ENT 5, 0xC0000200),
  (Reg.part_IDHI 5, 0x21F), (Reg.part_TIM 5, 0x015E0064), (Reg.part_PSTAT 5, 0x015D0002)] run3

-- 13, worked example: the submit of slot 12, and the cancel of slot 13 before its SOF.
theorem test_can_submit :
    let d := after (.txcmdSubmit 0 .iron 12) (Can.stage [(0, 0x80000210), (1, 0xB258)] cb)
    d.reg (Reg.can_SLOTST 0 12) = 0x100 ∧ d.reg (Reg.can_TXCMDST 0) = 0xC00 := by decide +kernel
theorem test_can_cancel :
    (after (.txcmdCancel 0 13) (Can.put 13 (Can.ts 0x300 0x88 49000) 1 cb)).reg (Reg.can_SLOTST 0 13) = 0x4A2 := by decide +kernel

-- 13, worked example: partner 5 leaves; then a frame that names it is refused at selection.
theorem test_partner_left :
    let d := after (.partnerLeft 5) (setR [(Reg.part_PSTAT 5, 0x015E0002)] cb)
    d.rfld (Reg.part_PSTAT 5) 1 0 = 3 ∧ jview d = [(0xC, 0x1D, 0, 5, 0)] := by decide +kernel

-- 14_power_energy.md, worked example: CMEAS, E in ECODE, and HRZ.
theorem test_capacitance :
    let d := setR [(Reg.ledger_CAPNF, 470000), (Reg.ledger_CVCTL, 0x000A0000), (Reg.pwr_HOLDSNS, 23554)]
      { run3 with ledger := { run3.ledger with cap := some ⟨2, 24000, 23990, 20, 10, 0⟩ } }
    let e := after .capCheckEnd d
    e.reg Reg.ledger_CMEAS = 469484 ∧ e.ledger.cap = none := by decide +kernel
theorem test_energy :
    let d := setR [(Reg.ledger_CMEAS, 469484), (Reg.ledger_CAPNF, 470000), (Reg.ledger_VMIN, 12000)]
      { run3 with ledger := { run3.ledger with conv := List.replicate 8 23000 } }
    let e := after (.holdsnsConversion 23000 (Quad.const ⟨0, 0⟩)) d
    e.ledger.e = 90375670 ∧ ecode e.ledger.e = 0xFAC6 := by decide +kernel
theorem test_horizon :
    (after .ledgerMsTick (setR [(Reg.ledger_BLOAD, 2000)]
      { run3 with ledger := { run3.ledger with e := 90375670, ePrev := 90375670 } })).reg Reg.ledger_HRZ = 45187 := by decide +kernel

-- 15_clocks_reset_boot.md, worked example: the time of the image check, with and without the signature.
theorem test_image_time :
    let h (flags : Word) : Dev :=
      let ws : List (Nat × Word) := [(0x3FF008, 0x62000), (0x3FF00C, flags), (0x3FF010, 0x1C0)]
      { Dev.reset with mem := ws.flatMap (fun e => (wordBytes e.2).zipIdx.map (fun x => (e.1 + x.2, x.1))),
                       codes := ws.map (fun e => (e.1, (ecc e.2 (toWord e.1)).setWidth 8)) }
    (h 1).imgTime = 1633040 ∧ (h 0).imgTime = 156792 := by decide +kernel

/-- DRV0's shadow of 02_register_pages_journal.md's worked example: rule 2 of the drive page fails, or holds. -/
def px (hp dt : Nat) : Dev :=
  ((({ run3 with frnum := 0x3100 }.setShad (Reg.drv_PWMCTL 0) (toWord hp)).setShad (Reg.drv_DTCTL 0) (toWord dt)).setTouched
    0x15 true).setOwner 0x15 (some .iron)

-- 02, worked example: a commit that rule 2 refuses, and the corrected one.
theorem test_commit_refused :
    (after (.pgCommit (.copies .iron 0) 0x15 0xC5003100) (px 2000 0x4000)).reg (Reg.pgCmtstat 0x15) = 0x3100C21A := by decide +kernel
theorem test_commit_pending :
    (after (.pgCommit (.copies .iron 0) 0x15 0xC5003100) (px 2000 0x3000)).reg (Reg.pgCmtstat 0x15) = 0x31004000 := by decide +kernel

-- 14, worked example: step 3 of the plan is refused, and its entries.
theorem test_plan_step_refused :
    let d := setR [(Reg.ledger_PLANCTL, 0x00050211), (stepKey 3 0, 0x0FA00012), (stepKey 4 0, 0x10040003), (stepKey 4 1, 20),
        (Reg.ledger_RES, 0x27104E20), (Reg.jrnl_HEAD, 5), (Reg.jrnl_COUNT, 6)]
      { run3 with jrn := { run3.jrn with mirValid := true }, ledger := { run3.ledger with e := 10375670, planNext := 3, planFrom := 34000 } }
    let e := after .rideStepStart d
    e.now = 16034000 ∧ e.reg Reg.ledger_JSHORT = 0xC92E ∧ e.reg Reg.ledger_JSTAT = 0x130E ∧
      (10, 2, 0, 0x13, 9628300) ∈ jview e ∧ (16, 2, 0, 3, 0xE) ∈ jview e := by decide +kernel

-- 12, worked example: the second distress frame.
theorem test_distress_data :
    (setR [(Reg.puff_CFG, 0x0A090203), (Reg.puff_DUTY, 0x8000), (Reg.puff_DPFX, 0x0002104A), (Reg.puff_STAT, 0x00010011), (Reg.sys_SVCLVL, 0),
      (Reg.fan_SPEED 0, 0x049C0000), (Reg.release_LATCH, 1)] run3).distressData = [0x4A, 0x10, 0x02, 0x01, 0x17, 0x00, 0x01, 0x00] := by decide +kernel

-- 11, worked example: observer loss at speed.
theorem test_observer_loss :
    let d := setR [(Reg.drv_MODECTL 0, 3), (Reg.drv_MSTAT 0, 3), (Reg.drv_TRKSPD 0, 824634), (Reg.drv_ASC_SPEED 0, 604731),
        (Reg.drv_TSTAT 0, 0)] run3
    let e := after (.observerLoss 0) (d.updDrive 0 (fun v => { v with obsDue := 1, trkValid := true, configured := true }))
    e.reg (Reg.drv_TSTAT 0) = 0x508 ∧ e.rfld (Reg.drv_MSTAT 0) 5 0 = 0x2B ∧ (7, 0x15, 0, 0x41, 0x508) ∈ jview e ∧
      (6, 0x15, 0, 0x2B, 3) ∈ jview e := by decide +kernel

-- 13, worked example: slot 12 completes after a cancel that came after its SOF.
theorem test_can_completed_after_cancel :
    let d := Can.put 12 { Can.ts 0x210 0x58 10000 with cancel := true } 2 cb
    let e := after (.txComplete 0) (d.setFldR (Reg.can_SLOTST 0 12) 23 16 1 |>.updCan 0 (fun c => { c with active := some 12, selected := some 12 }))
    e.reg (Reg.can_SLOTST 0 12) = 0x00010500 ∧ e.reg (Reg.can_TXFIN_LO 0) = 0x1000 := by decide +kernel

-- 13, worked example: a frame that names an absent partner.
theorem test_can_partner_absent :
    let d := Can.put 12 (Can.ts 0x210 0xB258 49000) 1 (setR [(Reg.part_PSTAT 5, 3)] cb)
    (after (.txSelect 0 false) d).reg (Reg.can_SLOTST 0 12) = 0x726 := by decide +kernel

-- 09, worked example: a flash job that the ledger refuses.
theorem test_flash_refused :
    let d := { run3 with ledger := { run3.ledger with e := 18500 } }
    let e := d.flashSubmit 1 1 64 0x00300000 0x20080000 false []
    e.reg Reg.flash_EDECL = 0x56E0 ∧ fld (e.reg Reg.flash_STAT) 7 0 = 0x0E ∧ e.reg Reg.flash_SHORT = 0x0E9C := by decide +kernel

/-- 16's reduced mode after copy C's loss: copies A and B, whose compare of CSN 0x0001_7C40 ends with AB disagreeing. -/
def rx2 : Dev :=
  let q (v : Word) : Req := ⟨0x17C40, 0x900, 3, .iron, 0, 1, false, 0xF, 0x20001F00, v, ecc v 0x20001F00, 0⟩
  let e : CmpEntry :=
    { csn := 0x17C40, first := 50000, arr := ⟨some ⟨.write, q 1, 50000⟩, some ⟨.write, q 2, 50003⟩, none⟩, agreed := ⟨none, none, none⟩,
      stage := .opened, winner := 0, safeDone := false, relAt := 0, delayed := false, refusal := none, flits := [], answered := ⟨false, false, false⟩ }
  setR [(Reg.sys_SVCLVL, 0x301), (Reg.cmp_CODE, 0x0303), (Reg.release_RSTCFG, 0x00100003)]
    { run3 with cmp := [e], copies := run3.copies.set 2 Dev.copyReset }

-- 16, worked example: a mismatch in reduced mode enters the safe state and restarts the core set.
theorem test_reduced_mismatch :
    let d := after (.compareComplete 0x17C40 .regular) rx2
    d.reg Reg.sys_SVCLVL = 2 ∧ d.devLatch = true ∧ d.reg Reg.release_CAUSE = 3 ∧ d.cs = .waiting ∧
      (7, 0xB, 4, 1, 0x17C40) ∈ jview d ∧ (8, 5, 0, 0x13, 0x302) ∈ jview d ∧ d.rfld Reg.release_RSTCNT 3 0 = 1 := by decide +kernel

-- 05, worked example: the agreed words of AIN1 and AIN2.
theorem test_window_words :
    ainWord (ruleMean 16 [⟨0, 8491⟩, ⟨1, 8496⟩]) 0 false false false = 0x0030212E ∧
    ainWord (ruleEnd true 8 false [⟨0, 20110⟩, ⟨1, 20125⟩]) 0 false false false = 0x00314E9D := by decide +kernel

-- 15, worked example: the first boot entry.
theorem test_boot_entries :
    let d := after .retentionCheckDone (setR [(Reg.sys_DEVID, 0xB5021100), (Reg.retn_STAT, 0), (Reg.rst_LAST, 1)]
      { Dev.reset with phase := .retCheck, phaseDue := 6000 })
    (8, 5, 0, 1, 0x301) ∈ jview d ∧ (15, 6, 0, 1, 0) ∈ jview d := by decide +kernel

/-! WellFormed refuses an ill-formed command for each of its checks, and accepts its neighbour. -/

/-- A remote classical frame: DLC 4, no data. -/
def rtrFrame : CanFrame := ⟨0x123, false, true, false, false, false, 4, []⟩

theorem test_wf_shadow_offset : (Instr.shadowWrite .hub 1 0x41 0).wellFormed = false ∧ (Instr.shadowWrite .hub 1 0x44 0).wellFormed = true := by decide
theorem test_wf_lv_offset : (Instr.lvWrite .hub 1 0x42 0).wellFormed = false := by decide
theorem test_wf_register_offset : (Instr.registerWrite .hub 1 0x43 0).wellFormed = false := by decide
theorem test_wf_split_lo_offset : (Instr.splitReadLo .hub 1 0x41).wellFormed = false := by decide
theorem test_wf_split_hi_offset : (Instr.splitReadHi .hub 1 0x42).wellFormed = false := by decide
theorem test_wf_cal_words : (Instr.cal 0 0 [1, 2, 3, 4]).wellFormed = false ∧ (Instr.cal 0 0 [1, 2, 3, 4, 5]).wellFormed = true := by decide
theorem test_wf_dbgrsp_result : (Instr.dbgrsp 0 ⟨0, 0⟩ 1 0 3 0 0).wellFormed = false ∧ (Instr.dbgrsp 0 ⟨0, 0⟩ 1 0 2 0 0).wellFormed = true := by decide
theorem test_wf_flash_unit : (Instr.flashJobUnitDone (List.replicate 1025 ⟨0, 0⟩) true).wellFormed = false := by decide +kernel
theorem test_wf_submit_slot : (Instr.txcmdSubmit 0 .iron 48).wellFormed = false ∧ (Instr.txcmdSubmit 0 .iron 47).wellFormed = true := by decide
theorem test_wf_cancel_slot : (Instr.txcmdCancel 0 48).wellFormed = false := by decide
theorem test_wf_deadline_slot : (Instr.txDeadline 0 48).wellFormed = false := by decide
theorem test_wf_overrun_slot : (Instr.txGuardOverrun 0 48).wellFormed = false := by decide
theorem test_wf_frame_length : (Instr.rxFrame 0 { Can.fr with data := [1, 2, 3] } 0).wellFormed = false ∧ (Instr.rxFrame 0 Can.fr 0).wellFormed = true := by decide
theorem test_wf_frame_remote : (Instr.rxFrame 0 { rtrFrame with fdf := true } 0).wellFormed = false ∧ (Instr.rxFrame 0 rtrFrame 0).wellFormed = true := by decide
theorem test_wf_frame_id : (Instr.rxFrame 0 { Can.fr with id := 0x800 } 0).wellFormed = false := by decide
theorem test_wf_frame_brs : (Instr.rxFrame 0 { Can.fr with brs := true } 0).wellFormed = false := by decide
theorem test_wf_cvctl_go : (Instr.cvctlGo .hub 0x7FFFFFFF).wellFormed = false ∧ (Instr.cvctlGo .hub 0x80000000).wellFormed = true := by decide
theorem test_wf_swrst_scopes :
    (Instr.swrstCoreset .hub 2).wellFormed = false ∧ (Instr.swrstHub .hub 1).wellFormed = false ∧
      (Instr.swrstCoreset .hub 1).wellFormed = true ∧ (Instr.swrstHub .hub 2).wellFormed = true := by decide
theorem test_wf_loader_row : (Instr.loaderProgram 0 [1, 2, 3]).wellFormed = false := by decide
theorem test_wf_debug_registers :
    (Instr.dbgReadReg .jtag 32).wellFormed = false ∧ (Instr.dbgWriteReg .jtag 32).wellFormed = false ∧
      (Instr.dbgReadCsr .jtag 4096).wellFormed = false ∧ (Instr.dbgWriteCsr .jtag 4096).wellFormed = false ∧
      (Instr.dbgStep .jtag 0).wellFormed = false := by decide

/-! Witnesses. -/

/-- States that meet the hypotheses of StoredCode, clause by clause. -/
theorem witness_StoredCode :
    (
    let w : Word := 0x0#32;
    let a : Word := 0x0#32;
    let c : BitVec 7 := 0x0#7;
    let erased (v : Word) (k : BitVec 7) : Prop := a.toNat < 0x400000 ∧ v = 0xFFFFFFFF ∧ k = 0x7F;
    let s := c ^^^ ecc w a;
    (¬ erased w c) ∧
    (s = 0)) ∧ (
    let w : Word := 0x0#32;
    let a : Word := 0x0#32;
    let c : BitVec 7 := 0x1#7;
    let erased (v : Word) (k : BitVec 7) : Prop := a.toNat < 0x400000 ∧ v = 0xFFFFFFFF ∧ k = 0x7F;
    let s := c ^^^ ecc w a;
    let j : Fin 7 := 0;
    (¬ erased w c) ∧
    (s = 1#7 <<< j.val)) ∧ (
    let w : Word := 0x0#32;
    let a : Word := 0x0#32;
    let c : BitVec 7 := 0x7#7;
    let erased (v : Word) (k : BitVec 7) : Prop := a.toNat < 0x400000 ∧ v = 0xFFFFFFFF ∧ k = 0x7F;
    let s := c ^^^ ecc w a;
    let dc (i : Nat) : BitVec 7 := BitVec.ofNat 7 (listGet 0 dcTable i);
    let i : Fin 32 := 0;
    (¬ erased w c) ∧
    (s = dc i.val)) ∧ (
    let w : Word := 0x0#32;
    let a : Word := 0x0#32;
    let c : BitVec 7 := 0x3#7;
    let erased (v : Word) (k : BitVec 7) : Prop := a.toNat < 0x400000 ∧ v = 0xFFFFFFFF ∧ k = 0x7F;
    let s := c ^^^ ecc w a;
    let dc (i : Nat) : BitVec 7 := BitVec.ofNat 7 (listGet 0 dcTable i);
    (¬ erased w c) ∧
    (s ≠ 0) ∧
    ((∀ j : Fin 7, s ≠ 1#7 <<< j.val)) ∧
    ((∀ i : Fin 32, s ≠ dc i.val))) ∧ (
    let w : Word := 0x0#32;
    let a : Word := 0x0#32;
    let erased (v : Word) (k : BitVec 7) : Prop := a.toNat < 0x400000 ∧ v = 0xFFFFFFFF ∧ k = 0x7F;
    let own := ecc w a;
    let i : Fin 32 := 0;
    (¬ erased (w ^^^ 1#32 <<< i.val) own)) ∧ (
    let i : Fin 32 := 0;
    let j : Fin 32 := 1;
    (i ≠ j)) ∧ (
    let k : Fin 32 := 2;
    (2 ≤ k.val)) ∧ (
    let k : Fin 32 := 0;
    (k.val < 2)) := by
  refine ⟨?_, ?_, ?_, ?_, ?_, ?_, ?_, ?_⟩ <;> (try dsimp only [Copy.fetched, Copy.settled, Copy.canTrap, Copy.keepsStack, Copy.idleReady, Dev.letsWrite, Dev.hubAccepts, Dev.copyAccepts, ne_eq]) <;> decide +kernel

/-- States that meet the hypotheses of IntegerOps, clause by clause. -/
theorem witness_IntegerOps :
    (
    let s : State := st (Ca.sts0.getD 0 Dev.reset);
    let c : CopyId := 1;
    let b : Bool := false;
    let op := AluOp.add;
    let imm := 0x0#12;
    ((s.dev.copy c).fetched (instrLen b)) ∧
    (immForm op imm = true)) ∧ (
    let s : State := st (Ca.sts0.getD 0 Dev.reset);
    let c : CopyId := 1;
    let b : Bool := false;
    let rd := 0x0#5;
    ((s.dev.copy c).fetched (instrLen b)) ∧
    (isLink rd = false)) ∧ (
    let s : State := st (Ca.sts0.getD 0 Dev.reset);
    let c : CopyId := 1;
    let b : Bool := false;
    let rd := 0x0#5;
    let rs1 := 0x0#5;
    ((s.dev.copy c).fetched (instrLen b)) ∧
    (isLink rd = false) ∧
    (jalrPops rd rs1 = false)) ∧ (
    let b : Word := 0x1#32;
    (b ≠ 0)) ∧ (
    let b : Word := 0x0#32;
    (b = 0)) := by
  refine ⟨?_, ?_, ?_, ?_, ?_⟩ <;> (try dsimp only [Copy.fetched, Copy.settled, Copy.canTrap, Copy.keepsStack, Copy.idleReady, Dev.letsWrite, Dev.hubAccepts, Dev.copyAccepts, ne_eq]) <;> decide +kernel

/-- States that meet the hypotheses of LoadsAndStores, clause by clause. -/
theorem witness_LoadsAndStores :
    (
    let s : State := st (Ca.sts0.getD 2 Dev.reset);
    let c : CopyId := 1;
    let k : LoadKind := LoadKind.lb;
    let rs1 : BitVec 5 := 0x5#5;
    let off : BitVec 12 := 0x0#12;
    let b : Bool := false;
    let x := s.dev.copy c;
    let a := x.xr rs1 + off.signExtend 32;
    let w := { data := 0x5#32, ecc := 0x77#7 };
    ((s.dev.copy c).fetched (instrLen b)) ∧
    (a.toNat % loadSize k = 0) ∧
    (canLoad a.toNat = true) ∧
    (x.room 1 = true) ∧
    (isCached a.toNat = true) ∧
    ((x.dcLoad a).2 = some w)) ∧ (
    let s : State := st (Ca.sts0.getD 0 Dev.reset);
    let c : CopyId := 1;
    let k : LoadKind := LoadKind.lb;
    let rs1 : BitVec 5 := 0x0#5;
    let off : BitVec 12 := 0x0#12;
    let b : Bool := false;
    let x := s.dev.copy c;
    let a := x.xr rs1 + off.signExtend 32;
    ((s.dev.copy c).fetched (instrLen b)) ∧
    (a.toNat % loadSize k = 0) ∧
    (canLoad a.toNat = true) ∧
    (x.room 1 = true) ∧
    ((isCached a.toNat = true → (x.dcLoad a).2 = none))) ∧ (
    let s : State := st (Ca.sts0.getD 0 Dev.reset);
    let c : CopyId := 1;
    let k : LoadKind := LoadKind.lh;
    let rs1 : BitVec 5 := 0x0#5;
    let off : BitVec 12 := 0xfff#12;
    let b : Bool := false;
    let x := s.dev.copy c;
    let a := x.xr rs1 + off.signExtend 32;
    ((s.dev.copy c).fetched (instrLen b)) ∧
    (a.toNat % loadSize k ≠ 0)) ∧ (
    let s : State := st (Ca.sts0.getD 0 Dev.reset);
    let c : CopyId := 1;
    let k : LoadKind := LoadKind.lb;
    let rs1 : BitVec 5 := 0x0#5;
    let off : BitVec 12 := 0xfff#12;
    let b : Bool := false;
    let x := s.dev.copy c;
    let a := x.xr rs1 + off.signExtend 32;
    ((s.dev.copy c).fetched (instrLen b)) ∧
    (a.toNat % loadSize k = 0) ∧
    (canLoad a.toNat = false)) ∧ (
    let s : State := st (Ca.sts0.getD 0 Dev.reset);
    let c : CopyId := 1;
    let k : StoreKind := StoreKind.sb;
    let rs1 : BitVec 5 := 0x1#5;
    let off : BitVec 12 := 0x0#12;
    let b : Bool := false;
    let x := s.dev.copy c;
    let a := x.xr rs1 + off.signExtend 32;
    ((s.dev.copy c).fetched (instrLen b)) ∧
    (a.toNat % storeSize k = 0) ∧
    (canStore a.toNat = true) ∧
    (x.room 1 = true)) ∧ (
    let s : State := st (Ca.sts0.getD 0 Dev.reset);
    let c : CopyId := 1;
    let k : StoreKind := StoreKind.sh;
    let rs1 : BitVec 5 := 0x0#5;
    let off : BitVec 12 := 0xfff#12;
    let b : Bool := false;
    let x := s.dev.copy c;
    let a := x.xr rs1 + off.signExtend 32;
    ((s.dev.copy c).fetched (instrLen b)) ∧
    (a.toNat % storeSize k ≠ 0)) ∧ (
    let s : State := st (Ca.sts0.getD 0 Dev.reset);
    let c : CopyId := 1;
    let k : StoreKind := StoreKind.sb;
    let rs1 : BitVec 5 := 0x0#5;
    let off : BitVec 12 := 0x0#12;
    let b : Bool := false;
    let x := s.dev.copy c;
    let a := x.xr rs1 + off.signExtend 32;
    ((s.dev.copy c).fetched (instrLen b)) ∧
    (a.toNat % storeSize k = 0) ∧
    (canStore a.toNat = false)) := by
  refine ⟨?_, ?_, ?_, ?_, ?_, ?_, ?_⟩ <;> (try dsimp only [Copy.fetched, Copy.settled, Copy.canTrap, Copy.keepsStack, Copy.idleReady, Dev.letsWrite, Dev.hubAccepts, Dev.copyAccepts, ne_eq]) <;> decide +kernel

/-- States that meet the hypotheses of CallsAndReturns, clause by clause. -/
theorem witness_CallsAndReturns :
    (
    let s : State := st (Cb.sts.getD 0 Dev.reset);
    let c : CopyId := 1;
    let f : CallForm := CallForm.jal 0x1#5 0x8#21;
    let b : Bool := false;
    let x := s.dev.copy c;
    let st := x.curStack;
    let full : Bool := decide (32 < st.top.length + 1);
    ((s.dev.copy c).fetched (instrLen b)) ∧
    (callForm f = true) ∧
    (full = false) ∧
    (x.room 0 = true)) ∧ (
    let s : State := st (Cb.sts.getD 8 Dev.reset);
    let c : CopyId := 1;
    let f : CallForm := CallForm.jal 0x1#5 0x8#21;
    let b : Bool := false;
    let x := s.dev.copy c;
    let st := x.curStack;
    let full : Bool := decide (32 < st.top.length + 1);
    ((s.dev.copy c).fetched (instrLen b)) ∧
    (callForm f = true) ∧
    (full = true) ∧
    (st.cnt + 8 ≤ 128) ∧
    (x.room 16 = true)) ∧ (
    let s : State := st (Cb.sts.getD 10 Dev.reset);
    let c : CopyId := 1;
    let f : CallForm := CallForm.jal 0x1#5 0x8#21;
    let b : Bool := false;
    let x := s.dev.copy c;
    let st := x.curStack;
    let full : Bool := decide (32 < st.top.length + 1);
    ((s.dev.copy c).fetched (instrLen b)) ∧
    (callForm f = true) ∧
    (full = true) ∧
    (128 < st.cnt + 8)) ∧ (
    let s : State := st (Cb.sts.getD 4 Dev.reset);
    let c : CopyId := 1;
    let rd : BitVec 5 := 0x0#5;
    let rs1 : BitVec 5 := 0x1#5;
    let off : BitVec 12 := 0x0#12;
    let b : Bool := false;
    let x := s.dev.copy c;
    let target := (x.xr rs1 + off.signExtend 32) &&& 0xFFFFFFFE;
    let rest := [{ kind := EKind.call, value := 0x20000104#32 }, { kind := EKind.call, value := 0x20000108#32 }];
    ((s.dev.copy c).fetched (instrLen b)) ∧
    (jalrPops rd rs1 = true) ∧
    (x.curStack.top = ⟨.call, target⟩ :: rest) ∧
    (rest.length < 32)) ∧ (
    let s : State := st (Cb.sts.getD 4 Dev.reset);
    let c : CopyId := 1;
    let rd : BitVec 5 := 0x0#5;
    let rs1 : BitVec 5 := 0x1#5;
    let off : BitVec 12 := 0xfff#12;
    let b : Bool := false;
    let x := s.dev.copy c;
    let target := (x.xr rs1 + off.signExtend 32) &&& 0xFFFFFFFE;
    let en := { kind := EKind.call, value := 0x20000100#32 };
    let rest := [{ kind := EKind.call, value := 0x20000104#32 }, { kind := EKind.call, value := 0x20000108#32 }];
    ((s.dev.copy c).fetched (instrLen b)) ∧
    (jalrPops rd rs1 = true) ∧
    (x.curStack.top = en :: rest) ∧
    (¬ (en.kind = .call ∧ en.value = target))) ∧ (
    let s : State := st (Cb.sts.getD 0 Dev.reset);
    let c : CopyId := 1;
    let rd : BitVec 5 := 0x0#5;
    let rs1 : BitVec 5 := 0x1#5;
    let b : Bool := false;
    let x := s.dev.copy c;
    ((s.dev.copy c).fetched (instrLen b)) ∧
    (jalrPops rd rs1 = true) ∧
    (x.curStack.top = []) ∧
    (x.curStack.cnt = 0)) ∧ (
    let s : State := st (Cb.sts.getD 1 Dev.reset);
    let c : CopyId := 1;
    let rd : BitVec 5 := 0x0#5;
    let rs1 : BitVec 5 := 0x1#5;
    let b : Bool := false;
    let x := s.dev.copy c;
    ((s.dev.copy c).fetched (instrLen b)) ∧
    (jalrPops rd rs1 = true) ∧
    (x.curStack.top = []) ∧
    (x.curStack.cnt ≠ 0) ∧
    (x.room (2 * min 8 x.curStack.cnt) = true)) := by
  refine ⟨?_, ?_, ?_, ?_, ?_, ?_, ?_⟩ <;> (try dsimp only [Copy.fetched, Copy.settled, Copy.canTrap, Copy.keepsStack, Copy.idleReady, Dev.letsWrite, Dev.hubAccepts, Dev.copyAccepts, ne_eq]) <;> decide +kernel

/-- States that meet the hypotheses of FencesAndScrub, clause by clause. -/
theorem witness_FencesAndScrub :
    (
    let s : State := st (Cb.sts.getD 0 Dev.reset);
    let c : CopyId := 1;
    let x := s.dev.copy c;
    (x.fetched 4) ∧
    (x.settled)) ∧ (
    let s : State := st (Cb.sts.getD 15 Dev.reset);
    let c : CopyId := 1;
    let x := s.dev.copy c;
    (x.fetched 4) ∧
    (x.drained = false)) ∧ (
    let s : State := st (Cb.sts.getD 16 Dev.reset);
    let c : CopyId := 1;
    let x := s.dev.copy c;
    (x.fetched 4) ∧
    (x.drained = true) ∧
    (x.refusals x.world ≠ 0) ∧
    (x.entering = none) ∧
    (x.busy x.world = false) ∧
    (x.dflt x.world = false) ∧
    (x.keepsStack s.dev.env x.world)) ∧ (
    let s : State := st (Cb.sts.getD 0 Dev.reset);
    let c : CopyId := 1;
    let x := s.dev.copy c;
    (x.powered = true) ∧
    (x.released = true) ∧
    (x.stop = none)) := by
  refine ⟨?_, ?_, ?_, ?_⟩ <;> (try dsimp only [Copy.fetched, Copy.settled, Copy.canTrap, Copy.keepsStack, Copy.idleReady, Dev.letsWrite, Dev.hubAccepts, Dev.copyAccepts, ne_eq]) <;> decide +kernel

/-- States that meet the hypotheses of GateEnters, clause by clause. -/
theorem witness_GateEnters :
    (
    let s : State := st (Ce.sts.getD 0 Dev.reset);
    let c : CopyId := 1;
    let x := s.dev.copy c;
    let n : BitVec 6 := 0x3#6;
    let w0 : Word := 0x20000100#32;
    let w1 : Word := 0xf8#32;
    let w2 : Word := 0x77#32;
    let w3 : Word := 0x0#32;
    let det := gateDetail x.world x.ring.val n.toNat (bitOf (x.gtbase x.world) 0) w0 w1;
    let tw : World := if bitOf w1 2 then .iron else x.world;
    let tr := bitsRing (w1.extractLsb' 0 2);
    let frame : List SEntry := [⟨.gpc, x.pc + 4⟩, ⟨.gstat, x.status6.setWidth 32⟩] ++ if bitOf w1 8 then [⟨.gsp, x.xr 2⟩] else [];
    (x.wait = .gate n ⟨some w0, some w1, some w2, some w3⟩) ∧
    (x.runs = true) ∧
    (x.dbg = false) ∧
    (x.room 0 = true) ∧
    (det = 0) ∧
    ((x.stack tw tr).top.length + frame.length ≤ 32)) ∧ (
    let s : State := st (Ce.sts.getD 3 Dev.reset);
    let c : CopyId := 1;
    let x := s.dev.copy c;
    let n : BitVec 6 := 0x3#6;
    let w0 : Word := 0x20000100#32;
    let w1 : Word := 0x1fc#32;
    let w2 : Word := 0x77#32;
    let w3 : Word := 0x0#32;
    let det := gateDetail x.world x.ring.val n.toNat (bitOf (x.gtbase x.world) 0) w0 w1;
    (x.wait = .gate n ⟨some w0, some w1, some w2, some w3⟩) ∧
    (x.runs = true) ∧
    (x.dbg = false) ∧
    (x.room 0 = true) ∧
    (det ≠ 0) ∧
    (x.canTrap) ∧
    (x.keepsStack s.dev.env x.world)) ∧ (
    let s : State := st (Ce.sts.getD 18 Dev.reset);
    let c : CopyId := 1;
    let x := s.dev.copy c;
    let n : BitVec 6 := 0x3#6;
    (x.fetched 4) ∧
    (x.settled) ∧
    (x.room 4 = true) ∧
    ((∀ j : Fin 4, x.dcFind (x.gateAddr n.toNat j.val) = none))) := by
  refine ⟨?_, ?_, ?_⟩ <;> (try dsimp only [Copy.fetched, Copy.settled, Copy.canTrap, Copy.keepsStack, Copy.idleReady, Dev.letsWrite, Dev.hubAccepts, Dev.copyAccepts, ne_eq]) <;> decide +kernel

/-- States that meet the hypotheses of TrapAndGateReturns, clause by clause. -/
theorem witness_TrapAndGateReturns :
    (
    let s : State := st (Cb.sts.getD 0 Dev.reset);
    let c : CopyId := 1;
    let x := s.dev.copy c;
    let es : BitVec 6 := match x.world with | .iron => x.iron.estatus | .tin => x.tin.estatus ||| 1
    let away := status6World es != x.world || status6Ring es != 0;
    ((s.dev.copy c).fetched 4) ∧
    ((s.dev.copy c).settled) ∧
    ((s.dev.copy c).dbg = false) ∧
    (x.ring = 0) ∧
    (badTinRing es = false) ∧
    (away = false)) ∧ (
    let s : State := st (Cb.sts.getD 52 Dev.reset);
    let c : CopyId := 1;
    let x := s.dev.copy c;
    let es : BitVec 6 := match x.world with | .iron => x.iron.estatus | .tin => x.tin.estatus ||| 1
    let away := status6World es != x.world || status6Ring es != 0;
    let en := { kind := EKind.tsp, value := 0x66#32 };
    let rest := [];
    ((s.dev.copy c).fetched 4) ∧
    ((s.dev.copy c).settled) ∧
    ((s.dev.copy c).dbg = false) ∧
    (x.ring = 0) ∧
    (badTinRing es = false) ∧
    (away = true) ∧
    (x.curStack.top = en :: rest) ∧
    (en.kind = .tsp)) ∧ (
    let s : State := st (Cb.sts.getD 54 Dev.reset);
    let c : CopyId := 1;
    let x := s.dev.copy c;
    let es : BitVec 6 := match x.world with | .iron => x.iron.estatus | .tin => x.tin.estatus ||| 1
    let away := status6World es != x.world || status6Ring es != 0;
    let en := { kind := EKind.call, value := 0x20000100#32 };
    let rest := [{ kind := EKind.call, value := 0x20000104#32 }, { kind := EKind.call, value := 0x20000108#32 }];
    ((s.dev.copy c).fetched 4) ∧
    ((s.dev.copy c).settled) ∧
    ((s.dev.copy c).dbg = false) ∧
    (x.ring = 0) ∧
    (badTinRing es = false) ∧
    (away = true) ∧
    (x.curStack.top = en :: rest) ∧
    (en.kind ≠ .tsp)) ∧ (
    let s : State := st (Cb.sts.getD 50 Dev.reset);
    let c : CopyId := 1;
    let x := s.dev.copy c;
    let es : BitVec 6 := match x.world with | .iron => x.iron.estatus | .tin => x.tin.estatus ||| 1
    let away := status6World es != x.world || status6Ring es != 0;
    ((s.dev.copy c).fetched 4) ∧
    ((s.dev.copy c).settled) ∧
    ((s.dev.copy c).dbg = false) ∧
    (x.ring = 0) ∧
    (badTinRing es = false) ∧
    (away = true) ∧
    (x.curStack.top = []) ∧
    (x.curStack.cnt = 0)) ∧ (
    let s : State := st (Cb.sts.getD 13 Dev.reset);
    let c : CopyId := 1;
    let x := s.dev.copy c;
    let es : BitVec 6 := match x.world with | .iron => x.iron.estatus | .tin => x.tin.estatus ||| 1
    ((s.dev.copy c).fetched 4) ∧
    ((s.dev.copy c).settled) ∧
    ((s.dev.copy c).dbg = false) ∧
    (x.ring ≠ 0 ∨ badTinRing es = true)) ∧ (
    let s : State := st (Cb.sts.getD 122 Dev.reset);
    let c : CopyId := 1;
    let x := s.dev.copy c;
    let ok (v : BitVec 6) : Bool := (status6World v == x.world && decide (x.ring.val ≤ (status6Ring v).val)) || (x.world == .iron && status6World v == .tin);
    let st : Word := 0x0#32;
    let pc : Word := 0x20000100#32;
    let rest : List SEntry := [{ kind := EKind.call, value := 0x20000100#32 }, { kind := EKind.call, value := 0x20000104#32 }, { kind := EKind.call, value := 0x20000108#32 }];
    ((s.dev.copy c).fetched 4) ∧
    ((s.dev.copy c).settled) ∧
    ((s.dev.copy c).dbg = false) ∧
    (x.curStack.top = ⟨.gstat, st⟩ :: ⟨.gpc, pc⟩ :: rest) ∧
    (ok (st.setWidth 6) = true)) ∧ (
    let s : State := st (Cb.sts.getD 123 Dev.reset);
    let c : CopyId := 1;
    let x := s.dev.copy c;
    let ok (v : BitVec 6) : Bool := (status6World v == x.world && decide (x.ring.val ≤ (status6Ring v).val)) || (x.world == .iron && status6World v == .tin);
    let st : Word := 0x0#32;
    let pc : Word := 0x20000100#32;
    let rest : List SEntry := [{ kind := EKind.call, value := 0x20000100#32 }, { kind := EKind.call, value := 0x20000104#32 }, { kind := EKind.call, value := 0x20000108#32 }];
    ((s.dev.copy c).fetched 4) ∧
    ((s.dev.copy c).settled) ∧
    ((s.dev.copy c).dbg = false) ∧
    (x.curStack.top = ⟨.gstat, st⟩ :: ⟨.gpc, pc⟩ :: rest) ∧
    (ok (st.setWidth 6) = false)) ∧ (
    let s : State := st (Cb.sts.getD 126 Dev.reset);
    let c : CopyId := 1;
    let x := s.dev.copy c;
    let ok (v : BitVec 6) : Bool := (status6World v == x.world && decide (x.ring.val ≤ (status6Ring v).val)) || (x.world == .iron && status6World v == .tin);
    let sp : Word := 0x3#32;
    let st : Word := 0x0#32;
    let pc : Word := 0x20000100#32;
    let rest : List SEntry := [{ kind := EKind.call, value := 0x20000104#32 }, { kind := EKind.call, value := 0x20000108#32 }];
    ((s.dev.copy c).fetched 4) ∧
    ((s.dev.copy c).settled) ∧
    ((s.dev.copy c).dbg = false) ∧
    (x.curStack.top = ⟨.gsp, sp⟩ :: ⟨.gstat, st⟩ :: ⟨.gpc, pc⟩ :: rest) ∧
    (ok (st.setWidth 6) = true)) ∧ (
    let s : State := st (Cb.sts.getD 4 Dev.reset);
    let c : CopyId := 1;
    let x := s.dev.copy c;
    let v : Word := 0x20000100#32;
    let rest : List SEntry := [{ kind := EKind.call, value := 0x20000108#32 }];
    let en : SEntry := { kind := EKind.call, value := 0x20000104#32 };
    ((s.dev.copy c).fetched 4) ∧
    ((s.dev.copy c).settled) ∧
    ((s.dev.copy c).dbg = false) ∧
    (x.curStack.top = ⟨.call, v⟩ :: en :: rest)) ∧ (
    let s : State := st (Cb.sts.getD 0 Dev.reset);
    let c : CopyId := 1;
    let x := s.dev.copy c;
    ((s.dev.copy c).fetched 4) ∧
    ((s.dev.copy c).settled) ∧
    ((s.dev.copy c).dbg = false) ∧
    (x.curStack.top = []) ∧
    (x.curStack.cnt = 0)) := by
  refine ⟨?_, ?_, ?_, ?_, ?_, ?_, ?_, ?_, ?_, ?_⟩ <;> (try dsimp only [Copy.fetched, Copy.settled, Copy.canTrap, Copy.keepsStack, Copy.idleReady, Dev.letsWrite, Dev.hubAccepts, Dev.copyAccepts, ne_eq]) <;> decide +kernel

/-- States that meet the hypotheses of WorldAndHush, clause by clause. -/
theorem witness_WorldAndHush :
    (
    let s : State := st (Cb.sts.getD 0 Dev.reset);
    let c : CopyId := 1;
    let ring : BitVec 2 := 0x0#2;
    let bmode : BitVec 2 := 0x0#2;
    let x := s.dev.copy c;
    ((s.dev.copy c).fetched 4) ∧
    ((s.dev.copy c).settled) ∧
    ((s.dev.copy c).dbg = false) ∧
    (x.world = .iron) ∧
    (x.ring = 0) ∧
    ((ring = 0 ∨ ring = 3)) ∧
    (bmode ≠ 3)) ∧ (
    let s : State := st (Cb.sts.getD 0 Dev.reset);
    let c : CopyId := 1;
    let ring : BitVec 2 := 0x0#2;
    let bmode : BitVec 2 := 0x3#2;
    let x := s.dev.copy c;
    ((s.dev.copy c).fetched 4) ∧
    ((s.dev.copy c).settled) ∧
    ((s.dev.copy c).dbg = false) ∧
    ((x.world ≠ .iron ∨ x.ring ≠ 0 ∨ ring = 1 ∨ ring = 2 ∨ bmode = 3))) ∧ (
    let s : State := st (Cb.sts.getD 0 Dev.reset);
    let c : CopyId := 1;
    let x := s.dev.copy c;
    ((s.dev.copy c).fetched 4) ∧
    (x.ring = 0) ∧
    (¬ (x.world = .tin ∧ fld x.hushmax 31 16 = 0))) ∧ (
    let s : State := st (Cb.sts.getD 13 Dev.reset);
    let c : CopyId := 1;
    let x := s.dev.copy c;
    ((s.dev.copy c).fetched 4) ∧
    (x.ring ≠ 0 ∨ (x.world = .tin ∧ fld x.hushmax 31 16 = 0))) ∧ (
    let s : State := st (Cb.sts.getD 13 Dev.reset);
    let c : CopyId := 1;
    let x := s.dev.copy c;
    ((s.dev.copy c).fetched 4) ∧
    (x.ring ≠ 0)) := by
  refine ⟨?_, ?_, ?_, ?_, ?_⟩ <;> (try dsimp only [Copy.fetched, Copy.settled, Copy.canTrap, Copy.keepsStack, Copy.idleReady, Dev.letsWrite, Dev.hubAccepts, Dev.copyAccepts, ne_eq]) <;> decide +kernel

/-- States that meet the hypotheses of IllegalInstructions, clause by clause. -/
theorem witness_IllegalInstructions :
    (
    let s : State := st (Cb.sts.getD 0 Dev.reset);
    let c : CopyId := 1;
    let x := s.dev.copy c;
    let iw := 0x0#32;
    (x.fetched (wordLen iw))) ∧ (
    let s : State := st (Cb.sts.getD 0 Dev.reset);
    let c : CopyId := 1;
    let x := s.dev.copy c;
    let b := false;
    (x.fetched (instrLen b)) ∧
    (s.dev.rbit Reg.dbg_CTRL 4 = false)) ∧ (
    let s : State := st (Cb.sts.getD 41 Dev.reset);
    let c : CopyId := 1;
    let x := s.dev.copy c;
    let b := false;
    (x.fetched (instrLen b)) ∧
    (s.dev.rbit Reg.dbg_CTRL 4 = true) ∧
    (x.settled)) ∧ (
    let s : State := st (Cd.sts.getD 0 Dev.reset);
    let c : CopyId := 1;
    let x := s.dev.copy c;
    ((s.dev.copy c).fetched 4) ∧
    (x.bmode = 0)) ∧ (
    let s : State := st (Cd.sts.getD 0 Dev.reset);
    let c : CopyId := 1;
    let rm : BitVec 3 := 0x4#3;
    ((s.dev.copy c).fetched 4) ∧
    (rm.toNat = 4 ∨ rm.toNat = 5 ∨ rm.toNat = 6)) := by
  refine ⟨?_, ?_, ?_, ?_, ?_⟩ <;> (try dsimp only [Copy.fetched, Copy.settled, Copy.canTrap, Copy.keepsStack, Copy.idleReady, Dev.letsWrite, Dev.hubAccepts, Dev.copyAccepts, ne_eq]) <;> decide +kernel

/-- States that meet the hypotheses of EventsEnter, clause by clause. -/
theorem witness_EventsEnter :
    (
    let s : State := st (Cc.sts.getD 8 Dev.reset);
    let c : CopyId := 1;
    let x := s.dev.copy c;
    let f := 0x5#32;
    let t := 0x9#48;
    ((s.dev.copy c).idleReady) ∧
    ((s.dev.copy c).drained = true) ∧
    (x.hush = false) ∧
    (x.tck = some (f, t)) ∧
    (x.refusals .iron = 0) ∧
    (x.keepsStack s.dev.env .iron)) ∧ (
    let s : State := st (Cc.sts.getD 4 Dev.reset);
    let c : CopyId := 1;
    let x := s.dev.copy c;
    ((s.dev.copy c).idleReady) ∧
    ((s.dev.copy c).drained = true) ∧
    (x.hush = false) ∧
    (x.tck = none) ∧
    (x.agr = true) ∧
    (x.refusals .iron = 0) ∧
    (x.keepsStack s.dev.env .iron)) ∧ (
    let s : State := st (Cc.sts.getD 2 Dev.reset);
    let c : CopyId := 1;
    let x := s.dev.copy c;
    let p : Fin 64 := 4;
    ((s.dev.copy c).idleReady) ∧
    ((s.dev.copy c).drained = true) ∧
    (x.hush = false) ∧
    (x.tck = none) ∧
    (x.agr = false) ∧
    (x.iron.pages.getLsbD p.val = true) ∧
    ((∀ q, q < p.val → x.iron.pages.getLsbD q = false)) ∧
    (x.refusals .iron = 0) ∧
    (x.keepsStack s.dev.env .iron)) ∧ (
    let s : State := st (Cc.sts.getD 1 Dev.reset);
    let c : CopyId := 1;
    let x := s.dev.copy c;
    let p : Fin 64 := 63;
    ((s.dev.copy c).idleReady) ∧
    ((s.dev.copy c).drained = true) ∧
    (x.hush = false) ∧
    (x.tck = none) ∧
    (x.agr = false) ∧
    (x.iron.pages = 0) ∧
    (x.world = .tin) ∧
    (x.tin.pages.getLsbD p.val = true) ∧
    ((∀ q, q < p.val → x.tin.pages.getLsbD q = false)) ∧
    (x.refusals .tin = 0) ∧
    (x.keepsStack s.dev.env .tin)) ∧ (
    let s : State := st (Cc.sts.getD 16 Dev.reset);
    let c : CopyId := 1;
    let x := s.dev.copy c;
    ((s.dev.copy c).idleReady) ∧
    ((s.dev.copy c).drained = true) ∧
    (x.hush = true)) ∧ (
    let s : State := st (Cc.sts.getD 16 Dev.reset);
    let c : CopyId := 1;
    let x := s.dev.copy c;
    ((s.dev.copy c).idleReady) ∧
    ((s.dev.copy c).drained = true) ∧
    (x.hushDue = true) ∧
    (x.refusals .iron = 0) ∧
    (x.ibusy = false) ∧
    (x.idflt = false) ∧
    ((x.world = .tin → x.tdflt = false)) ∧
    (x.keepsStack s.dev.env .iron)) := by
  refine ⟨?_, ?_, ?_, ?_, ?_, ?_⟩ <;> (try dsimp only [Copy.fetched, Copy.settled, Copy.canTrap, Copy.keepsStack, Copy.idleReady, Dev.letsWrite, Dev.hubAccepts, Dev.copyAccepts, ne_eq]) <;> decide +kernel

/-- States that meet the hypotheses of ControlRegisters, clause by clause. -/
theorem witness_ControlRegisters :
    (
    let s : State := st (Cc.sts.getD 0 Dev.reset);
    let c : CopyId := 1;
    let f : CsrForm := { op := CsrOp.rs, rd := 0x0#5, useImm := true, rs1 := 0x0#5 };
    ((s.dev.copy c).fetched 4) ∧
    ((s.dev.copy c).dbg = false) ∧
    (csrWrites f = false)) ∧ (
    let s : State := st (Cc.sts.getD 0 Dev.reset);
    let c : CopyId := 1;
    let f : CsrForm := { op := CsrOp.rs, rd := 0x0#5, useImm := true, rs1 := 0x0#5 };
    let x := s.dev.copy c;
    ((s.dev.copy c).fetched 4) ∧
    ((s.dev.copy c).dbg = false) ∧
    (x.ring = 0) ∧
    (csrReads f = true) ∧
    (csrWrites f = false) ∧
    (x.settled)) ∧ (
    let s : State := st (Cc.sts.getD 0 Dev.reset);
    let c : CopyId := 1;
    let f : CsrForm := { op := CsrOp.rw, rd := 0x0#5, useImm := true, rs1 := 0x0#5 };
    let x := s.dev.copy c;
    ((s.dev.copy c).fetched 4) ∧
    ((s.dev.copy c).dbg = false) ∧
    (x.ring = 0) ∧
    (csrReads f = false) ∧
    (csrWrites f = true)) ∧ (
    let s : State := st (Cc.sts.getD 0 Dev.reset);
    let c : CopyId := 1;
    let f : CsrForm := { op := CsrOp.rw, rd := 0x0#5, useImm := true, rs1 := 0x0#5 };
    let x := s.dev.copy c;
    let n : Fin 4 := 0;
    ((s.dev.copy c).fetched 4) ∧
    ((s.dev.copy c).dbg = false) ∧
    (x.ring = 0) ∧
    ((n.val = 1 ∨ n.val = 2 → x.world = .iron)) ∧
    (csrWrites f = true)) ∧ (
    let s : State := st (Cc.sts.getD 0 Dev.reset);
    let c : CopyId := 1;
    let f : CsrForm := { op := CsrOp.rw, rd := 0x0#5, useImm := true, rs1 := 0x0#5 };
    ((s.dev.copy c).fetched 4) ∧
    ((s.dev.copy c).dbg = false) ∧
    (csrWrites f = true)) ∧ (
    let s : State := st (Cc.sts.getD 0 Dev.reset);
    let c : CopyId := 1;
    let f : CsrForm := { op := CsrOp.rw, rd := 0x0#5, useImm := true, rs1 := 0x0#5 };
    let x := s.dev.copy c;
    ((s.dev.copy c).fetched 4) ∧
    ((s.dev.copy c).dbg = false) ∧
    (x.ring = 0) ∧
    (csrWrites f = true)) ∧ (
    let s : State := st (Cc.sts.getD 0 Dev.reset);
    let c : CopyId := 1;
    let f : CsrForm := { op := CsrOp.rw, rd := 0x0#5, useImm := true, rs1 := 0x1#5 };
    let x := s.dev.copy c;
    let operand : Word := if f.useImm then f.rs1.setWidth 32 else x.xr f.rs1;
    let new (old : Word) : Word := match f.op with
      | .rw => operand | .rs => old ||| operand | .rc => old &&& ~~~operand
    ((s.dev.copy c).fetched 4) ∧
    ((s.dev.copy c).dbg = false) ∧
    (x.world = .iron) ∧
    (x.ring = 0) ∧
    (csrWrites f = true) ∧
    (fld (new x.hushmax) 15 0 ≠ 0)) ∧ (
    let s : State := st (Cc.sts.getD 0 Dev.reset);
    let c : CopyId := 1;
    let f : CsrForm := { op := CsrOp.rw, rd := 0x0#5, useImm := true, rs1 := 0x0#5 };
    let x := s.dev.copy c;
    let csr : BitVec 12 := 0xfc4#12;
    ((s.dev.copy c).fetched 4) ∧
    ((s.dev.copy c).dbg = false) ∧
    ((csrAccess x.world x.ring csr.toNat = 0 ∨ (csrWrites f = true ∧ csrAccess x.world x.ring csr.toNat = 1)))) := by
  refine ⟨?_, ?_, ?_, ?_, ?_, ?_, ?_, ?_⟩ <;> (try dsimp only [Copy.fetched, Copy.settled, Copy.canTrap, Copy.keepsStack, Copy.idleReady, Dev.letsWrite, Dev.hubAccepts, Dev.copyAccepts, ne_eq]) <;> decide +kernel

/-- States that meet the hypotheses of BronzeArithmetic, clause by clause. -/
theorem witness_BronzeArithmetic :
    (
    let s : State := st (Cd.sts.getD 0 Dev.reset);
    let c : CopyId := 1;
    let x := s.dev.copy c;
    let rm : BitVec 3 := 0x0#3;
    let m : Nat := 0;
    ((s.dev.copy c).fetched 4) ∧
    (rmMode rm.toNat x.bstat = some m)) ∧ (
    let s : State := st (Cd.sts.getD 4 Dev.reset);
    let c : CopyId := 1;
    let x := s.dev.copy c;
    ((s.dev.copy c).fetched 4) ∧
    ((x.bmode = 1 ∨ x.bmode = 2))) ∧ (
    let s : State := st (Cd.sts.getD 4 Dev.reset);
    let c : CopyId := 1;
    let x := s.dev.copy c;
    ((s.dev.copy c).fetched 4) ∧
    ((x.bmode = 1 ∨ x.bmode = 2))) ∧ (
    let s : State := st (Cd.sts.getD 4 Dev.reset);
    let c : CopyId := 1;
    let x := s.dev.copy c;
    let imm : BitVec 12 := 0x0#12;
    let m : Nat := 0;
    let q := rangeCheck (if imm.getLsbD 10 then 16 else 32) (imm.getLsbD 6) (roundMode m x.acc.toInt (imm.extractLsb' 0 6).toNat);
    ((s.dev.copy c).fetched 4) ∧
    (rmMode (imm.extractLsb' 7 3).toNat x.bstat = some m) ∧
    ((x.bmode = 1 ∨ (x.bmode = 2 ∧ q.flags % 2 = 0)))) ∧ (
    let s : State := st (Cd.sts.getD 9 Dev.reset);
    let c : CopyId := 1;
    let x := s.dev.copy c;
    let imm : BitVec 12 := 0x0#12;
    let m : Nat := 0;
    let q := rangeCheck (if imm.getLsbD 10 then 16 else 32) (imm.getLsbD 6) (roundMode m x.acc.toInt (imm.extractLsb' 0 6).toNat);
    ((s.dev.copy c).fetched 4) ∧
    (rmMode (imm.extractLsb' 7 3).toNat x.bstat = some m) ∧
    (x.bmode = 2) ∧
    (q.flags % 2 = 1)) := by
  refine ⟨?_, ?_, ?_, ?_, ?_⟩ <;> (try dsimp only [Copy.fetched, Copy.settled, Copy.canTrap, Copy.keepsStack, Copy.idleReady, Dev.letsWrite, Dev.hubAccepts, Dev.copyAccepts, ne_eq]) <;> decide +kernel

/-- States that meet the hypotheses of BronzeFunctions, clause by clause. -/
theorem witness_BronzeFunctions :
    (
    let s : State := st (Cd.sts.getD 0 Dev.reset);
    let c : CopyId := 1;
    let rs1 : BitVec 5 := 0x7#5;
    let x := s.dev.copy c;
    let a := x.xr rs1;
    ((s.dev.copy c).fetched 4) ∧
    (wordInt a < 0)) ∧ (
    let s : State := st (Cd.sts.getD 0 Dev.reset);
    let c : CopyId := 1;
    let rs1 : BitVec 5 := 0x0#5;
    let x := s.dev.copy c;
    let a := x.xr rs1;
    ((s.dev.copy c).fetched 4) ∧
    (0 ≤ wordInt a)) ∧ (
    let s : State := st (Cd.sts.getD 0 Dev.reset);
    let c : CopyId := 1;
    let rs1 : BitVec 5 := 0x0#5;
    let x := s.dev.copy c;
    let a := x.xr rs1;
    ((s.dev.copy c).fetched 4) ∧
    (a = 0)) ∧ (
    let s : State := st (Cd.sts.getD 0 Dev.reset);
    let c : CopyId := 1;
    let rs1 : BitVec 5 := 0x5#5;
    let x := s.dev.copy c;
    let a := x.xr rs1;
    ((s.dev.copy c).fetched 4) ∧
    (0 < wordInt a)) := by
  refine ⟨?_, ?_, ?_, ?_⟩ <;> (try dsimp only [Copy.fetched, Copy.settled, Copy.canTrap, Copy.keepsStack, Copy.idleReady, Dev.letsWrite, Dev.hubAccepts, Dev.copyAccepts, ne_eq]) <;> decide +kernel

/-- States that meet the hypotheses of RoundingAndRange, clause by clause. -/
theorem witness_RoundingAndRange :
    (
    let m : Nat := 0;
    (m = 0 ∨ m = 1)) ∧ (
    let m : Nat := 2;
    let n : Int := 0;
    (m = 2) ∧
    (0 ≤ n)) ∧ (
    let m : Nat := 2;
    let n : Int := 0;
    (m = 2) ∧
    (n ≤ 0)) ∧ (
    let m : Nat := 3;
    (m = 3)) ∧ (
    let w : Nat := 1;
    let v : Int := 0;
    let lo : Int := -(2 ^ (w - 1));
    let hi : Int := 2 ^ (w - 1) - 1;
    (0 < w) ∧
    (lo ≤ v) ∧
    (v ≤ hi)) ∧ (
    let w : Nat := 1;
    let sat : Bool := true;
    let v : Int := -7;
    let lo : Int := -(2 ^ (w - 1));
    (0 < w) ∧
    (v < lo) ∧
    (sat = true)) ∧ (
    let w : Nat := 1;
    let sat : Bool := true;
    let v : Int := 1;
    let hi : Int := 2 ^ (w - 1) - 1;
    (0 < w) ∧
    (hi < v) ∧
    (sat = true)) ∧ (
    let w : Nat := 1;
    let sat : Bool := false;
    let v : Int := 1;
    let lo : Int := -(2 ^ (w - 1));
    let hi : Int := 2 ^ (w - 1) - 1;
    (0 < w) ∧
    (v < lo ∨ hi < v) ∧
    (sat = false)) := by
  refine ⟨?_, ?_, ?_, ?_, ?_, ?_, ?_, ?_⟩ <;> (try dsimp only [Copy.fetched, Copy.settled, Copy.canTrap, Copy.keepsStack, Copy.idleReady, Dev.letsWrite, Dev.hubAccepts, Dev.copyAccepts, ne_eq]) <;> decide +kernel

/-- States that meet the hypotheses of SqrtCorrectlyRounded, clause by clause. -/
theorem witness_SqrtCorrectlyRounded :
    (
    let x : Word := 0x5#32;
    let r := (sqrtQ x).1.toNat;
    (0 ≤ wordInt x) ∧
    (0 < r)) := by
  (try dsimp only [Copy.fetched, Copy.settled, Copy.canTrap, Copy.keepsStack, Copy.idleReady, Dev.letsWrite, Dev.hubAccepts, Dev.copyAccepts, ne_eq]) <;> decide +kernel

/-- States that meet the hypotheses of FlitAcceptance, clause by clause. -/
theorem witness_FlitAcceptance :
    (
    let s : State := st ((Link.linkStates ++ Link.wx).getD 0 Dev.reset);
    let c : CopyId := 0;
    let h : Hdr := { seq := 0x0#12, ack := 0xfff#12 };
    let x := s.dev.copy c;
    (x.powered = true) ∧
    (x.link = .active) ∧
    (h.seq = x.side.expSeq)) ∧ (
    let s : State := st ((Link.linkStates ++ Link.wx).getD 0 Dev.reset);
    let c : CopyId := 0;
    let h : Hdr := { seq := 0xfff#12, ack := 0x3#12 };
    let x := s.dev.copy c;
    let back := (x.side.expSeq.toNat + 4096 - h.seq.toNat) % 4096;
    (x.powered = true) ∧
    (x.link = .active) ∧
    (h.seq ≠ x.side.expSeq) ∧
    (back ≤ 2176)) ∧ (
    let s : State := st ((Link.linkStates ++ Link.wx).getD 0 Dev.reset);
    let c : CopyId := 0;
    let h : Hdr := { seq := 0x1#12, ack := 0x2#12 };
    let x := s.dev.copy c;
    let back := (x.side.expSeq.toNat + 4096 - h.seq.toNat) % 4096;
    (x.powered = true) ∧
    (x.link = .active) ∧
    (h.seq ≠ x.side.expSeq) ∧
    (2176 < back)) ∧ (
    let s : State := st ((Link.linkStates ++ Link.wx).getD 1 Dev.reset);
    let c : CopyId := 0;
    let h : Hdr := { seq := 0x1#12, ack := 0x2#12 };
    let x := s.dev.copy c;
    let q := 0x1#12;
    let f := CopyFlit.retrep 0x1#48 0x0#8 0x0#2;
    let rest := [(0x2#12, CopyFlit.retrep 0x1#48 0x0#8 0x0#2), (0x3#12, CopyFlit.retrep 0x1#48 0x0#8 0x0#2)];
    let k := (h.ack.toNat + 4096 - q.toNat) % 4096;
    (x.powered = true) ∧
    (x.link = .active) ∧
    (x.side.unacked = (q, f) :: rest) ∧
    (x.side.queue = []) ∧
    (k ≤ rest.length)) ∧ (
    let s : State := st ((Link.linkStates ++ Link.wx).getD 1 Dev.reset);
    let c : CopyId := 0;
    let h : Hdr := { seq := 0x0#12, ack := 0xfff#12 };
    let x := s.dev.copy c;
    let q := 0x1#12;
    let f := CopyFlit.retrep 0x1#48 0x0#8 0x0#2;
    let rest := [(0x2#12, CopyFlit.retrep 0x1#48 0x0#8 0x0#2), (0x3#12, CopyFlit.retrep 0x1#48 0x0#8 0x0#2)];
    let k := (h.ack.toNat + 4096 - q.toNat) % 4096;
    (x.powered = true) ∧
    (x.link = .active) ∧
    (x.side.unacked = (q, f) :: rest) ∧
    (x.side.queue = []) ∧
    (rest.length < k)) ∧ (
    let s : State := st ((Link.linkStates ++ Link.wx).getD 0 Dev.reset);
    let c : CopyId := 0;
    let h : Hdr := { seq := 0x0#12, ack := 0xfff#12 };
    let L := s.dev.link c;
    (s.dev.lstate c = 7) ∧
    (h.seq = L.side.expSeq)) ∧ (
    let s : State := st ((Link.linkStates ++ Link.wx).getD 0 Dev.reset);
    let c : CopyId := 0;
    let h : Hdr := { seq := 0xfff#12, ack := 0x3#12 };
    let L := s.dev.link c;
    let back := (L.side.expSeq.toNat + 4096 - h.seq.toNat) % 4096;
    (s.dev.lstate c = 7) ∧
    (h.seq ≠ L.side.expSeq) ∧
    (back ≤ 2176)) ∧ (
    let s : State := st ((Link.linkStates ++ Link.wx).getD 0 Dev.reset);
    let c : CopyId := 0;
    let h : Hdr := { seq := 0x1#12, ack := 0x2#12 };
    let L := s.dev.link c;
    let back := (L.side.expSeq.toNat + 4096 - h.seq.toNat) % 4096;
    (s.dev.lstate c = 7) ∧
    (h.seq ≠ L.side.expSeq) ∧
    (2176 < back)) := by
  refine ⟨?_, ?_, ?_, ?_, ?_, ?_, ?_, ?_⟩ <;> (try dsimp only [Copy.fetched, Copy.settled, Copy.canTrap, Copy.keepsStack, Copy.idleReady, Dev.letsWrite, Dev.hubAccepts, Dev.copyAccepts, ne_eq]) <;> decide +kernel

/-- States that meet the hypotheses of LinkTimersAndGrants, clause by clause. -/
theorem witness_LinkTimersAndGrants :
    (
    let s : State := st ((Link.linkStates ++ Link.wx).getD 1 Dev.reset);
    let c : CopyId := 0;
    let x := s.dev.copy c;
    let t := 50000;
    (t ≤ s.dev.now) ∧
    (x.link = .active) ∧
    (x.side.ackDue = some t)) ∧ (
    let s : State := st ((Link.linkStates ++ Link.wx).getD 1 Dev.reset);
    let c : CopyId := 0;
    let L := s.dev.link c;
    let t := 49990;
    (t ≤ s.dev.now) ∧
    (s.dev.lstate c = 7) ∧
    (L.side.ackDue = some t)) ∧ (
    let s : State := st ((Link.linkStates ++ Link.wx).getD 1 Dev.reset);
    let c : CopyId := 0;
    let x := s.dev.copy c;
    let t := 49000;
    (t ≤ s.dev.now) ∧
    (x.link = .active) ∧
    (x.side.replayDue = some t) ∧
    (x.side.timeouts < fld x.tmr 18 16)) ∧ (
    let s : State := st ((Link.linkStates ++ Link.wx).getD 2 Dev.reset);
    let c : CopyId := 0;
    let x := s.dev.copy c;
    let t := 49000;
    (t ≤ s.dev.now) ∧
    (x.link = .active) ∧
    (x.side.replayDue = some t) ∧
    (fld x.tmr 18 16 ≤ x.side.timeouts)) ∧ (
    let s : State := st ((Link.linkStates ++ Link.wx).getD 1 Dev.reset);
    let c : CopyId := 0;
    let L := s.dev.link c;
    let t := 49000;
    (t ≤ s.dev.now) ∧
    (s.dev.lstate c = 7) ∧
    (L.side.replayDue = some t) ∧
    (L.side.timeouts < fld (s.dev.reg Reg.link_TMR) 18 16)) ∧ (
    let s : State := st ((Link.linkStates ++ Link.wx).getD 2 Dev.reset);
    let c : CopyId := 0;
    let L := s.dev.link c;
    let t := 49000;
    (t ≤ s.dev.now) ∧
    (s.dev.lstate c = 7) ∧
    (L.side.replayDue = some t) ∧
    (L.resyncEnd = none) ∧
    (fld (s.dev.reg Reg.link_TMR) 18 16 ≤ L.side.timeouts)) ∧ (
    let s : State := st ((Link.linkStates ++ Link.wx).getD 0 Dev.reset);
    let c : CopyId := 0;
    let x := s.dev.copy c;
    (x.link = .active) ∧
    (x.side.lastGood + 4 * fld x.tmr 31 22 ≤ s.dev.now)) ∧ (
    let s : State := st ((Link.linkStates ++ Link.wx).getD 0 Dev.reset);
    let c : CopyId := 0;
    let L := s.dev.link c;
    (s.dev.lstate c = 7) ∧
    (L.resyncEnd = none) ∧
    (L.side.lastGood + 4 * fld (s.dev.reg Reg.link_TMR) 31 22 ≤ s.dev.now)) ∧ (
    let s : State := st ((Link.linkStates ++ Link.wx).getD 0 Dev.reset);
    let c : CopyId := 0;
    let g : Half := 0x7fff#16;
    let x := s.dev.copy c;
    (x.powered = true) ∧
    (x.link = .active) ∧
    (x.wait = .none) ∧
    (x.dbgDue = false) ∧
    (0 < (g - x.grant).toNat) ∧
    ((g - x.grant).toNat ≤ 32767)) ∧ (
    let s : State := st ((Link.linkStates ++ Link.wx).getD 0 Dev.reset);
    let c : CopyId := 0;
    let g : Half := 0x0#16;
    let x := s.dev.copy c;
    (x.powered = true) ∧
    (x.link = .active) ∧
    (x.wait = .none) ∧
    (x.dbgDue = false) ∧
    (32767 < (g - x.grant).toNat)) ∧ (
    let s : State := st ((Link.linkStates ++ Link.wx).getD 0 Dev.reset);
    let c : CopyId := 0;
    (s.dev.lstate c = 7)) ∧ (
    let s : State := st ((Link.linkStates ++ Link.wx).getD 1 Dev.reset);
    let c : CopyId := 0;
    let L := s.dev.link c;
    let t := 49990;
    (t ≤ s.dev.now) ∧
    (s.dev.lstate c = 7) ∧
    (L.grantDue = some t)) ∧ (
    let s : State := st ((Link.linkStates ++ Link.wx).getD 0 Dev.reset);
    let c : CopyId := 0;
    let f : BitVec 256 := 0x0#256;
    let x := s.dev.copy c;
    ((flitCrc f ≠ f.extractLsb' 0 32)) ∧
    (s.dev.lstate c = 7) ∧
    (x.link = .active)) ∧ (
    let f : BitVec 256 := 0xf7c9c769#256;
    (flitCrc f = f.extractLsb' 0 32)) := by
  refine ⟨?_, ?_, ?_, ?_, ?_, ?_, ?_, ?_, ?_, ?_, ?_, ?_, ?_, ?_⟩ <;> (try dsimp only [Copy.fetched, Copy.settled, Copy.canTrap, Copy.keepsStack, Copy.idleReady, Dev.letsWrite, Dev.hubAccepts, Dev.copyAccepts, ne_eq]) <;> decide +kernel

/-- States that meet the hypotheses of LinkTraining, clause by clause. -/
theorem witness_LinkTraining :
    (
    let s : State := st ((Link.linkStates ++ Link.wx).getD 6 Dev.reset);
    let c : CopyId := 0;
    let ok : Bool := true;
    let st := s.dev.lstate c;
    let met := s.dev.trainMet c st ok;
    (1 ≤ st) ∧
    (st ≤ 6) ∧
    ((s.dev.link c).stateDue ≤ s.dev.now) ∧
    (st ≤ 5) ∧
    (met = true)) ∧ (
    let s : State := st ((Link.linkStates ++ Link.wx).getD 32 Dev.reset);
    let c : CopyId := 0;
    let ok : Bool := true;
    let st := s.dev.lstate c;
    let met := s.dev.trainMet c st ok;
    (1 ≤ st) ∧
    (st ≤ 6) ∧
    ((s.dev.link c).stateDue ≤ s.dev.now) ∧
    (st = 6) ∧
    (met = true)) ∧ (
    let s : State := st ((Link.linkStates ++ Link.wx).getD 6 Dev.reset);
    let c : CopyId := 0;
    let ok : Bool := false;
    let st := s.dev.lstate c;
    let att := s.dev.rfld (Reg.linkx_STAT c.val) 23 16;
    let met := s.dev.trainMet c st ok;
    (1 ≤ st) ∧
    (st ≤ 6) ∧
    ((s.dev.link c).stateDue ≤ s.dev.now) ∧
    (met = false) ∧
    (att < 3)) ∧ (
    let s : State := st ((Link.linkStates ++ Link.wx).getD 8 Dev.reset);
    let c : CopyId := 0;
    let ok : Bool := false;
    let st := s.dev.lstate c;
    let att := s.dev.rfld (Reg.linkx_STAT c.val) 23 16;
    let met := s.dev.trainMet c st ok;
    (1 ≤ st) ∧
    (st ≤ 6) ∧
    ((s.dev.link c).stateDue ≤ s.dev.now) ∧
    (met = false) ∧
    (3 ≤ att)) ∧ (
    let s : State := st ((Link.linkStates ++ Link.wx).getD 26 Dev.reset);
    let c : CopyId := 0;
    let L := s.dev.link c;
    (s.dev.inAlign c = true) ∧
    (L.tr.seenH < 32)) ∧ (
    let s : State := st ((Link.linkStates ++ Link.wx).getD 26 Dev.reset);
    let c : CopyId := 0;
    let L := s.dev.link c;
    (s.dev.inAlign c = true) ∧
    (L.tr.seenC < 32)) ∧ (
    let s : State := st ((Link.linkStates ++ Link.wx).getD 35 Dev.reset);
    let c : CopyId := 0;
    let L := s.dev.link c;
    let m := { roleHub := false, width := false, rate := 0x0#2, mode := 0x0#2, expSeq := 0x5#12, restart := false, seq := 0x9#12 };
    (s.dev.inConfig c = true) ∧
    (L.tr.cfgC = some m) ∧
    (L.tr.seenC < 8)) ∧ (
    let s : State := st ((Link.linkStates ++ Link.wx).getD 49 Dev.reset);
    let c : CopyId := 0;
    let L := s.dev.link c;
    let m : ConfigMsg := { roleHub := true, width := false, rate := 0x0#2, mode := 0x0#2, expSeq := 0x3#12, restart := false, seq := 0x9#12 };
    let o : ConfigMsg := { roleHub := false, width := false, rate := 0x0#2, mode := 0x0#2, expSeq := 0x5#12, restart := false, seq := 0x9#12 };
    (s.dev.inConfig c = true) ∧
    (L.tr.cfgH = some o) ∧
    ({ o with seq := m.seq } ≠ m) ∧
    (L.tr.seenH < 8)) ∧ (
    let s : State := st ((Link.linkStates ++ Link.wx).getD 31 Dev.reset);
    let c : CopyId := 0;
    (s.dev.calTime c = true)) ∧ (
    let s : State := st ((Link.linkStates ++ Link.wx).getD 36 Dev.reset);
    let c : CopyId := 0;
    let x := s.dev.copy c;
    let p := 0x4d#32;
    (s.dev.calTime c = true) ∧
    (x.echo = some p)) ∧ (
    let s : State := st ((Link.linkStates ++ Link.wx).getD 36 Dev.reset);
    let c : CopyId := 0;
    let x := s.dev.copy c;
    (s.dev.calTime c = true) ∧
    (x.sense.calWords = [none, none, none, none])) ∧ (
    let s : State := st ((Link.linkStates ++ Link.wx).getD 37 Dev.reset);
    let c : CopyId := 0;
    let x := s.dev.copy c;
    let a := [0x1#32, 0x2#32, 0x3#32, 0x4#32, 0x5#32, 0x6#32, 0x7#32];
    let b := [0x1#32, 0x2#32, 0x3#32, 0x4#32, 0x5#32, 0x6#32, 0x7#32];
    let e := [0x1#32, 0x2#32, 0x3#32, 0x4#32, 0x5#32, 0x6#32, 0x7#32];
    (s.dev.calTime c = true) ∧
    (x.sense.calWords = [some a, some b, some e, none]) ∧
    (a.length = 7) ∧
    (b.length = 7)) ∧ (
    let s : State := st ((Link.linkStates ++ Link.wx).getD 38 Dev.reset);
    let c : CopyId := 0;
    let x := s.dev.copy c;
    let L := s.dev.link c;
    (s.dev.lstate c = 9) ∧
    (L.stateDue ≤ s.dev.now) ∧
    (x.calWhole = true)) := by
  refine ⟨?_, ?_, ?_, ?_, ?_, ?_, ?_, ?_, ?_, ?_, ?_, ?_, ?_⟩ <;> (try dsimp only [Copy.fetched, Copy.settled, Copy.canTrap, Copy.keepsStack, Copy.idleReady, Dev.letsWrite, Dev.hubAccepts, Dev.copyAccepts, ne_eq]) <;> decide +kernel

/-- States that meet the hypotheses of LinkResync, clause by clause. -/
theorem witness_LinkResync :
    (
    let s : State := st ((Link.linkStates ++ Link.wx).getD 40 Dev.reset);
    let c : CopyId := 0;
    let x := s.dev.copy c;
    let L := s.dev.link c;
    (s.dev.lstate c = 8) ∧
    (L.stateDue ≤ s.dev.now) ∧
    (x.link = .resync) ∧
    (L.tr.phase = 0)) ∧ (
    let s : State := st ((Link.linkStates ++ Link.wx).getD 41 Dev.reset);
    let c : CopyId := 0;
    let x := s.dev.copy c;
    let L := s.dev.link c;
    (s.dev.lstate c = 8) ∧
    (L.stateDue ≤ s.dev.now) ∧
    (x.link = .resync) ∧
    (L.tr.phase = 1) ∧
    (L.aligned = true)) ∧ (
    let s : State := st ((Link.linkStates ++ Link.wx).getD 42 Dev.reset);
    let c : CopyId := 0;
    let x := s.dev.copy c;
    let L := s.dev.link c;
    let mh := { roleHub := true, width := false, rate := 0x0#2, mode := 0x0#2, expSeq := 0x3#12, restart := false, seq := 0x9#12 };
    let mc := { roleHub := false, width := false, rate := 0x0#2, mode := 0x0#2, expSeq := 0x5#12, restart := false, seq := 0x9#12 };
    (s.dev.lstate c = 8) ∧
    (L.stateDue ≤ s.dev.now) ∧
    (x.link = .resync) ∧
    (L.tr.phase = 2) ∧
    (L.configured = true) ∧
    (L.tr.cfgH = some mh) ∧
    (L.tr.cfgC = some mc)) ∧ (
    let s : State := st ((Link.linkStates ++ Link.wx).getD 40 Dev.reset);
    let c : CopyId := 0;
    let ok : Bool := false;
    let x := s.dev.copy c;
    let L := s.dev.link c;
    (s.dev.lstate c = 8) ∧
    (L.stateDue ≤ s.dev.now) ∧
    ((ok = false ∨ x.link ≠ .resync))) ∧ (
    let s : State := st ((Link.linkStates ++ Link.wx).getD 44 Dev.reset);
    let c : CopyId := 0;
    let x := s.dev.copy c;
    (s.dev.lstate c = 8) ∧
    (x.link = .active)) ∧ (
    let s : State := st ((Link.linkStates ++ Link.wx).getD 45 Dev.reset);
    let c : CopyId := 0;
    let x := s.dev.copy c;
    let L := s.dev.link c;
    (s.dev.lstate c = 7) ∧
    (x.link = .resync) ∧
    (L.resyncEnd = none)) ∧ (
    let s : State := st ((Link.linkStates ++ Link.wx).getD 1 Dev.reset);
    let c : CopyId := 0;
    let x := s.dev.copy c;
    let q := 0x1#12;
    let f := CopyFlit.retrep 0x1#48 0x0#8 0x0#2;
    (x.link = .active) ∧
    ((q, f) ∈ x.side.unacked)) ∧ (
    let s : State := st ((Link.linkStates ++ Link.wx).getD 1 Dev.reset);
    let c : CopyId := 0;
    let L := s.dev.link c;
    let q := 0x1#12;
    let e := HubFlit.wrack 0x5#32 0x3#6 0x0#8;
    (s.dev.liveLink c = true) ∧
    (L.side.unacked.find? (fun u => u.1 == q) = some (q, e)) ∧
    (e.isResponse = true)) ∧ (
    let s : State := st ((Link.linkStates ++ Link.wx).getD 1 Dev.reset);
    let c : CopyId := 0;
    let L := s.dev.link c;
    let q := 0x2#12;
    let e := HubFlit.drp 0x0#2 0x1#8 0x2#48 { tck := false, agr := false, dbg := false, pages := 0x0#64 };
    (s.dev.liveLink c = true) ∧
    (L.side.unacked.find? (fun u => u.1 == q) = some (q, e)) ∧
    (e.isResponse = false)) := by
  refine ⟨?_, ?_, ?_, ?_, ?_, ?_, ?_, ?_, ?_⟩ <;> (try dsimp only [Copy.fetched, Copy.settled, Copy.canTrap, Copy.keepsStack, Copy.idleReady, Dev.letsWrite, Dev.hubAccepts, Dev.copyAccepts, ne_eq]) <;> decide +kernel

/-- States that meet the hypotheses of FramesAndTime, clause by clause. -/
theorem witness_FramesAndTime :
    (
    let s : State := st ((Link.linkStates ++ Link.wx).getD 0 Dev.reset);
    let c : CopyId := 0;
    let frame : Word := 0x32045190#32;
    let x := s.dev.copy c;
    let t := x.time;
    (x.linked = true) ∧
    (t.valid = true) ∧
    (t.frame ≠ frame) ∧
    (0 < t.per.toNat)) ∧ (
    let s : State := st ((Link.linkStates ++ Link.wx).getD 47 Dev.reset);
    let c : CopyId := 0;
    let x := s.dev.copy c;
    let t := x.time;
    (x.linked = true) ∧
    (t.valid = false)) ∧ (
    let s : State := st ((Link.linkStates ++ Link.wx).getD 0 Dev.reset);
    let c : CopyId := 0;
    let frame : Word := 0x0#32;
    let x := s.dev.copy c;
    let t := x.time;
    (x.linked = true) ∧
    (t.valid = true) ∧
    (t.frame = frame)) ∧ (
    let s : State := st ((Link.linkStates ++ Link.wx).getD 0 Dev.reset);
    let c : CopyId := 0;
    let x := s.dev.copy c;
    let t := x.time;
    (x.powered = true) ∧
    (t.valid = true)) ∧ (
    let s : State := st ((Link.linkStates ++ Link.wx).getD 0 Dev.reset);
    let c : CopyId := 0;
    let h := { seq := 0x0#12, ack := 0xfff#12 };
    (s.dev.copyAccepts c h)) ∧ (
    let s : State := st ((Sense.senseStates ++ Sense.wx).getD 1 Dev.reset);
    let d0 := s.dev;
    (d0.frames = true)) ∧ (
    let s : State := st ((Sense.senseStates ++ Sense.wx).getD 19 Dev.reset);
    let d0 := s.dev;
    let p : PageId := 21;
    let c : Commit := { page := 21, word := 0xc5000006#32, vals := [(86080, 0x1234#32), (86084, 0xffffffff#32)], stream := false, admitted := true, csn := none, src := Src.hub };
    let e := (86080, 0x1234#32);
    (d0.pendingSet p.val = some c) ∧
    (isFramePage p.val = true) ∧
    (c.page = p.val) ∧
    ((∀ e ∈ c.vals, e.1 / 0x1000 = p.val ∧ 0x30 ≤ e.1 % 0x1000)) ∧
    ((c.vals.map (fun e => e.1)).Nodup) ∧
    (e ∈ (c.vals))) ∧ (
    let s : State := st ((Sense.senseStates ++ Sense.wx).getD 22 Dev.reset);
    let d0 := s.dev;
    let g : AdmId := 0;
    let win := d0.rfld (admBase g.val) 7 0;
    (win ≠ 0) ∧
    (d0.rbit Reg.sys_OVLSUM g.val = false) ∧
    (win ≤ (d0.ovlGet g.val).2.1)) ∧ (
    let s : State := st ((Sense.senseStates ++ Sense.wx).getD 23 Dev.reset);
    let d0 := s.dev;
    let g : AdmId := 3;
    let win := d0.rfld (admBase g.val) 7 0;
    (d0.rbit Reg.sys_OVLSUM g.val = true) ∧
    ((win = 0 ∨ win ≤ (d0.ovlGet g.val).2.2))) ∧ (
    let s : State := st ((Sense.senseStates ++ Sense.wx).getD 24 Dev.reset);
    let d0 := s.dev;
    let g : AdmId := 0;
    let win := d0.rfld (admBase g.val) 7 0;
    (win = 0) ∧
    (d0.rbit Reg.sys_OVLSUM g.val = false)) := by
  refine ⟨?_, ?_, ?_, ?_, ?_, ?_, ?_, ?_, ?_, ?_⟩ <;> (try dsimp only [Copy.fetched, Copy.settled, Copy.canTrap, Copy.keepsStack, Copy.idleReady, Dev.letsWrite, Dev.hubAccepts, Dev.copyAccepts, ne_eq]) <;> decide +kernel

/-- States that meet the hypotheses of CopyDeliveries, clause by clause. -/
theorem witness_CopyDeliveries :
    (
    let s : State := st (Copy.copyStates.getD 0 Dev.reset);
    let c : CopyId := 0;
    let h : Hdr := { seq := 0x0#12, ack := 0xfff#12 };
    let id : Byte := 0x7#8;
    let p : BitVec 48 := 0xc8#48;
    let ev : Events := { tck := true, agr := true, dbg := false, pages := 0xf0#64 };
    let x := s.dev.copy c;
    let i : Instr := Instr.drpPropose 0 { seq := 0x0#12, ack := 0xfff#12 } 0x7#8 0xc8#48 { tck := true, agr := true, dbg := false, pages := 0xf0#64 };
    (s.dev.copyAccepts c h) ∧
    ((i = .drpPropose c h id p ev ∨ i = .drpReplace c h id p ev)) ∧
    (x.stop = none) ∧
    ((p - x.retire).toNat < 2 ^ 47)) ∧ (
    let s : State := st (Copy.copyStates.getD 0 Dev.reset);
    let c : CopyId := 0;
    let h : Hdr := { seq := 0x0#12, ack := 0xfff#12 };
    let id : Byte := 0x7#8;
    let p : BitVec 48 := 0x9#48;
    let ev : Events := { tck := true, agr := true, dbg := false, pages := 0xf0#64 };
    let x := s.dev.copy c;
    let i : Instr := Instr.drpPropose 0 { seq := 0x0#12, ack := 0xfff#12 } 0x7#8 0x9#48 { tck := true, agr := true, dbg := false, pages := 0xf0#64 };
    (s.dev.copyAccepts c h) ∧
    ((i = .drpPropose c h id p ev ∨ i = .drpReplace c h id p ev)) ∧
    (x.stop = none) ∧
    (2 ^ 47 ≤ (p - x.retire).toNat)) ∧ (
    let s : State := st (Copy.copyStates.getD 2 Dev.reset);
    let c : CopyId := 0;
    let h : Hdr := { seq := 0x0#12, ack := 0xfff#12 };
    let id : Byte := 0x7#8;
    let x := s.dev.copy c;
    let a := { id := 0x7#8, d := 0x9#48, ev := { tck := true, agr := true, dbg := false, pages := 0xf0#64 }, confirmed := true };
    (s.dev.copyAccepts c h) ∧
    (x.armed = some a) ∧
    (a.id = id)) ∧ (
    let s : State := st (Copy.copyStates.getD 2 Dev.reset);
    let c : CopyId := 0;
    let h : Hdr := { seq := 0x0#12, ack := 0xfff#12 };
    let id : Byte := 0x0#8;
    let x := s.dev.copy c;
    let a := { id := 0x7#8, d := 0x9#48, ev := { tck := true, agr := true, dbg := false, pages := 0xf0#64 }, confirmed := true };
    (s.dev.copyAccepts c h) ∧
    (x.armed = some a) ∧
    (a.id ≠ id)) ∧ (
    let s : State := st (Copy.copyStates.getD 2 Dev.reset);
    let c : CopyId := 0;
    let x := s.dev.copy c;
    let a := { id := 0x7#8, d := 0x9#48, ev := { tck := true, agr := true, dbg := false, pages := 0xf0#64 }, confirmed := true };
    (x.armed = some a) ∧
    (a.confirmed = true) ∧
    (x.retire = a.d + 1) ∧
    (x.runs = true) ∧
    (x.dbg = false) ∧
    (a.ev.dbg = false)) ∧ (
    let s : State := st (Copy.copyStates.getD 3 Dev.reset);
    let c : CopyId := 0;
    let x := s.dev.copy c;
    let a := { id := 0x7#8, d := 0x9#48, ev := { tck := false, agr := true, dbg := true, pages := 0x0#64 }, confirmed := true };
    (x.armed = some a) ∧
    (a.confirmed = true) ∧
    (x.retire = a.d + 1) ∧
    (x.runs = true) ∧
    (a.ev.dbg = true) ∧
    (x.settled)) := by
  refine ⟨?_, ?_, ?_, ?_, ?_, ?_⟩ <;> (try dsimp only [Copy.fetched, Copy.settled, Copy.canTrap, Copy.keepsStack, Copy.idleReady, Dev.letsWrite, Dev.hubAccepts, Dev.copyAccepts, ne_eq]) <;> decide +kernel

/-- States that meet the hypotheses of CopyRelease, clause by clause. -/
theorem witness_CopyRelease :
    (
    let s : State := st (Copy.copyStates.getD 0 Dev.reset);
    let c : CopyId := 0;
    let h : Hdr := { seq := 0x0#12, ack := 0xfff#12 };
    let relset : BitVec 3 := 0x7#3;
    (s.dev.copyAccepts c h) ∧
    (relset.getLsbD c.val = true)) ∧ (
    let s : State := st (Copy.copyStates.getD 0 Dev.reset);
    let c : CopyId := 0;
    let h : Hdr := { seq := 0x0#12, ack := 0xfff#12 };
    let relset : BitVec 3 := 0x4#3;
    (s.dev.copyAccepts c h) ∧
    (relset.getLsbD c.val = false)) := by
  refine ⟨?_, ?_⟩ <;> (try dsimp only [Copy.fetched, Copy.settled, Copy.canTrap, Copy.keepsStack, Copy.idleReady, Dev.letsWrite, Dev.hubAccepts, Dev.copyAccepts, ne_eq]) <;> decide +kernel

/-- States that meet the hypotheses of ResponsesAtCopy, clause by clause. -/
theorem witness_ResponsesAtCopy :
    (
    let s : State := st (Copy.copyStates.getD 7 Dev.reset);
    let c : CopyId := 0;
    let h : Hdr := { seq := 0x0#12, ack := 0xfff#12 };
    let csn : Word := 0x7#32;
    let tag : BitVec 6 := 0x3#6;
    let status : Byte := 0x0#8;
    let w : CWord := { data := 0x12345678#32, ecc := 0x7a#7 };
    let r := s.dev.acceptedCopy c h;
    let o := { tag := 0x3#6, ty := ReqType.read, req := { csn := 0x7#32, retire := 0xa#48, tag := 0x3#6, world := World.iron, ring := 0, cls := 0x1#2, reissue := false, be := 0xf#4, addr := 0x20000010#32, data := 0x5#32, ecc := 0x0#7, rcrc := 0x0#8 }, use := RespUse.loadWait (LoadKind.lbu) 0x5#5 0x20000011#32 true, line0 := none };
    let k := LoadKind.lbu;
    let rd := 0x5#5;
    let a := 0x20000011#32;
    let cached := true;
    let len := 2;
    let v := 0x12345678#32;
    (s.dev.copyAccepts c h) ∧
    (r.owner tag = some o) ∧
    (o.ty = .read) ∧
    (o.req.csn = csn) ∧
    (o.use = .loadWait k rd a cached) ∧
    (r.wait = .load len) ∧
    (r.stop = none) ∧
    (r.dbg = false) ∧
    (isRefused status = false) ∧
    (checkVal w.data w.ecc (wordOf a) = some v)) ∧ (
    let s : State := st (Copy.copyStates.getD 7 Dev.reset);
    let c : CopyId := 0;
    let h : Hdr := { seq := 0x0#12, ack := 0xfff#12 };
    let csn : Word := 0x7#32;
    let tag : BitVec 6 := 0x3#6;
    let status : Byte := 0xa6#8;
    let r := s.dev.acceptedCopy c h;
    let out1 := r.out.filter (fun (o : Outst) => o.tag != tag);
    let o := { tag := 0x3#6, ty := ReqType.read, req := { csn := 0x7#32, retire := 0xa#48, tag := 0x3#6, world := World.iron, ring := 0, cls := 0x1#2, reissue := false, be := 0xf#4, addr := 0x20000010#32, data := 0x5#32, ecc := 0x0#7, rcrc := 0x0#8 }, use := RespUse.loadWait (LoadKind.lbu) 0x5#5 0x20000011#32 true, line0 := none };
    let k := LoadKind.lbu;
    let rd := 0x5#5;
    let a := 0x20000011#32;
    let cached := true;
    let len := 2;
    let z : Copy := { r with out := out1, wait := .none };
    (s.dev.copyAccepts c h) ∧
    (r.owner tag = some o) ∧
    (o.ty = .read) ∧
    (o.req.csn = csn) ∧
    (o.use = .loadWait k rd a cached) ∧
    (r.wait = .load len) ∧
    (r.stop = none) ∧
    (r.dbg = false) ∧
    (z.canTrap) ∧
    (z.keepsStack s.dev.env z.world) ∧
    (isRefused status = true)) ∧ (
    let s : State := st (Copy.copyStates.getD 7 Dev.reset);
    let c : CopyId := 0;
    let h : Hdr := { seq := 0x0#12, ack := 0xfff#12 };
    let csn : Word := 0x7#32;
    let tag : BitVec 6 := 0x3#6;
    let status : Byte := 0x0#8;
    let w : CWord := { data := 0x1234567b#32, ecc := 0x7a#7 };
    let r := s.dev.acceptedCopy c h;
    let out1 := r.out.filter (fun (o : Outst) => o.tag != tag);
    let o := { tag := 0x3#6, ty := ReqType.read, req := { csn := 0x7#32, retire := 0xa#48, tag := 0x3#6, world := World.iron, ring := 0, cls := 0x1#2, reissue := false, be := 0xf#4, addr := 0x20000010#32, data := 0x5#32, ecc := 0x0#7, rcrc := 0x0#8 }, use := RespUse.loadWait (LoadKind.lbu) 0x5#5 0x20000011#32 true, line0 := none };
    let k := LoadKind.lbu;
    let rd := 0x5#5;
    let a := 0x20000011#32;
    let cached := true;
    let len := 2;
    let z : Copy := { r with out := out1, wait := .none };
    (s.dev.copyAccepts c h) ∧
    (r.owner tag = some o) ∧
    (o.ty = .read) ∧
    (o.req.csn = csn) ∧
    (o.use = .loadWait k rd a cached) ∧
    (r.wait = .load len) ∧
    (r.stop = none) ∧
    (r.dbg = false) ∧
    (z.canTrap) ∧
    (z.keepsStack s.dev.env z.world) ∧
    (isRefused status = false) ∧
    (checkVal w.data w.ecc (wordOf a) = none)) ∧ (
    let s : State := st (Copy.copyStates.getD 8 Dev.reset);
    let c : CopyId := 0;
    let h : Hdr := { seq := 0x0#12, ack := 0xfff#12 };
    let csn : Word := 0x7#32;
    let tag : BitVec 6 := 0x3#6;
    let status : Byte := 0x0#8;
    let r := s.dev.acceptedCopy c h;
    let o := { tag := 0x3#6, ty := ReqType.write, req := { csn := 0x7#32, retire := 0xa#48, tag := 0x3#6, world := World.iron, ring := 0, cls := 0x1#2, reissue := false, be := 0xf#4, addr := 0x20000010#32, data := 0x5#32, ecc := 0x0#7, rcrc := 0x0#8 }, use := RespUse.posted false, line0 := none };
    let sp := false;
    (s.dev.copyAccepts c h) ∧
    (r.owner tag = some o) ∧
    (o.ty = .write) ∧
    (o.req.csn = csn) ∧
    (o.use = .posted sp) ∧
    (r.stop = none) ∧
    (r.dbg = false) ∧
    (r.wait = .none) ∧
    (isRefused status = false)) ∧ (
    let s : State := st (Copy.copyStates.getD 8 Dev.reset);
    let c : CopyId := 0;
    let h : Hdr := { seq := 0x0#12, ack := 0xfff#12 };
    let csn : Word := 0x7#32;
    let tag : BitVec 6 := 0x3#6;
    let status : Byte := 0xa6#8;
    let r := s.dev.acceptedCopy c h;
    let o := { tag := 0x3#6, ty := ReqType.write, req := { csn := 0x7#32, retire := 0xa#48, tag := 0x3#6, world := World.iron, ring := 0, cls := 0x1#2, reissue := false, be := 0xf#4, addr := 0x20000010#32, data := 0x5#32, ecc := 0x0#7, rcrc := 0x0#8 }, use := RespUse.posted false, line0 := none };
    let sp := false;
    (s.dev.copyAccepts c h) ∧
    (r.owner tag = some o) ∧
    (o.ty = .write) ∧
    (o.req.csn = csn) ∧
    (o.use = .posted sp) ∧
    (r.stop = none) ∧
    (r.dbg = false) ∧
    (r.wait = .none) ∧
    (isRefused status = true) ∧
    (fld (r.bank o.req.world).reqerr 15 8 = 0)) ∧ (
    let s : State := st (Copy.copyStates.getD 10 Dev.reset);
    let c : CopyId := 0;
    let h : Hdr := { seq := 0x0#12, ack := 0xfff#12 };
    let csn : Word := 0x7#32;
    let tag : BitVec 6 := 0x3#6;
    let status : Byte := 0xa6#8;
    let r := s.dev.acceptedCopy c h;
    let o := { tag := 0x3#6, ty := ReqType.write, req := { csn := 0x7#32, retire := 0xa#48, tag := 0x3#6, world := World.iron, ring := 0, cls := 0x1#2, reissue := false, be := 0xf#4, addr := 0x20000010#32, data := 0x5#32, ecc := 0x0#7, rcrc := 0x0#8 }, use := RespUse.posted false, line0 := none };
    let sp := false;
    (s.dev.copyAccepts c h) ∧
    (r.owner tag = some o) ∧
    (o.ty = .write) ∧
    (o.req.csn = csn) ∧
    (o.use = .posted sp) ∧
    (r.stop = none) ∧
    (r.dbg = false) ∧
    (r.wait = .none) ∧
    (isRefused status = true) ∧
    (0 < fld (r.bank o.req.world).reqerr 15 8)) ∧ (
    let s : State := st (Copy.copyStates.getD 0 Dev.reset);
    let c : CopyId := 0;
    let h : Hdr := { seq := 0x0#12, ack := 0xfff#12 };
    let tag : BitVec 6 := 0x3#6;
    let r := s.dev.acceptedCopy c h;
    (s.dev.copyAccepts c h) ∧
    (r.owner tag = none)) ∧ (
    let s : State := st (Copy.copyStates.getD 11 Dev.reset);
    let c : CopyId := 0;
    let h : Hdr := { seq := 0x0#12, ack := 0xfff#12 };
    let tag : BitVec 6 := 0x3#6;
    let r := s.dev.acceptedCopy c h;
    let o := { tag := 0x3#6, ty := ReqType.fetch, req := { csn := 0x7#32, retire := 0xa#48, tag := 0x3#6, world := World.iron, ring := 0, cls := 0x1#2, reissue := false, be := 0xf#4, addr := 0x20000020#32, data := 0x5#32, ecc := 0x0#7, rcrc := 0x0#8 }, use := RespUse.fetch 0x20000020#32, line0 := none };
    (s.dev.copyAccepts c h) ∧
    (r.owner tag = some o) ∧
    (o.ty = .fetch) ∧
    (r.stop = none) ∧
    (r.wait = .fetch o.req.addr)) ∧ (
    let s : State := st (Copy.copyStates.getD 12 Dev.reset);
    let c : CopyId := 0;
    let h : Hdr := { seq := 0x0#12, ack := 0xfff#12 };
    let tag : BitVec 6 := 0x3#6;
    let status : Byte := 0x0#8;
    let lo : Four CWord := { v0 := { data := 0x1#32, ecc := 0x7c#7 }, v1 := { data := 0x2#32, ecc := 0x7f#7 }, v2 := { data := 0x3#32, ecc := 0x60#7 }, v3 := { data := 0x4#32, ecc := 0x6e#7 } };
    let hi : Four CWord := { v0 := { data := 0x1#32, ecc := 0x67#7 }, v1 := { data := 0x2#32, ecc := 0x64#7 }, v2 := { data := 0x3#32, ecc := 0x7b#7 }, v3 := { data := 0x4#32, ecc := 0x75#7 } };
    let r := s.dev.acceptedCopy c h;
    let ws := fourList lo ++ fourList hi;
    let o := { tag := 0x3#6, ty := ReqType.fetch, req := { csn := 0x7#32, retire := 0xa#48, tag := 0x3#6, world := World.iron, ring := 0, cls := 0x1#2, reissue := false, be := 0xf#4, addr := 0x20000020#32, data := 0x5#32, ecc := 0x0#7, rcrc := 0x0#8 }, use := RespUse.fetch 0x20000020#32, line0 := some (0x0#8, { v0 := { data := 0x1#32, ecc := 0x7c#7 }, v1 := { data := 0x2#32, ecc := 0x7f#7 }, v2 := { data := 0x3#32, ecc := 0x60#7 }, v3 := { data := 0x4#32, ecc := 0x6e#7 } }) };
    let line := 0x20000020#32;
    let st0 := 0x0#8;
    (s.dev.copyAccepts c h) ∧
    (r.owner tag = some o) ∧
    (o.ty = .fetch) ∧
    (r.stop = none) ∧
    (r.dbg = false) ∧
    (o.use = .fetch line) ∧
    (o.line0 = some (st0, lo)) ∧
    (isRefused st0 = false) ∧
    (isRefused status = false) ∧
    ((∀ i : Fin 8, checkWord (listGet cwordZero ws i.val).data (listGet cwordZero ws i.val).ecc (wordAddr line i.val) = .ok))) ∧ (
    let s : State := st (Copy.copyStates.getD 12 Dev.reset);
    let c : CopyId := 0;
    let h : Hdr := { seq := 0x0#12, ack := 0xfff#12 };
    let tag : BitVec 6 := 0x3#6;
    let status : Byte := 0xa6#8;
    let lo : Four CWord := { v0 := { data := 0x1#32, ecc := 0x7c#7 }, v1 := { data := 0x2#32, ecc := 0x7f#7 }, v2 := { data := 0x3#32, ecc := 0x60#7 }, v3 := { data := 0x4#32, ecc := 0x6e#7 } };
    let r := s.dev.acceptedCopy c h;
    let out1 := r.out.filter (fun (o : Outst) => o.tag != tag);
    let o := { tag := 0x3#6, ty := ReqType.fetch, req := { csn := 0x7#32, retire := 0xa#48, tag := 0x3#6, world := World.iron, ring := 0, cls := 0x1#2, reissue := false, be := 0xf#4, addr := 0x20000020#32, data := 0x5#32, ecc := 0x0#7, rcrc := 0x0#8 }, use := RespUse.fetch 0x20000020#32, line0 := some (0x0#8, { v0 := { data := 0x1#32, ecc := 0x7c#7 }, v1 := { data := 0x2#32, ecc := 0x7f#7 }, v2 := { data := 0x3#32, ecc := 0x60#7 }, v3 := { data := 0x4#32, ecc := 0x6e#7 } }) };
    let line := 0x20000020#32;
    let st0 := 0x0#8;
    let z : Copy := { r with out := out1, wait := .none };
    (s.dev.copyAccepts c h) ∧
    (r.owner tag = some o) ∧
    (o.ty = .fetch) ∧
    (r.stop = none) ∧
    (r.dbg = false) ∧
    (o.use = .fetch line) ∧
    (o.line0 = some (st0, lo)) ∧
    (isRefused st0 = false) ∧
    (isRefused status = true) ∧
    (z.canTrap) ∧
    (z.keepsStack s.dev.env z.world) ∧
    (lineOf z.pc = line)) := by
  refine ⟨?_, ?_, ?_, ?_, ?_, ?_, ?_, ?_, ?_, ?_⟩ <;> (try dsimp only [Copy.fetched, Copy.settled, Copy.canTrap, Copy.keepsStack, Copy.idleReady, Dev.letsWrite, Dev.hubAccepts, Dev.copyAccepts, ne_eq]) <;> decide +kernel

/-- States that meet the hypotheses of Debug, clause by clause. -/
theorem witness_Debug :
    (
    let s : State := st (Copy.copyStates.getD 13 Dev.reset);
    let c : CopyId := 0;
    let h : Hdr := { seq := 0x0#12, ack := 0xfff#12 };
    let arg : Half := 0x7c0#16;
    let x := s.dev.copy c;
    (s.dev.copyAccepts c h) ∧
    (x.debug = true) ∧
    (x.stop = none) ∧
    (x.dbgInval = false) ∧
    (csrAccess x.world x.ring arg.toNat ≠ 0)) ∧ (
    let s : State := st (Copy.copyStates.getD 13 Dev.reset);
    let c : CopyId := 0;
    let h : Hdr := { seq := 0x0#12, ack := 0xfff#12 };
    let arg : Half := 0x0#16;
    let x := s.dev.copy c;
    (s.dev.copyAccepts c h) ∧
    (x.debug = true) ∧
    (x.stop = none) ∧
    (x.dbgInval = false) ∧
    (csrAccess x.world x.ring arg.toNat ≠ 2)) ∧ (
    let s : State := st (Copy.copyStates.getD 14 Dev.reset);
    let c : CopyId := 0;
    let h : Hdr := { seq := 0x0#12, ack := 0xfff#12 };
    let x := s.dev.copy c;
    (s.dev.copyAccepts c h) ∧
    (x.debug = true) ∧
    (x.dbgInval = true)) ∧ (
    let s : State := st (Copy.copyStates.getD 0 Dev.reset);
    let c : CopyId := 0;
    let h : Hdr := { seq := 0x0#12, ack := 0xfff#12 };
    let x := s.dev.copy c;
    (s.dev.copyAccepts c h) ∧
    (x.debug = false)) ∧ (
    let s : State := st (Copy.copyStates.getD 15 Dev.reset);
    let c : CopyId := 0;
    let x := s.dev.copy c;
    (x.step = some 0) ∧
    (x.powered = true) ∧
    (x.stop = none) ∧
    (x.debug = false) ∧
    (x.settled)) ∧ (
    let s : State := st (Debug.debugStates.getD 0 Dev.reset);
    let src : Src := Src.copies (World.iron) 0;
    let d0 := s.dev;
    (d0.letsWrite src Reg.dbg_CTRL)) ∧ (
    let s : State := st (Debug.debugStates.getD 1 Dev.reset);
    let src : Src := Src.copies .iron 0;
    let n : Half := 3;
    let i : Instr := .dbgReadReg (.copies .iron 0) 3;
    let d0 := s.dev;
    let halted : Bool := d0.rbit Reg.dbg_STAT 0;
    let op := (1 : Byte);
    let arg := (3 : Half);
    ((i, op, arg) ∈ [(.dbgReadReg src n, 1#8, n), (.dbgWriteReg src n, 2, n), (.dbgReadCsr src n, 3, n), (.dbgWriteCsr src n, 4, n), (.dbgReadPc src, 5, 0), (.dbgWritePc src, 6, 0), (.dbgResume src, 7, 0), (.dbgStep src n, 8, n)]) ∧
    (d0.letsWrite src Reg.dbg_CMD) ∧
    (halted = true)) ∧ (
    let s : State := st (Debug.debugStates.getD 0 Dev.reset);
    let src : Src := Src.copies .iron 0;
    let n : Half := 3;
    let i : Instr := .dbgReadReg (.copies .iron 0) 3;
    let d0 := s.dev;
    let halted : Bool := d0.rbit Reg.dbg_STAT 0;
    let op := (1 : Byte);
    let arg := (3 : Half);
    ((i, op, arg) ∈ [(.dbgReadReg src n, 1#8, n), (.dbgWriteReg src n, 2, n), (.dbgReadCsr src n, 3, n), (.dbgWriteCsr src n, 4, n), (.dbgReadPc src, 5, 0), (.dbgWritePc src, 6, 0), (.dbgResume src, 7, 0), (.dbgStep src n, 8, n)]) ∧
    (d0.letsWrite src Reg.dbg_CMD) ∧
    (halted = false)) ∧ (
    let s : State := st (Debug.debugStates.getD 4 Dev.reset);
    let d0 := s.dev;
    let c : CopyId := 2;
    let h : Hdr := { seq := 0x0#12, ack := 0xfff#12 };
    let op : Byte := 0x0#8;
    let r := d0.acceptedHub c h;
    let others (P : CopyId → Prop) : Prop := ∀ x, x ≠ c → r.inSvc x = true → P x;
    (d0.hubAccepts c h) ∧
    (r.inSvc c = true) ∧
    (op = 0) ∧
    (others (fun x => r.dbg.reports.get x = true))) ∧ (
    let s : State := st (Debug.debugStates.getD 0 Dev.reset);
    let d0 := s.dev;
    let c : CopyId := 0;
    let h : Hdr := { seq := 0x0#12, ack := 0xfff#12 };
    let op : Byte := 0x0#8;
    let r := d0.acceptedHub c h;
    let x := 1;
    (d0.hubAccepts c h) ∧
    (r.inSvc c = true) ∧
    (op = 0) ∧
    (x ≠ c) ∧
    (r.inSvc x = true) ∧
    (r.dbg.reports.get x = false)) ∧ (
    let s : State := st (Debug.debugStates.getD 8 Dev.reset);
    let d0 := s.dev;
    let c : CopyId := 2;
    let h : Hdr := { seq := 0x0#12, ack := 0xfff#12 };
    let op : Byte := 0x1#8;
    let id : Byte := 0x2#8;
    let res : BitVec 2 := 0x0#2;
    let v : Word := 0x9#32;
    let r := d0.acceptedHub c h;
    let ans : Byte × BitVec 2 × Word := (op, res, v);
    let others (P : CopyId → Prop) : Prop := ∀ x, x ≠ c → r.inSvc x = true → P x;
    (d0.hubAccepts c h) ∧
    (r.inSvc c = true) ∧
    (op ≠ 0) ∧
    (id = r.dbg.dcid) ∧
    (r.dbg.cmd.isSome = true) ∧
    (2 ≤ r.nSvc) ∧
    (others (fun x => r.dbg.answers.get x = some ans))) ∧ (
    let s : State := st (Debug.debugStates.getD 8 Dev.reset);
    let d0 := s.dev;
    let c : CopyId := 2;
    let h : Hdr := { seq := 0x0#12, ack := 0xfff#12 };
    let op : Byte := 0x1#8;
    let id : Byte := 0x2#8;
    let res : BitVec 2 := 0x0#2;
    let v : Word := 0x0#32;
    let r := d0.acceptedHub c h;
    let ans : Byte × BitVec 2 × Word := (op, res, v);
    let others (P : CopyId → Prop) : Prop := ∀ x, x ≠ c → r.inSvc x = true → P x;
    let b := (0x1#8, 0x0#2, 0x9#32);
    (d0.hubAccepts c h) ∧
    (r.inSvc c = true) ∧
    (op ≠ 0) ∧
    (id = r.dbg.dcid) ∧
    (r.dbg.cmd.isSome = true) ∧
    (r.nSvc = 3) ∧
    (b ≠ ans) ∧
    (others (fun x => r.dbg.answers.get x = some b)) ∧
    (r.cmp = []) ∧
    (r.agr.dlv = none)) ∧ (
    let s : State := st (Debug.debugStates.getD 0 Dev.reset);
    let d0 := s.dev;
    let c : CopyId := 0;
    let h : Hdr := { seq := 0x0#12, ack := 0xfff#12 };
    let op : Byte := 0x1#8;
    let id : Byte := 0x0#8;
    let r := d0.acceptedHub c h;
    (d0.hubAccepts c h) ∧
    (r.inSvc c = true) ∧
    (op ≠ 0) ∧
    ((id ≠ r.dbg.dcid ∨ r.dbg.cmd = none))) := by
  refine ⟨?_, ?_, ?_, ?_, ?_, ?_, ?_, ?_, ?_, ?_, ?_, ?_, ?_⟩
  · (try dsimp only [Copy.fetched, Copy.settled, Copy.canTrap, Copy.keepsStack, Copy.idleReady, Dev.letsWrite, Dev.hubAccepts, Dev.copyAccepts, ne_eq]) <;> decide +kernel
  · (try dsimp only [Copy.fetched, Copy.settled, Copy.canTrap, Copy.keepsStack, Copy.idleReady, Dev.letsWrite, Dev.hubAccepts, Dev.copyAccepts, ne_eq]) <;> decide +kernel
  · (try dsimp only [Copy.fetched, Copy.settled, Copy.canTrap, Copy.keepsStack, Copy.idleReady, Dev.letsWrite, Dev.hubAccepts, Dev.copyAccepts, ne_eq]) <;> decide +kernel
  · (try dsimp only [Copy.fetched, Copy.settled, Copy.canTrap, Copy.keepsStack, Copy.idleReady, Dev.letsWrite, Dev.hubAccepts, Dev.copyAccepts, ne_eq]) <;> decide +kernel
  · (try dsimp only [Copy.fetched, Copy.settled, Copy.canTrap, Copy.keepsStack, Copy.idleReady, Dev.letsWrite, Dev.hubAccepts, Dev.copyAccepts, ne_eq]) <;> decide +kernel
  · (try dsimp only [Copy.fetched, Copy.settled, Copy.canTrap, Copy.keepsStack, Copy.idleReady, Dev.letsWrite, Dev.hubAccepts, Dev.copyAccepts, ne_eq]) <;> decide +kernel
  · dsimp only [Copy.fetched, Copy.settled, Copy.canTrap, Copy.keepsStack, Copy.idleReady, Dev.letsWrite, Dev.hubAccepts, Dev.copyAccepts, ne_eq]; refine ⟨?_, ?_, ?_⟩ <;> decide +kernel
  · dsimp only [Copy.fetched, Copy.settled, Copy.canTrap, Copy.keepsStack, Copy.idleReady, Dev.letsWrite, Dev.hubAccepts, Dev.copyAccepts, ne_eq]; refine ⟨?_, ?_, ?_⟩ <;> decide +kernel
  · dsimp only [Copy.fetched, Copy.settled, Copy.canTrap, Copy.keepsStack, Copy.idleReady, Dev.letsWrite, Dev.hubAccepts, Dev.copyAccepts, ne_eq]; refine ⟨?_, ?_, ?_, ?_⟩ <;> decide +kernel
  · dsimp only [Copy.fetched, Copy.settled, Copy.canTrap, Copy.keepsStack, Copy.idleReady, Dev.letsWrite, Dev.hubAccepts, Dev.copyAccepts, ne_eq]; refine ⟨?_, ?_, ?_, ?_, ?_, ?_⟩ <;> decide +kernel
  · dsimp only [Copy.fetched, Copy.settled, Copy.canTrap, Copy.keepsStack, Copy.idleReady, Dev.letsWrite, Dev.hubAccepts, Dev.copyAccepts, ne_eq]; refine ⟨?_, ?_, ?_, ?_, ?_, ?_, ?_⟩ <;> decide +kernel
  · dsimp only [Copy.fetched, Copy.settled, Copy.canTrap, Copy.keepsStack, Copy.idleReady, Dev.letsWrite, Dev.hubAccepts, Dev.copyAccepts, ne_eq]; refine ⟨?_, ?_, ?_, ?_, ?_, ?_, ?_, ?_, ?_, ?_⟩ <;> decide +kernel
  · dsimp only [Copy.fetched, Copy.settled, Copy.canTrap, Copy.keepsStack, Copy.idleReady, Dev.letsWrite, Dev.hubAccepts, Dev.copyAccepts, ne_eq]; refine ⟨?_, ?_, ?_, ?_⟩ <;> decide +kernel

/-- States that meet the hypotheses of Commits, clause by clause. -/
theorem witness_Commits :
    (
    let s : State := st ((Pages.pageStates ++ Pages.wx).getD 5 Dev.reset);
    let src : Src := Src.copies (World.iron) 0;
    let p : PageId := 2;
    let v : Word := 0xc5000000#32;
    let d0 := s.dev;
    let ks := d0.changed p.val;
    (d0.letsWrite src (Reg.pgCommit p.val)) ∧
    (d0.commitCheck src p.val v = (0, 0)) ∧
    (d0.touched p.val = true) ∧
    (isFramePage p.val = false) ∧
    (p.val ≠ 0x11) ∧
    (d0.jRoom (ks.length + 1) = true) ∧
    (firstWaiting p.val d0.pages.commits = none)) ∧ (
    let s : State := st ((Pages.pageStates ++ Pages.wx).getD 0 Dev.reset);
    let src : Src := Src.copies (World.iron) 0;
    let p : PageId := 2;
    let v : Word := 0x0#32;
    let d0 := s.dev;
    let r := d0.commitCheck src p.val v;
    (d0.letsWrite src (Reg.pgCommit p.val)) ∧
    (r.1 ≠ 0) ∧
    (r.1 ≠ 5)) ∧ (
    let s : State := st ((Pages.pageStates ++ Pages.wx).getD 0 Dev.reset);
    let src : Src := Src.copies (World.iron) 0;
    let p : PageId := 2;
    let v : Word := 0x0#32;
    let d0 := s.dev;
    (d0.letsWrite src (Reg.pgCommit p.val)) ∧
    (d0.planExec = false) ∧
    (fld v 31 24 ≠ 0xC5)) ∧ (
    let s : State := st ((Pages.pageStates ++ Pages.wx).getD 2 Dev.reset);
    let src : Src := Src.copies (World.iron) 0;
    let p : PageId := 2;
    let v : Word := 0xc5000000#32;
    let d0 := s.dev;
    (d0.letsWrite src (Reg.pgCommit p.val)) ∧
    (d0.planExec = false) ∧
    (fld v 31 24 = 0xC5) ∧
    (d0.rbit (Reg.pgLock p.val) 0 = true)) ∧ (
    let s : State := st ((Pages.pageStates ++ Pages.wx).getD 27 Dev.reset);
    let src : Src := Src.copies (World.iron) 0;
    let p : PageId := 2;
    let v : Word := 0xc5000000#32;
    let d0 := s.dev;
    (d0.letsWrite src (Reg.pgCommit p.val)) ∧
    (d0.planExec = false) ∧
    (fld v 31 24 = 0xC5) ∧
    (d0.rbit (Reg.pgLock p.val) 0 = false) ∧
    (d0.otherOwns p.val src = true)) := by
  refine ⟨?_, ?_, ?_, ?_, ?_⟩ <;> (try dsimp only [Copy.fetched, Copy.settled, Copy.canTrap, Copy.keepsStack, Copy.idleReady, Dev.letsWrite, Dev.hubAccepts, Dev.copyAccepts, ne_eq]) <;> decide +kernel

/-- States that meet the hypotheses of CommitsApplied, clause by clause. -/
theorem witness_CommitsApplied :
    (
    let s : State := st ((Pages.pageStates ++ Pages.wx).getD 10 Dev.reset);
    let p : PageId := 12;
    let c : Commit := { page := 12, word := 0xc5000005#32, vals := [(49232, 0x123#32)], stream := false, admitted := true, csn := none, src := Src.hub };
    let d0 := s.dev;
    (d0.live = true) ∧
    (d0.nextApply p.val = some c) ∧
    (c.page = p.val) ∧
    ((c.stream = true ∨ p.val ∉ [2, 3, 4, 10, 13, 0x1B, 0x1C, 0x1D, 0x1E])) ∧
    ((∀ e ∈ c.vals, e.1 / 0x1000 = p.val ∧ 0x30 ≤ e.1 % 0x1000)) ∧
    ((c.vals.map (fun e => e.1)).Nodup)) ∧ (
    let s : State := st ((Pages.pageStates ++ Pages.wx).getD 13 Dev.reset);
    let p : PageId := 2;
    let d0 := s.dev;
    (d0.commitComplete p.val = false)) ∧ (
    let s : State := st ((Pages.pageStates ++ Pages.wx).getD 15 Dev.reset);
    let w : JWait := { what := JWaitFor.commit 2, entries := [{ kind := 0x1#8, page := 0x2#6, offset := 0x24#12, src := 0x0#4, new := 0x4d#32, prev := 0x42#32, frame := 0x5#32, time := 0xc350#64, ecode := 0xc989#16, cls := 0x1#2, forCommit := true }, { kind := 0x4#8, page := 0x2#6, offset := 0x40#12, src := 0x0#4, new := 0x4d#32, prev := 0x42#32, frame := 0x5#32, time := 0xc350#64, ecode := 0xc989#16, cls := 0x1#2, forCommit := false }], deadline := 45000 };
    let d0 := s.dev;
    let p : PageId := 2;
    let c : Commit := { page := 2, word := 0xc5000005#32, vals := [(8256, 0x4d#32)], stream := false, admitted := false, csn := none, src := Src.hub };
    (d0.jrn.waiting = [w]) ∧
    (w.deadline ≤ d0.now) ∧
    (d0.pages.lv.all (fun j => !j.admitted) = true) ∧
    (w.what = .commit p.val) ∧
    (firstWaiting p.val d0.pages.commits = some c) ∧
    (c.csn = none) ∧
    (c.vals ≠ [])) ∧ (
    let s : State := st ((Pages.pageStates ++ Pages.wx).getD 26 Dev.reset);
    let w : JWait := { what := JWaitFor.lvWrite 7, entries := [], deadline := 0 };
    let d0 := s.dev;
    let id : Nat := 7;
    let j : LvJob := { id := 7, key := 49232, raw := 0x5#32, val := 0x5#32, src := Src.jtag, admitted := false, csn := none };
    (d0.jrn.waiting = [w]) ∧
    (w.deadline ≤ d0.now) ∧
    (d0.pages.lv.all (fun j => !j.admitted) = true) ∧
    (w.what = .lvWrite id) ∧
    (d0.pages.lv.find? (fun x => x.id == id) = some j) ∧
    (j.csn = none)) ∧ (
    let s : State := st ((Pages.pageStates ++ Pages.wx).getD 14 Dev.reset);
    let w : JWait := { what := JWaitFor.event, entries := [{ kind := 0x4#8, page := 0x2#6, offset := 0x40#12, src := 0x0#4, new := 0x4d#32, prev := 0x42#32, frame := 0x5#32, time := 0xc350#64, ecode := 0xc989#16, cls := 0x1#2, forCommit := false }], deadline := 45000 };
    let d0 := s.dev;
    (d0.jrn.waiting = [w]) ∧
    (w.deadline ≤ d0.now) ∧
    (d0.pages.lv.all (fun j => !j.admitted) = true) ∧
    (w.what = .event)) := by
  refine ⟨?_, ?_, ?_, ?_, ?_⟩ <;> (try dsimp only [Copy.fetched, Copy.settled, Copy.canTrap, Copy.keepsStack, Copy.idleReady, Dev.letsWrite, Dev.hubAccepts, Dev.copyAccepts, ne_eq]) <;> decide +kernel

/-- States that meet the hypotheses of ShadowAndLiveWrites, clause by clause. -/
theorem witness_ShadowAndLiveWrites :
    (
    let s : State := st ((Pages.pageStates ++ Pages.wx).getD 0 Dev.reset);
    let src : Src := Src.copies (World.iron) 0;
    let p : PageId := 2;
    let off : BitVec 12 := 0x40#12;
    let d0 := s.dev;
    let k := p.val * 0x1000 + off.toNat;
    (d0.letsWrite src k) ∧
    (shMask k ≠ 0) ∧
    (lvMask k = 0) ∧
    (off.toNat ≥ 0x30) ∧
    (isSafeReg k = false) ∧
    (p.val ∉ [0x1B, 0x1C]) ∧
    (d0.rbit (Reg.pgLock p.val) 0 = false) ∧
    (d0.otherOwns p.val src = false) ∧
    (p.val ∉ [0x15, 0x16, 0x17, 0x19])) ∧ (
    let s : State := st ((Pages.pageStates ++ Pages.wx).getD 2 Dev.reset);
    let src : Src := Src.copies (World.iron) 0;
    let p : PageId := 2;
    let off : BitVec 12 := 0x40#12;
    let d0 := s.dev;
    let k := p.val * 0x1000 + off.toNat;
    (d0.letsWrite src k) ∧
    (shMask k ≠ 0) ∧
    (off.toNat ≥ 0x30) ∧
    (isSafeReg k = false) ∧
    (p.val ∉ [0x1B, 0x1C]) ∧
    ((d0.rbit (Reg.pgLock p.val) 0 = true ∨ d0.otherOwns p.val src = true))) ∧ (
    let s : State := st ((Pages.pageStates ++ Pages.wx).getD 0 Dev.reset);
    let src : Src := Src.copies (World.iron) 0;
    let p : PageId := 2;
    let d0 := s.dev;
    (d0.letsWrite src (Reg.pgCtrl p.val)) ∧
    (d0.rbit (Reg.pgLock p.val) 0 = false)) ∧ (
    let s : State := st ((Pages.pageStates ++ Pages.wx).getD 0 Dev.reset);
    let d0 := s.dev;
    let src : Src := Src.copies (World.iron) 0;
    let p : PageId := 12;
    let off : BitVec 12 := 0x50#12;
    let k := p.val * 0x1000 + off.toNat;
    (d0.letsWrite src k) ∧
    (lvMask k ≠ 0) ∧
    (shMask k = 0) ∧
    (w1cMask k = 0) ∧
    (0x30 ≤ off.toNat) ∧
    (lvAtOnce k = false) ∧
    (isSafeReg k = false) ∧
    (k ≠ Reg.release_CLR) ∧
    (k ≠ Reg.dbg_CTRL) ∧
    (p.val ∉ [5, 0x1B, 0x1C, 0x1F, 0x20]) ∧
    (d0.rbit (Reg.pgLock p.val) 0 = false) ∧
    (d0.jRoom 1 = true) ∧
    (d0.pages.lv = []) ∧
    (d0.jrn.loss = 0) ∧
    (d0.jrn.queue = [])) ∧ (
    let s : State := st ((Pages.pageStates ++ Pages.wx).getD 3 Dev.reset);
    let d0 := s.dev;
    let j := { id := 3, key := 49232, raw := 0x5#32, val := 0x5#32, src := Src.jtag, admitted := true, csn := none };
    (d0.pages.lv.find? (fun x => x.admitted) = some j) ∧
    (d0.pages.lv.find? (fun x => x.id == j.id && x.admitted) = some j) ∧
    (j.key ∉ [Reg.release_CLR, Reg.jrnl_RDSEL, Reg.flash_RDADDR, Reg.otp_RDADDR, Reg.ledger_CVCTL]) ∧
    (j.key % 0x1000 ≠ 0x14)) ∧ (
    let s : State := st ((Pages.pageStates ++ Pages.wx).getD 0 Dev.reset);
    let d0 := s.dev;
    (d0.pages.lv = [])) := by
  refine ⟨?_, ?_, ?_, ?_, ?_, ?_⟩ <;> (try dsimp only [Copy.fetched, Copy.settled, Copy.canTrap, Copy.keepsStack, Copy.idleReady, Dev.letsWrite, Dev.hubAccepts, Dev.copyAccepts, ne_eq]) <;> decide +kernel

/-- States that meet the hypotheses of DirectWrites, clause by clause. -/
theorem witness_DirectWrites :
    (
    let s : State := st ((Pages.pageStates ++ Pages.wx).getD 0 Dev.reset);
    let src : Src := Src.copies (World.iron) 0;
    let p : PageId := 2;
    let d0 := s.dev;
    (d0.letsWrite src (Reg.pgEvtset p.val))) ∧ (
    let s : State := st ((Pages.pageStates ++ Pages.wx).getD 0 Dev.reset);
    let src : Src := Src.copies (World.iron) 0;
    let p : PageId := 2;
    let d0 := s.dev;
    (d0.letsWrite src (Reg.pgFault p.val)) ∧
    (p.val ∉ [0x12, 0x13]) ∧
    (w1cMask (Reg.pgFault p.val) ≠ 0) ∧
    (shMask (Reg.pgFault p.val) = 0)) ∧ (
    let s : State := st ((Pages.pageStates ++ Pages.wx).getD 0 Dev.reset);
    let src : Src := Src.copies (World.iron) 0;
    let p : PageId := 2;
    let v : Word := 0x1#32;
    let d0 := s.dev;
    (d0.letsWrite src (Reg.pgLock p.val)) ∧
    (d0.rbit (Reg.pgLock p.val) 0 = false) ∧
    (bitOf v 0 = true) ∧
    (d0.jRoom 1 = true) ∧
    (d0.pages.lv = [])) ∧ (
    let s : State := st ((Pages.pageStates ++ Pages.wx).getD 2 Dev.reset);
    let src : Src := Src.copies (World.iron) 0;
    let p : PageId := 2;
    let d0 := s.dev;
    (d0.letsWrite src (Reg.pgLock p.val)) ∧
    (d0.rbit (Reg.pgLock p.val) 0 = true)) ∧ (
    let s : State := st ((Pages.pageStates ++ Pages.wx).getD 0 Dev.reset);
    let src : Src := Src.copies (World.iron) 0;
    let d0 := s.dev;
    let retn : Bool := false;
    let q := if retn then 0x13 else 0x12;
    (d0.letsWrite src (Reg.pgFault q))) ∧ (
    let s : State := st ((Pages.pageStates ++ Pages.wx).getD 0 Dev.reset);
    let src : Src := Src.copies (World.tin) 3;
    let p : PageId := 2;
    let d0 := s.dev;
    let off : BitVec 12 := 0x40#12;
    (d0.live = true) ∧
    (d0.canReach src = true) ∧
    (d0.absentPage p.val = false) ∧
    (d0.heldBack src (p.val * 0x1000 + off.toNat) = false) ∧
    (d0.guardOk p.val src true = false) ∧
    (off.toNat ≠ 0x24)) ∧ (
    let s : State := st ((Pages.pageStates ++ Pages.wx).getD 0 Dev.reset);
    let p : PageId := 63;
    let d0 := s.dev;
    (d0.absentPage p.val = true)) ∧ (
    let s : State := st ((Split.pageStates ++ Split.wx).getD 0 Dev.reset);
    let src : Src := Src.copies (World.iron) 0;
    let p : PageId := 2;
    let off : BitVec 12 := 0x60#12;
    let d0 := s.dev;
    let k := p.val * 0x1000 + off.toNat;
    (d0.live = true) ∧
    (d0.canReach src = true) ∧
    (d0.guardOk p.val src false = true) ∧
    (isPairLo k = true)) ∧ (
    let s : State := st ((Split.pageStates ++ Split.wx).getD 26 Dev.reset);
    let src : Src := Src.copies (World.iron) 0;
    let p : PageId := 2;
    let off : BitVec 12 := 0x64#12;
    let d0 := s.dev;
    let k := p.val * 0x1000 + off.toNat;
    (d0.live = true) ∧
    (d0.canReach src = true) ∧
    (d0.guardOk p.val src false = true) ∧
    (isPairHi k = true) ∧
    (isPairLo k = false) ∧
    ((d0.snap (k - 4) src).armed = true)) ∧ (
    let s : State := st ((Split.pageStates ++ Split.wx).getD 0 Dev.reset);
    let src : Src := Src.copies (World.iron) 0;
    let p : PageId := 2;
    let off : BitVec 12 := 0x64#12;
    let d0 := s.dev;
    let k := p.val * 0x1000 + off.toNat;
    (d0.live = true) ∧
    (d0.canReach src = true) ∧
    (d0.guardOk p.val src false = true) ∧
    (isPairHi k = true) ∧
    (isPairLo k = false) ∧
    ((d0.snap (k - 4) src).armed = false)) := by
  refine ⟨?_, ?_, ?_, ?_, ?_, ?_, ?_, ?_, ?_, ?_⟩ <;> (try dsimp only [Copy.fetched, Copy.settled, Copy.canTrap, Copy.keepsStack, Copy.idleReady, Dev.letsWrite, Dev.hubAccepts, Dev.copyAccepts, ne_eq]) <;> decide +kernel

/-- States that meet the hypotheses of JournalRing, clause by clause. -/
theorem witness_JournalRing :
    (
    let s : State := st ((Pages.pageStates ++ Pages.wx).getD 13 Dev.reset);
    let e : JEntry := { kind := 0x1#8, page := 0x2#6, offset := 0x24#12, src := 0x0#4, new := 0x4d#32, prev := 0x42#32, frame := 0x5#32, time := 0xc350#64, ecode := 0xc989#16, cls := 0x1#2, forCommit := true };
    let rest : List JEntry := [];
    let d0 := s.dev;
    (d0.live = true) ∧
    (d0.jrn.queue = e :: rest) ∧
    (d0.jrn.waiting = []) ∧
    (d0.jrn.wroteAt + 4 ≤ d0.now) ∧
    (d0.pages.lv = [])) ∧ (
    let s : State := st ((Pages.pageStates ++ Pages.wx).getD 0 Dev.reset);
    let src : Src := Src.copies (World.iron) 0;
    let seq : Word := 0x0#32;
    let d0 := s.dev;
    let a := 0x30000000 + 32 * d0.slotOf seq;
    (d0.letsWrite src Reg.jrnl_RDSEL) ∧
    (d0.rbit (Reg.pgLock 1) 0 = false) ∧
    (d0.jRoom 1 = true) ∧
    (d0.pages.lv = []) ∧
    (d0.holdsEntry seq = true) ∧
    ((∀ i : Fin 8, d0.checkAt (a + 4 * i.val) = .ok))) ∧ (
    let s : State := st ((Pages.pageStates ++ Pages.wx).getD 0 Dev.reset);
    let src : Src := Src.copies (World.iron) 0;
    let seq : Word := 0x4d#32;
    let d0 := s.dev;
    (d0.letsWrite src Reg.jrnl_RDSEL) ∧
    (d0.rbit (Reg.pgLock 1) 0 = false) ∧
    (d0.jRoom 1 = true) ∧
    (d0.pages.lv = []) ∧
    (d0.holdsEntry seq = false)) := by
  refine ⟨?_, ?_, ?_⟩ <;> (try dsimp only [Copy.fetched, Copy.settled, Copy.canTrap, Copy.keepsStack, Copy.idleReady, Dev.letsWrite, Dev.hubAccepts, Dev.copyAccepts, ne_eq]) <;> decide +kernel

/-- States that meet the hypotheses of JournalFlushes, clause by clause. -/
theorem witness_JournalFlushes :
    (
    let s : State := st ((Pages.pageStates ++ Pages.wx).getD 22 Dev.reset);
    let src : Src := Src.copies (World.iron) 0;
    let d0 := s.dev;
    let fits (cls : Nat) : Prop := d0.jrn.mirValid = true ∧ d0.ledger.jobs = [] ∧ d0.ledgerStop = false ∧ d0.jrn.flushJob = none ∧ (d0.flushEnergy : Int) ≤ d0.freeOf cls;
    let v := 0x0#32;
    (fld v 1 0 < 3) ∧
    (d0.letsWrite src Reg.jrnl_FLUSH) ∧
    (fits (fld v 1 0))) ∧ (
    let s : State := st ((Pages.pageStates ++ Pages.wx).getD 0 Dev.reset);
    let src : Src := Src.copies (World.iron) 0;
    let d0 := s.dev;
    let v := 0x0#32;
    (fld v 1 0 < 3) ∧
    (d0.letsWrite src Reg.jrnl_FLUSH) ∧
    (d0.jrn.mirValid = false)) ∧ (
    let s : State := st ((Pages.pageStates ++ Pages.wx).getD 23 Dev.reset);
    let d0 := s.dev;
    let n := d0.unmirrored;
    let fits (cls : Nat) : Prop := d0.jrn.mirValid = true ∧ d0.ledger.jobs = [] ∧ d0.ledgerStop = false ∧ d0.jrn.flushJob = none ∧ (d0.flushEnergy : Int) ≤ d0.freeOf cls;
    (d0.live = true) ∧
    (0 < d0.rfld Reg.jrnl_MIRCFG 15 0) ∧
    (d0.rfld Reg.jrnl_MIRCFG 15 0 ≤ n) ∧
    (fits 2)) ∧ (
    let s : State := st ((Pages.pageStates ++ Pages.wx).getD 24 Dev.reset);
    let d0 := s.dev;
    let n := d0.unmirrored;
    let j := { id := 9, kind := JobKind.flush, cls := 0x2#2, energy := 0, hold := 2710, admitted := true, since := 0, overran := false, flash := none };
    (d0.ledger.jobs = [j]) ∧
    (j.admitted = true) ∧
    (d0.jrn.flushJob = some j.id) ∧
    (d0.jrn.flush = none) ∧
    (j.since + flushTime d0.jrn.flushN d0.jrn.flushX ≤ d0.now) ∧
    (d0.jrn.flushN = 1) ∧
    (1 ≤ n) ∧
    (d0.jrn.halfUsed < 512) ∧
    (d0.ledger.planFlush = none) ∧
    (d0.planExec = false) ∧
    (d0.flash = none)) := by
  refine ⟨?_, ?_, ?_, ?_⟩ <;> (try dsimp only [Copy.fetched, Copy.settled, Copy.canTrap, Copy.keepsStack, Copy.idleReady, Dev.letsWrite, Dev.hubAccepts, Dev.copyAccepts, ne_eq]) <;> decide +kernel

/-- States that meet the hypotheses of Resets, clause by clause. -/
theorem witness_Resets :
    (
    let s : State := st ((base ++ Boot.wx).getD 0 Dev.reset);
    let d0 := s.dev;
    (d0.flash = none) ∧
    (d0.phase = .off)) ∧ (
    let s : State := st ((base ++ Boot.wx).getD 6 Dev.reset);
    let d0 := s.dev;
    (d0.flash = none) ∧
    (d0.live = true)) ∧ (
    let s : State := st ((base ++ Boot.wx).getD 1 Dev.reset);
    let d0 := s.dev;
    (d0.flash = none) ∧
    (d0.phase ≠ .off) ∧
    (d0.phase ≠ .hibernating)) ∧ (
    let s : State := st ((base ++ Boot.wx).getD 11 Dev.reset);
    let d0 := s.dev;
    (d0.flash = none) ∧
    (d0.phase = .hibernating)) ∧ (
    let s : State := st ((base ++ Boot.wx).getD 6 Dev.reset);
    let d0 := s.dev;
    let src := Src.hub;
    let v := 0xa5000002#32;
    (d0.flash = none) ∧
    (d0.letsWrite src Reg.rst_SWRST) ∧
    (fld v 1 0 = 2) ∧
    (fld v 31 24 = 0xA5)) ∧ (
    let s : State := st ((base ++ Boot.wx).getD 6 Dev.reset);
    let d0 := s.dev;
    let src := Src.hub;
    let v := 0x2#32;
    (d0.flash = none) ∧
    (d0.letsWrite src Reg.rst_SWRST) ∧
    (fld v 1 0 = 2) ∧
    (fld v 31 24 ≠ 0xA5)) ∧ (
    let s : State := st ((base ++ Boot.wx).getD 10 Dev.reset);
    let src : Src := Src.copies (World.iron) 0;
    let v : Word := 0xa5000001#32;
    let d0 := s.dev;
    (d0.letsWrite src Reg.rst_SWRST) ∧
    (fld v 1 0 = 1) ∧
    (fld v 31 24 = 0xA5) ∧
    (d0.csRunning = true) ∧
    (d0.planExec = false)) ∧ (
    let s : State := st ((base ++ Boot.wx).getD 20 Dev.reset);
    let src : Src := Src.copies (World.iron) 0;
    let v : Word := 0xa5000001#32;
    let d0 := s.dev;
    (d0.letsWrite src Reg.rst_SWRST) ∧
    (fld v 1 0 = 1) ∧
    (fld v 31 24 = 0xA5) ∧
    (d0.csRunning = true) ∧
    (d0.planExec = true)) ∧ (
    let s : State := st ((base ++ Boot.wx).getD 6 Dev.reset);
    let src : Src := Src.hub;
    let v : Word := 0x1#32;
    let d0 := s.dev;
    (d0.letsWrite src Reg.rst_SWRST) ∧
    (fld v 1 0 = 1) ∧
    (fld v 31 24 ≠ 0xA5)) := by
  refine ⟨?_, ?_, ?_, ?_, ?_, ?_, ?_, ?_, ?_⟩ <;> (try dsimp only [Copy.fetched, Copy.settled, Copy.canTrap, Copy.keepsStack, Copy.idleReady, Dev.letsWrite, Dev.hubAccepts, Dev.copyAccepts, ne_eq]) <;> decide +kernel

/-- States that meet the hypotheses of BootToImageCheck, clause by clause. -/
theorem witness_BootToImageCheck :
    (
    let s : State := st ((base ++ Boot.wx).getD 1 Dev.reset);
    let d0 := s.dev;
    (d0.phase = .pllWait)) ∧ (
    let s : State := st ((base ++ Boot.wx).getD 2 Dev.reset);
    let d0 := s.dev;
    (d0.phase = .otpLoad)) ∧ (
    let s : State := st ((base ++ Boot.wx).getD 3 Dev.reset);
    let d0 := s.dev;
    (d0.phase = .retCheck)) := by
  refine ⟨?_, ?_, ?_⟩ <;> (try dsimp only [Copy.fetched, Copy.settled, Copy.canTrap, Copy.keepsStack, Copy.idleReady, Dev.letsWrite, Dev.hubAccepts, Dev.copyAccepts, ne_eq]) <;> decide +kernel

/-- States that meet the hypotheses of BootToRelease, clause by clause. -/
theorem witness_BootToRelease :
    (
    let s : State := st ((base ++ Boot.wx).getD 6 Dev.reset);
    let d0 := s.dev;
    (d0.phase = .imgCheck) ∧
    (d0.imgCheck ≠ 0)) ∧ (
    let s : State := st ((base ++ Boot.wx).getD 7 Dev.reset);
    let d0 := s.dev;
    let r := Dev.records 1024 0x3FF100 (0x3FF100 + d0.recLen) 0 ((d0.at (d0.phaseDue + d0.imgTime)).mile 2 (d0.hdr 4));
    let n := 1;
    (d0.phase = .imgCheck) ∧
    (d0.imgCheck = 0) ∧
    (r.2 = .applied n)) ∧ (
    let s : State := st ((base ++ Boot.wx).getD 21 Dev.reset);
    let d0 := s.dev;
    let r := Dev.records 1024 0x3FF100 (0x3FF100 + d0.recLen) 0 ((d0.at (d0.phaseDue + d0.imgTime)).mile 2 (d0.hdr 4));
    (d0.phase = .imgCheck) ∧
    (d0.imgCheck = 0) ∧
    (r.2 = .refused)) ∧ (
    let s : State := st ((base ++ Boot.wx).getD 12 Dev.reset);
    let d0 := s.dev;
    (d0.cs = .waiting)) ∧ (
    let s : State := st ((base ++ Boot.wx).getD 13 Dev.reset);
    let d0 := s.dev;
    (d0.cs = .locking) ∧
    (d0.pstate ≠ 4)) ∧ (
    let s : State := st ((base ++ Boot.wx).getD 14 Dev.reset);
    let d0 := s.dev;
    (d0.cs = .locking) ∧
    (d0.pstate = 4) ∧
    (d0.rbit Reg.link_CFG 31 = false)) ∧ (
    let s : State := st ((base ++ Boot.wx).getD 15 Dev.reset);
    let d0 := s.dev;
    (d0.cs = .training) ∧
    (d0.trainingOver = true) ∧
    (d0.pstate ≠ 4) ∧
    (d0.liveLinks.length = d0.allowedCopies.length)) ∧ (
    let s : State := st ((base ++ Boot.wx).getD 16 Dev.reset);
    let d0 := s.dev;
    (d0.cs = .training) ∧
    (d0.trainingOver = true) ∧
    (d0.pstate ≠ 4) ∧
    (d0.allowedCopies.length = 3) ∧
    (d0.liveLinks.length = 2)) ∧ (
    let s : State := st ((base ++ Boot.wx).getD 18 Dev.reset);
    let d0 := s.dev;
    (d0.cs = .training) ∧
    (d0.trainingOver = true) ∧
    (d0.pstate ≠ 4) ∧
    (d0.liveLinks.length < 2) ∧
    (d0.liveLinks.length ≠ d0.allowedCopies.length)) := by
  refine ⟨?_, ?_, ?_, ?_, ?_, ?_, ?_, ?_, ?_⟩
  · (try dsimp only [Copy.fetched, Copy.settled, Copy.canTrap, Copy.keepsStack, Copy.idleReady, Dev.letsWrite, Dev.hubAccepts, Dev.copyAccepts, ne_eq]) <;> decide +kernel
  · exact ⟨rfl, img_accepted, by decide +kernel⟩
  · exact ⟨rfl, img_badRecord, by decide +kernel⟩
  · (try dsimp only [Copy.fetched, Copy.settled, Copy.canTrap, Copy.keepsStack, Copy.idleReady, Dev.letsWrite, Dev.hubAccepts, Dev.copyAccepts, ne_eq]) <;> decide +kernel
  · (try dsimp only [Copy.fetched, Copy.settled, Copy.canTrap, Copy.keepsStack, Copy.idleReady, Dev.letsWrite, Dev.hubAccepts, Dev.copyAccepts, ne_eq]) <;> decide +kernel
  · (try dsimp only [Copy.fetched, Copy.settled, Copy.canTrap, Copy.keepsStack, Copy.idleReady, Dev.letsWrite, Dev.hubAccepts, Dev.copyAccepts, ne_eq]) <;> decide +kernel
  · (try dsimp only [Copy.fetched, Copy.settled, Copy.canTrap, Copy.keepsStack, Copy.idleReady, Dev.letsWrite, Dev.hubAccepts, Dev.copyAccepts, ne_eq]) <;> decide +kernel
  · (try dsimp only [Copy.fetched, Copy.settled, Copy.canTrap, Copy.keepsStack, Copy.idleReady, Dev.letsWrite, Dev.hubAccepts, Dev.copyAccepts, ne_eq]) <;> decide +kernel
  · (try dsimp only [Copy.fetched, Copy.settled, Copy.canTrap, Copy.keepsStack, Copy.idleReady, Dev.letsWrite, Dev.hubAccepts, Dev.copyAccepts, ne_eq]) <;> decide +kernel

/-- States that meet the hypotheses of SuppliesAndClocks, clause by clause. -/
theorem witness_SuppliesAndClocks :
    (
    let s : State := st (Power.powerStates.getD 1 Dev.reset);
    let d0 := s.dev;
    let c : CopyId := 0;
    (d0.awake = true) ∧
    (d0.copyLow c = false) ∧
    (d0.inSvc c = false)) ∧ (
    let s : State := st (Power.powerStates.getD 10 Dev.reset);
    let d0 := s.dev;
    let c : CopyId := 0;
    (d0.awake = true) ∧
    (d0.copyLow c = false) ∧
    (d0.inSvc c = true) ∧
    (d0.nSvc = 3) ∧
    (d0.cmp = []) ∧
    (d0.agr.dlv = none) ∧
    (d0.dbg.answers = Tri.const none)) ∧ (
    let s : State := st (Power.powerStates.getD 21 Dev.reset);
    let d0 := s.dev;
    let c : CopyId := 0;
    (d0.awake = true) ∧
    (d0.copyLow c = false) ∧
    (d0.inSvc c = true) ∧
    (d0.nSvc < 3)) ∧ (
    let s : State := st (Power.powerStates.getD 1 Dev.reset);
    let d0 := s.dev;
    let i : Supply := Supply.vsupH;
    (i ≠ .vio) ∧
    (d0.awake = true) ∧
    (d0.rbit Reg.pwr_SUPSTAT (4 + supplyNo i) = false)) ∧ (
    let s : State := st (Power.powerStates.getD 1 Dev.reset);
    let d0 := s.dev;
    (d0.awake = true) ∧
    (d0.rbit Reg.pwr_SUPSTAT 8 = false)) ∧ (
    let s : State := st (Power.powerStates.getD 1 Dev.reset);
    let d0 := s.dev;
    (d0.awake = true)) ∧ (
    let s : State := st (Power.powerStates.getD 51 Dev.reset);
    let d0 := s.dev;
    (d0.clk.starting = true)) ∧ (
    let s : State := st (Power.powerStates.getD 6 Dev.reset);
    let d0 := s.dev;
    let count : Word := 0x5f5e1#32;
    let bad := d0.svcCopies.filter (fun c => d0.rhoOff c != 0);
    let inside := decide (359375 ≤ count.toNat) && decide (count.toNat ≤ 421875);
    (d0.live = true) ∧
    (bad = []) ∧
    (inside = true)) ∧ (
    let s : State := st (Power.powerStates.getD 6 Dev.reset);
    let d0 := s.dev;
    let count : Word := 0x0#32;
    let bad := d0.svcCopies.filter (fun c => d0.rhoOff c != 0);
    let inside := decide (359375 ≤ count.toNat) && decide (count.toNat ≤ 421875);
    (d0.live = true) ∧
    (bad = []) ∧
    (inside = false)) ∧ (
    let s : State := st (Power.powerStates.getD 52 Dev.reset);
    let d0 := s.dev;
    let count : Word := 0x5f5e1#32;
    let bad := d0.svcCopies.filter (fun c => d0.rhoOff c != 0);
    let inside := decide (359375 ≤ count.toNat) && decide (count.toNat ≤ 421875);
    let c := 1;
    (d0.live = true) ∧
    (bad = [c]) ∧
    (inside = true)) ∧ (
    let s : State := st (Power.powerStates.getD 54 Dev.reset);
    let d0 := s.dev;
    let count : Word := 0x0#32;
    let bad := d0.svcCopies.filter (fun c => d0.rhoOff c != 0);
    let inside := decide (359375 ≤ count.toNat) && decide (count.toNat ≤ 421875);
    (d0.live = true) ∧
    (bad ≠ []) ∧
    ((inside = false ∨ 2 ≤ bad.length)) ∧
    (d0.rbit Reg.clk_STAT 0 = true)) ∧ (
    let s : State := st (Power.powerStates.getD 52 Dev.reset);
    let d0 := s.dev;
    let count : Word := 0x0#32;
    let bad := d0.svcCopies.filter (fun c => d0.rhoOff c != 0);
    let inside := decide (359375 ≤ count.toNat) && decide (count.toNat ≤ 421875);
    (d0.live = true) ∧
    (bad ≠ []) ∧
    ((inside = false ∨ 2 ≤ bad.length)) ∧
    (d0.rbit Reg.clk_STAT 0 = false)) ∧ (
    let s : State := st (Power.powerStates.getD 6 Dev.reset);
    let d0 := s.dev;
    (d0.live = true) ∧
    (d0.rbit Reg.clk_STAT 3 = false)) := by
  refine ⟨?_, ?_, ?_, ?_, ?_, ?_, ?_, ?_, ?_, ?_, ?_, ?_, ?_⟩ <;> (try dsimp only [Copy.fetched, Copy.settled, Copy.canTrap, Copy.keepsStack, Copy.idleReady, Dev.letsWrite, Dev.hubAccepts, Dev.copyAccepts, ne_eq]) <;> decide +kernel

/-- States that meet the hypotheses of EnergyMeasured, clause by clause. -/
theorem witness_EnergyMeasured :
    (
    let s : State := st (Power.powerStates.getD 6 Dev.reset);
    let d0 := s.dev;
    (d0.live = true)) ∧ (
    let s : State := st (Power.powerStates.getD 6 Dev.reset);
    let d0 := s.dev;
    (d0.live = true)) := by
  refine ⟨?_, ?_⟩ <;> (try dsimp only [Copy.fetched, Copy.settled, Copy.canTrap, Copy.keepsStack, Copy.idleReady, Dev.letsWrite, Dev.hubAccepts, Dev.copyAccepts, ne_eq]) <;> decide +kernel

/-- States that meet the hypotheses of MainsAndPlan, clause by clause. -/
theorem witness_MainsAndPlan :
    (
    let s : State := st (Power.powerStates.getD 23 Dev.reset);
    let d0 := s.dev;
    (d0.mainsLost = true)) ∧ (
    let s : State := st (Power.powerStates.getD 25 Dev.reset);
    let d0 := s.dev;
    (d0.pstate = 2) ∧
    (d0.rfld Reg.ledger_MLFILT 7 0 ≤ d0.ledger.above) ∧
    (d0.pendRestart = none)) ∧ (
    let s : State := st (Power.powerStates.getD 26 Dev.reset);
    let d0 := s.dev;
    let k := d0.ledger.planNext;
    let timely := fld (d0.planStep k 0) 5 4 ≠ 0;
    let b := (d0.at (d0.planStart k)).planBegin k;
    let covered : Prop := (¬ timely ∧ (b.planJ k : Int) ≤ (b.ledger.e : Int) - b.hJobs) ∨ (timely ∧ (b.planJ k : Int) ≤ b.freeOf 1);
    (d0.planDue = true) ∧
    (covered) ∧
    (d0.planOp k = 0)) ∧ (
    let s : State := st (Power.powerStates.getD 27 Dev.reset);
    let d0 := s.dev;
    let k := d0.ledger.planNext;
    let timely := fld (d0.planStep k 0) 5 4 ≠ 0;
    let b := (d0.at (d0.planStart k)).planBegin k;
    let covered : Prop := (¬ timely ∧ (b.planJ k : Int) ≤ (b.ledger.e : Int) - b.hJobs) ∨ (timely ∧ (b.planJ k : Int) ≤ b.freeOf 1);
    (d0.planDue = true) ∧
    (covered) ∧
    (d0.planOp k = 3)) ∧ (
    let s : State := st (Power.powerStates.getD 28 Dev.reset);
    let d0 := s.dev;
    let k := d0.ledger.planNext;
    let timely := fld (d0.planStep k 0) 5 4 ≠ 0;
    let b := (d0.at (d0.planStart k)).planBegin k;
    (d0.planDue = true) ∧
    (timely) ∧
    (b.freeOf 1 < (b.planJ k : Int)) ∧
    (d0.pendRestart = none)) := by
  refine ⟨?_, ?_, ?_, ?_, ?_⟩ <;> (try dsimp only [Copy.fetched, Copy.settled, Copy.canTrap, Copy.keepsStack, Copy.idleReady, Dev.letsWrite, Dev.hubAccepts, Dev.copyAccepts, ne_eq]) <;> decide +kernel

/-- States that meet the hypotheses of LedgerJobs, clause by clause. -/
theorem witness_LedgerJobs :
    (
    let s : State := st (Power.powerStates.getD 32 Dev.reset);
    let j : Job := { id := 1, kind := JobKind.flashErase, cls := 0x1#2, energy := 38400, hold := 0, admitted := false, since := 40000, overran := false, flash := some { op := 0x2#2, dst := 0x2000#32, src := 0x0#32, cnt := 3, done := 0, result := 0x0#3, running := false, jtag := false, data := [] } };
    let d0 := s.dev;
    (nextFit d0 d0.ledger.jobs none = some j) ∧
    (j.kind ≠ .capCheck)) ∧ (
    let s : State := st (Power.powerStates.getD 0 Dev.reset);
    let d0 := s.dev;
    (nextFit d0 d0.ledger.jobs none = none)) ∧ (
    let s : State := st (Power.powerStates.getD 34 Dev.reset);
    let j : Job := { id := 1, kind := JobKind.flashErase, cls := 0x1#2, energy := 38400, hold := 0, admitted := false, since := 40000, overran := false, flash := some { op := 0x2#2, dst := 0x2000#32, src := 0x0#32, cnt := 3, done := 0, result := 0x0#3, running := false, jtag := false, data := [] } };
    let d0 := s.dev;
    (nextLate d0 d0.ledger.jobs none = some j)) ∧ (
    let s : State := st (Power.powerStates.getD 35 Dev.reset);
    let j : Job := { id := 3, kind := JobKind.flush, cls := 0x0#2, energy := 240000000, hold := 0, admitted := false, since := 40000, overran := false, flash := none };
    let d0 := s.dev;
    (d0.ledger.jobs.find? (fun x => !x.admitted && x.cls == 0 && !x.overran && !d0.jobFits x) = some j)) ∧ (
    let s : State := st (Power.powerStates.getD 6 Dev.reset);
    let d0 := s.dev;
    let src : Src := Src.hub;
    let v : Word := 0xa0140a01#32;
    let c := mergeMask (lvMask Reg.ledger_CVCTL) v (d0.reg Reg.ledger_CVCTL);
    let h := d0.rfld Reg.pwr_HOLDSNS 15 0;
    (d0.letsWrite src Reg.ledger_CVCTL) ∧
    (bitOf v 31 = true) ∧
    (d0.rbit (Reg.pgLock 2) 0 = false) ∧
    (d0.otherOwns 2 src = false) ∧
    (d0.jRoom 1 = true) ∧
    (d0.pages.lv = []) ∧
    (d0.ledger.jobs = []) ∧
    (d0.ledger.cap = none) ∧
    (d0.ledgerStop = false) ∧
    ((fld c 29 28 = 1 ∨ fld c 29 28 = 2)) ∧
    (((h * sinkMa c * fld c 15 8 : Nat) : Int) ≤ d0.freeOf (fld c 29 28)) ∧
    (h * sinkMa c ≤ 1250000)) ∧ (
    let s : State := st (Power.powerStates.getD 6 Dev.reset);
    let d0 := s.dev;
    let src : Src := Src.hub;
    let v : Word := 0x80000a01#32;
    let c := mergeMask (lvMask Reg.ledger_CVCTL) v (d0.reg Reg.ledger_CVCTL);
    (d0.letsWrite src Reg.ledger_CVCTL) ∧
    (bitOf v 31 = true) ∧
    (d0.rbit (Reg.pgLock 2) 0 = false) ∧
    (d0.otherOwns 2 src = false) ∧
    (d0.jRoom 1 = true) ∧
    (d0.pages.lv = []) ∧
    (fld c 29 28 = 0)) ∧ (
    let s : State := st (Power.powerStates.getD 40 Dev.reset);
    let d0 := s.dev;
    let k := { stage := 0x1#2, v0 := 24000, v1 := 0, amps := 20, step := 10, due := 90000 };
    (d0.ledger.cap = some k) ∧
    (k.stage = 1)) ∧ (
    let s : State := st (Power.powerStates.getD 41 Dev.reset);
    let d0 := s.dev;
    let k := { stage := 0x2#2, v0 := 24000, v1 := 23990, amps := 20, step := 10, due := 90000 };
    (d0.ledger.cap = some k) ∧
    (k.stage = 2)) := by
  refine ⟨?_, ?_, ?_, ?_, ?_, ?_, ?_, ?_⟩ <;> (try dsimp only [Copy.fetched, Copy.settled, Copy.canTrap, Copy.keepsStack, Copy.idleReady, Dev.letsWrite, Dev.hubAccepts, Dev.copyAccepts, ne_eq]) <;> decide +kernel

/-- States that meet the hypotheses of LowPower, clause by clause. -/
theorem witness_LowPower :
    (
    let s : State := st (Power.powerStates.getD 44 Dev.reset);
    let d0 := s.dev;
    (d0.lp.stopping = true) ∧
    ((d0.pstate = 3 ∨ d0.pstate = 5))) ∧ (
    let s : State := st (Power.powerStates.getD 46 Dev.reset);
    let d0 := s.dev;
    (d0.stopReady = true) ∧
    (d0.pstate = 3) ∧
    (d0.lp.wakePend = none)) ∧ (
    let s : State := st (Power.powerStates.getD 47 Dev.reset);
    let d0 := s.dev;
    (d0.stopReady = true) ∧
    (d0.pstate = 5) ∧
    (d0.flash = none)) ∧ (
    let s : State := st (Power.powerStates.getD 48 Dev.reset);
    let d0 := s.dev;
    let w := WakeSrc.pin;
    (d0.wakeOn w = true) ∧
    (d0.phase = .dozing) ∧
    (d0.pstate = 6)) ∧ (
    let s : State := st (Power.powerStates.getD 44 Dev.reset);
    let d0 := s.dev;
    let w := WakeSrc.pin;
    (d0.wakeOn w = true) ∧
    (d0.phase ≠ .dozing) ∧
    (d0.pstate = 3)) ∧ (
    let s : State := st (Power.powerStates.getD 0 Dev.reset);
    let d0 := s.dev;
    let w := WakeSrc.can0;
    (d0.wakeOn w = false)) ∧ (
    let s : State := st (Power.powerStates.getD 50 Dev.reset);
    let d0 := s.dev;
    (d0.phase = .dozeWake)) := by
  refine ⟨?_, ?_, ?_, ?_, ?_, ?_, ?_⟩ <;> (try dsimp only [Copy.fetched, Copy.settled, Copy.canTrap, Copy.keepsStack, Copy.idleReady, Dev.letsWrite, Dev.hubAccepts, Dev.copyAccepts, ne_eq]) <;> decide +kernel

/-- States that meet the hypotheses of SenseBlocks, clause by clause. -/
theorem witness_SenseBlocks :
    (
    let s : State := st ((Sense.senseStates ++ Sense.wx).getD 2 Dev.reset);
    let c : CopyId := 0;
    let x := s.dev.copy c;
    let g : GroupId := 0;
    (x.senses = true) ∧
    (x.sense.grpEn g.val = true) ∧
    (x.stop = none) ∧
    (x.sense.runFrom = none)) ∧ (
    let s : State := st ((Sense.senseStates ++ Sense.wx).getD 8 Dev.reset);
    let c : CopyId := 0;
    let x := s.dev.copy c;
    let g : GroupId := 0;
    let age := 0;
    (x.senses = true) ∧
    (x.sense.grpEn g.val = true) ∧
    (x.stop = none) ∧
    (x.sense.runAge x.time.frame = some age) ∧
    (age < 8) ∧
    (x.sense.runGroups.get g = true)) ∧ (
    let s : State := st ((Sense.senseStates ++ Sense.wx).getD 2 Dev.reset);
    let c : CopyId := 0;
    let x := s.dev.copy c;
    (x.senses = true) ∧
    (x.sense.dinEn = true) ∧
    (x.stop = none)) ∧ (
    let s : State := st ((Sense.senseStates ++ Sense.wx).getD 2 Dev.reset);
    let c : CopyId := 0;
    let x := s.dev.copy c;
    let i : Fin 12 := 0;
    let rising : Bool := true;
    let e : Nat := 3;
    (x.edgeDue e = true) ∧
    (edgeQualifies (x.sense.edgeSel i.val) rising = false)) ∧ (
    let s : State := st ((Sense.senseStates ++ Sense.wx).getD 2 Dev.reset);
    let c : CopyId := 0;
    let x := s.dev.copy c;
    let i : Fin 12 := 0;
    let rising : Bool := false;
    let e : Nat := 10000;
    let t := x.time.hubTime ((e : Int) - 12 * fld (x.sense.reg Reg.sensecfg_DINCFG) 23 20);
    (x.edgeDue e = true) ∧
    (edgeQualifies (x.sense.edgeSel i.val) rising = true) ∧
    (0 ≤ t)) ∧ (
    let s : State := st ((Sense.senseStates ++ Sense.wx).getD 2 Dev.reset);
    let c : CopyId := 0;
    let x := s.dev.copy c;
    let i : Fin 12 := 0;
    let rising : Bool := false;
    let e : Nat := 3;
    let t := x.time.hubTime ((e : Int) - 12 * fld (x.sense.reg Reg.sensecfg_DINCFG) 23 20);
    (x.edgeDue e = true) ∧
    (edgeQualifies (x.sense.edgeSel i.val) rising = true) ∧
    (t < 0)) ∧ (
    let s : State := st ((Sense.senseStates ++ Sense.wx).getD 1 Dev.reset);
    let d0 := s.dev;
    (d0.calDue = true)) ∧ (
    let s : State := st ((Sense.senseStates ++ Sense.wx).getD 10 Dev.reset);
    let c : CopyId := 0;
    let d0 := s.dev;
    (d0.inSvc c = true) ∧
    (d0.agr.tempHot.get c = 8)) ∧ (
    let s : State := st ((Sense.senseStates ++ Sense.wx).getD 0 Dev.reset);
    let c : CopyId := 0;
    let d0 := s.dev;
    (d0.agr.tempHot.get c ≠ 8)) := by
  refine ⟨?_, ?_, ?_, ?_, ?_, ?_, ?_, ?_, ?_⟩ <;> (try dsimp only [Copy.fetched, Copy.settled, Copy.canTrap, Copy.keepsStack, Copy.idleReady, Dev.letsWrite, Dev.hubAccepts, Dev.copyAccepts, ne_eq]) <;> decide +kernel

/-- States that meet the hypotheses of InputExchanges, clause by clause. -/
theorem witness_InputExchanges :
    (
    let s : State := st ((Sense.senseStates ++ Sense.wx).getD 4 Dev.reset);
    let c : CopyId := 0;
    let h : Hdr := { seq := 0x0#12, ack := 0xfff#12 };
    let m : SampleMsg := { frame := 0x5#32, group := 0, gen := 0x0#8, calerr := false, calsrc := false, sumv := false, tvalid := false, temp := 0x0#16, y := { v0 := 0x0#16, v1 := 0x7530#16, v2 := 0xffff#16, v3 := 0x3039#16 }, sat := { v0 := false, v1 := false, v2 := false, v3 := false }, clip := { v0 := false, v1 := false, v2 := false, v3 := false }, slo := 0x0#20, shi := 0x0#20 };
    let r := s.dev.acceptedHub c h;
    let gen := r.genFor r.frnum.toNat;
    (s.dev.hubAccepts c h) ∧
    (r.inSvc c = true) ∧
    (m.gen = gen) ∧
    (m.frame = r.frame32) ∧
    (r.agr.aOpen.get m.group = true) ∧
    (r.now < r.aDeadline m.group.val) ∧
    (m.calerr = false)) ∧ (
    let s : State := st ((Sense.senseStates ++ Sense.wx).getD 1 Dev.reset);
    let c : CopyId := 0;
    let h : Hdr := { seq := 0x0#12, ack := 0xfff#12 };
    let m : SampleMsg := { frame := 0x5#32, group := 0, gen := 0x1#8, calerr := false, calsrc := false, sumv := false, tvalid := false, temp := 0x0#16, y := { v0 := 0x0#16, v1 := 0x7530#16, v2 := 0xffff#16, v3 := 0x3039#16 }, sat := { v0 := false, v1 := false, v2 := false, v3 := false }, clip := { v0 := false, v1 := false, v2 := false, v3 := false }, slo := 0x0#20, shi := 0x0#20 };
    let r := s.dev.acceptedHub c h;
    let gen := r.genFor r.frnum.toNat;
    (s.dev.hubAccepts c h) ∧
    (r.inSvc c = true) ∧
    (m.gen ≠ gen)) ∧ (
    let s : State := st ((Sense.senseStates ++ Sense.wx).getD 1 Dev.reset);
    let c : CopyId := 0;
    let h : Hdr := { seq := 0x0#12, ack := 0xfff#12 };
    let m : SampleMsg := { frame := 0x6#32, group := 0, gen := 0x0#8, calerr := false, calsrc := false, sumv := false, tvalid := false, temp := 0x0#16, y := { v0 := 0x0#16, v1 := 0x7530#16, v2 := 0xffff#16, v3 := 0x3039#16 }, sat := { v0 := false, v1 := false, v2 := false, v3 := false }, clip := { v0 := false, v1 := false, v2 := false, v3 := false }, slo := 0x0#20, shi := 0x0#20 };
    let r := s.dev.acceptedHub c h;
    let gen := r.genFor r.frnum.toNat;
    (s.dev.hubAccepts c h) ∧
    (r.inSvc c = true) ∧
    (m.gen = gen) ∧
    (m.frame ≠ r.frame32)) ∧ (
    let s : State := st ((Sense.senseStates ++ Sense.wx).getD 1 Dev.reset);
    let c : CopyId := 0;
    let h : Hdr := { seq := 0x0#12, ack := 0xfff#12 };
    let m : SampleMsg := { frame := 0x5#32, group := 0, gen := 0x0#8, calerr := false, calsrc := false, sumv := false, tvalid := false, temp := 0x0#16, y := { v0 := 0x0#16, v1 := 0x7530#16, v2 := 0xffff#16, v3 := 0x3039#16 }, sat := { v0 := false, v1 := false, v2 := false, v3 := false }, clip := { v0 := false, v1 := false, v2 := false, v3 := false }, slo := 0x0#20, shi := 0x0#20 };
    let r := s.dev.acceptedHub c h;
    let gen := r.genFor r.frnum.toNat;
    (s.dev.hubAccepts c h) ∧
    (r.inSvc c = true) ∧
    (m.gen = gen) ∧
    (m.frame = r.frame32) ∧
    ((r.agr.aOpen.get m.group = false ∨ r.aDeadline m.group.val ≤ r.now))) ∧ (
    let s : State := st ((Sense.senseStates ++ Sense.wx).getD 4 Dev.reset);
    let c : CopyId := 0;
    let h : Hdr := { seq := 0x0#12, ack := 0xfff#12 };
    let v : DinMsg := { frame := 0x5#8, gen := 0x0#8, recs := { v0 := { lvl := true, cnt := 0x3#3, fpol := true, lpol := false, ftime := 0x4d2#19, ltime := 0x162e#19 }, v1 := { lvl := true, cnt := 0x3#3, fpol := true, lpol := false, ftime := 0x4d2#19, ltime := 0x162e#19 }, v2 := { lvl := true, cnt := 0x3#3, fpol := true, lpol := false, ftime := 0x4d2#19, ltime := 0x162e#19 }, v3 := { lvl := true, cnt := 0x3#3, fpol := true, lpol := false, ftime := 0x4d2#19, ltime := 0x162e#19 } } };
    let r := s.dev.acceptedHub c h;
    let gen := r.genFor r.frnum.toNat;
    (s.dev.hubAccepts c h) ∧
    (r.inSvc c = true) ∧
    (v.gen = gen) ∧
    (v.frame = r.frnum.setWidth 8) ∧
    (r.agr.dOpen = true) ∧
    (r.now < r.dDeadline)) ∧ (
    let s : State := st ((Sense.senseStates ++ Sense.wx).getD 1 Dev.reset);
    let c : CopyId := 0;
    let h : Hdr := { seq := 0x0#12, ack := 0xfff#12 };
    let v : DinMsg := { frame := 0x5#8, gen := 0x1#8, recs := { v0 := { lvl := true, cnt := 0x3#3, fpol := true, lpol := false, ftime := 0x4d2#19, ltime := 0x162e#19 }, v1 := { lvl := true, cnt := 0x3#3, fpol := true, lpol := false, ftime := 0x4d2#19, ltime := 0x162e#19 }, v2 := { lvl := true, cnt := 0x3#3, fpol := true, lpol := false, ftime := 0x4d2#19, ltime := 0x162e#19 }, v3 := { lvl := true, cnt := 0x3#3, fpol := true, lpol := false, ftime := 0x4d2#19, ltime := 0x162e#19 } } };
    let r := s.dev.acceptedHub c h;
    let gen := r.genFor r.frnum.toNat;
    (s.dev.hubAccepts c h) ∧
    (r.inSvc c = true) ∧
    (v.gen ≠ gen)) ∧ (
    let s : State := st ((Sense.senseStates ++ Sense.wx).getD 4 Dev.reset);
    let d0 := s.dev;
    let g : GroupId := 0;
    (0 < d0.nSvc) ∧
    (d0.agr.written = false) ∧
    (d0.agr.skip = false) ∧
    (d0.bankBusyNow = false) ∧
    (d0.agr.aOpen.get g = true)) ∧ (
    let s : State := st ((Sense.senseStates ++ Sense.wx).getD 4 Dev.reset);
    let d0 := s.dev;
    (0 < d0.nSvc) ∧
    (d0.agr.written = false) ∧
    (d0.agr.skip = false) ∧
    (d0.bankBusyNow = false) ∧
    (d0.agr.dOpen = true)) := by
  refine ⟨?_, ?_, ?_, ?_, ?_, ?_, ?_, ?_⟩ <;> (try dsimp only [Copy.fetched, Copy.settled, Copy.canTrap, Copy.keepsStack, Copy.idleReady, Dev.letsWrite, Dev.hubAccepts, Dev.copyAccepts, ne_eq]) <;> decide +kernel

/-- States that meet the hypotheses of AgreementFaults, clause by clause. -/
theorem witness_AgreementFaults :
    (
    let s : State := st ((Sense.senseStates ++ Sense.wx).getD 11 Dev.reset);
    let d0 := s.dev;
    let ch : Fin 24 := 0;
    (listGet false d0.agr.plDue ch.val = true)) ∧ (
    let s : State := st ((Sense.senseStates ++ Sense.wx).getD 12 Dev.reset);
    let d0 := s.dev;
    let c : CopyId := 0;
    let ch : Fin 24 := 0;
    (d0.inSvc c = true) ∧
    (d0.nSvc = 3) ∧
    (d0.cmp = []) ∧
    (d0.agr.dlv = none) ∧
    (d0.dbg.answers = Tri.const none) ∧
    (d0.outlierDue c ch.val = true)) ∧ (
    let s : State := st ((Sense.senseStates ++ Sense.wx).getD 12 Dev.reset);
    let d0 := s.dev;
    let c : CopyId := 0;
    (d0.inSvc c = true) ∧
    (d0.nSvc = 3) ∧
    (d0.cmp = []) ∧
    (d0.agr.dlv = none) ∧
    (d0.dbg.answers = Tri.const none) ∧
    (d0.missingDue c = true)) ∧ (
    let s : State := st ((Sense.senseStates ++ Sense.wx).getD 0 Dev.reset);
    let d0 := s.dev;
    let c : CopyId := 0;
    let ch : Fin 24 := 0;
    (d0.outlierDue c ch.val = false)) ∧ (
    let s : State := st ((Sense.senseStates ++ Sense.wx).getD 1 Dev.reset);
    let d0 := s.dev;
    let c : CopyId := 0;
    let h : Hdr := { seq := 0x0#12, ack := 0xfff#12 };
    let cause : Byte := 0x1#8;
    let r := d0.acceptedHub c h;
    let code := 22;
    (d0.hubAccepts c h) ∧
    (r.inSvc c = true) ∧
    (r.agr.reports = []) ∧
    (2 ≤ r.nSvc) ∧
    (eventCode cause = some code) ∧
    (code ≠ 5)) ∧ (
    let s : State := st ((Sense.senseStates ++ Sense.wx).getD 1 Dev.reset);
    let d0 := s.dev;
    let c : CopyId := 0;
    let h : Hdr := { seq := 0x0#12, ack := 0xfff#12 };
    let cause : Byte := 0x2#8;
    let r := d0.acceptedHub c h;
    (d0.hubAccepts c h) ∧
    (r.inSvc c = true) ∧
    (r.agr.reports = []) ∧
    (2 ≤ r.nSvc) ∧
    (eventCode cause = some 5) ∧
    (r.devLatch = false)) ∧ (
    let s : State := st ((Sense.senseStates ++ Sense.wx).getD 1 Dev.reset);
    let d0 := s.dev;
    let c : CopyId := 0;
    let h : Hdr := { seq := 0x0#12, ack := 0xfff#12 };
    let cause : Byte := 0x0#8;
    let r := d0.acceptedHub c h;
    (d0.hubAccepts c h) ∧
    (r.inSvc c = true) ∧
    (r.agr.reports = []) ∧
    (2 ≤ r.nSvc) ∧
    (eventCode cause = none)) := by
  refine ⟨?_, ?_, ?_, ?_, ?_, ?_, ?_⟩ <;> (try dsimp only [Copy.fetched, Copy.settled, Copy.canTrap, Copy.keepsStack, Copy.idleReady, Dev.letsWrite, Dev.hubAccepts, Dev.copyAccepts, ne_eq]) <;> decide +kernel

/-- States that meet the hypotheses of HubDeliveries, clause by clause. -/
theorem witness_HubDeliveries :
    (
    let s : State := st ((Sense.senseStates ++ Sense.wx).getD 14 Dev.reset);
    let d0 := s.dev;
    let r := d0.reqSync;
    (r.dlvFree = true) ∧
    (Events.some r.pendEvents = true) ∧
    (r.agr.drpUsed < 4)) ∧ (
    let s : State := st ((Sense.senseStates ++ Sense.wx).getD 15 Dev.reset);
    let d0 := s.dev;
    let r := d0.reqSync;
    (r.dlvFree = true) ∧
    (Events.some r.pendEvents = true) ∧
    (4 ≤ r.agr.drpUsed) ∧
    (r.agr.deferred = false)) ∧ (
    let s : State := st ((Sense.senseStates ++ Sense.wx).getD 0 Dev.reset);
    let d0 := s.dev;
    let r := d0.reqSync;
    (Events.some r.pendEvents = false)) ∧ (
    let s : State := st ((Sense.senseStates ++ Sense.wx).getD 17 Dev.reset);
    let d0 := s.dev;
    let c : CopyId := 0;
    let h : Hdr := { seq := 0x0#12, ack := 0xfff#12 };
    let id : Byte := 0x1#8;
    let q := d0.acceptedHub c h;
    let x := { id := 0x1#8, d := 0x64#48, ev := { tck := true, agr := false, dbg := false, pages := 0x0#64 }, agrFrame := none, answered := { a := false, b := true, c := true } };
    (d0.hubAccepts c h) ∧
    (q.inSvc c = true) ∧
    (q.agr.dlv = some x) ∧
    (x.id = id) ∧
    ((∀ y, y ≠ c → q.inSvc y = true → x.answered.get y = true))) ∧ (
    let s : State := st ((Sense.senseStates ++ Sense.wx).getD 16 Dev.reset);
    let d0 := s.dev;
    let c : CopyId := 0;
    let h : Hdr := { seq := 0x0#12, ack := 0xfff#12 };
    let id : Byte := 0x1#8;
    let q := d0.acceptedHub c h;
    let x := { id := 0x1#8, d := 0x64#48, ev := { tck := true, agr := false, dbg := false, pages := 0x0#64 }, agrFrame := none, answered := { a := false, b := false, c := false } };
    let y := 1;
    (d0.hubAccepts c h) ∧
    (q.inSvc c = true) ∧
    (q.agr.dlv = some x) ∧
    (x.id = id) ∧
    (y ≠ c) ∧
    (q.inSvc y = true) ∧
    (x.answered.get y = false)) ∧ (
    let s : State := st ((Sense.senseStates ++ Sense.wx).getD 16 Dev.reset);
    let d0 := s.dev;
    let c : CopyId := 0;
    let h : Hdr := { seq := 0x0#12, ack := 0xfff#12 };
    let id : Byte := 0x1#8;
    let q := d0.acceptedHub c h;
    let x := { id := 0x1#8, d := 0x64#48, ev := { tck := true, agr := false, dbg := false, pages := 0x0#64 }, agrFrame := none, answered := { a := false, b := false, c := false } };
    (d0.hubAccepts c h) ∧
    (q.inSvc c = true) ∧
    (q.agr.dlv = some x) ∧
    (x.id = id) ∧
    (q.agr.replUsed < 1)) ∧ (
    let s : State := st ((Sense.senseStates ++ Sense.wx).getD 18 Dev.reset);
    let d0 := s.dev;
    let c : CopyId := 0;
    let h : Hdr := { seq := 0x0#12, ack := 0xfff#12 };
    let id : Byte := 0x1#8;
    let q := d0.acceptedHub c h;
    let x := { id := 0x1#8, d := 0x64#48, ev := { tck := true, agr := false, dbg := false, pages := 0x0#64 }, agrFrame := none, answered := { a := false, b := true, c := true } };
    (d0.hubAccepts c h) ∧
    (q.inSvc c = true) ∧
    (q.agr.dlv = some x) ∧
    (x.id = id) ∧
    (1 ≤ q.agr.replUsed)) ∧ (
    let s : State := st ((Sense.senseStates ++ Sense.wx).getD 16 Dev.reset);
    let d0 := s.dev;
    let c : CopyId := 0;
    let h : Hdr := { seq := 0x0#12, ack := 0xfff#12 };
    let id : Byte := 0x0#8;
    let q := d0.acceptedHub c h;
    let x := { id := 0x1#8, d := 0x64#48, ev := { tck := true, agr := false, dbg := false, pages := 0x0#64 }, agrFrame := none, answered := { a := false, b := false, c := false } };
    (d0.hubAccepts c h) ∧
    (q.inSvc c = true) ∧
    (q.agr.dlv = some x) ∧
    (x.id ≠ id)) := by
  refine ⟨?_, ?_, ?_, ?_, ?_, ?_, ?_, ?_⟩ <;> (try dsimp only [Copy.fetched, Copy.settled, Copy.canTrap, Copy.keepsStack, Copy.idleReady, Dev.letsWrite, Dev.hubAccepts, Dev.copyAccepts, ne_eq]) <;> decide +kernel

/-- States that meet the hypotheses of RequestsArrive, clause by clause. -/
theorem witness_RequestsArrive :
    (
    let s : State := st ((Compare.cmpStates ++ Compare.clrStates).getD 0 Dev.reset);
    let c : CopyId := 1;
    let h : Hdr := { seq := 0x0#12, ack := 0xfff#12 };
    let q : Req := { csn := 0x7#32, retire := 0xa#48, tag := 0x3#6, world := World.iron, ring := 0, cls := 0x1#2, reissue := false, be := 0xf#4, addr := 0x20000010#32, data := 0x1234#32, ecc := 0x4c#7, rcrc := 0x0#8 };
    let ty : ReqType := ReqType.read;
    let i : Instr := Instr.read 1 { seq := 0x0#12, ack := 0xfff#12 } { csn := 0x7#32, retire := 0xa#48, tag := 0x3#6, world := World.iron, ring := 0, cls := 0x1#2, reissue := false, be := 0xf#4, addr := 0x20000010#32, data := 0x1234#32, ecc := 0x4c#7, rcrc := 0x0#8 };
    let r := s.dev.acceptedHub c h;
    (s.dev.hubAccepts c h) ∧
    ((i, ty) ∈ [(.read c h q, .read), (.write c h q, .write), (.fetch c h q, .fetch)]) ∧
    (r.inSvc c = true) ∧
    (q.reissue = false) ∧
    ((r.link c).received < (r.link c).grant) ∧
    (r.tagBusy c q = false) ∧
    (r.findCmp q.csn = none) ∧
    (r.tagLate ty q = false)) ∧ (
    let s : State := st ((Compare.cmpStates ++ Compare.clrStates).getD 49 Dev.reset);
    let c : CopyId := 1;
    let h : Hdr := { seq := 0x0#12, ack := 0xfff#12 };
    let q : Req := { csn := 0x7#32, retire := 0xa#48, tag := 0x3#6, world := World.iron, ring := 0, cls := 0x1#2, reissue := false, be := 0xf#4, addr := 0x20000010#32, data := 0x1234#32, ecc := 0x4c#7, rcrc := 0x0#8 };
    let ty : ReqType := ReqType.read;
    let i : Instr := Instr.read 1 { seq := 0x0#12, ack := 0xfff#12 } { csn := 0x7#32, retire := 0xa#48, tag := 0x3#6, world := World.iron, ring := 0, cls := 0x1#2, reissue := false, be := 0xf#4, addr := 0x20000010#32, data := 0x1234#32, ecc := 0x4c#7, rcrc := 0x0#8 };
    let r := s.dev.acceptedHub c h;
    let e := { csn := 0x7#32, first := 50002, arr := { a := some { ty := ReqType.write, req := { csn := 0x7#32, retire := 0xa#48, tag := 0x3#6, world := World.iron, ring := 0, cls := 0x1#2, reissue := false, be := 0xf#4, addr := 0x20000010#32, data := 0x1#32, ecc := 0x7a#7, rcrc := 0x0#8 }, time := 50002 }, b := none, c := none }, agreed := { a := none, b := none, c := none }, stage := Stage.opened, winner := 0, safeDone := false, relAt := 50000, delayed := false, refusal := none, flits := [], answered := { a := false, b := false, c := false } };
    (s.dev.hubAccepts c h) ∧
    ((i, ty) ∈ [(.read c h q, .read), (.write c h q, .write), (.fetch c h q, .fetch)]) ∧
    (r.inSvc c = true) ∧
    (q.reissue = false) ∧
    ((r.link c).received < (r.link c).grant) ∧
    (r.tagBusy c q = false) ∧
    (r.findCmp q.csn = some e) ∧
    (e.stage = .opened) ∧
    (e.arr.get c = none)) ∧ (
    let s : State := st ((Compare.cmpStates ++ Compare.clrStates).getD 2 Dev.reset);
    let c : CopyId := 1;
    let h : Hdr := { seq := 0x0#12, ack := 0xfff#12 };
    let q : Req := { csn := 0x7#32, retire := 0xa#48, tag := 0x3#6, world := World.iron, ring := 0, cls := 0x1#2, reissue := false, be := 0xf#4, addr := 0x20000010#32, data := 0x1234#32, ecc := 0x4c#7, rcrc := 0x0#8 };
    let ty : ReqType := ReqType.read;
    let i : Instr := Instr.read 1 { seq := 0x0#12, ack := 0xfff#12 } { csn := 0x7#32, retire := 0xa#48, tag := 0x3#6, world := World.iron, ring := 0, cls := 0x1#2, reissue := false, be := 0xf#4, addr := 0x20000010#32, data := 0x1234#32, ecc := 0x4c#7, rcrc := 0x0#8 };
    let r := s.dev.acceptedHub c h;
    (s.dev.hubAccepts c h) ∧
    ((i, ty) ∈ [(.read c h q, .read), (.write c h q, .write), (.fetch c h q, .fetch)]) ∧
    (r.inSvc c = true) ∧
    (q.reissue = false) ∧
    (r.findCmp q.csn = none) ∧
    (((r.link c).grant ≤ (r.link c).received ∨ r.tagBusy c q = true))) ∧ (
    let s : State := st ((Compare.cmpStates ++ Compare.clrStates).getD 153 Dev.reset);
    let c : CopyId := 1;
    let h : Hdr := { seq := 0x0#12, ack := 0xfff#12 };
    let q : Req := { csn := 0x7#32, retire := 0xa#48, tag := 0x3#6, world := World.iron, ring := 0, cls := 0x1#2, reissue := true, be := 0xf#4, addr := 0x30003000#32, data := 0x4d#32, ecc := 0x12#7, rcrc := 0x0#8 };
    let ty : ReqType := ReqType.read;
    let i : Instr := Instr.read 1 { seq := 0x0#12, ack := 0xfff#12 } { csn := 0x7#32, retire := 0xa#48, tag := 0x3#6, world := World.iron, ring := 0, cls := 0x1#2, reissue := true, be := 0xf#4, addr := 0x30003000#32, data := 0x4d#32, ecc := 0x12#7, rcrc := 0x0#8 };
    let r := s.dev.acceptedHub c h;
    let x := { csn := 0x7#32, digest := 0xa6294db8#32, flits := [HubFlit.rddata 0x7#32 0x0#6 0x0#8 { data := 0x5#32, ecc := 0x5#7 }] };
    (s.dev.hubAccepts c h) ∧
    ((i, ty) ∈ [(.read c h q, .read), (.write c h q, .write), (.fetch c h q, .fetch)]) ∧
    (r.inSvc c = true) ∧
    (q.reissue = true) ∧
    ((r.link c).cache.find? (fun x => x.csn == q.csn) = some x) ∧
    (x.digest = Req.digest ty { q with reissue := false })) ∧ (
    let s : State := st ((Compare.cmpStates ++ Compare.clrStates).getD 153 Dev.reset);
    let c : CopyId := 1;
    let h : Hdr := { seq := 0x0#12, ack := 0xfff#12 };
    let q : Req := { csn := 0x7#32, retire := 0xa#48, tag := 0x3#6, world := World.iron, ring := 0, cls := 0x1#2, reissue := true, be := 0xf#4, addr := 0x30003000#32, data := 0x4d#32, ecc := 0x12#7, rcrc := 0x0#8 };
    let ty : ReqType := ReqType.write;
    let i : Instr := Instr.write 1 { seq := 0x0#12, ack := 0xfff#12 } { csn := 0x7#32, retire := 0xa#48, tag := 0x3#6, world := World.iron, ring := 0, cls := 0x1#2, reissue := true, be := 0xf#4, addr := 0x30003000#32, data := 0x4d#32, ecc := 0x12#7, rcrc := 0x0#8 };
    let r := s.dev.acceptedHub c h;
    let x := { csn := 0x7#32, digest := 0xa6294db8#32, flits := [HubFlit.rddata 0x7#32 0x0#6 0x0#8 { data := 0x5#32, ecc := 0x5#7 }] };
    (s.dev.hubAccepts c h) ∧
    ((i, ty) ∈ [(.read c h q, .read), (.write c h q, .write), (.fetch c h q, .fetch)]) ∧
    (r.inSvc c = true) ∧
    (q.reissue = true) ∧
    ((r.link c).cache.find? (fun x => x.csn == q.csn) = some x) ∧
    (x.digest ≠ Req.digest ty { q with reissue := false })) := by
  refine ⟨?_, ?_, ?_, ?_, ?_⟩ <;> (try dsimp only [Copy.fetched, Copy.settled, Copy.canTrap, Copy.keepsStack, Copy.idleReady, Dev.letsWrite, Dev.hubAccepts, Dev.copyAccepts, ne_eq]) <;> decide +kernel

/-- States that meet the hypotheses of SafeDirection, clause by clause. -/
theorem witness_SafeDirection :
    (
    let s : State := st ((Compare.cmpStates ++ Compare.clrStates).getD 3 Dev.reset);
    let c : CopyId := 0;
    let csn : Word := 0x7#32;
    let i : Instr := Instr.drvSafeTrip 0 0x7#32 0;
    let k : Nat := 86080;
    let d0 := s.dev;
    let e := { csn := 0x7#32, first := 50002, arr := { a := some { ty := ReqType.write, req := { csn := 0x7#32, retire := 0xa#48, tag := 0x3#6, world := World.iron, ring := 0, cls := 0x1#2, reissue := false, be := 0xf#4, addr := 0x40015040#32, data := 0x1#32, ecc := 0x0#7, rcrc := 0xbd#8 }, time := 50002 }, b := some { ty := ReqType.write, req := { csn := 0x7#32, retire := 0xa#48, tag := 0x3#6, world := World.iron, ring := 0, cls := 0x1#2, reissue := false, be := 0xf#4, addr := 0x40015040#32, data := 0x1#32, ecc := 0x0#7, rcrc := 0xbd#8 }, time := 50002 }, c := some { ty := ReqType.write, req := { csn := 0x7#32, retire := 0xa#48, tag := 0x3#6, world := World.iron, ring := 0, cls := 0x1#2, reissue := false, be := 0xf#4, addr := 0x40015040#32, data := 0x1#32, ecc := 0x0#7, rcrc := 0xbd#8 }, time := 50002 } }, agreed := { a := none, b := none, c := none }, stage := Stage.opened, winner := 0, safeDone := false, relAt := 0, delayed := false, refusal := none, flits := [], answered := { a := false, b := false, c := false } };
    let a := { ty := ReqType.write, req := { csn := 0x7#32, retire := 0xa#48, tag := 0x3#6, world := World.iron, ring := 0, cls := 0x1#2, reissue := false, be := 0xf#4, addr := 0x40015040#32, data := 0x1#32, ecc := 0x0#7, rcrc := 0xbd#8 }, time := 50002 };
    ((i, k) ∈ [(.drvSafeTrip c csn 0, Reg.drv_SAFE 0), (.drvSafeTrip c csn 1, Reg.drv_SAFE 1), (.drvSafeTrip c csn 2, Reg.drv_SAFE 2), (.tripSafe c csn, Reg.trip_SAFE), (.tripReq c csn, Reg.trip_REQ), (.fanSafeStop c csn, Reg.fan_SAFE), (.gpoSafeOff c csn, Reg.gpo_SAFE), (.releaseSafeEnter c csn, Reg.release_SAFE)]) ∧
    (d0.findCmp csn = some e) ∧
    (e.arr.get c = some a) ∧
    (e.safeDone = false) ∧
    (a.safeKey = some k) ∧
    (d0.firstSafe e = some c)) ∧ (
    let s : State := st ((Compare.cmpStates ++ Compare.clrStates).getD 3 Dev.reset);
    let c : CopyId := 1;
    let csn : Word := 0x7#32;
    let i : Instr := Instr.drvSafeTrip 1 0x7#32 0;
    let k : Nat := 86080;
    let d0 := s.dev;
    let e := { csn := 0x7#32, first := 50002, arr := { a := some { ty := ReqType.write, req := { csn := 0x7#32, retire := 0xa#48, tag := 0x3#6, world := World.iron, ring := 0, cls := 0x1#2, reissue := false, be := 0xf#4, addr := 0x40015040#32, data := 0x1#32, ecc := 0x0#7, rcrc := 0xbd#8 }, time := 50002 }, b := some { ty := ReqType.write, req := { csn := 0x7#32, retire := 0xa#48, tag := 0x3#6, world := World.iron, ring := 0, cls := 0x1#2, reissue := false, be := 0xf#4, addr := 0x40015040#32, data := 0x1#32, ecc := 0x0#7, rcrc := 0xbd#8 }, time := 50002 }, c := some { ty := ReqType.write, req := { csn := 0x7#32, retire := 0xa#48, tag := 0x3#6, world := World.iron, ring := 0, cls := 0x1#2, reissue := false, be := 0xf#4, addr := 0x40015040#32, data := 0x1#32, ecc := 0x0#7, rcrc := 0xbd#8 }, time := 50002 } }, agreed := { a := none, b := none, c := none }, stage := Stage.opened, winner := 0, safeDone := false, relAt := 0, delayed := false, refusal := none, flits := [], answered := { a := false, b := false, c := false } };
    let a := { ty := ReqType.write, req := { csn := 0x7#32, retire := 0xa#48, tag := 0x3#6, world := World.iron, ring := 0, cls := 0x1#2, reissue := false, be := 0xf#4, addr := 0x40015040#32, data := 0x1#32, ecc := 0x0#7, rcrc := 0xbd#8 }, time := 50002 };
    ((i, k) ∈ [(.drvSafeTrip c csn 0, Reg.drv_SAFE 0), (.drvSafeTrip c csn 1, Reg.drv_SAFE 1), (.drvSafeTrip c csn 2, Reg.drv_SAFE 2), (.tripSafe c csn, Reg.trip_SAFE), (.tripReq c csn, Reg.trip_REQ), (.fanSafeStop c csn, Reg.fan_SAFE), (.gpoSafeOff c csn, Reg.gpo_SAFE), (.releaseSafeEnter c csn, Reg.release_SAFE)]) ∧
    (d0.findCmp csn = some e) ∧
    (e.arr.get c = some a) ∧
    ((e.safeDone = true ∨ d0.firstSafe e ≠ some c))) := by
  refine ⟨?_, ?_⟩ <;> (try dsimp only [Copy.fetched, Copy.settled, Copy.canTrap, Copy.keepsStack, Copy.idleReady, Dev.letsWrite, Dev.hubAccepts, Dev.copyAccepts, ne_eq]) <;> decide +kernel

/-- States that meet the hypotheses of CompareDecisions, clause by clause. -/
theorem witness_CompareDecisions :
    (
    let s : State := st ((Compare.cmpStates ++ Compare.clrStates).getD 3 Dev.reset);
    let csn : Word := 0x7#32;
    let e : CmpEntry := { csn := 0x7#32, first := 50002, arr := { a := some { ty := ReqType.write, req := { csn := 0x7#32, retire := 0xa#48, tag := 0x3#6, world := World.iron, ring := 0, cls := 0x1#2, reissue := false, be := 0xf#4, addr := 0x40015040#32, data := 0x1#32, ecc := 0x0#7, rcrc := 0xbd#8 }, time := 50002 }, b := some { ty := ReqType.write, req := { csn := 0x7#32, retire := 0xa#48, tag := 0x3#6, world := World.iron, ring := 0, cls := 0x1#2, reissue := false, be := 0xf#4, addr := 0x40015040#32, data := 0x1#32, ecc := 0x0#7, rcrc := 0xbd#8 }, time := 50002 }, c := some { ty := ReqType.write, req := { csn := 0x7#32, retire := 0xa#48, tag := 0x3#6, world := World.iron, ring := 0, cls := 0x1#2, reissue := false, be := 0xf#4, addr := 0x40015040#32, data := 0x1#32, ecc := 0x0#7, rcrc := 0xbd#8 }, time := 50002 } }, agreed := { a := none, b := none, c := none }, stage := Stage.opened, winner := 0, safeDone := false, relAt := 0, delayed := false, refusal := none, flits := [], answered := { a := false, b := false, c := false } };
    let d0 := s.dev;
    let eq (p : Fin 3) : Bool := e.pairEqual p;
    (d0.findCmp csn = some e) ∧
    (e.csn = csn) ∧
    (e.stage = .opened) ∧
    (e.agreed = Tri.const none) ∧
    ((∀ p : Fin 3, d0.pairCode p.val = d0.gateCode p.val)) ∧
    (d0.nSvc = 3) ∧
    ((∀ c, (e.arr.get c).isSome = true)) ∧
    (eq 0 = true) ∧
    (eq 1 = true) ∧
    (eq 2 = true)) ∧ (
    let s : State := st ((Compare.cmpStates ++ Compare.clrStates).getD 44 Dev.reset);
    let csn : Word := 0x7#32;
    let e : CmpEntry := { csn := 0x7#32, first := 50002, arr := { a := some { ty := ReqType.write, req := { csn := 0x7#32, retire := 0xa#48, tag := 0x3#6, world := World.iron, ring := 0, cls := 0x1#2, reissue := false, be := 0xf#4, addr := 0x20000010#32, data := 0x2#32, ecc := 0x76#7, rcrc := 0x0#8 }, time := 50002 }, b := some { ty := ReqType.write, req := { csn := 0x7#32, retire := 0xa#48, tag := 0x3#6, world := World.iron, ring := 0, cls := 0x1#2, reissue := false, be := 0xf#4, addr := 0x20000010#32, data := 0x1#32, ecc := 0x7a#7, rcrc := 0x0#8 }, time := 50003 }, c := some { ty := ReqType.write, req := { csn := 0x7#32, retire := 0xa#48, tag := 0x3#6, world := World.iron, ring := 0, cls := 0x1#2, reissue := false, be := 0xf#4, addr := 0x20000010#32, data := 0x1#32, ecc := 0x7a#7, rcrc := 0x0#8 }, time := 50004 } }, agreed := { a := none, b := none, c := none }, stage := Stage.opened, winner := 0, safeDone := false, relAt := 50000, delayed := false, refusal := none, flits := [], answered := { a := false, b := false, c := false } };
    let d0 := s.dev;
    let eq (p : Fin 3) : Bool := e.pairEqual p;
    let z : CopyId := 0;
    let w : CopyId := 1;
    (d0.findCmp csn = some e) ∧
    (e.csn = csn) ∧
    (e.stage = .opened) ∧
    (e.agreed = Tri.const none) ∧
    ((∀ p : Fin 3, d0.pairCode p.val = d0.gateCode p.val)) ∧
    (d0.nSvc = 3) ∧
    ((∀ c, (e.arr.get c).isSome = true)) ∧
    ((∀ p : Fin 3, eq p = (decide ((pairCopies p).1 ≠ z) && decide ((pairCopies p).2 ≠ z)))) ∧
    (w = (if z = 0 then 1 else 0)) ∧
    (d0.cmp = [e]) ∧
    (d0.agr.dlv = none) ∧
    (d0.dbg.answers = Tri.const none)) ∧ (
    let s : State := st ((Compare.cmpStates ++ Compare.clrStates).getD 47 Dev.reset);
    let csn : Word := 0x7#32;
    let e : CmpEntry := { csn := 0x7#32, first := 50002, arr := { a := some { ty := ReqType.write, req := { csn := 0x7#32, retire := 0xa#48, tag := 0x3#6, world := World.iron, ring := 0, cls := 0x1#2, reissue := false, be := 0xf#4, addr := 0x20000010#32, data := 0x1#32, ecc := 0x7a#7, rcrc := 0x0#8 }, time := 50002 }, b := some { ty := ReqType.write, req := { csn := 0x7#32, retire := 0xa#48, tag := 0x3#6, world := World.iron, ring := 0, cls := 0x1#2, reissue := false, be := 0xf#4, addr := 0x20000010#32, data := 0x2#32, ecc := 0x76#7, rcrc := 0x0#8 }, time := 50003 }, c := some { ty := ReqType.write, req := { csn := 0x7#32, retire := 0xa#48, tag := 0x3#6, world := World.iron, ring := 0, cls := 0x1#2, reissue := false, be := 0xf#4, addr := 0x20000010#32, data := 0x3#32, ecc := 0x71#7, rcrc := 0x0#8 }, time := 50004 } }, agreed := { a := none, b := none, c := none }, stage := Stage.opened, winner := 0, safeDone := false, relAt := 50000, delayed := false, refusal := none, flits := [], answered := { a := false, b := false, c := false } };
    let d0 := s.dev;
    let eq (p : Fin 3) : Bool := e.pairEqual p;
    (d0.findCmp csn = some e) ∧
    (e.csn = csn) ∧
    (e.stage = .opened) ∧
    (e.agreed = Tri.const none) ∧
    ((∀ p : Fin 3, d0.pairCode p.val = d0.gateCode p.val)) ∧
    (d0.nSvc = 3) ∧
    ((∀ c, (e.arr.get c).isSome = true)) ∧
    (eq 0 = false) ∧
    (eq 1 = false) ∧
    (eq 2 = false)) ∧ (
    let s : State := st ((Compare.cmpStates ++ Compare.clrStates).getD 3 Dev.reset);
    let csn : Word := 0x7#32;
    let e : CmpEntry := { csn := 0x7#32, first := 50002, arr := { a := some { ty := ReqType.write, req := { csn := 0x7#32, retire := 0xa#48, tag := 0x3#6, world := World.iron, ring := 0, cls := 0x1#2, reissue := false, be := 0xf#4, addr := 0x40015040#32, data := 0x1#32, ecc := 0x0#7, rcrc := 0xbd#8 }, time := 50002 }, b := some { ty := ReqType.write, req := { csn := 0x7#32, retire := 0xa#48, tag := 0x3#6, world := World.iron, ring := 0, cls := 0x1#2, reissue := false, be := 0xf#4, addr := 0x40015040#32, data := 0x1#32, ecc := 0x0#7, rcrc := 0xbd#8 }, time := 50002 }, c := some { ty := ReqType.write, req := { csn := 0x7#32, retire := 0xa#48, tag := 0x3#6, world := World.iron, ring := 0, cls := 0x1#2, reissue := false, be := 0xf#4, addr := 0x40015040#32, data := 0x1#32, ecc := 0x0#7, rcrc := 0xbd#8 }, time := 50002 } }, agreed := { a := none, b := none, c := none }, stage := Stage.opened, winner := 0, safeDone := false, relAt := 0, delayed := false, refusal := none, flits := [], answered := { a := false, b := false, c := false } };
    let d0 := s.dev;
    let v : BitVec 2 := 0x2#2;
    (d0.findCmp csn = some e) ∧
    (e.csn = csn) ∧
    (e.stage = .opened) ∧
    (e.agreed = Tri.const none) ∧
    ((∀ p : Fin 3, d0.pairCode p.val = d0.gateCode p.val)) ∧
    (d0.nSvc = 3) ∧
    ((∀ c, (e.arr.get c).isSome = true)) ∧
    (v.toNat ≠ codeNext (d0.pairCode 0)) ∧
    (v.toNat ≠ d0.pairCode 0)) ∧ (
    let s : State := st ((Compare.cmpStates ++ Compare.clrStates).getD 53 Dev.reset);
    let csn : Word := 0x7#32;
    let e : CmpEntry := { csn := 0x7#32, first := 50002, arr := { a := some { ty := ReqType.write, req := { csn := 0x7#32, retire := 0xa#48, tag := 0x3#6, world := World.iron, ring := 0, cls := 0x1#2, reissue := false, be := 0xf#4, addr := 0x40015040#32, data := 0x1#32, ecc := 0x0#7, rcrc := 0xbd#8 }, time := 50002 }, b := some { ty := ReqType.write, req := { csn := 0x7#32, retire := 0xa#48, tag := 0x3#6, world := World.iron, ring := 0, cls := 0x1#2, reissue := false, be := 0xf#4, addr := 0x40015040#32, data := 0x1#32, ecc := 0x0#7, rcrc := 0xbd#8 }, time := 50002 }, c := some { ty := ReqType.write, req := { csn := 0x7#32, retire := 0xa#48, tag := 0x3#6, world := World.iron, ring := 0, cls := 0x1#2, reissue := false, be := 0xf#4, addr := 0x40015040#32, data := 0x1#32, ecc := 0x0#7, rcrc := 0xbd#8 }, time := 50002 } }, agreed := { a := none, b := none, c := none }, stage := Stage.opened, winner := 0, safeDone := false, relAt := 0, delayed := false, refusal := none, flits := [], answered := { a := false, b := false, c := false } };
    let d0 := s.dev;
    let eq (p : Fin 3) : Bool := e.pairEqual p;
    let x : CopyId := 0;
    let y : CopyId := 1;
    (d0.findCmp csn = some e) ∧
    (e.csn = csn) ∧
    (e.stage = .opened) ∧
    (e.agreed = Tri.const none) ∧
    ((∀ p : Fin 3, d0.pairCode p.val = d0.gateCode p.val)) ∧
    (d0.svcCopies = [x, y]) ∧
    ((e.arr.get x).isSome = true) ∧
    ((e.arr.get y).isSome = true) ∧
    (eq (pairOf x y) = true)) ∧ (
    let s : State := st ((Compare.cmpStates ++ Compare.clrStates).getD 94 Dev.reset);
    let csn : Word := 0x7#32;
    let e : CmpEntry := { csn := 0x7#32, first := 50002, arr := { a := some { ty := ReqType.write, req := { csn := 0x7#32, retire := 0xa#48, tag := 0x3#6, world := World.iron, ring := 0, cls := 0x1#2, reissue := false, be := 0xf#4, addr := 0x20000010#32, data := 0x2#32, ecc := 0x76#7, rcrc := 0x0#8 }, time := 50002 }, b := some { ty := ReqType.write, req := { csn := 0x7#32, retire := 0xa#48, tag := 0x3#6, world := World.iron, ring := 0, cls := 0x1#2, reissue := false, be := 0xf#4, addr := 0x20000010#32, data := 0x1#32, ecc := 0x7a#7, rcrc := 0x0#8 }, time := 50003 }, c := some { ty := ReqType.write, req := { csn := 0x7#32, retire := 0xa#48, tag := 0x3#6, world := World.iron, ring := 0, cls := 0x1#2, reissue := false, be := 0xf#4, addr := 0x20000010#32, data := 0x1#32, ecc := 0x7a#7, rcrc := 0x0#8 }, time := 50004 } }, agreed := { a := none, b := none, c := none }, stage := Stage.opened, winner := 0, safeDone := false, relAt := 50000, delayed := false, refusal := none, flits := [], answered := { a := false, b := false, c := false } };
    let d0 := s.dev;
    let eq (p : Fin 3) : Bool := e.pairEqual p;
    let x : CopyId := 0;
    let y : CopyId := 1;
    (d0.findCmp csn = some e) ∧
    (e.csn = csn) ∧
    (e.stage = .opened) ∧
    (e.agreed = Tri.const none) ∧
    ((∀ p : Fin 3, d0.pairCode p.val = d0.gateCode p.val)) ∧
    (d0.svcCopies = [x, y]) ∧
    ((e.arr.get x).isSome = true) ∧
    ((e.arr.get y).isSome = true) ∧
    (eq (pairOf x y) = false)) ∧ (
    let s : State := st ((Compare.cmpStates ++ Compare.clrStates).getD 99 Dev.reset);
    let csn : Word := 0x7#32;
    let e : CmpEntry := { csn := 0x7#32, first := 50002, arr := { a := some { ty := ReqType.write, req := { csn := 0x7#32, retire := 0xa#48, tag := 0x3#6, world := World.iron, ring := 0, cls := 0x1#2, reissue := false, be := 0xf#4, addr := 0x20000010#32, data := 0x1#32, ecc := 0x7a#7, rcrc := 0x0#8 }, time := 50002 }, b := none, c := none }, agreed := { a := none, b := none, c := none }, stage := Stage.opened, winner := 0, safeDone := false, relAt := 50000, delayed := false, refusal := none, flits := [], answered := { a := false, b := false, c := false } };
    let d0 := s.dev;
    let x : CopyId := 0;
    let y : CopyId := 1;
    (d0.findCmp csn = some e) ∧
    (e.csn = csn) ∧
    (e.stage = .opened) ∧
    (e.agreed = Tri.const none) ∧
    ((∀ p : Fin 3, d0.pairCode p.val = d0.gateCode p.val)) ∧
    (d0.svcCopies = [x, y]) ∧
    ((e.arr.get x).isSome = true) ∧
    (e.arr.get y = none) ∧
    (d0.agr.reports = [])) ∧ (
    let s : State := st ((Compare.cmpStates ++ Compare.clrStates).getD 50 Dev.reset);
    let csn : Word := 0x7#32;
    let e : CmpEntry := { csn := 0x7#32, first := 50002, arr := { a := none, b := some { ty := ReqType.write, req := { csn := 0x7#32, retire := 0xa#48, tag := 0x3#6, world := World.iron, ring := 0, cls := 0x1#2, reissue := false, be := 0xf#4, addr := 0x20000010#32, data := 0x1#32, ecc := 0x7a#7, rcrc := 0x0#8 }, time := 50003 }, c := some { ty := ReqType.write, req := { csn := 0x7#32, retire := 0xa#48, tag := 0x3#6, world := World.iron, ring := 0, cls := 0x1#2, reissue := false, be := 0xf#4, addr := 0x20000010#32, data := 0x1#32, ecc := 0x7a#7, rcrc := 0x0#8 }, time := 50004 } }, agreed := { a := some true, b := some true, c := some true }, stage := Stage.released, winner := 0, safeDone := false, relAt := 50000, delayed := false, refusal := none, flits := [], answered := { a := false, b := false, c := false } };
    let z : CopyId := 0;
    let d0 := s.dev;
    let p : Fin 3 := if z = 0 then 2 else if z = 1 then 1 else 0;
    (d0.nSvc = 3) ∧
    (d0.cmp = [e]) ∧
    (e.csn = csn) ∧
    (e.stage = .released) ∧
    ((∀ c, (e.arr.get c).isSome = decide (c ≠ z))) ∧
    (e.agreed.get p = some true) ∧
    (d0.agr.reports = []) ∧
    (d0.agr.dlv = none) ∧
    (d0.dbg.answers = Tri.const none)) := by
  refine ⟨?_, ?_, ?_, ?_, ?_, ?_, ?_, ?_⟩ <;> (try dsimp only [Copy.fetched, Copy.settled, Copy.canTrap, Copy.keepsStack, Copy.idleReady, Dev.letsWrite, Dev.hubAccepts, Dev.copyAccepts, ne_eq]) <;> decide +kernel

/-- States that meet the hypotheses of RequestsExecute, clause by clause. -/
theorem witness_RequestsExecute :
    (
    let s : State := st ((Compare.cmpStates ++ Compare.clrStates).getD 13 Dev.reset);
    let csn : Word := 0x7#32;
    let e : CmpEntry := { csn := 0x7#32, first := 50002, arr := { a := some { ty := ReqType.read, req := { csn := 0x7#32, retire := 0xa#48, tag := 0x3#6, world := World.iron, ring := 0, cls := 0x1#2, reissue := false, be := 0xf#4, addr := 0x20000010#32, data := 0x1234#32, ecc := 0x4c#7, rcrc := 0x0#8 }, time := 100 }, b := some { ty := ReqType.read, req := { csn := 0x7#32, retire := 0xa#48, tag := 0x3#6, world := World.iron, ring := 0, cls := 0x1#2, reissue := false, be := 0xf#4, addr := 0x20000010#32, data := 0x1234#32, ecc := 0x4c#7, rcrc := 0x0#8 }, time := 100 }, c := some { ty := ReqType.read, req := { csn := 0x7#32, retire := 0xa#48, tag := 0x3#6, world := World.iron, ring := 0, cls := 0x1#2, reissue := false, be := 0xf#4, addr := 0x20000010#32, data := 0x1234#32, ecc := 0x4c#7, rcrc := 0x0#8 }, time := 100 } }, agreed := { a := some true, b := some true, c := some true }, stage := Stage.released, winner := 0, safeDone := false, relAt := 50000, delayed := false, refusal := none, flits := [], answered := { a := false, b := false, c := false } };
    let q : Req := { csn := 0x7#32, retire := 0xa#48, tag := 0x3#6, world := World.iron, ring := 0, cls := 0x1#2, reissue := false, be := 0xf#4, addr := 0x20000010#32, data := 0x1234#32, ecc := 0x4c#7, rcrc := 0x0#8 };
    let ty : ReqType := ReqType.read;
    let t : Nat := 100;
    let d0 := s.dev;
    (d0.findCmp csn = some e) ∧
    (e.csn = csn) ∧
    (e.answered = Tri.const false) ∧
    (e.agreed = Tri.const (some true)) ∧
    ((∀ c, e.arr.get c = some ⟨ty, q, t⟩)) ∧
    (d0.nSvc = 3) ∧
    ((∀ c, d0.liveLink c = true)) ∧
    (e.refusal = none) ∧
    (e.stage = .released) ∧
    (d0.lackers e = [])) ∧ (
    let s : State := st ((Compare.cmpStates ++ Compare.clrStates).getD 24 Dev.reset);
    let csn : Word := 0x7#32;
    let e : CmpEntry := { csn := 0x7#32, first := 50002, arr := { a := some { ty := ReqType.write, req := { csn := 0x7#32, retire := 0xa#48, tag := 0x3#6, world := World.iron, ring := 0, cls := 0x1#2, reissue := false, be := 0xf#4, addr := 0x20000010#32, data := 0x1234#32, ecc := 0x4c#7, rcrc := 0x0#8 }, time := 100 }, b := some { ty := ReqType.write, req := { csn := 0x7#32, retire := 0xa#48, tag := 0x3#6, world := World.iron, ring := 0, cls := 0x1#2, reissue := false, be := 0xf#4, addr := 0x20000010#32, data := 0x1234#32, ecc := 0x4c#7, rcrc := 0x0#8 }, time := 100 }, c := some { ty := ReqType.write, req := { csn := 0x7#32, retire := 0xa#48, tag := 0x3#6, world := World.iron, ring := 0, cls := 0x1#2, reissue := false, be := 0xf#4, addr := 0x20000010#32, data := 0x1234#32, ecc := 0x4c#7, rcrc := 0x0#8 }, time := 100 } }, agreed := { a := some true, b := some true, c := some true }, stage := Stage.reserved, winner := 0, safeDone := false, relAt := 50000, delayed := false, refusal := none, flits := [], answered := { a := false, b := false, c := false } };
    let q : Req := { csn := 0x7#32, retire := 0xa#48, tag := 0x3#6, world := World.iron, ring := 0, cls := 0x1#2, reissue := false, be := 0xf#4, addr := 0x20000010#32, data := 0x1234#32, ecc := 0x4c#7, rcrc := 0x0#8 };
    let ty : ReqType := ReqType.write;
    let t : Nat := 100;
    let d0 := s.dev;
    (d0.findCmp csn = some e) ∧
    (e.csn = csn) ∧
    (e.answered = Tri.const false) ∧
    (e.agreed = Tri.const (some true)) ∧
    ((∀ c, e.arr.get c = some ⟨ty, q, t⟩)) ∧
    (d0.nSvc = 3) ∧
    ((∀ c, d0.liveLink c = true)) ∧
    (e.refusal = none) ∧
    (e.stage = .reserved) ∧
    (d0.csnTurn csn = true) ∧
    (d0.pages.lv = []) ∧
    (d0.now ≤ e.relAt + 8) ∧
    (e.delayed = false) ∧
    (ty = .write) ∧
    (isSram q.addr.toNat = true) ∧
    (q.be = 0xF) ∧
    (ecc q.data q.addr = q.ecc) ∧
    (q.addr.toNat % 4 = 0)) ∧ (
    let s : State := st ((Compare.cmpStates ++ Compare.clrStates).getD 26 Dev.reset);
    let csn : Word := 0x7#32;
    let e : CmpEntry := { csn := 0x7#32, first := 50002, arr := { a := some { ty := ReqType.write, req := { csn := 0x7#32, retire := 0xa#48, tag := 0x3#6, world := World.iron, ring := 0, cls := 0x0#2, reissue := false, be := 0xf#4, addr := 0x20000010#32, data := 0x1234#32, ecc := 0x5#7, rcrc := 0x0#8 }, time := 100 }, b := some { ty := ReqType.write, req := { csn := 0x7#32, retire := 0xa#48, tag := 0x3#6, world := World.iron, ring := 0, cls := 0x0#2, reissue := false, be := 0xf#4, addr := 0x20000010#32, data := 0x1234#32, ecc := 0x5#7, rcrc := 0x0#8 }, time := 100 }, c := some { ty := ReqType.write, req := { csn := 0x7#32, retire := 0xa#48, tag := 0x3#6, world := World.iron, ring := 0, cls := 0x0#2, reissue := false, be := 0xf#4, addr := 0x20000010#32, data := 0x1234#32, ecc := 0x5#7, rcrc := 0x0#8 }, time := 100 } }, agreed := { a := some true, b := some true, c := some true }, stage := Stage.reserved, winner := 0, safeDone := false, relAt := 50000, delayed := false, refusal := none, flits := [], answered := { a := false, b := false, c := false } };
    let q : Req := { csn := 0x7#32, retire := 0xa#48, tag := 0x3#6, world := World.iron, ring := 0, cls := 0x0#2, reissue := false, be := 0xf#4, addr := 0x20000010#32, data := 0x1234#32, ecc := 0x5#7, rcrc := 0x0#8 };
    let ty : ReqType := ReqType.write;
    let t : Nat := 100;
    let d0 := s.dev;
    (d0.findCmp csn = some e) ∧
    (e.csn = csn) ∧
    (e.answered = Tri.const false) ∧
    (e.agreed = Tri.const (some true)) ∧
    ((∀ c, e.arr.get c = some ⟨ty, q, t⟩)) ∧
    (d0.nSvc = 3) ∧
    ((∀ c, d0.liveLink c = true)) ∧
    (e.refusal = none) ∧
    (e.stage = .reserved) ∧
    (d0.csnTurn csn = true) ∧
    (d0.pages.lv = []) ∧
    (d0.now ≤ e.relAt + 8) ∧
    (e.delayed = false) ∧
    (ty = .write) ∧
    (isSram q.addr.toNat = true) ∧
    (q.be = 0xF) ∧
    (ecc q.data q.addr ≠ q.ecc)) ∧ (
    let s : State := st ((Compare.cmpStates ++ Compare.clrStates).getD 14 Dev.reset);
    let csn : Word := 0x7#32;
    let e : CmpEntry := { csn := 0x7#32, first := 50002, arr := { a := some { ty := ReqType.read, req := { csn := 0x7#32, retire := 0xa#48, tag := 0x3#6, world := World.iron, ring := 0, cls := 0x1#2, reissue := false, be := 0xf#4, addr := 0x20000010#32, data := 0x1234#32, ecc := 0x4c#7, rcrc := 0x0#8 }, time := 100 }, b := some { ty := ReqType.read, req := { csn := 0x7#32, retire := 0xa#48, tag := 0x3#6, world := World.iron, ring := 0, cls := 0x1#2, reissue := false, be := 0xf#4, addr := 0x20000010#32, data := 0x1234#32, ecc := 0x4c#7, rcrc := 0x0#8 }, time := 100 }, c := some { ty := ReqType.read, req := { csn := 0x7#32, retire := 0xa#48, tag := 0x3#6, world := World.iron, ring := 0, cls := 0x1#2, reissue := false, be := 0xf#4, addr := 0x20000010#32, data := 0x1234#32, ecc := 0x4c#7, rcrc := 0x0#8 }, time := 100 } }, agreed := { a := some true, b := some true, c := some true }, stage := Stage.reserved, winner := 0, safeDone := false, relAt := 50000, delayed := false, refusal := none, flits := [], answered := { a := false, b := false, c := false } };
    let q : Req := { csn := 0x7#32, retire := 0xa#48, tag := 0x3#6, world := World.iron, ring := 0, cls := 0x1#2, reissue := false, be := 0xf#4, addr := 0x20000010#32, data := 0x1234#32, ecc := 0x4c#7, rcrc := 0x0#8 };
    let ty : ReqType := ReqType.read;
    let t : Nat := 100;
    let d0 := s.dev;
    let a := q.addr.toNat / 4 * 4;
    (d0.findCmp csn = some e) ∧
    (e.csn = csn) ∧
    (e.answered = Tri.const false) ∧
    (e.agreed = Tri.const (some true)) ∧
    ((∀ c, e.arr.get c = some ⟨ty, q, t⟩)) ∧
    (d0.nSvc = 3) ∧
    ((∀ c, d0.liveLink c = true)) ∧
    (e.refusal = none) ∧
    (e.stage = .reserved) ∧
    (d0.csnTurn csn = true) ∧
    (d0.pages.lv = []) ∧
    (d0.now ≤ e.relAt + 8) ∧
    (e.delayed = false) ∧
    (ty = .read) ∧
    ((isSram a = true ∨ isContext a = true))) ∧ (
    let s : State := st ((Compare.cmpStates ++ Compare.clrStates).getD 18 Dev.reset);
    let csn : Word := 0x7#32;
    let e : CmpEntry := { csn := 0x7#32, first := 50002, arr := { a := some { ty := ReqType.read, req := { csn := 0x7#32, retire := 0xa#48, tag := 0x3#6, world := World.iron, ring := 0, cls := 0x2#2, reissue := false, be := 0xf#4, addr := 0x40000048#32, data := 0x0#32, ecc := 0x60#7, rcrc := 0x0#8 }, time := 100 }, b := some { ty := ReqType.read, req := { csn := 0x7#32, retire := 0xa#48, tag := 0x3#6, world := World.iron, ring := 0, cls := 0x2#2, reissue := false, be := 0xf#4, addr := 0x40000048#32, data := 0x0#32, ecc := 0x60#7, rcrc := 0x0#8 }, time := 100 }, c := some { ty := ReqType.read, req := { csn := 0x7#32, retire := 0xa#48, tag := 0x3#6, world := World.iron, ring := 0, cls := 0x2#2, reissue := false, be := 0xf#4, addr := 0x40000048#32, data := 0x0#32, ecc := 0x60#7, rcrc := 0x0#8 }, time := 100 } }, agreed := { a := some true, b := some true, c := some true }, stage := Stage.reserved, winner := 0, safeDone := false, relAt := 50000, delayed := false, refusal := none, flits := [], answered := { a := false, b := false, c := false } };
    let q : Req := { csn := 0x7#32, retire := 0xa#48, tag := 0x3#6, world := World.iron, ring := 0, cls := 0x2#2, reissue := false, be := 0xf#4, addr := 0x40000048#32, data := 0x0#32, ecc := 0x60#7, rcrc := 0x0#8 };
    let ty : ReqType := ReqType.read;
    let t : Nat := 100;
    let d0 := s.dev;
    let a := q.addr.toNat / 4 * 4;
    (d0.findCmp csn = some e) ∧
    (e.csn = csn) ∧
    (e.answered = Tri.const false) ∧
    (e.agreed = Tri.const (some true)) ∧
    ((∀ c, e.arr.get c = some ⟨ty, q, t⟩)) ∧
    (d0.nSvc = 3) ∧
    ((∀ c, d0.liveLink c = true)) ∧
    (e.refusal = none) ∧
    (e.stage = .reserved) ∧
    (d0.csnTurn csn = true) ∧
    (d0.pages.lv = []) ∧
    (d0.now ≤ e.relAt + 8) ∧
    (e.delayed = false) ∧
    (ty = .read) ∧
    (isPages a = true) ∧
    (d0.guardOk ((a - 0x40000000) / 0x1000) (reqSrc q) false = true) ∧
    (isPairLo (a - 0x40000000) = false) ∧
    (isPairHi (a - 0x40000000) = false)) ∧ (
    let s : State := st ((Compare.cmpStates ++ Compare.clrStates).getD 34 Dev.reset);
    let csn : Word := 0x7#32;
    let e : CmpEntry := { csn := 0x7#32, first := 50002, arr := { a := some { ty := ReqType.fetch, req := { csn := 0x7#32, retire := 0xa#48, tag := 0x3#6, world := World.iron, ring := 0, cls := 0x1#2, reissue := false, be := 0xf#4, addr := 0x20000010#32, data := 0x1234#32, ecc := 0x4c#7, rcrc := 0x0#8 }, time := 100 }, b := some { ty := ReqType.fetch, req := { csn := 0x7#32, retire := 0xa#48, tag := 0x3#6, world := World.iron, ring := 0, cls := 0x1#2, reissue := false, be := 0xf#4, addr := 0x20000010#32, data := 0x1234#32, ecc := 0x4c#7, rcrc := 0x0#8 }, time := 100 }, c := some { ty := ReqType.fetch, req := { csn := 0x7#32, retire := 0xa#48, tag := 0x3#6, world := World.iron, ring := 0, cls := 0x1#2, reissue := false, be := 0xf#4, addr := 0x20000010#32, data := 0x1234#32, ecc := 0x4c#7, rcrc := 0x0#8 }, time := 100 } }, agreed := { a := some true, b := some true, c := some true }, stage := Stage.reserved, winner := 0, safeDone := false, relAt := 50000, delayed := false, refusal := none, flits := [], answered := { a := false, b := false, c := false } };
    let q : Req := { csn := 0x7#32, retire := 0xa#48, tag := 0x3#6, world := World.iron, ring := 0, cls := 0x1#2, reissue := false, be := 0xf#4, addr := 0x20000010#32, data := 0x1234#32, ecc := 0x4c#7, rcrc := 0x0#8 };
    let ty : ReqType := ReqType.fetch;
    let t : Nat := 100;
    let d0 := s.dev;
    (d0.findCmp csn = some e) ∧
    (e.csn = csn) ∧
    (e.answered = Tri.const false) ∧
    (e.agreed = Tri.const (some true)) ∧
    ((∀ c, e.arr.get c = some ⟨ty, q, t⟩)) ∧
    (d0.nSvc = 3) ∧
    ((∀ c, d0.liveLink c = true)) ∧
    (e.refusal = none) ∧
    (e.stage = .reserved) ∧
    (d0.csnTurn csn = true) ∧
    (d0.pages.lv = []) ∧
    (d0.now ≤ e.relAt + 8) ∧
    (e.delayed = false) ∧
    (ty = .fetch) ∧
    (isSram (q.addr.toNat / 32 * 32) = true)) ∧ (
    let s : State := st ((Compare.cmpStates ++ Compare.clrStates).getD 20 Dev.reset);
    let csn : Word := 0x7#32;
    let e : CmpEntry := { csn := 0x7#32, first := 50002, arr := { a := some { ty := ReqType.read, req := { csn := 0x7#32, retire := 0xa#48, tag := 0x3#6, world := World.iron, ring := 0, cls := 0x1#2, reissue := false, be := 0xf#4, addr := 0x70000000#32, data := 0x0#32, ecc := 0x6a#7, rcrc := 0x0#8 }, time := 100 }, b := some { ty := ReqType.read, req := { csn := 0x7#32, retire := 0xa#48, tag := 0x3#6, world := World.iron, ring := 0, cls := 0x1#2, reissue := false, be := 0xf#4, addr := 0x70000000#32, data := 0x0#32, ecc := 0x6a#7, rcrc := 0x0#8 }, time := 100 }, c := some { ty := ReqType.read, req := { csn := 0x7#32, retire := 0xa#48, tag := 0x3#6, world := World.iron, ring := 0, cls := 0x1#2, reissue := false, be := 0xf#4, addr := 0x70000000#32, data := 0x0#32, ecc := 0x6a#7, rcrc := 0x0#8 }, time := 100 } }, agreed := { a := some true, b := some true, c := some true }, stage := Stage.reserved, winner := 0, safeDone := false, relAt := 50000, delayed := false, refusal := none, flits := [], answered := { a := false, b := false, c := false } };
    let q : Req := { csn := 0x7#32, retire := 0xa#48, tag := 0x3#6, world := World.iron, ring := 0, cls := 0x1#2, reissue := false, be := 0xf#4, addr := 0x70000000#32, data := 0x0#32, ecc := 0x6a#7, rcrc := 0x0#8 };
    let ty : ReqType := ReqType.read;
    let t : Nat := 100;
    let d0 := s.dev;
    let a := q.addr.toNat / 4 * 4;
    (d0.findCmp csn = some e) ∧
    (e.csn = csn) ∧
    (e.answered = Tri.const false) ∧
    (e.agreed = Tri.const (some true)) ∧
    ((∀ c, e.arr.get c = some ⟨ty, q, t⟩)) ∧
    (d0.nSvc = 3) ∧
    ((∀ c, d0.liveLink c = true)) ∧
    (e.refusal = none) ∧
    (e.stage = .reserved) ∧
    (d0.csnTurn csn = true) ∧
    (d0.pages.lv = []) ∧
    (d0.now ≤ e.relAt + 8) ∧
    (e.delayed = false) ∧
    (ty = .read) ∧
    (0x60000000 ≤ a)) := by
  refine ⟨?_, ?_, ?_, ?_, ?_, ?_, ?_⟩ <;> (try dsimp only [Copy.fetched, Copy.settled, Copy.canTrap, Copy.keepsStack, Copy.idleReady, Dev.letsWrite, Dev.hubAccepts, Dev.copyAccepts, ne_eq]) <;> decide +kernel

/-- States that meet the hypotheses of RequestDeadlines, clause by clause. -/
theorem witness_RequestDeadlines :
    (
    let s : State := st ((Compare.cmpStates ++ Compare.clrStates).getD 113 Dev.reset);
    let csn : Word := 0x7#32;
    let e : CmpEntry := { csn := 0x7#32, first := 50002, arr := { a := some { ty := ReqType.read, req := { csn := 0x7#32, retire := 0xa#48, tag := 0x3#6, world := World.iron, ring := 0, cls := 0x1#2, reissue := false, be := 0xf#4, addr := 0x20000010#32, data := 0x1234#32, ecc := 0x4c#7, rcrc := 0x0#8 }, time := 100 }, b := some { ty := ReqType.read, req := { csn := 0x7#32, retire := 0xa#48, tag := 0x3#6, world := World.iron, ring := 0, cls := 0x1#2, reissue := false, be := 0xf#4, addr := 0x20000010#32, data := 0x1234#32, ecc := 0x4c#7, rcrc := 0x0#8 }, time := 100 }, c := some { ty := ReqType.read, req := { csn := 0x7#32, retire := 0xa#48, tag := 0x3#6, world := World.iron, ring := 0, cls := 0x1#2, reissue := false, be := 0xf#4, addr := 0x20000010#32, data := 0x1234#32, ecc := 0x4c#7, rcrc := 0x0#8 }, time := 100 } }, agreed := { a := some true, b := some true, c := some true }, stage := Stage.released, winner := 0, safeDone := false, relAt := 50000, delayed := false, refusal := none, flits := [], answered := { a := false, b := false, c := false } };
    let d0 := s.dev;
    (d0.findCmp csn = some e) ∧
    (e.csn = csn) ∧
    (e.answered = Tri.const false) ∧
    (e.cls ≠ 0) ∧
    ((∀ c, d0.inSvc c = true → d0.liveLink c = true)) ∧
    (e.stage = .released) ∧
    (d0.lackers e ≠ [])) ∧ (
    let s : State := st ((Compare.cmpStates ++ Compare.clrStates).getD 14 Dev.reset);
    let csn : Word := 0x7#32;
    let e : CmpEntry := { csn := 0x7#32, first := 50002, arr := { a := some { ty := ReqType.read, req := { csn := 0x7#32, retire := 0xa#48, tag := 0x3#6, world := World.iron, ring := 0, cls := 0x1#2, reissue := false, be := 0xf#4, addr := 0x20000010#32, data := 0x1234#32, ecc := 0x4c#7, rcrc := 0x0#8 }, time := 100 }, b := some { ty := ReqType.read, req := { csn := 0x7#32, retire := 0xa#48, tag := 0x3#6, world := World.iron, ring := 0, cls := 0x1#2, reissue := false, be := 0xf#4, addr := 0x20000010#32, data := 0x1234#32, ecc := 0x4c#7, rcrc := 0x0#8 }, time := 100 }, c := some { ty := ReqType.read, req := { csn := 0x7#32, retire := 0xa#48, tag := 0x3#6, world := World.iron, ring := 0, cls := 0x1#2, reissue := false, be := 0xf#4, addr := 0x20000010#32, data := 0x1234#32, ecc := 0x4c#7, rcrc := 0x0#8 }, time := 100 } }, agreed := { a := some true, b := some true, c := some true }, stage := Stage.reserved, winner := 0, safeDone := false, relAt := 50000, delayed := false, refusal := none, flits := [], answered := { a := false, b := false, c := false } };
    let d0 := s.dev;
    (d0.findCmp csn = some e) ∧
    (e.csn = csn) ∧
    (e.answered = Tri.const false) ∧
    (e.cls ≠ 0) ∧
    ((∀ c, d0.inSvc c = true → d0.liveLink c = true)) ∧
    (e.stage = .reserved)) ∧ (
    let s : State := st ((Compare.cmpStates ++ Compare.clrStates).getD 16 Dev.reset);
    let e : CmpEntry := { csn := 0x7#32, first := 50002, arr := { a := some { ty := ReqType.read, req := { csn := 0x7#32, retire := 0xa#48, tag := 0x3#6, world := World.iron, ring := 0, cls := 0x0#2, reissue := false, be := 0xf#4, addr := 0x20000010#32, data := 0x1234#32, ecc := 0x5#7, rcrc := 0x0#8 }, time := 100 }, b := some { ty := ReqType.read, req := { csn := 0x7#32, retire := 0xa#48, tag := 0x3#6, world := World.iron, ring := 0, cls := 0x0#2, reissue := false, be := 0xf#4, addr := 0x20000010#32, data := 0x1234#32, ecc := 0x5#7, rcrc := 0x0#8 }, time := 100 }, c := some { ty := ReqType.read, req := { csn := 0x7#32, retire := 0xa#48, tag := 0x3#6, world := World.iron, ring := 0, cls := 0x0#2, reissue := false, be := 0xf#4, addr := 0x20000010#32, data := 0x1234#32, ecc := 0x5#7, rcrc := 0x0#8 }, time := 100 } }, agreed := { a := some true, b := some true, c := some true }, stage := Stage.reserved, winner := 0, safeDone := false, relAt := 50000, delayed := false, refusal := none, flits := [], answered := { a := false, b := false, c := false } };
    let d0 := s.dev;
    (d0.cmp.find? (fun x => x.stage == .reserved && x.cls == 0) = some e)) ∧ (
    let s : State := st ((Compare.cmpStates ++ Compare.clrStates).getD 115 Dev.reset);
    let d0 := s.dev;
    let c : CopyId := 0;
    let t : Nat := 50000;
    (d0.guardSince c = some t)) := by
  refine ⟨?_, ?_, ?_, ?_⟩ <;> (try dsimp only [Copy.fetched, Copy.settled, Copy.canTrap, Copy.keepsStack, Copy.idleReady, Dev.letsWrite, Dev.hubAccepts, Dev.copyAccepts, ne_eq]) <;> decide +kernel

/-- States that meet the hypotheses of LatchesClear, clause by clause. -/
theorem witness_LatchesClear :
    (
    let s : State := st ((Compare.cmpStates ++ Compare.clrStates).getD 0 Dev.reset);
    let src : Src := Src.copies (World.iron) 0;
    let v : Word := 0x7#32;
    let d0 := s.dev;
    (d0.letsWrite src Reg.release_CLR) ∧
    (fld v 31 24 ≠ 0x3C)) ∧ (
    let s : State := st ((Compare.cmpStates ++ Compare.clrStates).getD 0 Dev.reset);
    let src : Src := Src.copies (World.iron) 0;
    let v : Word := 0x3c000001#32;
    let d0 := s.dev;
    (d0.letsWrite src Reg.release_CLR) ∧
    (fld v 31 24 = 0x3C) ∧
    (bitOf v 0 = true) ∧
    (d0.rfld Reg.release_RSTCNT 31 16 < d0.rfld Reg.release_RSTCFG 31 16)) ∧ (
    let s : State := st ((Compare.cmpStates ++ Compare.clrStates).getD 0 Dev.reset);
    let src : Src := Src.copies (World.iron) 0;
    let v : Word := 0x3c005a50#32;
    let d0 := s.dev;
    (d0.letsWrite src Reg.release_CLR) ∧
    (fld v 31 24 = 0x3C) ∧
    (d0.jRoom 1 = true) ∧
    (d0.pages.lv = []) ∧
    (d0.cmp = []) ∧
    ((bitOf v 0 = true → d0.rfld Reg.release_RSTCFG 31 16 ≤ d0.rfld Reg.release_RSTCNT 31 16 ∧ d0.planExec = false))) := by
  refine ⟨?_, ?_, ?_⟩ <;> (try dsimp only [Copy.fetched, Copy.settled, Copy.canTrap, Copy.keepsStack, Copy.idleReady, Dev.letsWrite, Dev.hubAccepts, Dev.copyAccepts, ne_eq]) <;> decide +kernel

/-- States that meet the hypotheses of FlashAndUpkeep, clause by clause. -/
theorem witness_FlashAndUpkeep :
    (
    let s : State := st (Mem.memStates.getD 1 Dev.reset);
    let j : FlashJob := { op := 0x1#2, dst := 0x1000#32, src := 0x20000100#32, cnt := 2, done := 0, result := 0x0#3, running := true, jtag := false, data := [] };
    let d0 := s.dev;
    let x : Job := { id := 1, kind := JobKind.flashErase, cls := 0x1#2, energy := 38400, hold := 38400, admitted := true, since := 40000, overran := false, flash := none };
    let got : List CWord := [];
    let ws := [0x0#32, 0x4d#32, 0x9a#32, 0xe7#32, 0x134#32, 0x181#32, 0x1ce#32, 0x21b#32];
    (d0.flash = some j) ∧
    (d0.flashLedgerJob = some x) ∧
    (j.going = true) ∧
    (j.op = 1) ∧
    (d0.rowSource j = some ws) ∧
    (got = [])) ∧ (
    let s : State := st (Mem.memStates.getD 1 Dev.reset);
    let j : FlashJob := { op := 0x1#2, dst := 0x1000#32, src := 0x20000100#32, cnt := 2, done := 0, result := 0x0#3, running := true, jtag := false, data := [] };
    let d0 := s.dev;
    let x : Job := { id := 1, kind := JobKind.flashErase, cls := 0x1#2, energy := 38400, hold := 38400, admitted := true, since := 40000, overran := false, flash := none };
    let got : List CWord := [{ data := 0x0#32, ecc := 0x1#7 }];
    let dst := j.dst.toNat + 32 * j.done;
    let ws := [0x0#32, 0x4d#32, 0x9a#32, 0xe7#32, 0x134#32, 0x181#32, 0x1ce#32, 0x21b#32];
    (d0.flash = some j) ∧
    (d0.flashLedgerJob = some x) ∧
    (j.going = true) ∧
    (j.op = 1) ∧
    (d0.rowSource j = some ws) ∧
    (got.take ws.length ≠ (codedFrom dst ws).take got.length)) ∧ (
    let s : State := st (Mem.memStates.getD 10 Dev.reset);
    let j : FlashJob := { op := 0x1#2, dst := 0x1000#32, src := 0x20000100#32, cnt := 2, done := 0, result := 0x0#3, running := true, jtag := false, data := [] };
    let d0 := s.dev;
    let x : Job := { id := 1, kind := JobKind.flashErase, cls := 0x1#2, energy := 38400, hold := 38400, admitted := true, since := 40000, overran := false, flash := none };
    (d0.flash = some j) ∧
    (d0.flashLedgerJob = some x) ∧
    (j.going = true) ∧
    (j.op = 1) ∧
    (d0.rowSource j = none)) ∧ (
    let s : State := st (Mem.memStates.getD 3 Dev.reset);
    let j : FlashJob := { op := 0x2#2, dst := 0x1000#32, src := 0x0#32, cnt := 2, done := 0, result := 0x0#3, running := true, jtag := false, data := [] };
    let d0 := s.dev;
    let x : Job := { id := 1, kind := JobKind.flashErase, cls := 0x1#2, energy := 38400, hold := 38400, admitted := true, since := 40000, overran := false, flash := none };
    let got : List CWord := [];
    let sec := j.dst.toNat + 4096 * j.done;
    (d0.flash = some j) ∧
    (d0.flashLedgerJob = some x) ∧
    (j.going = true) ∧
    (j.op = 2) ∧
    (sec + 4096 ≤ 0x400000) ∧
    (got = [])) ∧ (
    let s : State := st (Mem.memStates.getD 3 Dev.reset);
    let j : FlashJob := { op := 0x2#2, dst := 0x1000#32, src := 0x0#32, cnt := 2, done := 0, result := 0x0#3, running := true, jtag := false, data := [] };
    let d0 := s.dev;
    let x : Job := { id := 1, kind := JobKind.flashErase, cls := 0x1#2, energy := 38400, hold := 38400, admitted := true, since := 40000, overran := false, flash := none };
    let got : List CWord := [{ data := 0x0#32, ecc := 0x1#7 }];
    let sec := j.dst.toNat + 4096 * j.done;
    (d0.flash = some j) ∧
    (d0.flashLedgerJob = some x) ∧
    (j.going = true) ∧
    (j.op = 2) ∧
    (sec + 4096 ≤ 0x400000) ∧
    (got.length ≤ 1024) ∧
    ((∃ w ∈ got, w ≠ ⟨0xFFFFFFFF, 0x7F⟩))) ∧ (
    let s : State := st (Mem.memStates.getD 0 Dev.reset);
    let j : FlashJob := { op := 0x3#2, dst := 0x1000#32, src := 0x0#32, cnt := 2, done := 1, result := 0x0#3, running := true, jtag := false, data := [] };
    let d0 := s.dev;
    let x : Job := { id := 1, kind := JobKind.flashErase, cls := 0x1#2, energy := 38400, hold := 38400, admitted := true, since := 40000, overran := false, flash := none };
    let sec := j.dst.toNat + 4096 * j.done;
    (d0.flash = some j) ∧
    (d0.flashLedgerJob = some x) ∧
    (j.going = true) ∧
    ((j.op = 0 ∨ j.op = 3)) ∧
    ((∀ i : Fin 1024, d0.erased (sec + 4 * i.val) = true))) ∧ (
    let s : State := st (Mem.memStates.getD 12 Dev.reset);
    let j : FlashJob := { op := 0x3#2, dst := 0x1000#32, src := 0x0#32, cnt := 2, done := 1, result := 0x0#3, running := true, jtag := false, data := [] };
    let d0 := s.dev;
    let x : Job := { id := 1, kind := JobKind.flashErase, cls := 0x1#2, energy := 38400, hold := 38400, admitted := true, since := 40000, overran := false, flash := none };
    let sec := j.dst.toNat + 4096 * j.done;
    let i : Fin 1024 := 4;
    (d0.flash = some j) ∧
    (d0.flashLedgerJob = some x) ∧
    (j.going = true) ∧
    ((j.op = 0 ∨ j.op = 3)) ∧
    (d0.erased (sec + 4 * i.val) = false) ∧
    ((∀ n : Fin 1024, n < i → d0.erased (sec + 4 * n.val) = true))) ∧ (
    let s : State := st (Mem.memStates.getD 5 Dev.reset);
    let j : FlashJob := { op := 0x1#2, dst := 0x1000#32, src := 0x20000100#32, cnt := 2, done := 2, result := 0x0#3, running := true, jtag := false, data := [] };
    let d0 := s.dev;
    (d0.flash = some j) ∧
    (j.running = true) ∧
    (j.going = false)) ∧ (
    let s : State := st (Mem.memStates.getD 0 Dev.reset);
    let d0 := s.dev;
    let src : Src := Src.copies (World.iron) 0;
    let v : Word := 0x0#32;
    (d0.letsWrite src Reg.flash_RDADDR) ∧
    (d0.rbit (Reg.pgLock 0x11) 0 = false) ∧
    (d0.jRoom 1 = true) ∧
    (d0.pages.lv = []) ∧
    (isFlash (v.toNat / 4 * 4) = true)) ∧ (
    let s : State := st (Mem.memStates.getD 0 Dev.reset);
    let d0 := s.dev;
    let src : Src := Src.copies (World.iron) 0;
    let v : Word := 0x504#32;
    let o := fld v 11 2 * 4;
    (d0.letsWrite src Reg.otp_RDADDR) ∧
    (d0.rbit (Reg.pgLock 0x21) 0 = false) ∧
    (d0.jRoom 1 = true) ∧
    (d0.pages.lv = []) ∧
    ((0x500 ≤ o ∧ o < 0x520))) ∧ (
    let s : State := st (Mem.memStates.getD 0 Dev.reset);
    let d0 := s.dev;
    let src : Src := Src.copies (World.iron) 0;
    let v : Word := 0x0#32;
    let o := fld v 11 2 * 4;
    (d0.letsWrite src Reg.otp_RDADDR) ∧
    (d0.rbit (Reg.pgLock 0x21) 0 = false) ∧
    (d0.jRoom 1 = true) ∧
    (d0.pages.lv = []) ∧
    (¬ (0x500 ≤ o ∧ o < 0x520)) ∧
    (d0.checkAt (0x50000000 + o) = .ok)) ∧ (
    let s : State := st (Mem.memStates.getD 23 Dev.reset);
    let d0 := s.dev;
    let src : Src := Src.copies (World.iron) 0;
    let v : Word := 0x41#32;
    let o := fld v 11 2 * 4;
    let w := 0x0#32;
    (d0.letsWrite src Reg.otp_RDADDR) ∧
    (d0.rbit (Reg.pgLock 0x21) 0 = false) ∧
    (d0.jRoom 1 = true) ∧
    (d0.pages.lv = []) ∧
    (¬ (0x500 ≤ o ∧ o < 0x520)) ∧
    (d0.checkAt (0x50000000 + o) = .corrected w)) ∧ (
    let s : State := st (Mem.memStates.getD 16 Dev.reset);
    let d0 := s.dev;
    let a := 0x20000000 + 4 * d0.scrubW.next;
    (d0.live = true) ∧
    (0 < d0.rfld Reg.sram_SCRUB 7 0) ∧
    (d0.checkAt a = .ok)) ∧ (
    let s : State := st (Mem.memStates.getD 17 Dev.reset);
    let d0 := s.dev;
    let a := 0x20000000 + 4 * d0.scrubW.next;
    let w := 0x1#32;
    (d0.live = true) ∧
    (0 < d0.rfld Reg.sram_SCRUB 7 0) ∧
    (d0.checkAt a = .corrected w)) ∧ (
    let s : State := st (Mem.memStates.getD 18 Dev.reset);
    let d0 := s.dev;
    let a := 0x20000000 + 4 * d0.scrubW.next;
    (d0.live = true) ∧
    (0 < d0.rfld Reg.sram_SCRUB 7 0) ∧
    (d0.checkAt a = .bad)) ∧ (
    let s : State := st (Mem.memStates.getD 0 Dev.reset);
    let d0 := s.dev;
    let a := 0x30000000 + 4 * d0.refreshW.next;
    (d0.refreshes = true) ∧
    (d0.checkAt a = .ok)) ∧ (
    let s : State := st (Mem.memStates.getD 20 Dev.reset);
    let d0 := s.dev;
    let a := 0x30000000 + 4 * d0.refreshW.next;
    let w := 0x0#32;
    (d0.refreshes = true) ∧
    (d0.checkAt a = .corrected w)) ∧ (
    let s : State := st (Mem.memStates.getD 21 Dev.reset);
    let d0 := s.dev;
    let a := 0x30000000 + 4 * d0.refreshW.next;
    (d0.refreshes = true) ∧
    (d0.checkAt a = .bad) ∧
    (a ∉ d0.refreshW.seen)) := by
  refine ⟨?_, ?_, ?_, ?_, ?_, ?_, ?_, ?_, ?_, ?_, ?_, ?_, ?_, ?_, ?_, ?_, ?_, ?_⟩
  · (try dsimp only [Copy.fetched, Copy.settled, Copy.canTrap, Copy.keepsStack, Copy.idleReady, Dev.letsWrite, Dev.hubAccepts, Dev.copyAccepts, ne_eq]) <;> decide +kernel
  · (try dsimp only [Copy.fetched, Copy.settled, Copy.canTrap, Copy.keepsStack, Copy.idleReady, Dev.letsWrite, Dev.hubAccepts, Dev.copyAccepts, ne_eq]) <;> decide +kernel
  · (try dsimp only [Copy.fetched, Copy.settled, Copy.canTrap, Copy.keepsStack, Copy.idleReady, Dev.letsWrite, Dev.hubAccepts, Dev.copyAccepts, ne_eq]) <;> decide +kernel
  · (try dsimp only [Copy.fetched, Copy.settled, Copy.canTrap, Copy.keepsStack, Copy.idleReady, Dev.letsWrite, Dev.hubAccepts, Dev.copyAccepts, ne_eq]) <;> decide +kernel
  · (try dsimp only [Copy.fetched, Copy.settled, Copy.canTrap, Copy.keepsStack, Copy.idleReady, Dev.letsWrite, Dev.hubAccepts, Dev.copyAccepts, ne_eq]) <;> decide +kernel
  · refine ⟨?_, ?_, ?_, ?_, fun i => erased_empty _ _ rfl rfl (by have := i.isLt; show 0x1000 + 4096 * 1 + 4 * i.val + 4 ≤ 0x400000; omega)⟩ <;> decide +kernel
  · (try dsimp only [Copy.fetched, Copy.settled, Copy.canTrap, Copy.keepsStack, Copy.idleReady, Dev.letsWrite, Dev.hubAccepts, Dev.copyAccepts, ne_eq]) <;> decide +kernel
  · (try dsimp only [Copy.fetched, Copy.settled, Copy.canTrap, Copy.keepsStack, Copy.idleReady, Dev.letsWrite, Dev.hubAccepts, Dev.copyAccepts, ne_eq]) <;> decide +kernel
  · (try dsimp only [Copy.fetched, Copy.settled, Copy.canTrap, Copy.keepsStack, Copy.idleReady, Dev.letsWrite, Dev.hubAccepts, Dev.copyAccepts, ne_eq]) <;> decide +kernel
  · (try dsimp only [Copy.fetched, Copy.settled, Copy.canTrap, Copy.keepsStack, Copy.idleReady, Dev.letsWrite, Dev.hubAccepts, Dev.copyAccepts, ne_eq]) <;> decide +kernel
  · (try dsimp only [Copy.fetched, Copy.settled, Copy.canTrap, Copy.keepsStack, Copy.idleReady, Dev.letsWrite, Dev.hubAccepts, Dev.copyAccepts, ne_eq]) <;> decide +kernel
  · (try dsimp only [Copy.fetched, Copy.settled, Copy.canTrap, Copy.keepsStack, Copy.idleReady, Dev.letsWrite, Dev.hubAccepts, Dev.copyAccepts, ne_eq]) <;> decide +kernel
  · (try dsimp only [Copy.fetched, Copy.settled, Copy.canTrap, Copy.keepsStack, Copy.idleReady, Dev.letsWrite, Dev.hubAccepts, Dev.copyAccepts, ne_eq]) <;> decide +kernel
  · (try dsimp only [Copy.fetched, Copy.settled, Copy.canTrap, Copy.keepsStack, Copy.idleReady, Dev.letsWrite, Dev.hubAccepts, Dev.copyAccepts, ne_eq]) <;> decide +kernel
  · (try dsimp only [Copy.fetched, Copy.settled, Copy.canTrap, Copy.keepsStack, Copy.idleReady, Dev.letsWrite, Dev.hubAccepts, Dev.copyAccepts, ne_eq]) <;> decide +kernel
  · (try dsimp only [Copy.fetched, Copy.settled, Copy.canTrap, Copy.keepsStack, Copy.idleReady, Dev.letsWrite, Dev.hubAccepts, Dev.copyAccepts, ne_eq]) <;> decide +kernel
  · (try dsimp only [Copy.fetched, Copy.settled, Copy.canTrap, Copy.keepsStack, Copy.idleReady, Dev.letsWrite, Dev.hubAccepts, Dev.copyAccepts, ne_eq]) <;> decide +kernel
  · (try dsimp only [Copy.fetched, Copy.settled, Copy.canTrap, Copy.keepsStack, Copy.idleReady, Dev.letsWrite, Dev.hubAccepts, Dev.copyAccepts, ne_eq]) <;> decide +kernel

/-- States that meet the hypotheses of DriveChannels, clause by clause. -/
theorem witness_DriveChannels :
    (
    let s : State := st (Drives.driveStates.getD 2 Dev.reset);
    let n : DrvId := 0;
    let d0 := s.dev;
    let hp := d0.rfld (Reg.drv_PWMCTL n.val) 15 0;
    (d0.frames = true) ∧
    ((d0.drive n).configured = true) ∧
    (0 < hp) ∧
    (d0.now < d0.nextPeriod n)) ∧ (
    let s : State := st (Drives.driveStates.getD 1 Dev.reset);
    let n : DrvId := 0;
    let d0 := s.dev;
    let hp := d0.rfld (Reg.drv_PWMCTL n.val) 15 0;
    (d0.frames = true) ∧
    ((d0.drive n).configured = true) ∧
    (0 < hp) ∧
    (d0.nextPeriod n ≤ d0.now)) ∧ (
    let s : State := st (Drives.driveStates.getD 5 Dev.reset);
    let n : DrvId := 0;
    let d0 := s.dev;
    let k := Reg.drv_TSTAT n.val;
    let calm : Prop := (d0.rbit (Reg.drv_TRIPCFG n.val) 8 = false ∨ d0.ovHigh n = false);
    ((d0.drive n).ovrDue = true) ∧
    (calm) ∧
    (d0.rbit k 4 = false)) ∧ (
    let s : State := st (Drives.driveStates.getD 7 Dev.reset);
    let n : DrvId := 0;
    let d0 := s.dev;
    let k := Reg.drv_TSTAT n.val;
    let calm : Prop := (d0.rbit (Reg.drv_TRIPCFG n.val) 8 = false ∨ d0.ovHigh n = false);
    ((d0.drive n).ovrDue = true) ∧
    (calm) ∧
    (d0.rbit k 4 = true)) ∧ (
    let s : State := st (Drives.driveStates.getD 5 Dev.reset);
    let n : DrvId := 0;
    let d0 := s.dev;
    let k := Reg.drv_TSTAT n.val;
    let calm : Prop := (d0.rbit (Reg.drv_TRIPCFG n.val) 8 = false ∨ d0.ovHigh n = false);
    ((d0.drive n).obsDue ≠ 0) ∧
    (calm) ∧
    (d0.rbit k 3 = false)) ∧ (
    let s : State := st (Drives.driveStates.getD 0 Dev.reset);
    let n : DrvId := 0;
    let code : BitVec 10 := 0x0#10;
    let d0 := s.dev;
    (d0.awake = true) ∧
    (code.toNat ≤ d0.rfld (Reg.drv_OCCFG n.val) 9 0)) ∧ (
    let s : State := st (Drives.driveStates.getD 0 Dev.reset);
    let n : DrvId := 0;
    let code : BitVec 10 := 0x65#10;
    let d0 := s.dev;
    let k := Reg.drv_TSTAT n.val;
    let calm : Prop := (d0.rbit (Reg.drv_TRIPCFG n.val) 8 = false ∨ d0.ovHigh n = false);
    (d0.awake = true) ∧
    (d0.rfld (Reg.drv_OCCFG n.val) 9 0 < code.toNat) ∧
    (d0.ocBlanked n d0.now = false) ∧
    (calm) ∧
    (d0.rbit k 2 = false)) ∧ (
    let s : State := st (Drives.driveStates.getD 4 Dev.reset);
    let n : DrvId := 1;
    let code : BitVec 10 := 0x65#10;
    let d0 := s.dev;
    (d0.awake = true) ∧
    (d0.rfld (Reg.drv_OCCFG n.val) 9 0 < code.toNat) ∧
    (d0.ocBlanked n d0.now = true)) ∧ (
    let s : State := st (Drives.driveStates.getD 9 Dev.reset);
    let n : DrvId := 2;
    let d0 := s.dev;
    let t := 50010;
    ((d0.drive n).blankEnd = some t) ∧
    (d0.ocHigh n = false)) ∧ (
    let s : State := st (Drives.driveStates.getD 9 Dev.reset);
    let n : DrvId := 0;
    let d0 := s.dev;
    let k := Reg.drv_TSTAT n.val;
    let calm : Prop := (d0.rbit (Reg.drv_TRIPCFG n.val) 8 = false ∨ d0.ovHigh n = false);
    let t := 50010;
    ((d0.drive n).blankEnd = some t) ∧
    (d0.ocHigh n = true) ∧
    (d0.ocBlanked n (max d0.now t) = false) ∧
    (calm) ∧
    (d0.rbit k 2 = false)) ∧ (
    let s : State := st (Drives.driveStates.getD 0 Dev.reset);
    let n : DrvId := 0;
    let t : DWord := 0x0#64;
    let d0 := s.dev;
    let v := d0.drive n;
    (d0.evtDue n t = true) ∧
    (v.lastEvts = [])) ∧ (
    let s : State := st (Drives.driveStates.getD 12 Dev.reset);
    let n : DrvId := 0;
    let ph : Phase3 := Phase3.u;
    let rising : Bool := false;
    let t : DWord := 0xbf68#64;
    let d0 := s.dev;
    let v := d0.drive n;
    let ev : TrkEvent := ⟨evtIdx ph rising, t⟩;
    let ahead (p : TrkEvent) (r : Bool) : Prop := if r then (ev.idx.val + 1) % 6 = p.idx.val else (p.idx.val + 1) % 6 = ev.idx.val;
    let p := { idx := 0, time := 0xafc8#64 };
    let es := [];
    let r : Bool := false;
    (d0.evtDue n t = true) ∧
    (v.lastEvts = p :: es) ∧
    (ahead p r) ∧
    ((v.runLen = 1 ∨ v.runDir = r))) ∧ (
    let s : State := st (Drives.driveStates.getD 13 Dev.reset);
    let n : DrvId := 0;
    let ph : Phase3 := Phase3.v;
    let rising : Bool := true;
    let t : DWord := 0xbf68#64;
    let d0 := s.dev;
    let v := d0.drive n;
    let ev : TrkEvent := ⟨evtIdx ph rising, t⟩;
    let ahead (p : TrkEvent) (r : Bool) : Prop := if r then (ev.idx.val + 1) % 6 = p.idx.val else (p.idx.val + 1) % 6 = ev.idx.val;
    let p := { idx := 1, time := 0xafc8#64 };
    let es := [{ idx := 0, time := 0xaf64#64 }];
    let r : Bool := true;
    (d0.evtDue n t = true) ∧
    (v.lastEvts = p :: es) ∧
    (ahead p r) ∧
    (v.runLen ≠ 1) ∧
    (v.runDir ≠ r)) ∧ (
    let s : State := st (Drives.driveStates.getD 12 Dev.reset);
    let n : DrvId := 0;
    let ph : Phase3 := Phase3.u;
    let rising : Bool := true;
    let t : DWord := 0xbf68#64;
    let d0 := s.dev;
    let v := d0.drive n;
    let ev : TrkEvent := ⟨evtIdx ph rising, t⟩;
    let ahead (p : TrkEvent) (r : Bool) : Prop := if r then (ev.idx.val + 1) % 6 = p.idx.val else (p.idx.val + 1) % 6 = ev.idx.val;
    let p := { idx := 0, time := 0xafc8#64 };
    let es := [];
    (d0.evtDue n t = true) ∧
    (v.lastEvts = p :: es) ∧
    ((∀ r : Bool, ¬ ahead p r))) ∧ (
    let s : State := st (Drives.driveStates.getD 16 Dev.reset);
    let n : DrvId := 0;
    let d0 := s.dev;
    let v := d0.drive n;
    let p := { idx := 0, time := 0xafc8#64 };
    let es := [{ idx := 5, time := 0xabe0#64 }, { idx := 4, time := 0xa7f8#64 }, { idx := 3, time := 0xa410#64 }, { idx := 2, time := 0xa028#64 }, { idx := 1, time := 0x9c40#64 }, { idx := 0, time := 0x9858#64 }];
    (v.lastEvts = p :: es) ∧
    (v.trkValid = true)) := by
  refine ⟨?_, ?_, ?_, ?_, ?_, ?_, ?_, ?_, ?_, ?_, ?_, ?_, ?_, ?_, ?_⟩ <;> (try dsimp only [Copy.fetched, Copy.settled, Copy.canTrap, Copy.keepsStack, Copy.idleReady, Dev.letsWrite, Dev.hubAccepts, Dev.copyAccepts, ne_eq]) <;> decide +kernel

/-- States that meet the hypotheses of FanChannels, clause by clause. -/
theorem witness_FanChannels :
    (
    let s : State := st (((Fans.fanStates ++ Fans.gpoStates ++ Fans.puffStates) ++ Fans.wx).getD 36 Dev.reset);
    let i : FanId := 0;
    let d0 := s.dev;
    let f := d0.fanCh i;
    let p := gridNext (4000 * i.val) 16000 f.pinAt d0.now;
    (d0.awake = true) ∧
    (d0.now < p)) ∧ (
    let s : State := st (((Fans.fanStates ++ Fans.gpoStates ++ Fans.puffStates) ++ Fans.wx).getD 0 Dev.reset);
    let i : FanId := 0;
    let d0 := s.dev;
    let f := d0.fanCh i;
    let p := gridNext (4000 * i.val) 16000 f.pinAt d0.now;
    (d0.awake = true) ∧
    (p ≤ d0.now)) ∧ (
    let s : State := st (((Fans.fanStates ++ Fans.gpoStates ++ Fans.puffStates) ++ Fans.wx).getD 0 Dev.reset);
    let i : FanId := 0;
    let d0 := s.dev;
    let f := d0.fanCh i;
    let t : DWord := 0x0#64;
    (d0.live = true) ∧
    (t.toNat ≤ d0.now) ∧
    (f.edges.head?.all (fun e => decide (e.toNat < t.toNat)) = true)) ∧ (
    let s : State := st (((Fans.fanStates ++ Fans.gpoStates ++ Fans.puffStates) ++ Fans.wx).getD 0 Dev.reset);
    let d0 := s.dev;
    (d0.live = true)) ∧ (
    let s : State := st (((Fans.fanStates ++ Fans.gpoStates ++ Fans.puffStates) ++ Fans.wx).getD 1 Dev.reset);
    let i : FanId := 0;
    let d0 := s.dev;
    (d0.stallDue i = true)) ∧ (
    let s : State := st (((Fans.fanStates ++ Fans.gpoStates ++ Fans.puffStates) ++ Fans.wx).getD 13 Dev.reset);
    let i : FanId := 0;
    let d0 := s.dev;
    (d0.fanTimed i 3 = true)) ∧ (
    let s : State := st (((Fans.fanStates ++ Fans.gpoStates ++ Fans.puffStates) ++ Fans.wx).getD 13 Dev.reset);
    let i : FanId := 1;
    let d0 := s.dev;
    (d0.fanTimed i 1 = true)) ∧ (
    let s : State := st (((Fans.fanStates ++ Fans.gpoStates ++ Fans.puffStates) ++ Fans.wx).getD 12 Dev.reset);
    let i : FanId := 0;
    let d0 := s.dev;
    let f := d0.fanCh i;
    (d0.fanSt i = 2) ∧
    (0 < f.good) ∧
    (4 * d0.rfld (Reg.fan_STALL i.val) 15 0 ≤ f.good)) ∧ (
    let s : State := st (((Fans.fanStates ++ Fans.gpoStates ++ Fans.puffStates) ++ Fans.wx).getD 15 Dev.reset);
    let d0 := s.dev;
    (d0.fanOvrDue = true)) ∧ (
    let s : State := st (((Fans.fanStates ++ Fans.gpoStates ++ Fans.puffStates) ++ Fans.wx).getD 17 Dev.reset);
    let i : FanId := 0;
    let d0 := s.dev;
    let f := d0.fanCh i;
    (0 < f.nwin) ∧
    (d0.rfld (Reg.fan_PLAUS i.val) 15 8 ≤ f.nwin)) := by
  refine ⟨?_, ?_, ?_, ?_, ?_, ?_, ?_, ?_, ?_, ?_⟩ <;> (try dsimp only [Copy.fetched, Copy.settled, Copy.canTrap, Copy.keepsStack, Copy.idleReady, Dev.letsWrite, Dev.hubAccepts, Dev.copyAccepts, ne_eq]) <;> decide +kernel

/-- States that meet the hypotheses of SwitchedAndPuffball, clause by clause. -/
theorem witness_SwitchedAndPuffball :
    (
    let s : State := st (((Fans.fanStates ++ Fans.gpoStates ++ Fans.puffStates) ++ Fans.wx).getD 23 Dev.reset);
    let i : GpoId := 0;
    let d0 := s.dev;
    let g := d0.gpoCh i.val;
    let t := 60000;
    (d0.gpo.length = 8) ∧
    (g.bbmEnd = some t)) ∧ (
    let s : State := st (((Fans.fanStates ++ Fans.gpoStates ++ Fans.puffStates) ++ Fans.wx).getD 0 Dev.reset);
    let i : GpoId := 0;
    let hi : Bool := false;
    let d0 := s.dev;
    let g := d0.gpoCh i.val;
    let act := d0.rfld Reg.gpo_RBCFG (2 * i.val + 1) (2 * i.val);
    (d0.gpo.length = 8) ∧
    (d0.live = true) ∧
    (g.on = hi) ∧
    ((g.told = false ∨ g.drain ≠ hi)) ∧
    (act ≤ 2)) ∧ (
    let s : State := st (((Fans.fanStates ++ Fans.gpoStates ++ Fans.puffStates) ++ Fans.wx).getD 0 Dev.reset);
    let i : GpoId := 0;
    let hi : Bool := true;
    let d0 := s.dev;
    let g := d0.gpoCh i.val;
    (d0.gpo.length = 8) ∧
    (d0.live = true) ∧
    ((g.on ≠ hi ∨ (g.told = true ∧ g.drain = hi)))) ∧ (
    let s : State := st (((Fans.fanStates ++ Fans.gpoStates ++ Fans.puffStates) ++ Fans.wx).getD 25 Dev.reset);
    let i : GpoId := 0;
    let d0 := s.dev;
    let g := d0.gpoCh i.val;
    (d0.gpo.length = 8) ∧
    (g.on = true)) ∧ (
    let s : State := st (((Fans.fanStates ++ Fans.gpoStates ++ Fans.puffStates) ++ Fans.wx).getD 28 Dev.reset);
    let d0 := s.dev;
    let cfg := d0.reg Reg.puff_CFG;
    let t := 50000;
    (d0.puff.insvcFrom = some t) ∧
    (d0.awake = true) ∧
    (d0.phase ≠ .dozeWake) ∧
    (bitOf cfg 0 = true) ∧
    (d0.puffActive = false) ∧
    (d0.gpo.length = 8)) ∧ (
    let s : State := st (((Fans.fanStates ++ Fans.gpoStates ++ Fans.puffStates) ++ Fans.wx).getD 30 Dev.reset);
    let d0 := s.dev;
    (d0.puffActive = true) ∧
    (d0.puff.kicking = true)) ∧ (
    let s : State := st (((Fans.fanStates ++ Fans.gpoStates ++ Fans.puffStates) ++ Fans.wx).getD 30 Dev.reset);
    let d0 := s.dev;
    (d0.puffActive = true) ∧
    (d0.awake = true)) := by
  refine ⟨?_, ?_, ?_, ?_, ?_, ?_, ?_⟩ <;> (try dsimp only [Copy.fetched, Copy.settled, Copy.canTrap, Copy.keepsStack, Copy.idleReady, Dev.letsWrite, Dev.hubAccepts, Dev.copyAccepts, ne_eq]) <;> decide +kernel

/-- States that meet the hypotheses of CanSends, clause by clause. -/
theorem witness_CanSends :
    (
    let s : State := st (((Can.canStates1 ++ Can.canStates2 ++ Can.canStates3 ++ Can.canStates4) ++ Can.wx).getD 6 Dev.reset);
    let n : CanId := 0;
    let slot : BitVec 6 := 0x0#6;
    let d0 := s.dev;
    let k := slot.toNat;
    let cfg (b : Nat) : Bool := d0.rbit (Reg.can_CFG n.val) b;
    (d0.live = true) ∧
    (k < 48) ∧
    (cfg 0 = false)) ∧ (
    let s : State := st (((Can.canStates1 ++ Can.canStates2 ++ Can.canStates3 ++ Can.canStates4) ++ Can.wx).getD 4 Dev.reset);
    let n : CanId := 0;
    let slot : BitVec 6 := 0x9#6;
    let d0 := s.dev;
    let k := slot.toNat;
    let cfg (b : Nat) : Bool := d0.rbit (Reg.can_CFG n.val) b;
    let free : Prop := d0.slotSt n k ≠ 1 ∧ d0.slotSt n k ≠ 2;
    (d0.live = true) ∧
    (k < 48) ∧
    (cfg 0 = true) ∧
    (¬ free)) ∧ (
    let s : State := st (((Can.canStates1 ++ Can.canStates2 ++ Can.canStates3 ++ Can.canStates4) ++ Can.wx).getD 2 Dev.reset);
    let n : CanId := 0;
    let w : World := World.iron;
    let slot : BitVec 6 := 0x0#6;
    let d0 := s.dev;
    let k := slot.toNat;
    let stg := d0.staging n w;
    let w0 := listGet 0 stg 0;
    let w1 := listGet 0 stg 1;
    let cls := fld w1 7 6;
    let cfg (b : Nat) : Bool := d0.rbit (Reg.can_CFG n.val) b;
    let free : Prop := d0.slotSt n k ≠ 1 ∧ d0.slotSt n k ≠ 2;
    let format : Prop := cls ≠ 3 ∧ (k < 8 → cls = 0) ∧ (bitOf w0 31 = true → cfg 1 = true) ∧ (bitOf w1 4 = true → bitOf w0 31 = true ∧ cfg 2 = true) ∧ (bitOf w0 30 = true → bitOf w0 31 = false) ∧ (bitOf w0 29 = false → fld w0 28 0 ≤ 0x7FF);
    (d0.live = true) ∧
    (k < 48) ∧
    (cfg 0 = true) ∧
    (free) ∧
    (¬ format)) ∧ (
    let s : State := st (((Can.canStates1 ++ Can.canStates2 ++ Can.canStates3 ++ Can.canStates4) ++ Can.wx).getD 4 Dev.reset);
    let n : CanId := 0;
    let w : World := World.iron;
    let slot : BitVec 6 := 0x2f#6;
    let d0 := s.dev;
    let k := slot.toNat;
    let stg := d0.staging n w;
    let w0 := listGet 0 stg 0;
    let w1 := listGet 0 stg 1;
    let cls := fld w1 7 6;
    let cfg (b : Nat) : Bool := d0.rbit (Reg.can_CFG n.val) b;
    let free : Prop := d0.slotSt n k ≠ 1 ∧ d0.slotSt n k ≠ 2;
    let format : Prop := cls ≠ 3 ∧ (k < 8 → cls = 0) ∧ (bitOf w0 31 = true → cfg 1 = true) ∧ (bitOf w1 4 = true → bitOf w0 31 = true ∧ cfg 2 = true) ∧ (bitOf w0 30 = true → bitOf w0 31 = false) ∧ (bitOf w0 29 = false → fld w0 28 0 ≤ 0x7FF);
    (d0.live = true) ∧
    (k < 48) ∧
    (cfg 0 = true) ∧
    (free) ∧
    (format) ∧
    (cls = 2) ∧
    (24 ≤ d0.bulkSlots n)) ∧ (
    let s : State := st (((Can.canStates1 ++ Can.canStates2 ++ Can.canStates3 ++ Can.canStates4) ++ Can.wx).getD 0 Dev.reset);
    let n : CanId := 0;
    let w : World := World.iron;
    let slot : BitVec 6 := 0x0#6;
    let d0 := s.dev;
    let k := slot.toNat;
    let stg := d0.staging n w;
    let w0 := listGet 0 stg 0;
    let w1 := listGet 0 stg 1;
    let cls := fld w1 7 6;
    let cfg (b : Nat) : Bool := d0.rbit (Reg.can_CFG n.val) b;
    let free : Prop := d0.slotSt n k ≠ 1 ∧ d0.slotSt n k ≠ 2;
    let format : Prop := cls ≠ 3 ∧ (k < 8 → cls = 0) ∧ (bitOf w0 31 = true → cfg 1 = true) ∧ (bitOf w1 4 = true → bitOf w0 31 = true ∧ cfg 2 = true) ∧ (bitOf w0 30 = true → bitOf w0 31 = false) ∧ (bitOf w0 29 = false → fld w0 28 0 ≤ 0x7FF);
    (d0.live = true) ∧
    (k < 48) ∧
    (cfg 0 = true) ∧
    (free) ∧
    (format) ∧
    ((cls = 2 → d0.bulkSlots n < 24))) ∧ (
    let s : State := st (((Can.canStates1 ++ Can.canStates2 ++ Can.canStates3 ++ Can.canStates4) ++ Can.wx).getD 4 Dev.reset);
    let n : CanId := 0;
    let slot : BitVec 6 := 0x9#6;
    let d0 := s.dev;
    let k := slot.toNat;
    (d0.live = true) ∧
    (k < 48) ∧
    (d0.slotSt n k = 1)) ∧ (
    let s : State := st (((Can.canStates1 ++ Can.canStates2 ++ Can.canStates3 ++ Can.canStates4) ++ Can.wx).getD 7 Dev.reset);
    let n : CanId := 0;
    let slot : BitVec 6 := 0x3#6;
    let d0 := s.dev;
    let k := slot.toNat;
    let x := { stg := [0x100#32, 0x8#32, 0x0#32, 0x1#32, 0x2#32, 0x3#32, 0x4#32, 0x5#32, 0x6#32, 0x7#32, 0x8#32, 0x9#32, 0xa#32, 0xb#32, 0xc#32, 0xd#32, 0xe#32, 0xf#32], submit := 49000, cancel := false, overran := false };
    (d0.live = true) ∧
    (k < 48) ∧
    (d0.slotSt n k = 2) ∧
    (d0.txSlot n k = some x)) ∧ (
    let s : State := st (((Can.canStates1 ++ Can.canStates2 ++ Can.canStates3 ++ Can.canStates4) ++ Can.wx).getD 0 Dev.reset);
    let n : CanId := 0;
    let slot : BitVec 6 := 0x0#6;
    let d0 := s.dev;
    let k := slot.toNat;
    let free : Prop := d0.slotSt n k ≠ 1 ∧ d0.slotSt n k ≠ 2;
    (d0.live = true) ∧
    (k < 48) ∧
    (free)) ∧ (
    let s : State := st (((Can.canStates1 ++ Can.canStates2 ++ Can.canStates3 ++ Can.canStates4) ++ Can.wx).getD 6 Dev.reset);
    let n : CanId := 0;
    let d0 := s.dev;
    let cfg (b : Nat) : Bool := d0.rbit (Reg.can_CFG n.val) b;
    (d0.live = true) ∧
    (d0.canSt n = 4) ∧
    (cfg 6 = false)) ∧ (
    let s : State := st (((Can.canStates1 ++ Can.canStates2 ++ Can.canStates3 ++ Can.canStates4) ++ Can.wx).getD 0 Dev.reset);
    let n : CanId := 0;
    let d0 := s.dev;
    let cfg (b : Nat) : Bool := d0.rbit (Reg.can_CFG n.val) b;
    (d0.live = true) ∧
    ((d0.canSt n ≠ 4 ∨ cfg 6 = true))) ∧ (
    let s : State := st (((Can.canStates1 ++ Can.canStates2 ++ Can.canStates3 ++ Can.canStates4) ++ Can.wx).getD 0 Dev.reset);
    let n : CanId := 0;
    let d0 := s.dev;
    (d0.canContends n = true)) ∧ (
    let s : State := st (((Can.canStates1 ++ Can.canStates2 ++ Can.canStates3 ++ Can.canStates4) ++ Can.wx).getD 11 Dev.reset);
    let n : CanId := 0;
    let k : Fin 48 := 9;
    let x : TxSlot := { stg := [0x100#32, 0x8#32, 0x0#32, 0x1#32, 0x2#32, 0x3#32, 0x4#32, 0x5#32, 0x6#32, 0x7#32, 0x8#32, 0x9#32, 0xa#32, 0xb#32, 0xc#32, 0xd#32, 0xe#32, 0xf#32], submit := 49000, cancel := false, overran := false };
    let d0 := s.dev;
    let tec := (d0.canCh n).tecN;
    ((d0.canCh n).active = some k.val) ∧
    (d0.txSlot n k.val = some x) ∧
    (d0.rbit (Reg.can_CFG n.val) 5 = false) ∧
    (tec ≤ 256)) ∧ (
    let s : State := st (((Can.canStates1 ++ Can.canStates2 ++ Can.canStates3 ++ Can.canStates4) ++ Can.wx).getD 23 Dev.reset);
    let n : CanId := 0;
    let k : Fin 48 := 9;
    let x : TxSlot := { stg := [0x100#32, 0x8#32, 0x0#32, 0x1#32, 0x2#32, 0x3#32, 0x4#32, 0x5#32, 0x6#32, 0x7#32, 0x8#32, 0x9#32, 0xa#32, 0xb#32, 0xc#32, 0xd#32, 0xe#32, 0xf#32], submit := 49000, cancel := true, overran := false };
    let d0 := s.dev;
    ((d0.canCh n).active = some k.val) ∧
    (d0.txSlot n k.val = some x) ∧
    (x.cancel = true)) ∧ (
    let s : State := st (((Can.canStates1 ++ Can.canStates2 ++ Can.canStates3 ++ Can.canStates4) ++ Can.wx).getD 26 Dev.reset);
    let n : CanId := 0;
    let k : Fin 48 := 9;
    let x : TxSlot := { stg := [0x200#32, 0x68#32, 0x0#32, 0x1#32, 0x2#32, 0x3#32, 0x4#32, 0x5#32, 0x6#32, 0x7#32, 0x8#32, 0x9#32, 0xa#32, 0xb#32, 0xc#32, 0xd#32, 0xe#32, 0xf#32], submit := 49000, cancel := false, overran := false };
    let d0 := s.dev;
    let oneShot : Bool := bitOf (d0.slotStg n k.val 1) 5;
    ((d0.canCh n).active = some k.val) ∧
    (d0.txSlot n k.val = some x) ∧
    (x.cancel = false) ∧
    (oneShot = true)) ∧ (
    let s : State := st (((Can.canStates1 ++ Can.canStates2 ++ Can.canStates3 ++ Can.canStates4) ++ Can.wx).getD 78 Dev.reset);
    let n : CanId := 0;
    let k : Fin 48 := 9;
    let x : TxSlot := { stg := [0x120#32, 0x40#32, 0x0#32, 0x1#32, 0x2#32, 0x3#32, 0x4#32, 0x5#32, 0x6#32, 0x7#32, 0x8#32, 0x9#32, 0xa#32, 0xb#32, 0xc#32, 0xd#32, 0xe#32, 0xf#32], submit := 0, cancel := false, overran := false };
    let d0 := s.dev;
    let oneShot : Bool := bitOf (d0.slotStg n k.val 1) 5;
    ((d0.canCh n).active = some k.val) ∧
    (d0.txSlot n k.val = some x) ∧
    (x.cancel = false) ∧
    (oneShot = false) ∧
    (d0.slotExpired n k.val = true)) ∧ (
    let s : State := st (((Can.canStates1 ++ Can.canStates2 ++ Can.canStates3 ++ Can.canStates4) ++ Can.wx).getD 11 Dev.reset);
    let n : CanId := 0;
    let k : Fin 48 := 9;
    let x : TxSlot := { stg := [0x100#32, 0x8#32, 0x0#32, 0x1#32, 0x2#32, 0x3#32, 0x4#32, 0x5#32, 0x6#32, 0x7#32, 0x8#32, 0x9#32, 0xa#32, 0xb#32, 0xc#32, 0xd#32, 0xe#32, 0xf#32], submit := 49000, cancel := false, overran := false };
    let d0 := s.dev;
    let oneShot : Bool := bitOf (d0.slotStg n k.val 1) 5;
    ((d0.canCh n).active = some k.val) ∧
    (d0.txSlot n k.val = some x) ∧
    (x.cancel = false) ∧
    (oneShot = false) ∧
    (d0.slotExpired n k.val = false)) ∧ (
    let s : State := st (((Can.canStates1 ++ Can.canStates2 ++ Can.canStates3 ++ Can.canStates4) ++ Can.wx).getD 4 Dev.reset);
    let n : CanId := 0;
    let k : Fin 48 := 8;
    let d0 := s.dev;
    let st (d : Dev) : Nat := d.slotSt n k.val;
    let t := 53000;
    (st d0 = 1) ∧
    (d0.slotDeadline n k.val = some t)) ∧ (
    let s : State := st (((Can.canStates1 ++ Can.canStates2 ++ Can.canStates3 ++ Can.canStates4) ++ Can.wx).getD 7 Dev.reset);
    let n : CanId := 0;
    let k : Fin 48 := 3;
    let x : TxSlot := { stg := [0x100#32, 0x8#32, 0x0#32, 0x1#32, 0x2#32, 0x3#32, 0x4#32, 0x5#32, 0x6#32, 0x7#32, 0x8#32, 0x9#32, 0xa#32, 0xb#32, 0xc#32, 0xd#32, 0xe#32, 0xf#32], submit := 49000, cancel := false, overran := false };
    let d0 := s.dev;
    let st (d : Dev) : Nat := d.slotSt n k.val;
    (d0.txSlot n k.val = some x) ∧
    ((st d0 = 1 ∨ st d0 = 2)) ∧
    (d0.slotCls n k.val = 0) ∧
    (x.overran = false)) := by
  refine ⟨?_, ?_, ?_, ?_, ?_, ?_, ?_, ?_, ?_, ?_, ?_, ?_, ?_, ?_, ?_, ?_, ?_, ?_⟩ <;> (try dsimp only [Copy.fetched, Copy.settled, Copy.canTrap, Copy.keepsStack, Copy.idleReady, Dev.letsWrite, Dev.hubAccepts, Dev.copyAccepts, ne_eq]) <;> decide +kernel

/-- States that meet the hypotheses of CanReceives, clause by clause. -/
theorem witness_CanReceives :
    (
    let s : State := st (((Can.canStates1 ++ Can.canStates2 ++ Can.canStates3 ++ Can.canStates4) ++ Can.wx).getD 0 Dev.reset);
    let n : CanId := 1;
    let f : CanFrame := { id := 0x1fff1234#29, xtd := true, rtr := false, fdf := true, brs := true, esi := false, dlc := 0x9#4, data := [0x1#8, 0x2#8, 0x3#8, 0x4#8, 0x5#8, 0x6#8, 0x7#8, 0x8#8, 0x9#8, 0xa#8, 0xb#8, 0xaa#8] };
    let d0 := s.dev;
    (d0.canHears n = true) ∧
    ((d0.canCh n).active = none) ∧
    ((d0.canCh n).tecN ≤ 255) ∧
    ((d0.filterOf n f = none ∨ ∃ y ∈ d0.filterOf n f, y.2.1 = false))) ∧ (
    let s : State := st (((Can.canStates1 ++ Can.canStates2 ++ Can.canStates3 ++ Can.canStates4) ++ Can.wx).getD 0 Dev.reset);
    let n : CanId := 0;
    let f : CanFrame := { id := 0x123#29, xtd := false, rtr := false, fdf := false, brs := false, esi := false, dlc := 0x4#4, data := [0x1#8, 0x2#8, 0x3#8, 0x4#8] };
    let d0 := s.dev;
    let rx (d : Dev) : List RxItem := (d.canCh n).rx;
    let i := 1;
    let cls := 0x0#2;
    (d0.canHears n = true) ∧
    ((d0.canCh n).active = none) ∧
    ((d0.canCh n).tecN ≤ 255) ∧
    (d0.filterOf n f = some (i, true, cls)) ∧
    (cls = 0) ∧
    ((rx d0).length < 64)) ∧ (
    let s : State := st (((Can.canStates1 ++ Can.canStates2 ++ Can.canStates3 ++ Can.canStates4) ++ Can.wx).getD 0 Dev.reset);
    let n : CanId := 1;
    let f : CanFrame := { id := 0x123#29, xtd := false, rtr := false, fdf := false, brs := false, esi := false, dlc := 0x4#4, data := [0x1#8, 0x2#8, 0x3#8, 0x4#8] };
    let d0 := s.dev;
    let rx (d : Dev) : List RxItem := (d.canCh n).rx;
    let held (c : Nat) : Nat := ((rx d0).filter (fun x => x.cls.toNat == c)).length;
    let i := 2;
    let cls := 0x1#2;
    (d0.canHears n = true) ∧
    ((d0.canCh n).active = none) ∧
    ((d0.canCh n).tecN ≤ 255) ∧
    (d0.filterOf n f = some (i, true, cls)) ∧
    (cls = 1) ∧
    ((rx d0).length < 64) ∧
    (held 1 + held 2 < 56)) ∧ (
    let s : State := st (((Can.canStates1 ++ Can.canStates2 ++ Can.canStates3 ++ Can.canStates4) ++ Can.wx).getD 0 Dev.reset);
    let n : CanId := 0;
    let f : CanFrame := { id := 0x1fff1234#29, xtd := true, rtr := false, fdf := true, brs := true, esi := false, dlc := 0x9#4, data := [0x1#8, 0x2#8, 0x3#8, 0x4#8, 0x5#8, 0x6#8, 0x7#8, 0x8#8, 0x9#8, 0xa#8, 0xb#8, 0xaa#8] };
    let d0 := s.dev;
    let rx (d : Dev) : List RxItem := (d.canCh n).rx;
    let held (c : Nat) : Nat := ((rx d0).filter (fun x => x.cls.toNat == c)).length;
    let i := 3;
    let cls := 0x2#2;
    (d0.canHears n = true) ∧
    ((d0.canCh n).active = none) ∧
    ((d0.canCh n).tecN ≤ 255) ∧
    (d0.filterOf n f = some (i, true, cls)) ∧
    (cls = 2) ∧
    ((rx d0).length < 64) ∧
    (held 1 + held 2 < 56) ∧
    (held 2 < 32)) ∧ (
    let s : State := st (((Can.canStates1 ++ Can.canStates2 ++ Can.canStates3 ++ Can.canStates4) ++ Can.wx).getD 45 Dev.reset);
    let n : CanId := 0;
    let f : CanFrame := { id := 0x1fff1234#29, xtd := true, rtr := false, fdf := true, brs := true, esi := false, dlc := 0x9#4, data := [0x1#8, 0x2#8, 0x3#8, 0x4#8, 0x5#8, 0x6#8, 0x7#8, 0x8#8, 0x9#8, 0xa#8, 0xb#8, 0xaa#8] };
    let d0 := s.dev;
    let rx (d : Dev) : List RxItem := (d.canCh n).rx;
    let held (c : Nat) : Nat := ((rx d0).filter (fun x => x.cls.toNat == c)).length;
    let i := 3;
    let cls := 0x2#2;
    (d0.canHears n = true) ∧
    ((d0.canCh n).active = none) ∧
    ((d0.canCh n).tecN ≤ 255) ∧
    (d0.filterOf n f = some (i, true, cls)) ∧
    (cls = 2) ∧
    ((32 ≤ held 2 ∨ 56 ≤ held 1 + held 2 ∨ 64 ≤ (rx d0).length))) ∧ (
    let s : State := st (((Can.canStates1 ++ Can.canStates2 ++ Can.canStates3 ++ Can.canStates4) ++ Can.wx).getD 49 Dev.reset);
    let n : CanId := 0;
    let f : CanFrame := { id := 0x123#29, xtd := false, rtr := false, fdf := false, brs := false, esi := false, dlc := 0x4#4, data := [0x1#8, 0x2#8, 0x3#8, 0x4#8] };
    let d0 := s.dev;
    let rx (d : Dev) : List RxItem := (d.canCh n).rx;
    let i := 1;
    let cls := 0x0#2;
    let j := 0;
    (d0.canHears n = true) ∧
    ((d0.canCh n).active = none) ∧
    ((d0.canCh n).tecN ≤ 255) ∧
    (d0.filterOf n f = some (i, true, cls)) ∧
    (cls ≠ 2) ∧
    (64 ≤ (rx d0).length) ∧
    (rxPlace 2 (rx d0) 0 = some j)) ∧ (
    let s : State := st (((Can.canStates1 ++ Can.canStates2 ++ Can.canStates3 ++ Can.canStates4) ++ Can.wx).getD 47 Dev.reset);
    let n : CanId := 1;
    let f : CanFrame := { id := 0x123#29, xtd := false, rtr := false, fdf := false, brs := false, esi := false, dlc := 0x4#4, data := [0x1#8, 0x2#8, 0x3#8, 0x4#8] };
    let d0 := s.dev;
    let rx (d : Dev) : List RxItem := (d.canCh n).rx;
    let held (c : Nat) : Nat := ((rx d0).filter (fun x => x.cls.toNat == c)).length;
    let i := 2;
    let cls := 0x1#2;
    (d0.canHears n = true) ∧
    ((d0.canCh n).active = none) ∧
    ((d0.canCh n).tecN ≤ 255) ∧
    (d0.filterOf n f = some (i, true, cls)) ∧
    (cls = 1) ∧
    (64 ≤ (rx d0).length) ∧
    (held 2 = 0)) ∧ (
    let s : State := st (((Can.canStates1 ++ Can.canStates2 ++ Can.canStates3 ++ Can.canStates4) ++ Can.wx).getD 48 Dev.reset);
    let n : CanId := 0;
    let f : CanFrame := { id := 0x123#29, xtd := false, rtr := false, fdf := false, brs := false, esi := false, dlc := 0x4#4, data := [0x1#8, 0x2#8, 0x3#8, 0x4#8] };
    let d0 := s.dev;
    let rx (d : Dev) : List RxItem := (d.canCh n).rx;
    let held (c : Nat) : Nat := ((rx d0).filter (fun x => x.cls.toNat == c)).length;
    let i := 1;
    let cls := 0x0#2;
    let j := 0;
    (d0.canHears n = true) ∧
    ((d0.canCh n).active = none) ∧
    ((d0.canCh n).tecN ≤ 255) ∧
    (d0.filterOf n f = some (i, true, cls)) ∧
    (cls = 0) ∧
    (64 ≤ (rx d0).length) ∧
    (held 2 = 0) ∧
    (rxPlace 1 (rx d0) 0 = some j)) ∧ (
    let s : State := st (((Can.canStates1 ++ Can.canStates2 ++ Can.canStates3 ++ Can.canStates4) ++ Can.wx).getD 47 Dev.reset);
    let n : CanId := 0;
    let f : CanFrame := { id := 0x123#29, xtd := false, rtr := false, fdf := false, brs := false, esi := false, dlc := 0x4#4, data := [0x1#8, 0x2#8, 0x3#8, 0x4#8] };
    let d0 := s.dev;
    let rx (d : Dev) : List RxItem := (d.canCh n).rx;
    let held (c : Nat) : Nat := ((rx d0).filter (fun x => x.cls.toNat == c)).length;
    let i := 1;
    let cls := 0x0#2;
    (d0.canHears n = true) ∧
    ((d0.canCh n).active = none) ∧
    ((d0.canCh n).tecN ≤ 255) ∧
    (d0.filterOf n f = some (i, true, cls)) ∧
    (cls = 0) ∧
    (64 ≤ (rx d0).length) ∧
    (held 1 = 0) ∧
    (held 2 = 0)) ∧ (
    let s : State := st (((Can.canStates1 ++ Can.canStates2 ++ Can.canStates3 ++ Can.canStates4) ++ Can.wx).getD 0 Dev.reset);
    let n : CanId := 0;
    let d0 := s.dev;
    (d0.canHears n = true) ∧
    ((d0.canCh n).tecN ≤ 255)) ∧ (
    let s : State := st (((Can.canStates1 ++ Can.canStates2 ++ Can.canStates3 ++ Can.canStates4) ++ Can.wx).getD 0 Dev.reset);
    let n : CanId := 0;
    let d0 := s.dev;
    let rx (d : Dev) : List RxItem := (d.canCh n).rx;
    (d0.live = true) ∧
    (rx d0 = [])) ∧ (
    let s : State := st (((Can.canStates1 ++ Can.canStates2 ++ Can.canStates3 ++ Can.canStates4) ++ Can.wx).getD 41 Dev.reset);
    let n : CanId := 0;
    let d0 := s.dev;
    let rx (d : Dev) : List RxItem := (d.canCh n).rx;
    let i := 0;
    let x := { frame := { id := 0x123#29, xtd := false, rtr := false, fdf := false, brs := false, esi := false, dlc := 0x4#4, data := [0x1#8, 0x2#8, 0x3#8, 0x4#8] }, filter := 1, cls := 0x0#2, time := 0x7#32, stored := 0, overran := false };
    (d0.live = true) ∧
    (rxNext (rx d0) = some i) ∧
    ((rx d0)[i]? = some x) ∧
    (x.filter < 32)) ∧ (
    let s : State := st (((Can.canStates1 ++ Can.canStates2 ++ Can.canStates3 ++ Can.canStates4) ++ Can.wx).getD 42 Dev.reset);
    let n : CanId := 0;
    let d0 := s.dev;
    let rx (d : Dev) : List RxItem := (d.canCh n).rx;
    let u := 8000;
    let i := 2;
    (firstDue (d0.rxDue n false) (rx d0) 0 = some (u, i))) ∧ (
    let s : State := st (((Can.canStates1 ++ Can.canStates2 ++ Can.canStates3 ++ Can.canStates4) ++ Can.wx).getD 41 Dev.reset);
    let n : CanId := 0;
    let d0 := s.dev;
    let rx (d : Dev) : List RxItem := (d.canCh n).rx;
    let u := 4000;
    let i := 0;
    (firstDue (d0.rxDue n true) (rx d0) 0 = some (u, i))) ∧ (
    let s : State := st (((Can.canStates1 ++ Can.canStates2 ++ Can.canStates3 ++ Can.canStates4) ++ Can.wx).getD 71 Dev.reset);
    let n : CanId := 0;
    let d0 := s.dev;
    let t := 50000;
    ((d0.canCh n).boAt = some t) ∧
    (d0.canSt n = 4) ∧
    (d0.rbit (Reg.can_CFG n.val) 6 = true)) ∧ (
    let s : State := st (((Can.canStates1 ++ Can.canStates2 ++ Can.canStates3 ++ Can.canStates4) ++ Can.wx).getD 72 Dev.reset);
    let n : CanId := 0;
    let d0 := s.dev;
    (d0.canSt n = 5)) ∧ (
    let s : State := st (((Can.canStates1 ++ Can.canStates2 ++ Can.canStates3 ++ Can.canStates4) ++ Can.wx).getD 73 Dev.reset);
    let n : CanId := 0;
    let d0 := s.dev;
    (d0.canSt n = 1)) ∧ (
    let s : State := st (((Can.canStates1 ++ Can.canStates2 ++ Can.canStates3 ++ Can.canStates4) ++ Can.wx).getD 75 Dev.reset);
    let n : CanId := 0;
    let d0 := s.dev;
    ((d0.canCh n).stopping = true) ∧
    ((d0.canCh n).active = none) ∧
    (d0.lp.entered = false) ∧
    (d0.canSt n ≠ 0)) ∧ (
    let s : State := st (((Can.canStates1 ++ Can.canStates2 ++ Can.canStates3 ++ Can.canStates4) ++ Can.wx).getD 0 Dev.reset);
    let d0 := s.dev;
    (d0.live = true)) ∧ (
    let s : State := st (((Can.canStates1 ++ Can.canStates2 ++ Can.canStates3 ++ Can.canStates4) ++ Can.wx).getD 0 Dev.reset);
    let d0 := s.dev;
    let e : Fin 128 := 0;
    let k := Reg.part_PSTAT e.val;
    (d0.rfld k 1 0 = 2) ∧
    (d0.rfld (Reg.part_TIM e.val) 31 16 ≤ d0.rfld k 31 16) ∧
    (d0.jRoom 1 = true)) := by
  refine ⟨?_, ?_, ?_, ?_, ?_, ?_, ?_, ?_, ?_, ?_, ?_, ?_, ?_, ?_, ?_, ?_, ?_, ?_, ?_, ?_⟩ <;> (try dsimp only [Copy.fetched, Copy.settled, Copy.canTrap, Copy.keepsStack, Copy.idleReady, Dev.letsWrite, Dev.hubAccepts, Dev.copyAccepts, ne_eq]) <;> decide +kernel

/-- States that meet the hypotheses of JtagAndDebugAccess, clause by clause. -/
theorem witness_JtagAndDebugAccess :
    (
    let s : State := st (Jtag.jtagStates.getD 1 Dev.reset);
    let d0 := s.dev;
    (d0.jtagOn = true)) ∧ (
    let s : State := st (Jtag.jtagStates.getD 1 Dev.reset);
    let d0 := s.dev;
    (d0.jtagOn = true)) ∧ (
    let s : State := st (Jtag.jtagStates.getD 1 Dev.reset);
    let i : Instr := Instr.jtagExtest;
    let d0 := s.dev;
    let ir := 0x3#5;
    ((i, ir) ∈ [(.jtagExtest, 3#5), (.jtagClamp, 5#5)]) ∧
    (d0.jtagOn = true) ∧
    (d0.jtagFull = true)) ∧ (
    let s : State := st (Jtag.jtagStates.getD 4 Dev.reset);
    let i : Instr := Instr.jtagExtest;
    let d0 := s.dev;
    let ir := 0x3#5;
    ((i, ir) ∈ [(.jtagExtest, 3#5), (.jtagClamp, 5#5)]) ∧
    (d0.jtagOn = true) ∧
    (d0.jtagFull = false)) ∧ (
    let s : State := st (Jtag.jtagStates.getD 1 Dev.reset);
    let d0 := s.dev;
    let ir := 0x0#5;
    (d0.jtagOn = true) ∧
    (d0.jtagAvail ir = false)) ∧ (
    let s : State := st (Jtag.jtagStates.getD 0 Dev.reset);
    let i : Instr := Instr.jtagExtest;
    let d0 := s.dev;
    (d0.jtagOn = false) ∧
    (i ∈ [.jtagIdcode, .jtagExtest, .jtagClamp])) ∧ (
    let s : State := st (Jtag.jtagStates.getD 4 Dev.reset);
    let d0 := s.dev;
    (d0.jtagOn = true) ∧
    (d0.jtagFull = false)) ∧ (
    let s : State := st (Jtag.jtagStates.getD 1 Dev.reset);
    let addr : Word := 0x0#32;
    let d0 := s.dev;
    let a := addr.toNat / 4 * 4;
    (d0.jtagOn = true) ∧
    (d0.jtagFull = true) ∧
    (d0.live = true) ∧
    ((isSram a = true ∨ isContext a = true ∨ (isFlash a = true ∧ d0.bankBusyAt a = false)))) ∧ (
    let s : State := st (Jtag.jtagStates.getD 1 Dev.reset);
    let addr : Word := 0x40000048#32;
    let d0 := s.dev;
    let a := addr.toNat / 4 * 4;
    let p := (a - 0x40000000) / 0x1000;
    (d0.jtagOn = true) ∧
    (d0.jtagFull = true) ∧
    (d0.live = true) ∧
    (isPages a = true) ∧
    (d0.guardOk p .jtag false = true) ∧
    (isPairLo (a - 0x40000000) = false) ∧
    (isPairHi (a - 0x40000000) = false)) ∧ (
    let s : State := st (Jtag.jtagStates.getD 10 Dev.reset);
    let addr : Word := 0x40003040#32;
    let d0 := s.dev;
    let a := addr.toNat / 4 * 4;
    let p := (a - 0x40000000) / 0x1000;
    (d0.jtagOn = true) ∧
    (d0.jtagFull = true) ∧
    (d0.live = true) ∧
    (isPages a = true) ∧
    (d0.guardOk p .jtag false = false) ∧
    (d0.jRoom 1 = true)) ∧ (
    let s : State := st (Jtag.jtagStates.getD 1 Dev.reset);
    let addr : Word := 0x70000000#32;
    let d0 := s.dev;
    let a := addr.toNat / 4 * 4;
    (d0.jtagOn = true) ∧
    (d0.jtagFull = true) ∧
    (d0.live = true) ∧
    (0x60000000 ≤ a)) ∧ (
    let s : State := st (Jtag.jtagStates.getD 5 Dev.reset);
    let addr : Word := 0x20000010#32;
    let d0 := s.dev;
    let a := addr.toNat / 4 * 4;
    (d0.jtagOn = true) ∧
    (d0.jtagFull = true) ∧
    (d0.live = true) ∧
    (isSram a = true) ∧
    (d0.level ≠ 2) ∧
    (d0.rbit Reg.dbg_STAT 0 = true)) ∧ (
    let s : State := st (Jtag.jtagStates.getD 1 Dev.reset);
    let addr : Word := 0x20000010#32;
    let d0 := s.dev;
    let a := addr.toNat / 4 * 4;
    (d0.jtagOn = true) ∧
    (d0.jtagFull = true) ∧
    (d0.live = true) ∧
    (isSram a = true) ∧
    (d0.level ≠ 2) ∧
    (d0.rbit Reg.dbg_STAT 0 = false)) ∧ (
    let s : State := st (Jtag.jtagStates.getD 7 Dev.reset);
    let addr : Word := 0x20000010#32;
    let d0 := s.dev;
    let a := addr.toNat / 4 * 4;
    (d0.jtagOn = true) ∧
    (d0.jtagFull = true) ∧
    (d0.live = true) ∧
    (isSram a = true) ∧
    (d0.level = 2)) ∧ (
    let s : State := st (Jtag.jtagStates.getD 1 Dev.reset);
    let addr : Word := 0x0#32;
    let d0 := s.dev;
    let a := addr.toNat / 4 * 4;
    (d0.jtagOn = true) ∧
    (d0.jtagFull = true) ∧
    (d0.live = true) ∧
    (isSram a = false) ∧
    (isContext a = false) ∧
    (isPages a = false)) := by
  refine ⟨?_, ?_, ?_, ?_, ?_, ?_, ?_, ?_, ?_, ?_, ?_, ?_, ?_, ?_, ?_⟩ <;> (try dsimp only [Copy.fetched, Copy.settled, Copy.canTrap, Copy.keepsStack, Copy.idleReady, Dev.letsWrite, Dev.hubAccepts, Dev.copyAccepts, ne_eq]) <;> decide +kernel

/-- States that meet the hypotheses of UnlockAndLoader, clause by clause. -/
theorem witness_UnlockAndLoader :
    (
    let s : State := st (Jtag.jtagStates.getD 6 Dev.reset);
    let d0 := s.dev;
    let lock (d : Dev) : Nat := d.rfld Reg.dbg_STAT 5 4;
    (d0.jtagOn = true) ∧
    (lock d0 = 3)) ∧ (
    let s : State := st (Jtag.jtagStates.getD 1 Dev.reset);
    let d0 := s.dev;
    let lock (d : Dev) : Nat := d.rfld Reg.dbg_STAT 5 4;
    (d0.jtagOn = true) ∧
    (lock d0 ≠ 3) ∧
    (d0.live = true) ∧
    (d0.dbg.challenge = none)) ∧ (
    let s : State := st (Jtag.jtagStates.getD 11 Dev.reset);
    let d0 := s.dev;
    let lock (d : Dev) : Nat := d.rfld Reg.dbg_STAT 5 4;
    let r : DWord := 0x28b0660a08ae4408#64;
    let c : DWord := 0x1122334455667788#64;
    (d0.jtagOn = true) ∧
    (lock d0 ≠ 3) ∧
    (d0.live = true) ∧
    (d0.dbg.challenge = some c) ∧
    (r.toNat = d0.unlockAnswer c) ∧
    (lock d0 = 1)) ∧ (
    let s : State := st (Jtag.jtagStates.getD 11 Dev.reset);
    let d0 := s.dev;
    let lock (d : Dev) : Nat := d.rfld Reg.dbg_STAT 5 4;
    let tries (d : Dev) : Nat := d.rfld Reg.dbg_STAT 9 8;
    let r : DWord := 0x0#64;
    let c : DWord := 0x1122334455667788#64;
    (d0.jtagOn = true) ∧
    (lock d0 ≠ 3) ∧
    (d0.live = true) ∧
    (d0.dbg.challenge = some c) ∧
    (r.toNat ≠ d0.unlockAnswer c) ∧
    (tries d0 < 2)) ∧ (
    let s : State := st (Jtag.jtagStates.getD 13 Dev.reset);
    let d0 := s.dev;
    let lock (d : Dev) : Nat := d.rfld Reg.dbg_STAT 5 4;
    let tries (d : Dev) : Nat := d.rfld Reg.dbg_STAT 9 8;
    let r : DWord := 0x0#64;
    let c : DWord := 0x1122334455667788#64;
    (d0.jtagOn = true) ∧
    (lock d0 ≠ 3) ∧
    (d0.live = true) ∧
    (d0.dbg.challenge = some c) ∧
    (r.toNat ≠ d0.unlockAnswer c) ∧
    (2 ≤ tries d0)) ∧ (
    let s : State := st (Jtag.jtagStates.getD 1 Dev.reset);
    let addr : Word := 0x0#32;
    let v : Word := 0x0#32;
    let data : List Word := [0x1#32, 0x2#32, 0x3#32, 0x4#32, 0x5#32, 0x6#32, 0x7#32, 0x8#32];
    let d0 := s.dev;
    let i := Instr.loaderLedger 0x0#32 0x0#32;
    (d0.jtagOn = true) ∧
    (d0.loaderServed = false) ∧
    (i ∈ ([Instr.loaderLedger v addr, .loaderErase addr, .loaderProgram addr data, .loaderRead addr,
      .loaderOtpwrite addr v, .loaderJread v, .loaderBoot]))) ∧ (
    let s : State := st (Jtag.jtagStates.getD 15 Dev.reset);
    let addr : Word := 0x1234#32;
    let v : Word := 0x4d#32;
    let d0 := s.dev;
    let e := ((d0.jtagSelect 0x12).regWrite .hub Reg.ledger_CAPNF v none).1.regWrite .hub Reg.ledger_VMIN addr none;
    (d0.jtagOn = true) ∧
    (d0.loaderServed = true) ∧
    (d0.letsWrite .hub Reg.ledger_CAPNF) ∧
    (d0.rbit (Reg.pgLock 2) 0 = false) ∧
    (d0.otherOwns 2 .hub = false) ∧
    (e.1.commitCheck .hub 2 0xC5000000 = (0, 0)) ∧
    (e.1.jRoom ((e.1.changed 2).length + 1) = true) ∧
    (d0.pages.commits = [])) ∧ (
    let s : State := st (Jtag.jtagStates.getD 15 Dev.reset);
    let addr : Word := 0x0#32;
    let d0 := s.dev;
    (d0.jtagOn = true) ∧
    (d0.loaderServed = true) ∧
    (addr.toNat < 0x400000) ∧
    (d0.ledger.jobs = []) ∧
    (d0.ledgerStop = false) ∧
    (d0.flash = none) ∧
    ((14400 : Int) ≤ d0.freeOf 1)) ∧ (
    let s : State := st (Jtag.jtagStates.getD 15 Dev.reset);
    let addr : Word := 0x0#32;
    let data : List Word := [0x1#32, 0x2#32, 0x3#32, 0x4#32, 0x5#32, 0x6#32, 0x7#32, 0x8#32];
    let d0 := s.dev;
    (d0.jtagOn = true) ∧
    (d0.loaderServed = true) ∧
    (addr.toNat < 0x400000) ∧
    (d0.ledger.jobs = []) ∧
    (d0.ledgerStop = false) ∧
    (d0.flash = none) ∧
    ((2710 : Int) ≤ d0.freeOf 1) ∧
    (data.length = 8)) ∧ (
    let s : State := st (Jtag.jtagStates.getD 15 Dev.reset);
    let addr : Word := 0x0#32;
    let d0 := s.dev;
    (d0.jtagOn = true) ∧
    (d0.loaderServed = true) ∧
    (addr.toNat < 0x1000)) ∧ (
    let s : State := st (Jtag.jtagStates.getD 15 Dev.reset);
    let addr : Word := 0x1234#32;
    let d0 := s.dev;
    (d0.jtagOn = true) ∧
    (d0.loaderServed = true) ∧
    (0x1000 ≤ addr.toNat)) ∧ (
    let s : State := st (Jtag.jtagStates.getD 15 Dev.reset);
    let v : Word := 0x0#32;
    let d0 := s.dev;
    (d0.jtagOn = true) ∧
    (d0.loaderServed = true) ∧
    (d0.holdsEntry v = true)) ∧ (
    let s : State := st (Jtag.jtagStates.getD 15 Dev.reset);
    let v : Word := 0x4d#32;
    let d0 := s.dev;
    (d0.jtagOn = true) ∧
    (d0.loaderServed = true) ∧
    (d0.holdsEntry v = false)) ∧ (
    let s : State := st (Jtag.jtagStates.getD 15 Dev.reset);
    let d0 := s.dev;
    (d0.jtagOn = true) ∧
    (d0.loaderServed = true) ∧
    (d0.puffActive = false)) ∧ (
    let s : State := st (Jtag.jtagStates.getD 18 Dev.reset);
    let d0 := s.dev;
    (d0.jtagOn = true) ∧
    (d0.loaderServed = true) ∧
    (d0.puffActive = true)) := by
  refine ⟨?_, ?_, ?_, ?_, ?_, ?_, ?_, ?_, ?_, ?_, ?_, ?_, ?_, ?_, ?_⟩ <;> (try dsimp only [Copy.fetched, Copy.settled, Copy.canTrap, Copy.keepsStack, Copy.idleReady, Dev.letsWrite, Dev.hubAccepts, Dev.copyAccepts, ne_eq]) <;> decide +kernel

/-- States that meet the hypotheses of Supervision, clause by clause. -/
theorem witness_Supervision :
    (
    let s : State := st (Debug.debugStates.getD 0 Dev.reset);
    let src : Src := Src.copies (World.iron) 0;
    let v : Half := 0x5af0#16;
    let d0 := s.dev;
    let w := d0.reg Reg.wdog_STAT;
    (d0.letsWrite src Reg.wdog_KICK) ∧
    (d0.wdogRuns = true) ∧
    (v.toNat = fld w 15 0) ∧
    (fld d0.wdCfg 27 16 ≤ fld w 27 16)) ∧ (
    let s : State := st (Debug.debugStates.getD 0 Dev.reset);
    let src : Src := Src.copies (World.iron) 0;
    let v : Half := 0x0#16;
    let d0 := s.dev;
    let w := d0.reg Reg.wdog_STAT;
    (d0.letsWrite src Reg.wdog_KICK) ∧
    (d0.wdogRuns = true) ∧
    (v.toNat ≠ fld w 15 0)) ∧ (
    let s : State := st (Debug.debugStates.getD 15 Dev.reset);
    let src : Src := Src.copies (World.iron) 0;
    let v : Half := 0x5af0#16;
    let d0 := s.dev;
    let w := d0.reg Reg.wdog_STAT;
    (d0.letsWrite src Reg.wdog_KICK) ∧
    (d0.wdogRuns = true) ∧
    (v.toNat = fld w 15 0) ∧
    (fld w 27 16 < fld d0.wdCfg 27 16)) ∧ (
    let s : State := st (Debug.debugStates.getD 16 Dev.reset);
    let src : Src := Src.copies (World.iron) 0;
    let d0 := s.dev;
    (d0.letsWrite src Reg.wdog_KICK) ∧
    (d0.wdogRuns = false)) ∧ (
    let s : State := st (Debug.debugStates.getD 14 Dev.reset);
    let d0 := s.dev;
    let w := d0.reg Reg.wdog_STAT;
    (d0.wdogRuns = true) ∧
    (d0.csRunning = true) ∧
    (fld d0.wdCfg 11 0 ≤ fld w 27 16)) ∧ (
    let s : State := st (Debug.debugStates.getD 0 Dev.reset);
    let d0 := s.dev;
    let w := d0.reg Reg.wdog_STAT;
    ((d0.wdogRuns = false ∨ fld w 27 16 < fld d0.wdCfg 11 0))) ∧ (
    let s : State := st (Debug.debugStates.getD 0 Dev.reset);
    let b : HubBlock := HubBlock.releaseGate;
    let d0 := s.dev;
    (d0.awake = true) ∧
    (b = .releaseGate)) ∧ (
    let s : State := st (Debug.debugStates.getD 0 Dev.reset);
    let b : HubBlock := HubBlock.puffball;
    let d0 := s.dev;
    (d0.awake = true) ∧
    (b ≠ .releaseGate) ∧
    (d0.blockDead b = true)) ∧ (
    let s : State := st (Debug.debugStates.getD 17 Dev.reset);
    let b : HubBlock := HubBlock.releaseLatches;
    let d0 := s.dev;
    (d0.awake = true) ∧
    (b ≠ .releaseGate) ∧
    (d0.blockDead b = false) ∧
    (d0.rbit Reg.puff_CFG 0 = true) ∧
    (d0.puffActive = false) ∧
    (d0.gpo.length = 8)) ∧ (
    let s : State := st (Debug.debugStates.getD 0 Dev.reset);
    let b : HubBlock := HubBlock.releaseLatches;
    let d0 := s.dev;
    (d0.awake = true) ∧
    (b ≠ .releaseGate) ∧
    (d0.blockDead b = false) ∧
    (d0.rbit Reg.puff_CFG 0 = false)) := by
  refine ⟨?_, ?_, ?_, ?_, ?_, ?_, ?_, ?_, ?_, ?_⟩ <;> (try dsimp only [Copy.fetched, Copy.settled, Copy.canTrap, Copy.keepsStack, Copy.idleReady, Dev.letsWrite, Dev.hubAccepts, Dev.copyAccepts, ne_eq]) <;> decide +kernel

/-- A queue with a command at the front, an idle device without HCLK, and one with HCLK and no event report. -/
theorem witness_StepRunsFront :
    (State.reset.pending = [] ∧ State.reset.dev.clockRuns = false) ∧
    (let s : State := ⟨[], run3⟩; s.pending = [] ∧ s.dev.clockRuns = true ∧ s.dev.agr.reports = []) := by
  decide +kernel

/-- The state after reset has no power and none comes; a step of it answers a next state. -/
theorem witness_DarkStays : State.reset.dark ∧ step State.reset = .next State.reset := by
  refine ⟨⟨⟨rfl, fun _ _ => rfl, rfl⟩, by decide⟩, rfl⟩

end Sys2Proof.Tests
end

namespace Sys2Proof.Machine

open Sys2Proof

/-! Register writes of firmware: which branch of `Dev.regWrite` a write takes, the shadow set of a page, and the LV
writes (R13, R43, R50, R53). -/

/-! Reads after the small writes of the page state. -/

theorem Dev.reg_setReg (d : Dev) (k j : Nat) (v : Word) : (d.setReg k v).reg j = if j = k then v else d.reg j :=
  mapGet_mapPut d.regs k j v

theorem Dev.shad_setShad (d : Dev) (k j : Nat) (v : Word) : (d.setShad k v).shad j = if j = k then v else d.shad j :=
  mapGet_mapPut d.shadow k j v

@[simp] theorem Dev.reg_setShad (d : Dev) (k j : Nat) (v : Word) : (d.setShad k v).reg j = d.reg j := rfl
@[simp] theorem Dev.owner_setShad (d : Dev) (k p : Nat) (v : Word) : (d.setShad k v).owner p = d.owner p := rfl
@[simp] theorem Dev.shad_setOwner (d : Dev) (p j : Nat) (w : Option World) : (d.setOwner p w).shad j = d.shad j := rfl
@[simp] theorem Dev.owner_setOwner (d : Dev) (p : Nat) (w : Option World) : (d.setOwner p w).owner p = w :=
  mapGet_mapPut_same ..
@[simp] theorem Dev.shad_setTouched (d : Dev) (p j : Nat) (b : Bool) : (d.setTouched p b).shad j = d.shad j := rfl
@[simp] theorem Dev.owner_setTouched (d : Dev) (p q : Nat) (b : Bool) : (d.setTouched p b).owner q = d.owner q := rfl
@[simp] theorem Dev.touched_setTouched (d : Dev) (p : Nat) (b : Bool) : (d.setTouched p b).touched p = b :=
  mapGet_mapPut_same ..

theorem bitOf_eq_testBit (w : Word) (i : Nat) : bitOf w i = w.toNat.testBit i := by
  rw [Nat.testBit_eq_decide_div_mod_eq]; rfl

theorem bitOf_setBit_same (w : Word) {i : Nat} (hi : i < 32) : bitOf (setBit w i true) i = true := by
  have hlow : w.toNat % 2 ^ i / 2 ^ i = 0 := Nat.div_eq_of_lt (Nat.mod_lt _ (Nat.two_pow_pos i))
  have hval : (setBit w i true).toNat = (w.toNat % 2 ^ i + 2 ^ i * (1 + 2 * (w.toNat / 2 ^ (i + 1)))) % 2 ^ 32 := by
    simp only [setBit, setFld, if_true, BitVec.toNat_ofNat, Nat.add_sub_cancel_left, pow_one, Nat.one_mod]
    ring_nf
  rw [bitOf_eq_testBit, hval, Nat.testBit_mod_two_pow, Nat.testBit_eq_decide_div_mod_eq,
    Nat.add_mul_div_left _ _ (Nat.two_pow_pos i), hlow]
  simp [hi]

/-! Loops over the device. -/

/-- A loop whose every pass leaves `d` alone leaves it alone. -/
theorem Dev.each_fixed {α : Type} {f : α → Dev → Dev} {d : Dev} :
    ∀ {xs : List α}, (∀ x ∈ xs, f x d = d) → Dev.each f xs d = d
  | [], _ => rfl
  | x :: xs, h => by
    rw [Dev.each, h x List.mem_cons_self]
    exact Dev.each_fixed (fun y hy => h y (List.mem_cons_of_mem x hy))

theorem Dev.each_skip {α : Type} (xs : List α) (d : Dev) : Dev.each (fun _ d => d) xs d = d :=
  Dev.each_fixed (fun _ _ => rfl)

/-! The key of a page's register. -/

theorem keyOf_page (p : PageId) (off : BitVec 12) : keyOf p off / 0x1000 = p.val := by
  unfold keyOf; omega

theorem keyOf_offset (p : PageId) (off : BitVec 12) : keyOf p off % 0x1000 = off.toNat := by
  unfold keyOf; omega

/-! Which branch a write takes. -/

/-- The registers at offset 0x30 or later whose write is an action of its own (R66, R295, R427, R439, R441, R455). -/
def actingKeys : List Nat :=
  [Reg.release_CLR, Reg.rst_SWRST, Reg.jrnl_FLUSH, Reg.wdog_KICK, Reg.dbg_CTRL, Reg.dbg_CMD]

theorem shMask_of_acting : ∀ k ∈ actingKeys, shMask k = 0 := by decide

theorem lvMask_of_acting : ∀ k ∈ actingKeys, k ≠ Reg.dbg_CTRL → lvMask k = 0 := by decide

theorem not_acting_of_shMask {k : Nat} (h : shMask k ≠ 0) : k ∉ actingKeys := fun hk => h (shMask_of_acting k hk)

theorem not_acting_of_lvMask {k : Nat} (h : lvMask k ≠ 0) (hdbg : k ≠ Reg.dbg_CTRL) : k ∉ actingKeys :=
  fun hk => h (lvMask_of_acting k hk hdbg)

/-- A register whose permitted write is the write of its fields: it lies behind the header, and no safe-direction write,
no action and no command of a CAN page is meant. -/
structure FieldReg (k : Nat) : Prop where
  off : 0x30 ≤ k % 0x1000
  safe : isSafeReg k = false
  act : k ∉ actingKeys
  can : k / 0x1000 ∉ [0x1B, 0x1C]

theorem fieldReg_keyOf {p : PageId} {o : BitVec 12} (off : 0x30 ≤ o.toNat) (safe : isSafeReg (keyOf p o) = false)
    (act : keyOf p o ∉ actingKeys) (can : p.val ∉ [0x1B, 0x1C]) : FieldReg (keyOf p o) :=
  ⟨by rwa [keyOf_offset], safe, act, by rwa [keyOf_page]⟩

/-- A write that reaches its register, to another register than PG_COMMIT, is a permitted write. -/
theorem Dev.plainWrite_of_letsWrite {d : Dev} {src : Src} {k : Nat} (h : d.letsWrite src k) (hk : k % 0x1000 ≠ 0x24)
    (v : Word) : Dev.plainWrite src k v d = (d.permitted src k v none).1 := by
  obtain ⟨-, hreach, hpage, hheld, hguard⟩ := h
  have hcommit : k ≠ Reg.pgCommit (k / 0x1000) := by unfold Reg.pgCommit; omega
  simp [Dev.plainWrite, Dev.regWrite, hreach, hpage, hheld, hguard, hcommit]

/-- A CAN controller's commands and staged words lie in its own page. -/
theorem Dev.canWrite_of_other_page (d : Dev) (src : Src) {n : CanId} {k : Nat} (v : Word)
    (hk : k / 0x1000 ≠ 0x1B + n.val) : d.canWrite src n k v = none := by
  have htx : k ≠ Reg.can_TXCMD n.val := by unfold Reg.can_TXCMD; omega
  have hrx : k ≠ Reg.can_RXCMD n.val := by unfold Reg.can_RXCMD; omega
  have hstg : ¬ (Reg.can_TXSTG n.val 0 ≤ k ∧ k < Reg.can_TXSTG n.val 18) := by unfold Reg.can_TXSTG; omega
  simp [Dev.canWrite, htx, hrx, hstg]

theorem Dev.permitted_eq_fieldWrite (d : Dev) (src : Src) {k : Nat} (v : Word) (csn : Option Word) (hk : FieldReg k) :
    d.permitted src k v csn = d.fieldWrite src k v csn := by
  obtain ⟨hoff, hsafe, hact, hcan⟩ := hk
  have hctrl : k ≠ Reg.pgCtrl (k / 0x1000) := by unfold Reg.pgCtrl; omega
  have hevt : k ≠ Reg.pgEvtset (k / 0x1000) := by unfold Reg.pgEvtset; omega
  have hlock : k ≠ Reg.pgLock (k / 0x1000) := by unfold Reg.pgLock; omega
  simp only [List.mem_cons, List.not_mem_nil, or_false, not_or] at hcan
  simp only [actingKeys, List.mem_cons, List.not_mem_nil, or_false, not_or] at hact
  obtain ⟨hclr, hswrst, hflush, hkick, hdctrl, hdcmd⟩ := hact
  simp [Dev.permitted, hsafe, hctrl, hevt, hlock, hclr, hswrst, hflush, hkick, hdctrl, hdcmd,
    d.canWrite_of_other_page src (n := 0) v hcan.1, d.canWrite_of_other_page src (n := 1) v hcan.2]

theorem Dev.plainWrite_eq_fieldWrite {d : Dev} {src : Src} {k : Nat} (v : Word) (hlet : d.letsWrite src k)
    (hk : FieldReg k) : Dev.plainWrite src k v d = (d.fieldWrite src k v none).1 := by
  have hcommit : k % 0x1000 ≠ 0x24 := fun h => by have := hk.off; omega
  rw [Dev.plainWrite_of_letsWrite hlet hcommit, d.permitted_eq_fieldWrite src v none hk]

/-- No safe-direction register lies in a page's header. -/
theorem isSafeReg_pgCtrl (p : Nat) : isSafeReg (Reg.pgCtrl p) = false := by
  simp only [isSafeReg, Reg.pgCtrl, Reg.drv_SAFE, Reg.trip_SAFE, Reg.trip_REQ, Reg.fan_SAFE, Reg.gpo_SAFE,
    Reg.release_SAFE, Bool.or_eq_false_iff, beq_eq_false_iff_ne]
  omega

/-- A permitted write of PG_CTRL (R43, R68). -/
theorem Dev.permitted_pgCtrl (d : Dev) (src : Src) (p : Nat) (v : Word) (csn : Option Word) :
    d.permitted src (Reg.pgCtrl p) v csn = d.ctrlWrite src p v csn := by
  have hp : Reg.pgCtrl p / 0x1000 = p := by unfold Reg.pgCtrl; omega
  simp [Dev.permitted, isSafeReg_pgCtrl, hp]

/-! The shadow set (R43, R50). -/

/-- The device after an accepted shadow write: the shadow value has taken the SH bits, a set that nobody owned is the
writer's world's, and the page has a set to commit. -/
def Dev.shTaken (d : Dev) (src : Src) (k : Nat) (v : Word) : Dev :=
  let d1 := d.setShad k (mergeMask (shMask k) v (d.shad k))
  let d2 := if d.owner (k / 0x1000) = none then d1.setOwner (k / 0x1000) (some (srcWorld src)) else d1
  d2.setTouched (k / 0x1000) true

/-- An unlocked page whose set the other world does not own takes a shadow write. -/
theorem Dev.shWrite_of_open {d : Dev} {src : Src} {k : Nat} (v : Word)
    (hlock : d.rbit (Reg.pgLock (k / 0x1000)) 0 = false) (hown : d.otherOwns (k / 0x1000) src = false) :
    d.shWrite src k v = (d.shTaken src k v, some stServed) := by
  simp [Dev.shWrite, Dev.shTaken, hlock, hown]

theorem Dev.shad_shTaken (d : Dev) (src : Src) (k j : Nat) (v : Word) :
    (d.shTaken src k v).shad j = if j = k then mergeMask (shMask k) v (d.shad k) else d.shad j := by
  dsimp only [Dev.shTaken]
  split <;> simp [Dev.shad_setShad]

theorem Dev.touched_shTaken (d : Dev) (src : Src) (k : Nat) (v : Word) :
    (d.shTaken src k v).touched (k / 0x1000) = true := Dev.touched_setTouched ..

theorem Dev.owner_shTaken {d : Dev} {k : Nat} (src : Src) (v : Word) (h : d.owner (k / 0x1000) = none) :
    (d.shTaken src k v).owner (k / 0x1000) = some (srcWorld src) := by
  simp [Dev.shTaken, h]

theorem Dev.shTaken_form (d : Dev) (src : Src) (k : Nat) (v : Word) :
    ∃ sh pg, d.shTaken src k v = { d with shadow := sh, pages := pg } := by
  dsimp only [Dev.shTaken]
  split
  · exact ⟨_, _, rfl⟩
  · exact ⟨_, _, rfl⟩

/-- A locked page and a set of the other world refuse a shadow write, which changes nothing. -/
theorem Dev.shWrite_of_closed {d : Dev} {src : Src} {k : Nat} (v : Word)
    (h : d.rbit (Reg.pgLock (k / 0x1000)) 0 = true ∨ d.otherOwns (k / 0x1000) src = true) :
    ∃ st, d.shWrite src k v = (d, some st) ∧ st ≠ stServed := by
  by_cases hlock : d.rbit (Reg.pgLock (k / 0x1000)) 0 = true
  · exact ⟨stRefused 7, by simp [Dev.shWrite, hlock], by decide⟩
  · exact ⟨stRefused 0x26, by simp [Dev.shWrite, hlock, h.resolve_left hlock], by decide⟩

/-- Only a write to a page of a drive or of the fans is noted as a first write (R301, R465). -/
theorem Dev.noteWritten_of_other_page (d : Dev) {k : Nat} (hk : k / 0x1000 ∉ [0x15, 0x16, 0x17, 0x19]) :
    d.noteWritten k = d := by
  have hdrv : ∀ n : DrvId, k ≠ Reg.drv_GATECFG n.val := fun n => by
    simp only [List.mem_cons, List.not_mem_nil, or_false, not_or] at hk
    unfold Reg.drv_GATECFG; omega
  have hfan : ∀ i : FanId, k ≠ Reg.fan_CFG i.val := fun i => by
    simp only [List.mem_cons, List.not_mem_nil, or_false, not_or] at hk
    unfold Reg.fan_CFG; omega
  simp only [Dev.noteWritten, hdrv, hfan, if_false, Dev.each_skip]

/-- A register that has SH fields and no LV field takes a shadow write alone. -/
theorem Dev.fieldWrite_of_shWrite {d e : Dev} {src : Src} {k : Nat} {v : Word} (csn : Option Word)
    (hsh : shMask k ≠ 0) (hlv : lvMask k = 0) (hk : k / 0x1000 ∉ [0x15, 0x16, 0x17, 0x19])
    (h : d.shWrite src k v = (e, some stServed)) : d.fieldWrite src k v csn = e.served := by
  simp [Dev.fieldWrite, hsh, h, e.noteWritten_of_other_page hk, Dev.lvPart, hlv]

/-- A refused shadow write ends the write. -/
theorem Dev.fieldWrite_of_refused {d e : Dev} {src : Src} {k : Nat} {v : Word} {st : Byte} (csn : Option Word)
    (hsh : shMask k ≠ 0) (h : d.shWrite src k v = (e, some st)) (hst : st ≠ stServed) :
    d.fieldWrite src k v csn = (e, some st) := by
  simp [Dev.fieldWrite, hsh, h, hst]

/-- One pass of SHDISC's loop: register `k` shadows its applied value. -/
def Dev.shReload (k : Nat) (d : Dev) : Dev := d.setShad k (d.reg k)

theorem Dev.shDiscard_eq (d : Dev) (p : Nat) : d.shDiscard p = (Dev.each Dev.shReload (shKeys p) d).setOwner p none := rfl

/-- Reloading changes the shadow set alone. -/
theorem Dev.each_shReload_form : ∀ (ks : List Nat) (d : Dev), ∃ sh, Dev.each Dev.shReload ks d = { d with shadow := sh }
  | [], d => ⟨d.shadow, rfl⟩
  | k :: ks, d => by
    obtain ⟨sh, h⟩ := Dev.each_shReload_form ks (Dev.shReload k d)
    exact ⟨sh, h⟩

/-- After the reload the registers named shadow their applied values, and the others are as they were. -/
theorem Dev.shad_each_shReload (j : Nat) : ∀ (ks : List Nat) (d : Dev),
    (Dev.each Dev.shReload ks d).shad j = if j ∈ ks then d.reg j else d.shad j
  | [], _ => rfl
  | k :: ks, d => by
    rw [Dev.each, Dev.shad_each_shReload j ks, Dev.shReload, Dev.reg_setShad, Dev.shad_setShad]
    by_cases hj : j = k
    · simp [hj]
    · simp [hj]

theorem Dev.shDiscard_form (d : Dev) (p : Nat) :
    ∃ sh ow, d.shDiscard p = { d with shadow := sh, pages := { d.pages with owner := ow } } := by
  obtain ⟨sh, h⟩ := Dev.each_shReload_form (shKeys p) d
  exact ⟨sh, _, by rw [Dev.shDiscard_eq, h]; rfl⟩

@[simp] theorem Dev.shad_shDiscard (d : Dev) (p j : Nat) :
    (d.shDiscard p).shad j = if j ∈ shKeys p then d.reg j else d.shad j := by
  rw [Dev.shDiscard_eq, Dev.shad_setOwner, Dev.shad_each_shReload]

@[simp] theorem Dev.owner_shDiscard (d : Dev) (p : Nat) : (d.shDiscard p).owner p = none := by
  rw [Dev.shDiscard_eq, Dev.owner_setOwner]

/-! LV writes (R53). -/

/-- A journaled write changes the list of LV writes and the journal alone: the register keeps its value. -/
theorem Dev.lvQueue_form (d : Dev) (src : Src) (k : Nat) (v prev : Word) (csn : Option Word) :
    ∃ l n j, (d.lvQueue src k v prev csn).1 = { d with pages := { d.pages with lv := l, lvNext := n }, jrn := j } := by
  dsimp only [Dev.lvQueue]
  split
  · exact ⟨_, _, _, rfl⟩
  · exact ⟨_, _, _, rfl⟩

theorem Dev.lvWrite_form (d : Dev) (src : Src) (k : Nat) (v : Word) (csn : Option Word) :
    ∃ l n j, (d.lvWrite src k v csn).1 = { d with pages := { d.pages with lv := l, lvNext := n }, jrn := j } := by
  dsimp only [Dev.lvWrite]
  split
  · exact ⟨d.pages.lv, d.pages.lvNext, d.jrn, rfl⟩
  · exact d.lvQueue_form ..

/-- An entry that enters an empty queue with no loss to report is its only one. -/
theorem Dev.jAdmit_of_empty {d : Dev} (e : JEntry) (hloss : d.jrn.loss = 0) (hq : d.jrn.queue = []) :
    d.jAdmit [e] = { d with jrn := { d.jrn with queue := [e], loss := 0 } } := by
  simp [Dev.jAdmit, hloss, hq, jInsertAll, jInsert]

/-- A write that is due later than its admission waits. -/
theorem Dev.lvAtOnceRun_of_later {d : Dev} (h : ∀ j ∈ d.pages.lv, lvAtOnce j.key = false) : d.lvAtOnceRun = d :=
  Dev.each_fixed (fun j hj => by simp [h j hj])

/-- The applied LV write gives its register the LV bits, where the register starts no action (R53). -/
theorem Dev.lvEffect_of_plain (d : Dev) {j : LvJob}
    (hkey : j.key ∉ [Reg.release_CLR, Reg.jrnl_RDSEL, Reg.flash_RDADDR, Reg.otp_RDADDR, Reg.ledger_CVCTL])
    (hoff : j.key % 0x1000 ≠ 0x14) : d.lvEffect j = d.setReg j.key (mergeMask (lvMask j.key) j.val (d.reg j.key)) := by
  simp only [List.mem_cons, List.not_mem_nil, or_false, not_or] at hkey
  obtain ⟨hclr, hrdsel, hflash, hotp, hcv⟩ := hkey
  simp [Dev.lvEffect, hclr, hrdsel, hflash, hotp, hcv, hoff]

/-! The commands of a shadow write, of SHDISC and of an LV write, and what they leave. -/

/-- A completed command satisfies every consequence of what it satisfies. -/
theorem Completes.imp {i : Instr} {s : State} {P Q : Dev → Prop} (h : Completes i s P) (himp : ∀ d, P d → Q d) :
    Completes i s Q := by
  obtain ⟨d, hrun, hd⟩ := h
  exact ⟨d, hrun, himp d hd⟩

theorem exec_shadowWrite_of_live {s : State} {p : PageId} {off : BitVec 12} (src : Src) (v : Word)
    (hlive : s.dev.live = true) (hsh : shMask (keyOf p off) ≠ 0) :
    exec (.shadowWrite src p off v) s = s.run (Dev.plainWrite src (keyOf p off) v) := by
  change execShadowWrite src p off v s = _
  simp [execShadowWrite, State.run, dueIf, hlive, hsh]

theorem exec_lvWrite_of_live {s : State} {p : PageId} {off : BitVec 12} (src : Src) (v : Word)
    (hlive : s.dev.live = true) (hlv : lvMask (keyOf p off) ≠ 0) :
    exec (.lvWrite src p off v) s = s.run (Dev.plainWrite src (keyOf p off) v) := by
  change execLvWrite src p off v s = _
  simp [execLvWrite, State.run, dueIf, hlive, hlv]

theorem exec_shdisc_of_live {s : State} (src : Src) (p : PageId) (hlive : s.dev.live = true) :
    exec (.shdisc src p) s =
      s.run (fun d => Dev.plainWrite src (Reg.pgCtrl p.val) (setBit (d.reg (Reg.pgCtrl p.val)) 30 true) d) := by
  change execShdisc src p s = _
  simp [execShdisc, State.run, dueIf, hlive]

/-- A shadow write that reaches its register is the write of the register's fields. -/
theorem completes_shadowWrite {s : State} {src : Src} {p : PageId} {off : BitVec 12} {v : Word}
    (hlet : s.dev.letsWrite src (keyOf p off)) (hsh : shMask (keyOf p off) ≠ 0) (hk : FieldReg (keyOf p off)) :
    Completes (.shadowWrite src p off v) s (· = (s.dev.fieldWrite src (keyOf p off) v none).1) :=
  ⟨_, exec_shadowWrite_of_live src v hlet.1 hsh, Dev.plainWrite_eq_fieldWrite v hlet hk⟩

/-- The value of a shadow write goes to the shadow set, which the writer's world owns from then on (R43, R50). -/
theorem shadowWrite_takes {s : State} {src : Src} {p : PageId} {off : BitVec 12} (v : Word)
    (hlet : s.dev.letsWrite src (keyOf p off)) (hk : FieldReg (keyOf p off)) (hsh : shMask (keyOf p off) ≠ 0)
    (hlv : lvMask (keyOf p off) = 0) (hlock : s.dev.rbit (Reg.pgLock p.val) 0 = false)
    (hown : s.dev.otherOwns p.val src = false) (hpage : p.val ∉ [0x15, 0x16, 0x17, 0x19]) :
    Completes (.shadowWrite src p off v) s (· = s.dev.shTaken src (keyOf p off) v) := by
  rw [← keyOf_page p off] at hlock hown hpage
  have hfield := Dev.fieldWrite_of_shWrite none hsh hlv hpage (Dev.shWrite_of_open v hlock hown)
  exact (completes_shadowWrite hlet hsh hk).imp (fun d hd => by rw [hd, hfield]; rfl)

/-- A locked page and a set of the other world refuse a shadow write (R43, R50). -/
theorem shadowWrite_refused {s : State} {src : Src} {p : PageId} {off : BitVec 12} (v : Word)
    (hlet : s.dev.letsWrite src (keyOf p off)) (hk : FieldReg (keyOf p off)) (hsh : shMask (keyOf p off) ≠ 0)
    (h : s.dev.rbit (Reg.pgLock p.val) 0 = true ∨ s.dev.otherOwns p.val src = true) :
    Completes (.shadowWrite src p off v) s (· = s.dev) := by
  rw [← keyOf_page p off] at h
  obtain ⟨st, hst, hne⟩ := Dev.shWrite_of_closed v h
  have hfield := Dev.fieldWrite_of_refused none hsh hst hne
  exact (completes_shadowWrite hlet hsh hk).imp (fun d hd => by rw [hd, hfield])

/-- SHDISC (R43): the journaled write of PG_CTRL behind it touches neither the shadow set nor its ownership. -/
theorem shdisc_discards {s : State} {src : Src} {p : PageId} (hlet : s.dev.letsWrite src (Reg.pgCtrl p.val)) :
    Completes (.shdisc src p) s (fun d => (∀ j, d.shad j = if j ∈ shKeys p.val then s.dev.reg j else s.dev.shad j) ∧
      d.owner p.val = none ∧ d.regs = s.dev.regs ∧ d.mem = s.dev.mem ∧ d.copies = s.dev.copies) := by
  have hoff : Reg.pgCtrl p.val % 0x1000 ≠ 0x24 := by unfold Reg.pgCtrl; omega
  refine ⟨_, exec_shdisc_of_live src p hlet.1, ?_⟩
  dsimp only
  rw [Dev.plainWrite_of_letsWrite hlet hoff, Dev.permitted_pgCtrl, Dev.ctrlWrite, if_pos (bitOf_setBit_same _ (by decide))]
  obtain ⟨l, n, q, hlv⟩ := (s.dev.shDiscard p.val).lvWrite_form src (Reg.pgCtrl p.val)
    (setBit (s.dev.reg (Reg.pgCtrl p.val)) 30 true) none
  obtain ⟨sh, ow, hdisc⟩ := s.dev.shDiscard_form p.val
  rw [hlv]
  exact ⟨s.dev.shad_shDiscard p.val, s.dev.owner_shDiscard p.val, by rw [hdisc], by rw [hdisc], by rw [hdisc]⟩

/-- The LV write that an admitted write of `src` to register `k` leaves waiting for its HCLK (R53). -/
def Dev.lvJob (d : Dev) (src : Src) (k : Nat) (v : Word) : LvJob :=
  ⟨d.pages.lvNext, k, v, mergeMask (lvMask k) v (d.reg k), src, true, none⟩

/-- The journal entry of an LV write (R53, R63). -/
def Dev.lvEntry (d : Dev) (src : Src) (k : Nat) (v : Word) : JEntry :=
  d.jEntry 4 (k / 0x1000) (k % 0x1000) (srcCode src) (mergeMask (lvMask k) v (d.reg k)) (d.reg k) d.frame32 false

theorem Dev.lvEntry_keyOf (d : Dev) (src : Src) (p : PageId) (off : BitVec 12) (v : Word) :
    d.lvEntry src (keyOf p off) v = d.jEntry 4 p.val off.toNat (srcCode src)
      (mergeMask (lvMask (keyOf p off)) v (d.reg (keyOf p off))) (d.reg (keyOf p off)) d.frame32 false := by
  rw [Dev.lvEntry, keyOf_page, keyOf_offset]

/-- The device that has admitted an LV write to an empty queue. -/
def Dev.lvAdmitted (d : Dev) (src : Src) (k : Nat) (v : Word) : Dev :=
  { d with pages := { d.pages with lv := [d.lvJob src k v], lvNext := d.pages.lvNext + 1 },
           jrn := { d.jrn with queue := [d.lvEntry src k v], loss := 0 } }

/-- The journal has room at once, and no entry and no LV write waits before a new one. -/
structure Dev.LvIdle (d : Dev) : Prop where
  room : d.jRoom 1 = true
  noJob : d.pages.lv = []
  noLoss : d.jrn.loss = 0
  noEntry : d.jrn.queue = []

/-- A register that has LV or RW fields alone, and whose write takes effect in a later HCLK than its admission. -/
structure LvReg (k : Nat) : Prop where
  lv : lvMask k ≠ 0
  noSh : shMask k = 0
  noW1c : w1cMask k = 0
  later : lvAtOnce k = false

/-- An LV write that finds its place in an empty queue is admitted at once. -/
theorem Dev.lvQueue_of_idle {d : Dev} (src : Src) {k : Nat} (v : Word) (hclr : k ≠ Reg.release_CLR) (hidle : d.LvIdle) :
    d.lvQueue src k v (d.reg k) none = (d.lvAdmitted src k v, some stServed) := by
  simp only [Dev.lvQueue, Dev.lvValue, hclr, hidle.room, hidle.noJob, if_true, if_false, List.nil_append]
  rw [Dev.jAdmit_of_empty _ (by exact hidle.noLoss) (by exact hidle.noEntry)]
  rfl

/-- A permitted write to an LV register of an unlocked page. -/
theorem Dev.fieldWrite_of_lv {d : Dev} (src : Src) {k : Nat} (v : Word) (hreg : LvReg k) (hclr : k ≠ Reg.release_CLR)
    (hlock : d.rbit (Reg.pgLock (k / 0x1000)) 0 = false) (hidle : d.LvIdle) :
    d.fieldWrite src k v none = (d.lvAdmitted src k v, some stServed) := by
  have hwrite : d.lvWrite src k v none = (d.lvAdmitted src k v, some stServed) := by
    simp [Dev.lvWrite, hlock, Dev.lvQueue_of_idle src v hclr hidle]
  have hlater : (d.lvAdmitted src k v).lvAtOnceRun = d.lvAdmitted src k v :=
    Dev.lvAtOnceRun_of_later (fun j hj => by rw [List.mem_singleton.1 hj]; exact hreg.later)
  simp [Dev.fieldWrite, Dev.lvPart, hreg.noSh, hreg.noW1c, hreg.lv, hwrite, hlater]

/-- An LV write is journaled first, and its register keeps its value (R53). -/
theorem lvWrite_admits {s : State} {src : Src} {p : PageId} {off : BitVec 12} (v : Word)
    (hlet : s.dev.letsWrite src (keyOf p off)) (hk : FieldReg (keyOf p off)) (hreg : LvReg (keyOf p off))
    (hlock : s.dev.rbit (Reg.pgLock p.val) 0 = false) (hidle : s.dev.LvIdle) :
    Completes (.lvWrite src p off v) s (· = s.dev.lvAdmitted src (keyOf p off) v) := by
  have hclr : keyOf p off ≠ Reg.release_CLR := fun h => hk.act (h ▸ List.mem_cons_self)
  rw [← keyOf_page p off] at hlock
  refine ⟨_, exec_lvWrite_of_live src v hlet.1 hreg.lv, ?_⟩
  rw [Dev.plainWrite_eq_fieldWrite v hlet hk, Dev.fieldWrite_of_lv src v hreg hclr hlock hidle]

/-- LV_WRITE_APPLY of the oldest admitted write (R53). -/
theorem lvWriteApply_oldest {s : State} {j : LvJob} (hold : s.dev.pages.lv.find? (fun x => x.admitted) = some j)
    (hid : s.dev.pages.lv.find? (fun x => x.id == j.id && x.admitted) = some j)
    (hkey : j.key ∉ [Reg.release_CLR, Reg.jrnl_RDSEL, Reg.flash_RDADDR, Reg.otp_RDADDR, Reg.ledger_CVCTL])
    (hoff : j.key % 0x1000 ≠ 0x14) :
    Completes .lvWriteApply s (fun d => d = { s.dev.setReg j.key (mergeMask (lvMask j.key) j.val (s.dev.reg j.key)) with
      pages := { s.dev.pages with lv := s.dev.pages.lv.filter (fun x => x.id != j.id) } }) := by
  have hrun : exec .lvWriteApply s = .next { s with dev := s.dev.lvRun j.id } := by
    change execLvWriteApply s = _
    simp [execLvWriteApply, State.run, hold]
  refine ⟨_, hrun, ?_⟩
  simp only [Dev.lvRun, hid]
  rw [Dev.lvEffect_of_plain _ hkey hoff]
  rfl

/-- LV_WRITE_APPLY with no LV write there. -/
theorem lvWriteApply_none {s : State} (h : s.dev.pages.lv = []) : Completes .lvWriteApply s (· = s.dev) := by
  have hrun : exec .lvWriteApply s = .next { s with dev := s.dev } := by
    change execLvWriteApply s = _
    simp [execLvWriteApply, State.run, h]
  exact ⟨_, hrun, rfl⟩

/-- Settles O30: each clause is what its command leaves, read field by field. -/
theorem shadowAndLiveWrites : Obligations.ShadowAndLiveWrites := by
  refine ⟨fun s src p off v => ⟨?_, ?_, ?_⟩, fun s => ⟨?_, ?_, ?_⟩⟩
  · intro hlet hsh hlv hoff hsafe hcan hlock hown hpage
    have hk := fieldReg_keyOf hoff hsafe (not_acting_of_shMask hsh) hcan
    refine (shadowWrite_takes v hlet hk hsh hlv hlock hown hpage).imp (fun d hd => ?_)
    obtain ⟨sh, pg, hform⟩ := s.dev.shTaken_form src (keyOf p off) v
    have htouched := s.dev.touched_shTaken src (keyOf p off) v
    have howner := Dev.owner_shTaken (d := s.dev) (k := keyOf p off) src v
    rw [keyOf_page] at htouched howner
    subst hd
    refine ⟨(Dev.shad_shTaken ..).trans (if_pos rfl), fun j hj => (Dev.shad_shTaken ..).trans (if_neg hj), htouched,
      howner, ?_⟩
    rw [hform]
  · intro hlet hsh hoff hsafe hcan hclosed
    exact shadowWrite_refused v hlet (fieldReg_keyOf hoff hsafe (not_acting_of_shMask hsh) hcan) hsh hclosed
  · intro hlet _
    refine (shdisc_discards hlet).imp (fun d ⟨hshad, hrest⟩ => ?_)
    exact ⟨fun j hj => (hshad j).trans (if_pos hj), fun j hj => (hshad j).trans (if_neg hj), hrest⟩
  · intro src p off v k hlet hlv hsh hw1c hoff honce hsafe hclr hdbg hpage hlock hroom hl hloss hq nv
    have hcan : p.val ∉ [0x1B, 0x1C] := by
      simp only [List.mem_cons, List.not_mem_nil, or_false, not_or] at hpage ⊢
      exact ⟨hpage.2.1, hpage.2.2.1⟩
    have hk := fieldReg_keyOf hoff hsafe (not_acting_of_lvMask hlv hdbg) hcan
    refine (lvWrite_admits v hlet hk ⟨hlv, hsh, hw1c, honce⟩ hlock ⟨hroom, hl, hloss, hq⟩).imp (fun d hd => ?_)
    subst hd
    exact ⟨rfl, congrArg ([·]) (s.dev.lvEntry_keyOf src p off v), rfl⟩
  · intro j hold hid hkey hoff
    refine (lvWriteApply_oldest hold hid hkey hoff).imp (fun d hd => ?_)
    have hreg : ∀ i, d.reg i = if i = j.key then mergeMask (lvMask j.key) j.val (s.dev.reg j.key) else s.dev.reg i :=
      fun i => by rw [hd]; exact s.dev.reg_setReg ..
    refine ⟨(hreg _).trans (if_pos rfl), fun i hi => (hreg i).trans (if_neg (by simpa using hi)), ?_, ?_⟩
    · rw [hd]
    · rw [hd]; rfl
  · exact lvWriteApply_none

end Sys2Proof.Machine

namespace Sys2Proof.Machine

open Sys2Proof

/-! Deadlines past the end of TIME: TBASE.TIME is a 64-bit count of HCLK (R142), while the instants from which a unit counts
a wait are plain numbers. A statement that puts TIME at such an instant plus the wait, whatever the instant, does not hold
where the sum needs more than 64 bits: there `Dev.at` takes TIME round to a small value. The states here stand in the last
HCLK that TIME counts, in which something has just begun to wait. -/

/-- A command has one answer: two accounts of it are accounts of the same device. -/
theorem Completes.agree {i : Instr} {s : State} {P Q : Dev → Prop} (hP : Completes i s P) (hQ : Completes i s Q) :
    ∃ d, P d ∧ Q d := by
  obtain ⟨d, hd, hPd⟩ := hP
  obtain ⟨e, he, hQe⟩ := hQ
  obtain rfl : d = e := by simpa using hd.symm.trans he
  exact ⟨d, hPd, hQe⟩

/-- A command that leaves TIME at `t` refutes every account of it that puts TIME elsewhere. -/
theorem Completes.not_now {i : Instr} {s : State} {t u : Nat} {P : Dev → Prop} (hruns : Completes i s (fun d => d.now = t))
    (hP : ∀ d, P d → d.now = u) (hne : t ≠ u) : ¬ Completes i s P := by
  intro h
  obtain ⟨d, ht, hPd⟩ := hruns.agree h
  exact hne (ht.symm.trans (hP d hPd))

/-- The last HCLK that TIME counts. -/
def lastTime : Nat := 2 ^ 64 - 1

/-- A running hub in that HCLK. -/
def lastDev : Dev := { Dev.reset with phase := .run, time := BitVec.ofNat 64 lastTime }

/-- A guard flush job submitted in that HCLK; the ledger of `lastDev` has no energy for it. -/
def lateJob : Job :=
  { id := 0, kind := .flush, cls := 0, energy := 2400, hold := 0, admitted := false, since := lastTime, overran := false,
    flash := none }

/-- A guard READ on which the copies agreed, reserved in that HCLK. -/
def lateEntry : CmpEntry :=
  let q : Req := ⟨0, 0, 0, .iron, 0, 0, false, 0xF, 0x20000000, 0, 0, 0⟩
  { csn := 0, first := lastTime, arr := Tri.const (some ⟨.read, q, lastTime⟩), agreed := Tri.const (some true),
    stage := .reserved, winner := 0, safeDone := false, relAt := lastTime, delayed := false, refusal := none, flits := [],
    answered := Tri.const false }

/-- A timely frame stored in that HCLK. -/
def lateFrame : RxItem :=
  { frame := ⟨0x123, false, false, false, false, false, 1, [0]⟩, filter := 0, cls := 1, time := 0, stored := lastTime,
    overran := false }

/-- Refutes O40: a guard job that is submitted in the last HCLK of TIME overruns 400 000 HCLK later, at a TIME that 64 bits
do not hold; the model's TIME is 399 999 then, and not the later of the two instants. -/
theorem not_ledgerJobs : ¬ Obligations.LedgerJobs := by
  unfold Obligations.LedgerJobs
  intro h
  let s : State := ⟨[], { lastDev with ledger := { Dev.ledgerReset with jobs := [lateJob] } }⟩
  have hwaits : s.dev.ledger.jobs.find? (fun x => !x.admitted && x.cls == 0 && !x.overran && !s.dev.jobFits x)
      = some lateJob := by decide +kernel
  have hwraps : Completes .ledgerGuardOverrun s (fun d => d.now = 399999) := ⟨_, rfl, by decide +kernel⟩
  obtain ⟨-, -, -, hoverrun⟩ := h.1 s lateJob
  exact hwraps.not_now (fun _ hd => hd.1) (by decide +kernel) (hoverrun hwaits)

/-- Refutes O50: a guard request that obtains its response places in the last HCLK of TIME and waits at its port overruns 8
HCLK later, at a TIME that 64 bits do not hold; the model's TIME is 7 then. -/
theorem not_requestDeadlines : ¬ Obligations.RequestDeadlines := by
  unfold Obligations.RequestDeadlines
  intro h
  let s : State := ⟨[], { lastDev with cmp := [lateEntry] }⟩
  have hwaits : s.dev.cmp.find? (fun x => x.stage == .reserved && x.cls == 0) = some lateEntry := by decide +kernel
  have hwraps : Completes .schedulerGuardOverrun s (fun d => d.now = 7) := ⟨_, rfl, by decide +kernel⟩
  obtain ⟨-, hoverrun, -⟩ := h s 0 lateEntry
  exact hwraps.not_now (fun _ hd => hd.1) (by decide +kernel) (hoverrun hwaits)

/-- Refutes O57: a timely frame that is stored in the last HCLK of TIME, with a deadline of one unit of 10 µs, is discarded
4 000 HCLK later, at a TIME that 64 bits do not hold; the model's TIME is 3 999 then. -/
theorem not_canReceives : ¬ Obligations.CanReceives := by
  unfold Obligations.CanReceives
  intro h
  let s : State :=
    ⟨[], { lastDev with can := Duo.const { Dev.canReset with rx := [lateFrame] } }.setReg (Reg.can_RXDL 0) 1⟩
  have hdue : firstDue (s.dev.rxDue 0 false) (s.dev.canCh 0).rx 0 = some (lastTime + 4000, 0) := by decide +kernel
  have hwraps : Completes (.rxDeadline 0) s (fun d => d.now = 3999) := ⟨_, rfl, by decide +kernel⟩
  obtain ⟨-, -, -, hheld⟩ := h.1 s 0 lateFrame.frame 0
  obtain ⟨hdiscard, -⟩ := hheld (lastTime + 4000) 0
  exact hwraps.not_now (fun _ hd => hd.1) (by decide +kernel) (hdiscard hdue)

end Sys2Proof.Machine

namespace Sys2Proof.Machine

open Sys2Proof

/-! Named updates of one part of the device, and reads after them. Each read is proved `by rfl`, so that `simp` rewrites with
it: a conversion of two devices by the kernel would compare every field of theirs. -/

def Dev.withJrn (d : Dev) (j : Journal) : Dev := { d with jrn := j }
def Dev.withRegs (d : Dev) (rs : Map Word) : Dev := { d with regs := rs }
def Dev.withCommits (d : Dev) (cs : List Commit) : Dev := { d with pages := { d.pages with commits := cs } }
def Dev.withLv (d : Dev) (l : List LvJob) : Dev := { d with pages := { d.pages with lv := l } }

section Updates

variable (d : Dev)

@[simp] theorem Dev.withJrn_jrn (j : Journal) : (d.withJrn j).jrn = j := by rfl
@[simp] theorem Dev.withJrn_pages (j : Journal) : (d.withJrn j).pages = d.pages := by rfl
@[simp] theorem Dev.withJrn_shadow (j : Journal) : (d.withJrn j).shadow = d.shadow := by rfl
@[simp] theorem Dev.reg_withJrn (j : Journal) (k : Nat) : (d.withJrn j).reg k = d.reg k := by rfl
@[simp] theorem Dev.rbit_withJrn (j : Journal) (k i : Nat) : (d.withJrn j).rbit k i = d.rbit k i := by rfl
@[simp] theorem Dev.owner_withJrn (j : Journal) (p : Nat) : (d.withJrn j).owner p = d.owner p := by rfl
@[simp] theorem Dev.touched_withJrn (j : Journal) (p : Nat) : (d.withJrn j).touched p = d.touched p := by rfl

@[simp] theorem Dev.withRegs_pages (rs : Map Word) : (d.withRegs rs).pages = d.pages := by rfl
@[simp] theorem Dev.owner_withRegs (rs : Map Word) (p : Nat) : (d.withRegs rs).owner p = d.owner p := by rfl
@[simp] theorem Dev.touched_withRegs (rs : Map Word) (p : Nat) : (d.withRegs rs).touched p = d.touched p := by rfl

@[simp] theorem Dev.withCommits_commits (cs : List Commit) : (d.withCommits cs).pages.commits = cs := by rfl
@[simp] theorem Dev.withCommits_jrn (cs : List Commit) : (d.withCommits cs).jrn = d.jrn := by rfl
@[simp] theorem Dev.reg_withCommits (cs : List Commit) (k : Nat) : (d.withCommits cs).reg k = d.reg k := by rfl
@[simp] theorem Dev.touched_withCommits (cs : List Commit) (p : Nat) : (d.withCommits cs).touched p = d.touched p := by rfl
@[simp] theorem Dev.withCommits_lv (cs : List Commit) : (d.withCommits cs).pages.lv = d.pages.lv := by rfl
@[simp] theorem Dev.withCommits_shadow (cs : List Commit) : (d.withCommits cs).shadow = d.shadow := by rfl

@[simp] theorem Dev.withLv_lv (l : List LvJob) : (d.withLv l).pages.lv = l := by rfl
@[simp] theorem Dev.withLv_jrn (l : List LvJob) : (d.withLv l).jrn = d.jrn := by rfl
@[simp] theorem Dev.reg_withLv (l : List LvJob) (k : Nat) : (d.withLv l).reg k = d.reg k := by rfl

@[simp] theorem Dev.setOwner_commits (p : Nat) (w : Option World) : (d.setOwner p w).pages.commits = d.pages.commits := by
  rfl
@[simp] theorem Dev.setOwner_shadow (p : Nat) (w : Option World) : (d.setOwner p w).shadow = d.shadow := by rfl
@[simp] theorem Dev.setOwner_jrn (p : Nat) (w : Option World) : (d.setOwner p w).jrn = d.jrn := by rfl
@[simp] theorem Dev.reg_setOwner (p k : Nat) (w : Option World) : (d.setOwner p w).reg k = d.reg k := by rfl
@[simp] theorem Dev.rbit_setOwner (p k i : Nat) (w : Option World) : (d.setOwner p w).rbit k i = d.rbit k i := by rfl
@[simp] theorem Dev.touched_setOwner (p q : Nat) (w : Option World) : (d.setOwner p w).touched q = d.touched q := by rfl
@[simp] theorem Dev.setOwner_lv (p : Nat) (w : Option World) : (d.setOwner p w).pages.lv = d.pages.lv := by rfl

@[simp] theorem Dev.setTouched_commits (p : Nat) (b : Bool) : (d.setTouched p b).pages.commits = d.pages.commits := by rfl
@[simp] theorem Dev.reg_setTouched (p k : Nat) (b : Bool) : (d.setTouched p b).reg k = d.reg k := by rfl
@[simp] theorem Dev.setTouched_lv (p : Nat) (b : Bool) : (d.setTouched p b).pages.lv = d.pages.lv := by rfl
@[simp] theorem Dev.setTouched_jrn (p : Nat) (b : Bool) : (d.setTouched p b).jrn = d.jrn := by rfl
@[simp] theorem Dev.setTouched_shadow (p : Nat) (b : Bool) : (d.setTouched p b).shadow = d.shadow := by rfl

@[simp] theorem Dev.touched_setReg (k p : Nat) (v : Word) : (d.setReg k v).touched p = d.touched p := by rfl

@[simp] theorem Dev.reg_jAdmit (es : List JEntry) (k : Nat) : (d.jAdmit es).reg k = d.reg k := by rfl
@[simp] theorem Dev.touched_jAdmit (es : List JEntry) (p : Nat) : (d.jAdmit es).touched p = d.touched p := by rfl

@[simp] theorem Dev.reg_ovlRef (g k : Nat) : (d.ovlRef g).reg k = d.reg k := by rfl

end Updates

/-- From `d` to `e` only registers, the page mechanism and the journal differ. -/
def Dev.PageStep (d e : Dev) : Prop := ∃ rs pg j, e = { d with regs := rs, pages := pg, jrn := j }

theorem Dev.PageStep.trans {d e f : Dev} (h : d.PageStep e) (h' : e.PageStep f) : d.PageStep f := by
  obtain ⟨_, _, _, rfl⟩ := h
  obtain ⟨_, _, _, rfl⟩ := h'
  exact ⟨_, _, _, rfl⟩

theorem Dev.PageStep.eq {d e : Dev} (h : d.PageStep e) : e = { d with regs := e.regs, pages := e.pages, jrn := e.jrn } := by
  obtain ⟨_, _, _, rfl⟩ := h
  rfl

theorem Dev.pageStep_withJrn (d : Dev) (j : Journal) : d.PageStep (d.withJrn j) := ⟨_, _, _, rfl⟩
theorem Dev.pageStep_withRegs (d : Dev) (rs : Map Word) : d.PageStep (d.withRegs rs) := ⟨_, _, _, rfl⟩
theorem Dev.pageStep_withCommits (d : Dev) (cs : List Commit) : d.PageStep (d.withCommits cs) := ⟨_, _, _, rfl⟩
theorem Dev.pageStep_setReg (d : Dev) (k : Nat) (v : Word) : d.PageStep (d.setReg k v) := ⟨_, _, _, rfl⟩
theorem Dev.pageStep_setOwner (d : Dev) (p : Nat) (w : Option World) : d.PageStep (d.setOwner p w) := ⟨_, _, _, rfl⟩
theorem Dev.pageStep_setTouched (d : Dev) (p : Nat) (b : Bool) : d.PageStep (d.setTouched p b) := ⟨_, _, _, rfl⟩
theorem Dev.pageStep_jAdmit (d : Dev) (es : List JEntry) : d.PageStep (d.jAdmit es) := ⟨_, _, _, rfl⟩

/-! The journal's queue, and what waits for places in it (R60). -/

theorem mem_jInsert {x e : JEntry} : ∀ {q : List JEntry}, x ∈ jInsert e q ↔ x = e ∨ x ∈ q
  | [] => by simp [jInsert]
  | y :: ys => by
    rw [jInsert]
    split
    · exact List.mem_cons
    · rw [List.mem_cons, mem_jInsert, List.mem_cons, or_left_comm]

theorem mem_jInsertAll {x : JEntry} : ∀ {es q : List JEntry}, x ∈ jInsertAll es q ↔ x ∈ es ∨ x ∈ q
  | [], q => by simp [jInsertAll]
  | e :: es, q => by rw [jInsertAll, mem_jInsertAll, mem_jInsert, List.mem_cons, or_left_comm, or_assoc]

theorem Dev.mem_queue_jAdmit (d : Dev) {es : List JEntry} {e : JEntry} (he : e ∈ es) : e ∈ (d.jAdmit es).jrn.queue :=
  mem_jInsertAll.2 (.inl he)

/-- A timely entry changes the journal alone: it enters the queue, or waits as an event behind what waits. -/
theorem Dev.jput_form_of_timely (d : Dev) {e : JEntry} (he : e.cls = 1) :
    ∃ j, d.jput e = d.withJrn j ∧ ∀ w ∈ j.waiting, w ∈ d.jrn.waiting ∨ w.what = .event := by
  by_cases hroom : d.jRoom 1 = true
  · exact ⟨(d.jAdmit [e]).jrn, by simp [Dev.jput, he, hroom, Dev.jAdmit, Dev.withJrn], fun w hw => .inl hw⟩
  · refine ⟨{ d.jrn with waiting := d.jrn.waiting ++ [⟨.event, [e], d.now + 4000⟩] }, by simp [Dev.jput, he, hroom, Dev.withJrn],
      fun w hw => (List.mem_append.1 hw).imp_right (fun h => ?_)⟩
    rw [List.mem_singleton.1 h]

theorem Dev.jlog_form_of_timely (d : Dev) {kind : Nat} (hkind : jClass kind = 1) (page off src : Nat) (new prev : Word) :
    ∃ j, d.jlog kind page off src new prev = d.withJrn j ∧ ∀ w ∈ j.waiting, w ∈ d.jrn.waiting ∨ w.what = .event :=
  d.jput_form_of_timely (by rw [Dev.jEntry, hkind]; rfl)

/-- Events that are served change the journal alone. -/
theorem jServe_form_of_events : ∀ (ws : List JWait) (d : Dev), (∀ w ∈ ws, w.what = .event) →
    ∃ j, jServe ws d = d.withJrn j
  | [], d, _ => ⟨d.jrn, rfl⟩
  | w :: ws, d, h => by
    have hw : ∀ e, w.admitted e = e := fun e => by simp [JWait.admitted, h w]
    rw [jServe]
    split
    · obtain ⟨j, hj⟩ := jServe_form_of_events ws ({ d with jrn := { d.jrn with waiting := ws } }.jAdmit w.entries)
        (fun x hx => h x (List.mem_cons_of_mem w hx))
      exact ⟨j, by rw [hw, hj]; rfl⟩
    · exact ⟨d.jrn, rfl⟩

/-- LV writes that are not admitted do not run. -/
theorem Dev.lvAtOnceRun_of_unadmitted {d : Dev} (h : ∀ j ∈ d.pages.lv, j.admitted = false) : d.lvAtOnceRun = d :=
  Dev.each_fixed (fun j hj => by simp [h j hj])

theorem Dev.jServe1_form_of_events {d : Dev} (hw : ∀ w ∈ d.jrn.waiting, w.what = .event)
    (hl : ∀ j ∈ d.pages.lv, j.admitted = false) : ∃ j, d.jServe1 = d.withJrn j := by
  obtain ⟨j, hj⟩ := jServe_form_of_events d.jrn.waiting d hw
  exact ⟨j, by rw [Dev.jServe1, Dev.jService, hj, Dev.lvAtOnceRun_of_unadmitted (by exact hl)]⟩

/-- With no group that waits and no LV write admitted, nothing is served. -/
theorem Dev.jServe1_of_idle {d : Dev} (hw : d.jrn.waiting = []) (hl : ∀ j ∈ d.pages.lv, j.admitted = false) :
    d.jServe1 = d := by
  rw [Dev.jServe1, Dev.jService, hw, jServe, Dev.lvAtOnceRun_of_unadmitted hl]

/-! The status registers of a page (R68). -/

theorem Dev.reg_evt_of_ne (d : Dev) {p b k : Nat} (hk : k ≠ Reg.pgEvt p) : (d.evt p b).reg k = d.reg k :=
  (d.reg_setReg ..).trans (if_neg hk)

theorem Dev.rbit_evt (d : Dev) (p : Nat) {b : Nat} (hb : b < 32) : (d.evt p b).rbit (Reg.pgEvt p) b = true := by
  rw [Dev.rbit, Dev.evt, Dev.setBitR, Dev.reg_setReg, if_pos rfl, bitOf_setBit_same _ hb]

theorem pgCmtstat_ne_pgEvt (p : Nat) : Reg.pgCmtstat p ≠ Reg.pgEvt p := by unfold Reg.pgCmtstat Reg.pgEvt; omega

/-- The device whose page `p` shows `w` as the status of its latest commit, with the event bit `b`. -/
def Dev.cmtShown (d : Dev) (p : Nat) (w : Word) (b : Nat) : Dev := (d.setReg (Reg.pgCmtstat p) w).evt p b

theorem Dev.reg_cmtShown_same (d : Dev) (p : Nat) (w : Word) (b : Nat) :
    (d.cmtShown p w b).reg (Reg.pgCmtstat p) = w := by
  rw [Dev.cmtShown, Dev.reg_evt_of_ne _ (pgCmtstat_ne_pgEvt p), Dev.reg_setReg, if_pos rfl]

theorem Dev.rbit_cmtShown (d : Dev) (p : Nat) (w : Word) {b : Nat} (hb : b < 32) :
    (d.cmtShown p w b).rbit (Reg.pgEvt p) b = true := Dev.rbit_evt _ p hb

theorem Dev.reg_cmtShown_of_ne (d : Dev) {p k : Nat} (w : Word) (b : Nat) (hk : k ∉ [Reg.pgCmtstat p, Reg.pgEvt p]) :
    (d.cmtShown p w b).reg k = d.reg k := by
  simp only [List.mem_cons, List.not_mem_nil, or_false, not_or] at hk
  rw [Dev.cmtShown, Dev.reg_evt_of_ne _ hk.2, Dev.reg_setReg, if_neg hk.1]

theorem Dev.pageStep_cmtShown (d : Dev) (p : Nat) (w : Word) (b : Nat) : d.PageStep (d.cmtShown p w b) :=
  (Dev.pageStep_setReg ..).trans (Dev.pageStep_setReg ..)

theorem Dev.refuseCommit_fst (d : Dev) (src : Src) (p : Nat) (word : Word) (reason rule : Nat) :
    (d.refuseCommit src p word reason rule).1 =
      ((d.cmtShown p (cmtWord word 3 rule (reason * 4 + 2)) 30).setOwner p none).jlog 3 p 0x24 (srcCode src) word
        (cmtWord word 3 rule (reason * 4 + 2)) := by
  simp only [Dev.refuseCommit, Dev.cmtShown]

/-- A refused commit (R45, R50): the status, the event bit, the end of the ownership, and its journal entry. -/
theorem Dev.refuseCommit_form (d : Dev) (src : Src) (p : Nat) (word : Word) (reason rule : Nat) :
    ∃ j, (d.refuseCommit src p word reason rule).1 =
        ((d.cmtShown p (cmtWord word 3 rule (reason * 4 + 2)) 30).setOwner p none).withJrn j ∧
      ∀ w ∈ j.waiting, w ∈ d.jrn.waiting ∨ w.what = .event := by
  rw [Dev.refuseCommit_fst]
  obtain ⟨j, hj, hw⟩ := Dev.jlog_form_of_timely ((d.cmtShown p (cmtWord word 3 rule (reason * 4 + 2)) 30).setOwner p none)
    (kind := 3) rfl p 0x24 (srcCode src) word (cmtWord word 3 rule (reason * 4 + 2))
  exact ⟨j, hj, by simpa [Dev.cmtShown] using hw⟩

/-! A commit request (R45). -/

theorem pgCommit_page (p : Nat) : Reg.pgCommit p / 0x1000 = p := by unfold Reg.pgCommit; omega

theorem Dev.plainWrite_pgCommit {d : Dev} {src : Src} {p : Nat} (h : d.letsWrite src (Reg.pgCommit p)) (v : Word) :
    Dev.plainWrite src (Reg.pgCommit p) v d = (d.commitReq src p v none).1 := by
  obtain ⟨-, hreach, hpage, hheld, -⟩ := h
  rw [pgCommit_page] at hpage
  simp [Dev.plainWrite, Dev.regWrite, pgCommit_page, hreach, hpage, hheld]

theorem completes_pgCommit {s : State} {src : Src} {p : PageId} {v : Word}
    (h : s.dev.letsWrite src (Reg.pgCommit p.val)) :
    Completes (.pgCommit src p v) s (· = (s.dev.commitReq src p.val v none).1) := by
  refine ⟨_, rfl, ?_⟩
  change dueIf s.dev.live _ s.dev = _
  rw [dueIf, if_pos h.1, Dev.plainWrite_pgCommit h]

/-- A request that fails another check than the guard's is refused. -/
theorem Dev.commitReq_of_failed {d : Dev} {src : Src} {p : Nat} {v : Word} (h0 : (d.commitCheck src p v).1 ≠ 0)
    (h5 : (d.commitCheck src p v).1 ≠ 5) (csn : Option Word) :
    d.commitReq src p v csn = d.refuseCommit src p v (d.commitCheck src p v).1 (d.commitCheck src p v).2 := by
  simp [Dev.commitReq, h0, h5]

/-- What a request of page `p` captures: it waits for its entries. -/
def Dev.capture (d : Dev) (src : Src) (p : Nat) (v : Word) : Commit :=
  ⟨p, v, (d.changed p).map (fun k => (k, d.ifCommitted k)), false, false, none, src⟩

/-- The device that holds the captured commit behind the earlier ones. -/
def Dev.captured (d : Dev) (src : Src) (p : Nat) (v : Word) : Dev :=
  (d.withCommits (d.pages.commits ++ [d.capture src p v])).setTouched p false

theorem Dev.pageStep_captured (d : Dev) (src : Src) (p : Nat) (v : Word) : d.PageStep (d.captured src p v) :=
  (Dev.pageStep_withCommits ..).trans (Dev.pageStep_setTouched ..)

/-- A request of an immediate page that passes is captured, journaled and accepted at once. -/
theorem Dev.commitReq_of_passed {d : Dev} {src : Src} {p : Nat} {v : Word} (hcheck : d.commitCheck src p v = (0, 0))
    (htouched : d.touched p = true) (hframe : isFramePage p = false)
    (hroom : d.jRoom ((d.changed p).length + 1) = true) :
    (d.commitReq src p v none).1 =
      ((d.captured src p v).jAdmit (d.commitEntries src p v (d.changed p))).acceptCommit p := by
  have hlen : (d.commitEntries src p v (d.changed p)).length = (d.changed p).length + 1 := by simp [Dev.commitEntries]
  have hroom' : (d.captured src p v).jRoom (d.commitEntries src p v (d.changed p)).length = true := by rw [hlen]; exact hroom
  simp only [Dev.captured, Dev.capture, Dev.withCommits] at hroom' ⊢
  simp [Dev.commitReq, hcheck, htouched, hframe, hroom']

theorem firstWaiting_append {p : Nat} {cs : List Commit} {c : Commit} (h : firstWaiting p cs = none) (hp : c.page = p)
    (hc : c.admitted = false) : firstWaiting p (cs ++ [c]) = some c := by
  unfold firstWaiting at h ⊢
  simp [List.find?_append, h, hp, hc]

theorem admitFirst_append {p : Nat} {c : Commit} (hp : c.page = p) (hc : c.admitted = false) :
    ∀ {cs : List Commit}, firstWaiting p cs = none → admitFirst p (cs ++ [c]) = cs ++ [{ c with admitted := true }]
  | [], _ => by simp [admitFirst, hp, hc]
  | x :: xs, h => by
    have hnone := List.find?_eq_none.1 h
    have hx := hnone x List.mem_cons_self
    have hxs : firstWaiting p xs = none := List.find?_eq_none.2 (fun y hy => hnone y (List.mem_cons_of_mem x hy))
    rw [List.cons_append, admitFirst, if_neg hx, admitFirst_append hp hc hxs, List.cons_append]

/-- PG_SEQ is the one register that an acceptance's SEQ changes. -/
theorem Dev.seqSet_form (d : Dev) (p : Nat) :
    ∃ rs, d.seqSet p = d.withRegs rs ∧ ∀ k, k ≠ Reg.pgSeq p → (d.seqSet p).reg k = d.reg k := by
  unfold Dev.seqSet
  split
  · exact ⟨_, rfl, fun k hk => (d.reg_setReg ..).trans (if_neg hk)⟩
  · exact ⟨d.regs, rfl, fun k _ => rfl⟩

/-- The device that counts commit `c` of page `p` as accepted, PG_SEQ left aside. -/
def Dev.accepted (d : Dev) (p : Nat) (c : Commit) : Dev :=
  ((d.withCommits (admitFirst p d.pages.commits)).setReg (Reg.pgCmtstat p) (cmtWord c.word 1 0 0)).setOwner p none

theorem Dev.pageStep_accepted (d : Dev) (p : Nat) (c : Commit) : d.PageStep (d.accepted p c) :=
  ((Dev.pageStep_withCommits ..).trans (Dev.pageStep_setReg ..)).trans (Dev.pageStep_setOwner ..)

/-- The acceptance of a plain request's commit of an immediate page, FLASH left aside. -/
theorem Dev.acceptCommit_of_waiting {d : Dev} {p : Nat} {c : Commit} (hc : firstWaiting p d.pages.commits = some c)
    (hcsn : c.csn = none) (hframe : isFramePage p = false) (hflash : p ≠ 0x11) :
    d.acceptCommit p = (d.accepted p c).seqSet p := by
  simp [Dev.acceptCommit, hc, hcsn, hframe, hflash, Dev.answerCsn, Dev.accepted, Dev.withCommits]

/-- COMMIT of an immediate page that passes every check. -/
theorem pgCommit_accepted {s : State} {src : Src} {p : PageId} {v : Word}
    (hlet : s.dev.letsWrite src (Reg.pgCommit p.val)) (hcheck : s.dev.commitCheck src p.val v = (0, 0))
    (htouched : s.dev.touched p.val = true) (hframe : isFramePage p.val = false) (hflash : p.val ≠ 0x11)
    (hroom : s.dev.jRoom ((s.dev.changed p.val).length + 1) = true)
    (hnone : firstWaiting p.val s.dev.pages.commits = none) :
    Completes (.pgCommit src p v) s (fun d =>
      d.reg (Reg.pgCmtstat p.val) = cmtWord v 1 0 0 ∧
      d.pages.commits = s.dev.pages.commits ++ [{ s.dev.capture src p.val v with admitted := true }] ∧
      d.owner p.val = none ∧ d.touched p.val = false ∧
      (∀ e ∈ s.dev.commitEntries src p.val v (s.dev.changed p.val), e ∈ d.jrn.queue) ∧
      s.dev.keepsRegs d [Reg.pgCmtstat p.val, Reg.pgSeq p.val] ∧
      d = { s.dev with regs := d.regs, pages := d.pages, jrn := d.jrn }) := by
  refine (completes_pgCommit hlet).imp (fun d hd => ?_)
  have hwaits := firstWaiting_append (c := s.dev.capture src p.val v) hnone rfl rfl
  rw [Dev.commitReq_of_passed hcheck htouched hframe hroom, Dev.acceptCommit_of_waiting hwaits rfl hframe hflash] at hd
  obtain ⟨rs, hform, hreg⟩ := Dev.seqSet_form _ p.val
  rw [← hd] at hform hreg
  have hseq : Reg.pgCmtstat p.val ≠ Reg.pgSeq p.val := by unfold Reg.pgCmtstat Reg.pgSeq; omega
  refine ⟨?_, ?_, ?_, ?_, fun e he => ?_, fun k hk => ?_, ?_⟩
  · simp [hreg _ hseq, Dev.accepted, Dev.reg_setReg, Dev.capture]
  · have hadmit := admitFirst_append (p := p.val) (c := s.dev.capture src p.val v) rfl rfl hnone
    simpa [hform, Dev.accepted, Dev.captured] using hadmit
  · simp [hform, Dev.accepted]
  · simp [hform, Dev.accepted, Dev.captured]
  · rw [hform]
    exact Dev.mem_queue_jAdmit _ he
  · simp only [List.mem_cons, List.not_mem_nil, or_false, not_or] at hk
    simp [hreg k hk.2, Dev.accepted, Dev.reg_setReg, hk.1, Dev.captured]
  · have hadmitted := (s.dev.pageStep_captured src p.val v).trans (Dev.pageStep_jAdmit _
      (s.dev.commitEntries src p.val v (s.dev.changed p.val)))
    rw [hform]
    exact ((hadmitted.trans (Dev.pageStep_accepted ..)).trans (Dev.pageStep_withRegs ..)).eq

/-- COMMIT that fails another check than the guard's. -/
theorem pgCommit_refused {s : State} {src : Src} {p : PageId} {v : Word}
    (hlet : s.dev.letsWrite src (Reg.pgCommit p.val)) (h0 : (s.dev.commitCheck src p.val v).1 ≠ 0)
    (h5 : (s.dev.commitCheck src p.val v).1 ≠ 5) :
    Completes (.pgCommit src p v) s (fun d =>
      d.reg (Reg.pgCmtstat p.val) =
        cmtWord v 3 (s.dev.commitCheck src p.val v).2 ((s.dev.commitCheck src p.val v).1 * 4 + 2) ∧
      d.rbit (Reg.pgEvt p.val) 30 = true ∧ d.owner p.val = none ∧ d.shadow = s.dev.shadow ∧
      d.pages.commits = s.dev.pages.commits ∧ s.dev.keepsRegs d [Reg.pgCmtstat p.val, Reg.pgEvt p.val] ∧
      d = { s.dev with regs := d.regs, pages := d.pages, jrn := d.jrn }) := by
  refine (completes_pgCommit hlet).imp (fun d hd => ?_)
  obtain ⟨j, hform, -⟩ :=
    s.dev.refuseCommit_form src p.val v (s.dev.commitCheck src p.val v).1 (s.dev.commitCheck src p.val v).2
  rw [Dev.commitReq_of_failed h0 h5 none, hform] at hd
  subst hd
  refine ⟨?_, ?_, ?_, ?_, ?_, fun k hk => ?_, ?_⟩
  · simp [Dev.reg_cmtShown_same]
  · simp [s.dev.rbit_cmtShown]
  · simp
  · simp [Dev.cmtShown]
  · simp [Dev.cmtShown]
  · simp [s.dev.reg_cmtShown_of_ne _ _ hk]
  · exact (((Dev.pageStep_cmtShown ..).trans (Dev.pageStep_setOwner ..)).trans (Dev.pageStep_withJrn ..)).eq

/-! The first checks, in their order (R45). -/

theorem Dev.commitCheck_of_bad_key {d : Dev} {src : Src} {p : Nat} {v : Word} (hplan : d.planExec = false)
    (hkey : fld v 31 24 ≠ 0xC5) : d.commitCheck src p v = (0x24, 0) := by
  simp [Dev.commitCheck, hplan, hkey]

theorem Dev.commitCheck_of_locked {d : Dev} {src : Src} {p : Nat} {v : Word} (hplan : d.planExec = false)
    (hkey : fld v 31 24 = 0xC5) (hlock : d.rbit (Reg.pgLock p) 0 = true) : d.commitCheck src p v = (7, 0) := by
  simp [Dev.commitCheck, hplan, hkey, hlock]

theorem Dev.commitCheck_of_other_owner {d : Dev} {src : Src} {p : Nat} {v : Word} (hplan : d.planExec = false)
    (hkey : fld v 31 24 = 0xC5) (hlock : d.rbit (Reg.pgLock p) 0 = false) (hguard : d.guardOk p src true = true)
    (hown : d.otherOwns p src = true) : d.commitCheck src p v = (0x26, 0) := by
  simp [Dev.commitCheck, hplan, hkey, hlock, hguard, hown]

/-- Settles O28: a request that passes is captured and accepted, one that fails is refused, and the first checks are taken
in their order. -/
theorem commits : Obligations.Commits := by
  refine ⟨fun s src p v => ?_, fun s src p v => ?_⟩
  · intro d0 ks c hlet hcheck htouched hframe hflash hroom hnone
    exact pgCommit_accepted hlet hcheck htouched hframe hflash hroom hnone
  · intro d0 r hlet
    refine ⟨fun h0 h5 => ?_, Dev.commitCheck_of_bad_key, Dev.commitCheck_of_locked, fun hplan hkey hlock hown => ?_⟩
    · exact pgCommit_refused hlet h0 h5
    · obtain ⟨-, -, -, -, hguard⟩ := hlet
      rw [pgCommit_page] at hguard
      exact Dev.commitCheck_of_other_owner hplan hkey hlock hguard hown

end Sys2Proof.Machine

namespace Sys2Proof.Machine

open Sys2Proof

/-! The application of a commit (R48). -/

theorem Dev.applyVals_cons (e : Nat × Word) (vals : List (Nat × Word)) (d : Dev) :
    Dev.applyVals (e :: vals) d = Dev.applyVals vals (d.setReg e.1 (mergeMask (shMask e.1) e.2 (d.reg e.1))) := rfl

theorem Dev.applyVals_form : ∀ (vals : List (Nat × Word)) (d : Dev), ∃ rs, Dev.applyVals vals d = d.withRegs rs
  | [], d => ⟨d.regs, rfl⟩
  | e :: vals, d => by
    obtain ⟨rs, h⟩ := Dev.applyVals_form vals (d.setReg e.1 (mergeMask (shMask e.1) e.2 (d.reg e.1)))
    exact ⟨rs, by rw [Dev.applyVals_cons, h]; rfl⟩

theorem Dev.reg_applyVals_of_not_mem {k : Nat} : ∀ {vals : List (Nat × Word)} (d : Dev), k ∉ vals.map (fun e => e.1) →
    (Dev.applyVals vals d).reg k = d.reg k
  | [], _, _ => rfl
  | e :: vals, d, h => by
    obtain ⟨he, hvals⟩ := not_or.1 (List.mem_cons.not.1 h)
    rw [Dev.applyVals_cons, Dev.reg_applyVals_of_not_mem _ hvals, Dev.reg_setReg, if_neg he]

/-- Each register of a commit takes its SH bits, where no register is named twice. -/
theorem Dev.reg_applyVals_of_mem {k : Nat} {w : Word} : ∀ {vals : List (Nat × Word)} (d : Dev),
    (vals.map (fun e => e.1)).Nodup → (k, w) ∈ vals → (Dev.applyVals vals d).reg k = mergeMask (shMask k) w (d.reg k)
  | [], _, _, h => absurd h List.not_mem_nil
  | e :: vals, d, hnodup, h => by
    obtain ⟨hfirst, hrest⟩ := List.nodup_cons.1 hnodup
    rw [Dev.applyVals_cons]
    rcases List.mem_cons.1 h with rfl | h
    · rw [Dev.reg_applyVals_of_not_mem _ hfirst, Dev.reg_setReg, if_pos rfl]
    · have hne : k ≠ e.1 := fun hk => hfirst (List.mem_map.2 ⟨(k, w), h, hk⟩)
      rw [Dev.reg_applyVals_of_mem _ hrest h, Dev.reg_setReg, if_neg hne]

theorem Dev.cmtShown_form (d : Dev) (p : Nat) (w : Word) (b : Nat) : ∃ rs, d.cmtShown p w b = d.withRegs rs := ⟨_, rfl⟩

/-- The pages whose commits do more than store their values. -/
def effectPages : List Nat := [2, 3, 4, 10, 13, 0x1B, 0x1C, 0x1D, 0x1E]

theorem Dev.pageEffect_of_plain {p : Nat} (hp : p ∉ effectPages) (before d : Dev) : Dev.pageEffect p before d = d := by
  unfold Dev.pageEffect
  split <;> simp [effectPages] at hp ⊢

/-- A commit without effects of its own: its values, its status, its event bit. -/
theorem Dev.applyCommit_of_plain (d : Dev) {c : Commit} (h : c.stream = true ∨ c.page ∉ effectPages) :
    d.applyCommit c = (Dev.applyVals c.vals (d.withCommits (d.pages.commits.filter (· != c)))).cmtShown c.page
      (cmtWord c.word 2 0 0) 29 := by
  simp only [Dev.applyCommit, Dev.cmtShown, Dev.withCommits]
  split
  · rfl
  · next hs => rw [Dev.pageEffect_of_plain (h.resolve_left hs)]

theorem completes_commitApply {s : State} {p : PageId} {c : Commit} (hlive : s.dev.live = true)
    (hc : s.dev.nextApply p.val = some c) : Completes (.commitApply p) s (· = s.dev.applyCommit c) := by
  refine ⟨_, rfl, ?_⟩
  simp [hc, dueIf, hlive]

/-- While an entry of the commit waits in the queue, nothing is applied (R48). -/
theorem commitApply_of_incomplete {s : State} {p : PageId} (h : s.dev.commitComplete p.val = false) :
    Completes (.commitApply p) s (· = s.dev) := by
  have hnone : s.dev.nextApply p.val = none := by simp [Dev.nextApply, h]
  refine ⟨_, rfl, ?_⟩
  simp [hnone]

/-- COMMIT_APPLY of a commit without effects of its own. -/
theorem commitApply_plain {s : State} {p : PageId} {c : Commit} (hlive : s.dev.live = true)
    (hc : s.dev.nextApply p.val = some c) (hpage : c.page = p.val) (hplain : c.stream = true ∨ p.val ∉ effectPages)
    (hkeys : ∀ e ∈ c.vals, e.1 / 0x1000 = p.val ∧ 0x30 ≤ e.1 % 0x1000) (hnodup : (c.vals.map (fun e => e.1)).Nodup) :
    Completes (.commitApply p) s (fun d =>
      (∀ k w, (k, w) ∈ c.vals → d.reg k = mergeMask (shMask k) w (s.dev.reg k)) ∧
      d.reg (Reg.pgCmtstat p.val) = cmtWord c.word 2 0 0 ∧ d.rbit (Reg.pgEvt p.val) 29 = true ∧
      d.pages.commits = s.dev.pages.commits.filter (· != c) ∧
      s.dev.keepsRegs d (c.vals.map (fun e => e.1) ++ [Reg.pgCmtstat p.val, Reg.pgEvt p.val]) ∧
      d = { s.dev with regs := d.regs, pages := { s.dev.pages with commits := d.pages.commits } }) := by
  refine (completes_commitApply hlive hc).imp (fun d hd => ?_)
  rw [Dev.applyCommit_of_plain _ (hpage ▸ hplain), hpage] at hd
  have hheader : ∀ k w, (k, w) ∈ c.vals → k ∉ [Reg.pgCmtstat p.val, Reg.pgEvt p.val] := fun k w hk => by
    obtain ⟨-, hoff⟩ := hkeys _ hk
    simp only [List.mem_cons, List.not_mem_nil, or_false, not_or, Reg.pgCmtstat, Reg.pgEvt]
    omega
  obtain ⟨rs, hform⟩ := Dev.applyVals_form c.vals (s.dev.withCommits (s.dev.pages.commits.filter (· != c)))
  refine ⟨fun k w hk => ?_, ?_, ?_, ?_, fun k hk => ?_, ?_⟩
  · rw [hd, Dev.reg_cmtShown_of_ne _ _ _ (hheader k w hk), Dev.reg_applyVals_of_mem _ hnodup hk, Dev.reg_withCommits]
  · rw [hd, Dev.reg_cmtShown_same]
  · rw [hd, Dev.rbit_cmtShown _ _ _ (by decide)]
  · rw [hd, hform]
    simp [Dev.cmtShown]
  · obtain ⟨hvals, hhead⟩ := not_or.1 (List.mem_append.not.1 hk)
    rw [hd, Dev.reg_cmtShown_of_ne _ _ _ hhead, Dev.reg_applyVals_of_not_mem _ hvals, Dev.reg_withCommits]
  · obtain ⟨rs', hshown⟩ := Dev.cmtShown_form (Dev.applyVals c.vals (s.dev.withCommits (s.dev.pages.commits.filter (· != c))))
      p.val (cmtWord c.word 2 0 0) 29
    rw [hd, hshown, hform]
    rfl

/-! What has waited too long for the journal (R52, R53, R60). -/

theorem Dev.at_of_le {d : Dev} {n : Nat} (h : n ≤ d.now) : d.at n = d := if_neg (Nat.not_lt.2 h)

theorem Dev.jDropWait_of_only {d : Dev} {w : JWait} (h : d.jrn.waiting = [w]) :
    d.jDropWait w = d.withJrn { d.jrn with waiting := [] } := by
  simp [Dev.jDropWait, Dev.withJrn, h]

@[simp] theorem Dev.jRefuseT_jrn (d : Dev) (n : Nat) : (d.jRefuseT n).jrn = { d.jrn with loss := d.jrn.loss + n } := by rfl

/-- Refused timely entries are counted, and no other register changes. -/
theorem Dev.reg_jRefuseT (d : Dev) (n k : Nat) :
    (d.jRefuseT n).reg k = if k = Reg.jrnl_EREF_T then satAdd (d.reg Reg.jrnl_EREF_T) n else d.reg k := by
  rw [Dev.jRefuseT, Dev.reg_ovlRef]
  exact Dev.reg_setReg ..

/-- The device after the only group that waited has been refused. -/
def Dev.waitRefused (d : Dev) (n : Nat) : Dev := (d.withJrn { d.jrn with waiting := [] }).jRefuseT n

@[simp] theorem Dev.waitRefused_pages (d : Dev) (n : Nat) : (d.waitRefused n).pages = d.pages := by simp [Dev.waitRefused]
@[simp] theorem Dev.waitRefused_shadow (d : Dev) (n : Nat) : (d.waitRefused n).shadow = d.shadow := by
  simp [Dev.waitRefused]
@[simp] theorem Dev.waitRefused_jrn (d : Dev) (n : Nat) :
    (d.waitRefused n).jrn = { d.jrn with waiting := [], loss := d.jrn.loss + n } := by simp [Dev.waitRefused]

theorem Dev.reg_waitRefused_same (d : Dev) (n : Nat) :
    (d.waitRefused n).reg Reg.jrnl_EREF_T = satAdd (d.reg Reg.jrnl_EREF_T) n := by
  simp [Dev.waitRefused, Dev.reg_jRefuseT]

theorem Dev.reg_waitRefused_of_ne (d : Dev) (n : Nat) {k : Nat} (hk : k ≠ Reg.jrnl_EREF_T) :
    (d.waitRefused n).reg k = d.reg k := by
  simp [Dev.waitRefused, Dev.reg_jRefuseT, hk]

theorem Dev.jRefuseT_jDropWait {d : Dev} {w : JWait} (h : d.jrn.waiting = [w]) (n : Nat) :
    (d.jDropWait w).jRefuseT n = d.waitRefused n := by
  rw [Dev.jDropWait_of_only h, Dev.waitRefused]

/-- The only group that waited is refused, and nothing is left to serve. -/
theorem Dev.jServe1_waitRefused {d : Dev} (hlv : ∀ j ∈ d.pages.lv, j.admitted = false) (n : Nat) :
    (d.waitRefused n).jServe1 = d.waitRefused n :=
  Dev.jServe1_of_idle (by simp) (by simpa using hlv)

/-- A waiting commit that is refused JRNLFULL (R52, R60): its values stay to be committed again. -/
theorem Dev.commitLate_form {d : Dev} {w : JWait} {p : Nat} {c : Commit} (honly : d.jrn.waiting = [w])
    (hlv : ∀ j ∈ d.pages.lv, j.admitted = false) (hc : firstWaiting p d.pages.commits = some c) (hcsn : c.csn = none)
    (hvals : c.vals ≠ []) :
    ∃ j j', d.commitLate w p =
      ((((((d.waitRefused w.entries.length).withCommits (d.pages.commits.filter (· != c))).cmtShown p
        (cmtWord c.word 3 0 (0x20 * 4 + 2)) 30).setOwner p none).withJrn j).setTouched p true).withJrn j' := by
  let d2 := (d.waitRefused w.entries.length).withCommits (d.pages.commits.filter (· != c))
  obtain ⟨j, hj, hwaits⟩ := d2.refuseCommit_form c.src p c.word 0x20 0
  have hevents : ∀ x ∈ j.waiting, x.what = .event := fun x hx => (hwaits x hx).resolve_left (by simp [d2])
  have hlate : d.commitLate w p = ((d2.refuseCommit c.src p c.word 0x20 0).1.setTouched p true).jServe1 := by
    simp [Dev.commitLate, hc, hcsn, hvals, Dev.answerCsn, Dev.jRefuseT_jDropWait honly, d2, Dev.withCommits]
  rw [hj] at hlate
  obtain ⟨j', hj'⟩ := Dev.jServe1_form_of_events
    (d := (((d2.cmtShown p (cmtWord c.word 3 0 (0x20 * 4 + 2)) 30).setOwner p none).withJrn j).setTouched p true)
    (by simpa using hevents) (by simpa [d2, Dev.cmtShown] using hlv)
  exact ⟨j, j', hlate.trans hj'⟩

/-- COMMIT_JOURNAL_DEADLINE of the only group that waits. -/
theorem commitJournalDeadline_only {s : State} {w : JWait} {p : PageId} {c : Commit} (honly : s.dev.jrn.waiting = [w])
    (hdue : w.deadline ≤ s.dev.now) (hlv : ∀ j ∈ s.dev.pages.lv, j.admitted = false) (hwhat : w.what = .commit p.val)
    (hc : firstWaiting p.val s.dev.pages.commits = some c) (hcsn : c.csn = none) (hvals : c.vals ≠ []) :
    Completes (.commitJournalDeadline p) s (fun d =>
      d.reg (Reg.pgCmtstat p.val) = cmtWord c.word 3 0 0x82 ∧
      d.pages.commits = s.dev.pages.commits.filter (· != c) ∧ d.touched p.val = true ∧ d.shadow = s.dev.shadow ∧
      d.reg Reg.jrnl_EREF_T = satAdd (s.dev.reg Reg.jrnl_EREF_T) w.entries.length ∧
      s.dev.keepsRegs d [Reg.pgCmtstat p.val, Reg.pgEvt p.val, Reg.jrnl_EREF_T]) := by
  have hrun : Completes (.commitJournalDeadline p) s (· = s.dev.commitLate w p.val) :=
    ⟨_, rfl, by simp [honly, hwhat, Dev.at_of_le hdue]⟩
  refine hrun.imp (fun d hd => ?_)
  obtain ⟨j, j', hform⟩ := Dev.commitLate_form honly hlv hc hcsn hvals
  rw [hform] at hd
  have heref : Reg.jrnl_EREF_T ∉ [Reg.pgCmtstat p.val, Reg.pgEvt p.val] := by
    simp only [List.mem_cons, List.not_mem_nil, or_false, not_or, Reg.pgCmtstat, Reg.pgEvt, Reg.jrnl_EREF_T]
    omega
  refine ⟨?_, ?_, ?_, ?_, ?_, fun k hk => ?_⟩
  · simp [hd, Dev.reg_cmtShown_same]
  · simp [hd, Dev.cmtShown]
  · simp [hd]
  · simp [hd, Dev.cmtShown]
  · simp [hd, Dev.reg_cmtShown_of_ne _ _ _ heref, Dev.reg_waitRefused_same]
  · have hshown : k ∉ [Reg.pgCmtstat p.val, Reg.pgEvt p.val] := fun h => hk (List.mem_append_left [Reg.jrnl_EREF_T] h)
    have hne : k ≠ Reg.jrnl_EREF_T := fun h => hk (by simp [h])
    simp [hd, Dev.reg_cmtShown_of_ne _ _ _ hshown, Dev.reg_waitRefused_of_ne _ _ hne]

/-- A waiting LV write that is refused JRNLFULL (R60): it is gone, and its register keeps its value. -/
theorem Dev.lvLate_of_unadmitted {d : Dev} {w : JWait} {id : Nat} {j : LvJob} (honly : d.jrn.waiting = [w])
    (hlv : ∀ j ∈ d.pages.lv, j.admitted = false) (hj : d.pages.lv.find? (fun x => x.id == id) = some j)
    (hcsn : j.csn = none) : d.lvLate w id = (d.waitRefused 1).withLv (d.pages.lv.filter (fun x => x.id != id)) := by
  have hleft : ∀ x ∈ d.pages.lv.filter (fun x => x.id != id), x.admitted = false :=
    fun x hx => hlv x (List.mem_of_mem_filter hx)
  have hserve : ((d.waitRefused 1).withLv (d.pages.lv.filter (fun x => x.id != id))).jServe1 =
      (d.waitRefused 1).withLv (d.pages.lv.filter (fun x => x.id != id)) :=
    Dev.jServe1_of_idle (by simp) (by simpa using hleft)
  refine Eq.trans ?_ hserve
  simp [Dev.lvLate, hj, hcsn, Dev.answerCsn, Dev.jRefuseT_jDropWait honly, Dev.withLv]

/-- LV_WRITE_TIMEOUT of the only group that waits. -/
theorem lvWriteTimeout_only {s : State} {w : JWait} {id : Nat} {j : LvJob} (honly : s.dev.jrn.waiting = [w])
    (hdue : w.deadline ≤ s.dev.now) (hlv : ∀ j ∈ s.dev.pages.lv, j.admitted = false) (hwhat : w.what = .lvWrite id)
    (hj : s.dev.pages.lv.find? (fun x => x.id == id) = some j) (hcsn : j.csn = none) :
    Completes .lvWriteTimeout s (fun d =>
      d.pages.lv = s.dev.pages.lv.filter (fun x => x.id != id) ∧ d.jrn.waiting = [] ∧
      d.reg Reg.jrnl_EREF_T = satAdd (s.dev.reg Reg.jrnl_EREF_T) 1 ∧ s.dev.keepsRegs d [Reg.jrnl_EREF_T]) := by
  have hrun : Completes .lvWriteTimeout s (· = s.dev.lvLate w id) :=
    ⟨_, rfl, by simp [honly, hwhat, JWait.lvId, Dev.at_of_le hdue]⟩
  refine hrun.imp (fun d hd => ?_)
  rw [Dev.lvLate_of_unadmitted honly hlv hj hcsn] at hd
  refine ⟨?_, ?_, ?_, fun k hk => ?_⟩
  · simp [hd]
  · simp [hd]
  · simp [hd, Dev.reg_waitRefused_same]
  · simp [hd, Dev.reg_waitRefused_of_ne _ _ (List.mem_singleton.not.1 hk)]

/-- JOURNAL_ENTRY_TIMEOUT of the only group that waits. -/
theorem journalEntryTimeout_only {s : State} {w : JWait} (honly : s.dev.jrn.waiting = [w])
    (hdue : w.deadline ≤ s.dev.now) (hlv : ∀ j ∈ s.dev.pages.lv, j.admitted = false) (hwhat : w.what = .event) :
    Completes .journalEntryTimeout s (· = s.dev.waitRefused w.entries.length) := by
  refine ⟨_, rfl, ?_⟩
  simp [honly, hwhat, Dev.at_of_le hdue, Dev.jRefuseT_jDropWait honly, Dev.jServe1_waitRefused hlv]

/-- Settles O29: a commit's application read register by register, and what each of the three deadlines of the journal
leaves. -/
theorem commitsApplied : Obligations.CommitsApplied := by
  refine ⟨fun s p c => ⟨?_, commitApply_of_incomplete⟩, fun s w => ?_⟩
  · intro hlive hc hpage hplain hkeys hnodup
    exact commitApply_plain hlive hc hpage hplain hkeys hnodup
  · intro d0 honly hdue hall
    have hlv : ∀ j ∈ d0.pages.lv, j.admitted = false := by simpa using hall
    refine ⟨fun p c hwhat hc hcsn hvals => ?_, fun id j hwhat hj hcsn => ?_, fun hwhat => ?_⟩
    · exact commitJournalDeadline_only honly hdue hlv hwhat hc hcsn hvals
    · exact lvWriteTimeout_only honly hdue hlv hwhat hj hcsn
    · refine (journalEntryTimeout_only honly hdue hlv hwhat).imp (fun d hd => ?_)
      subst hd
      exact ⟨by simp, by simp [d0], by simp [d0], Dev.reg_waitRefused_same .., fun k hk =>
        Dev.reg_waitRefused_of_ne _ _ (List.mem_singleton.not.1 hk)⟩

end Sys2Proof.Machine

namespace Sys2Proof.Machine

open Sys2Proof

/-! Stored words: a read after a store (R8, R251). -/

theorem Dev.byte_setByte (d : Dev) (a x : Nat) (b : Byte) : (d.setByte a b).byte x = if x = a then b else d.byte x :=
  mapGet_mapPut ..

theorem Dev.byte_congr {d e : Dev} (h : e.mem = d.mem) (a : Nat) : e.byte a = d.byte a := by rw [Dev.byte, Dev.byte, h]

theorem Dev.word_congr {d e : Dev} {a : Nat} (h : ∀ x, a ≤ x → x < a + 4 → e.byte x = d.byte x) : e.word a = d.word a := by
  rw [Dev.word, Dev.word, h a (by omega) (by omega), h (a + 1) (by omega) (by omega), h (a + 2) (by omega) (by omega),
    h (a + 3) (by omega) (by omega)]

theorem bytesWord_extract (w : Word) : bytesWord (w.extractLsb' 0 8) (w.extractLsb' 8 8) (w.extractLsb' 16 8)
    (w.extractLsb' 24 8) = w := by
  unfold bytesWord
  rw [BitVec.extractLsb'_append_extractLsb'_eq_extractLsb' (by decide),
    BitVec.extractLsb'_append_extractLsb'_eq_extractLsb' (by decide),
    BitVec.extractLsb'_append_extractLsb'_eq_extractLsb' (by decide)]
  exact BitVec.extractLsb'_eq_self

theorem Dev.byte_putWord (d : Dev) (a x : Nat) (w : Word) : (d.putWord a w).byte x =
    if x = a + 3 then w.extractLsb' 24 8 else if x = a + 2 then w.extractLsb' 16 8
    else if x = a + 1 then w.extractLsb' 8 8 else if x = a then w.extractLsb' 0 8 else d.byte x := by
  change (d.setWordData a w).byte x = _
  rw [Dev.setWordData, Dev.byte_setByte, Dev.byte_setByte, Dev.byte_setByte, Dev.byte_setByte]

theorem Dev.byte_putWord_of_outside (d : Dev) {a x : Nat} (w : Word) (hx : x < a ∨ a + 4 ≤ x) :
    (d.putWord a w).byte x = d.byte x := by
  rw [Dev.byte_putWord, if_neg (by omega), if_neg (by omega), if_neg (by omega), if_neg (by omega)]

theorem Dev.word_putWord_same (d : Dev) (a : Nat) (w : Word) : (d.putWord a w).word a = w := by
  simp [Dev.word, Dev.byte_putWord, bytesWord_extract]

theorem Dev.byte_putWords_of_outside {x : Nat} : ∀ {ws : List Word} {a : Nat} (d : Dev), x < a ∨ a + 4 * ws.length ≤ x →
    (Dev.putWords ws a d).byte x = d.byte x
  | [], _, _, _ => rfl
  | w :: ws, a, d, hx => by
    rw [List.length_cons] at hx
    rw [Dev.putWords, Dev.byte_putWords_of_outside _ (by omega), Dev.byte_putWord_of_outside _ _ (by omega)]

theorem Dev.word_putWords_head (w : Word) (ws : List Word) (a : Nat) (d : Dev) :
    (Dev.putWords (w :: ws) a d).word a = w := by
  have hbyte : ∀ x, a ≤ x → x < a + 4 → (Dev.putWords (w :: ws) a d).byte x = (d.putWord a w).byte x := fun x _ hx => by
    rw [Dev.putWords, Dev.byte_putWords_of_outside _ (.inl hx)]
  rw [Dev.word_congr hbyte, Dev.word_putWord_same]

/-- Word `i` of those stored from `a` on lies at `a` + 4 × `i`. -/
theorem Dev.word_putWords {ws : List Word} {i : Nat} (hi : i < ws.length) (a : Nat) (d : Dev) :
    (Dev.putWords ws a d).word (a + 4 * i) = listGet 0 ws i := by
  induction ws generalizing a i d with
  | nil => exact absurd hi (Nat.not_lt_zero i)
  | cons w ws ih =>
    cases i with
    | zero =>
      rw [Nat.mul_zero, Nat.add_zero, Dev.word_putWords_head, listGet]
    | succ i =>
      have ha : a + 4 * (i + 1) = a + 4 + 4 * i := by ring
      rw [Dev.putWords, ha, ih (Nat.lt_of_succ_lt_succ hi), listGet]

/-! Stores of words leave the registers, the pages and the journal. -/

@[simp] theorem Dev.putWords_regs (ws : List Word) (a : Nat) (d : Dev) : (Dev.putWords ws a d).regs = d.regs := by
  induction ws generalizing a d with
  | nil => rfl
  | cons w ws ih => rw [Dev.putWords, ih, Dev.putWord_regs]

@[simp] theorem Dev.putWords_pages (ws : List Word) (a : Nat) (d : Dev) : (Dev.putWords ws a d).pages = d.pages := by
  induction ws generalizing a d with
  | nil => rfl
  | cons w ws ih => rw [Dev.putWords, ih, Dev.putWord_pages]

@[simp] theorem Dev.putWords_jrn (ws : List Word) (a : Nat) (d : Dev) : (Dev.putWords ws a d).jrn = d.jrn := by
  induction ws generalizing a d with
  | nil => rfl
  | cons w ws ih => rw [Dev.putWords, ih, Dev.putWord_jrn]

@[simp] theorem Dev.reg_putWords (ws : List Word) (a : Nat) (d : Dev) (k : Nat) : (Dev.putWords ws a d).reg k = d.reg k := by
  rw [Dev.reg, Dev.reg, Dev.putWords_regs]

/-! One entry into the ring (R59, R61, R63). -/

theorem Dev.reg_setPointers (d : Dev) (head slot count mir : Word) (k : Nat) : (d.setPointers head slot count mir).reg k =
    if k = Reg.jrnl_MIRHEAD then mir else if k = Reg.jrnl_COUNT then count else if k = Reg.jrnl_HEADSLOT then slot
    else if k = Reg.jrnl_HEAD then head else d.reg k := by
  have hregs : (d.setPointers head slot count mir).reg k =
    ((((d.setReg Reg.jrnl_HEAD head).setReg Reg.jrnl_HEADSLOT slot).setReg Reg.jrnl_COUNT count).setReg Reg.jrnl_MIRHEAD
      mir).reg k := by rfl
  rw [hregs, Dev.reg_setReg, Dev.reg_setReg, Dev.reg_setReg, Dev.reg_setReg]

/-- The slot of the next entry. -/
def Dev.nextSlot (d : Dev) : Nat := (d.rfld Reg.jrnl_HEADSLOT 8 0 + 1) % 384

/-- The next entry overwrites one that is not mirrored. -/
def Dev.overwrites (d : Dev) : Bool :=
  decide (384 ≤ (d.reg Reg.jrnl_COUNT).toNat) && decide (384 ≤ (d.reg Reg.jrnl_HEAD - d.reg Reg.jrnl_MIRHEAD).toNat)

/-- The ring with one more entry, PG_SEQ left aside. -/
def Dev.ringStored (d : Dev) (e : JEntry) : Dev :=
  let d1 := Dev.putWords (e.words (d.reg Reg.jrnl_HEAD + 1)) (slotAddr d.nextSlot) d
  (if d.overwrites then d1.count Reg.jrnl_UNMIR 1 else d1).setPointers (d.reg Reg.jrnl_HEAD + 1) (toWord d.nextSlot)
    (toWord (min 384 ((d.reg Reg.jrnl_COUNT).toNat + 1))) (d.reg Reg.jrnl_MIRHEAD)

theorem Dev.jStore_cases (d : Dev) (e : JEntry) :
    d.jStore e = d.ringStored e ∨ d.jStore e = (d.ringStored e).setReg (Reg.pgSeq e.page.toNat) (d.reg Reg.jrnl_HEAD + 1) := by
  by_cases h : e.kind = 1 ∧ (headPlace e.page.toNat (d.ringStored e).jrn.queue 0 none).isNone
  · exact .inr (if_pos h)
  · exact .inl (if_neg h)

@[simp] theorem Dev.jStore_mem (d : Dev) (e : JEntry) :
    (d.jStore e).mem = (Dev.putWords (e.words (d.reg Reg.jrnl_HEAD + 1)) (slotAddr d.nextSlot) d).mem := by
  have h : (d.ringStored e).mem = (Dev.putWords (e.words (d.reg Reg.jrnl_HEAD + 1)) (slotAddr d.nextSlot) d).mem := by
    rw [Dev.ringStored]; split <;> simp
  rcases d.jStore_cases e with hd | hd <;> simp [hd, h]

@[simp] theorem Dev.jStore_jrn (d : Dev) (e : JEntry) : (d.jStore e).jrn = d.jrn := by
  have h : (d.ringStored e).jrn = d.jrn := by rw [Dev.ringStored]; split <;> simp
  rcases d.jStore_cases e with hd | hd <;> simp [hd, h]

@[simp] theorem Dev.jStore_pages (d : Dev) (e : JEntry) : (d.jStore e).pages = d.pages := by
  have h : (d.ringStored e).pages = d.pages := by rw [Dev.ringStored]; split <;> simp
  rcases d.jStore_cases e with hd | hd <;> simp [hd, h]

@[simp] theorem Dev.setPointers_jdup (d : Dev) (head slot count mir : Word) :
    (d.setPointers head slot count mir).jdup = ⟨head, slot, count, mir⟩ := by rfl

theorem Dev.jStore_jdup (d : Dev) (e : JEntry) : (d.jStore e).jdup =
    ⟨d.reg Reg.jrnl_HEAD + 1, toWord d.nextSlot, toWord (min 384 ((d.reg Reg.jrnl_COUNT).toNat + 1)),
      d.reg Reg.jrnl_MIRHEAD⟩ := by
  rcases d.jStore_cases e with hd | hd <;> simp [hd, Dev.ringStored]

/-- No register of a page's header changes a register behind it. -/
theorem Dev.reg_jStore (d : Dev) (e : JEntry) {k : Nat} (hk : 0x30 ≤ k % 0x1000) :
    (d.jStore e).reg k = (d.ringStored e).reg k := by
  have hne : k ≠ Reg.pgSeq e.page.toNat := by unfold Reg.pgSeq; omega
  rcases d.jStore_cases e with hd | hd
  · rw [hd]
  · rw [hd, Dev.reg_setReg, if_neg hne]

theorem Dev.reg_ringStored (d : Dev) (e : JEntry) (k : Nat) : (d.ringStored e).reg k =
    if k = Reg.jrnl_MIRHEAD then d.reg Reg.jrnl_MIRHEAD
    else if k = Reg.jrnl_COUNT then toWord (min 384 ((d.reg Reg.jrnl_COUNT).toNat + 1))
    else if k = Reg.jrnl_HEADSLOT then toWord d.nextSlot
    else if k = Reg.jrnl_HEAD then d.reg Reg.jrnl_HEAD + 1
    else if k = Reg.jrnl_UNMIR ∧ d.overwrites = true then satAdd (d.reg Reg.jrnl_UNMIR) 1 else d.reg k := by
  have hunmir : (if d.overwrites = true then (Dev.putWords (e.words (d.reg Reg.jrnl_HEAD + 1)) (slotAddr d.nextSlot) d).count
      Reg.jrnl_UNMIR 1 else Dev.putWords (e.words (d.reg Reg.jrnl_HEAD + 1)) (slotAddr d.nextSlot) d).reg k =
      if k = Reg.jrnl_UNMIR ∧ d.overwrites = true then satAdd (d.reg Reg.jrnl_UNMIR) 1 else d.reg k := by
    by_cases h : d.overwrites = true <;> simp [h, Dev.count, Dev.reg_setReg]
  rw [Dev.ringStored, Dev.reg_setPointers, hunmir]

theorem Dev.reg_ringStored_unmir (d : Dev) (e : JEntry) : (d.ringStored e).reg Reg.jrnl_UNMIR =
    if d.overwrites = true then satAdd (d.reg Reg.jrnl_UNMIR) 1 else d.reg Reg.jrnl_UNMIR := by
  rw [Dev.reg_ringStored, if_neg (by decide), if_neg (by decide), if_neg (by decide), if_neg (by decide)]
  simp

theorem Dev.overwrites_iff {d : Dev} : d.overwrites = true ↔ 384 ≤ (d.reg Reg.jrnl_COUNT).toNat ∧
    384 ≤ (d.reg Reg.jrnl_HEAD - d.reg Reg.jrnl_MIRHEAD).toNat := by
  simp [Dev.overwrites]

theorem JEntry.words_length (e : JEntry) (seq : Word) : (e.words seq).length = 8 := rfl

theorem slotAddr_nextSlot (d : Dev) : slotAddr d.nextSlot = 0x30000000 + 32 * d.nextSlot := by
  have hlt : d.nextSlot < 384 := Nat.mod_lt _ (by decide)
  rw [slotAddr, Nat.mod_eq_of_lt hlt]

/-- The eight words of the entry lie at its slot (R59, R63). -/
theorem Dev.word_jStore (d : Dev) (e : JEntry) (i : Fin 8) :
    (d.jStore e).word (0x30000000 + 32 * d.nextSlot + 4 * i.val) =
      listGet 0 (e.words (d.reg Reg.jrnl_HEAD + 1)) i.val := by
  rw [← slotAddr_nextSlot, Dev.word_congr (fun x _ _ => Dev.byte_congr (d.jStore_mem e) x)]
  exact Dev.word_putWords i.isLt _ d

/-- Every byte outside the slot is as it was. -/
theorem Dev.byte_jStore_of_outside (d : Dev) (e : JEntry) {a : Nat}
    (ha : a < 0x30000000 + 32 * d.nextSlot ∨ 0x30000000 + 32 * d.nextSlot + 32 ≤ a) : (d.jStore e).byte a = d.byte a := by
  rw [← slotAddr_nextSlot] at ha
  rw [Dev.byte_congr (d.jStore_mem e), Dev.byte_putWords_of_outside]
  rwa [JEntry.words_length]

/-- JOURNAL_ENTRY_WRITE of the front entry, 4 HCLK after the last and with nothing that waits for its place. -/
theorem journalEntryWrite_front {s : State} {e : JEntry} {rest : List JEntry} (hlive : s.dev.live = true)
    (hqueue : s.dev.jrn.queue = e :: rest) (hwait : s.dev.jrn.waiting = []) (hdue : s.dev.jrn.wroteAt + 4 ≤ s.dev.now)
    (hlv : s.dev.pages.lv = []) :
    Completes .journalEntryWrite s
      (· = (s.dev.withJrn { s.dev.jrn with queue := rest, wroteAt := s.dev.now }).jStore e) := by
  have hserve : ((s.dev.withJrn { s.dev.jrn with queue := rest, wroteAt := s.dev.now }).jStore e).jServe1 =
      (s.dev.withJrn { s.dev.jrn with queue := rest, wroteAt := s.dev.now }).jStore e :=
    Dev.jServe1_of_idle (by simp [hwait]) (by simp [hlv])
  have hwrite : s.dev.jWriteOne = (s.dev.withJrn { s.dev.jrn with queue := rest, wroteAt := s.dev.now }).jStore e := by
    rw [Dev.jWriteOne, hqueue]
    rfl
  refine ⟨_, rfl, ?_⟩
  simp [dueIf, hlive, hqueue, Dev.at_of_le hdue, hwrite, hserve]

/-! The read latch (R59, R69). -/

theorem listGet_eq_getElem {α : Type} (x : α) : ∀ {xs : List α} {i : Nat} (hi : i < xs.length), listGet x xs i = xs[i]
  | _ :: _, 0, _ => rfl
  | _ :: xs, _ + 1, hi => listGet_eq_getElem (xs := xs) x (Nat.lt_of_succ_lt_succ hi)

theorem listGet_map_range {α : Type} (x : α) (f : Nat → α) {n i : Nat} (hi : i < n) :
    listGet x ((List.range n).map f) i = f i := by
  rw [listGet_eq_getElem x (by simpa using hi)]
  simp

/-- Register `i` of the read window takes word `i` of `ws`. -/
def Dev.winPut (ws : List Word) (i : Nat) (d : Dev) : Dev := d.setReg (Reg.jrnl_RDWIN i) (listGet 0 ws i)

theorem jrnl_RDWIN_injective : Function.Injective Reg.jrnl_RDWIN := fun i j h => by unfold Reg.jrnl_RDWIN at h; omega

theorem Dev.reg_each_winPut_of_ne (ws : List Word) {k : Nat} : ∀ {is : List Nat} (d : Dev),
    (∀ i, k ≠ Reg.jrnl_RDWIN i) → (Dev.each (Dev.winPut ws) is d).reg k = d.reg k
  | [], _, _ => rfl
  | i :: _, d, h => by
    rw [Dev.each, Dev.reg_each_winPut_of_ne ws _ h, Dev.winPut, Dev.reg_setReg, if_neg (h i)]

theorem Dev.reg_each_winPut (ws : List Word) (j : Nat) : ∀ (is : List Nat) (d : Dev),
    (Dev.each (Dev.winPut ws) is d).reg (Reg.jrnl_RDWIN j) = if j ∈ is then listGet 0 ws j else d.reg (Reg.jrnl_RDWIN j)
  | [], _ => rfl
  | i :: is, d => by
    rw [Dev.each, Dev.reg_each_winPut ws j is, Dev.winPut, Dev.reg_setReg]
    by_cases hj : j = i
    · simp [hj]
    · simp [hj, jrnl_RDWIN_injective.ne hj]

theorem Dev.each_winPut_mem (ws : List Word) : ∀ (is : List Nat) (d : Dev), (Dev.each (Dev.winPut ws) is d).mem = d.mem
  | [], _ => rfl
  | _ :: is, d => by rw [Dev.each, Dev.each_winPut_mem ws is, Dev.winPut, Dev.setReg_mem]

/-- The window shows `ws`, and RDSTAT shows `st`. -/
def Dev.latched (d : Dev) (ws : List Word) (st : Word) : Dev :=
  (Dev.each (Dev.winPut ws) (List.range 8) d).setReg Reg.jrnl_RDSTAT st

theorem jrnl_RDWIN_ne_of_lt {k : Nat} (h : k < 0x1100) (i : Nat) : k ≠ Reg.jrnl_RDWIN i := by
  unfold Reg.jrnl_RDWIN; omega

theorem Dev.reg_latched_window (d : Dev) (ws : List Word) (st : Word) (i : Fin 8) :
    (d.latched ws st).reg (Reg.jrnl_RDWIN i.val) = listGet 0 ws i.val := by
  rw [Dev.latched, Dev.reg_setReg, if_neg (jrnl_RDWIN_ne_of_lt (by decide) i.val).symm, Dev.reg_each_winPut,
    if_pos (List.mem_range.2 i.isLt)]

theorem Dev.reg_latched_status (d : Dev) (ws : List Word) (st : Word) : (d.latched ws st).reg Reg.jrnl_RDSTAT = st :=
  (Dev.reg_setReg ..).trans (if_pos rfl)

theorem Dev.reg_latched_head (d : Dev) (ws : List Word) (st : Word) :
    (d.latched ws st).reg Reg.jrnl_HEAD = d.reg Reg.jrnl_HEAD := by
  rw [Dev.latched, Dev.reg_setReg, if_neg (by decide), Dev.reg_each_winPut_of_ne _ _ (jrnl_RDWIN_ne_of_lt (by decide))]

theorem Dev.latched_mem (d : Dev) (ws : List Word) (st : Word) : (d.latched ws st).mem = d.mem := by
  rw [Dev.latched, Dev.setReg_mem, Dev.each_winPut_mem]

/-- A record whose words all check reads as it is stored. -/
theorem Dev.readRecord_of_ok {d : Dev} {a : Nat} (h : ∀ i : Fin 8, d.checkAt (a + 4 * i.val) = .ok) :
    d.readRecord a = (d.words a 8, false) := by
  have hread : ∀ i ∈ List.range 8, d.readWord (a + 4 * i) = (d.word (a + 4 * i), false) := fun i hi => by
    rw [Dev.readWord, h ⟨i, List.mem_range.1 hi⟩]
  have hmap : (List.range 8).map (fun i => d.readWord (a + 4 * i)) =
      (List.range 8).map (fun i => (d.word (a + 4 * i), false)) := List.map_congr_left hread
  simp [Dev.readRecord, hmap, Dev.words, Function.comp_def]

/-- The words that a write of RDSEL leaves in the window: those of the entry, or of an entry that is gone the earlier ones. -/
def Dev.latchWords (d : Dev) (seq : Word) : List Word :=
  if !d.holdsEntry seq then (List.range 8).map (fun i => d.reg (Reg.jrnl_RDWIN i))
  else (d.readRecord (slotAddr (d.slotOf seq))).1

/-- The CRC that RDSTAT shows. -/
def Dev.latchCrc (d : Dev) (seq : Word) : Bool :=
  crcHolds (d.latchWords seq) && (!d.holdsEntry seq || !(d.readRecord (slotAddr (d.slotOf seq))).2)

theorem Dev.jLatch_eq (d : Dev) (seq : Word) : d.jLatch seq = d.latched (d.latchWords seq)
    (toWord (boolNat (listGet 0 (d.latchWords seq) 0 == seq) + 2 * boolNat (d.latchCrc seq) +
      4 * boolNat (!d.holdsEntry seq))) := rfl

/-- Of an entry that the ring holds, with every word in order, the window shows the words and RDSTAT what they are. -/
theorem Dev.jLatch_of_held {d : Dev} {seq : Word} (hheld : d.holdsEntry seq = true)
    (hok : ∀ i : Fin 8, d.checkAt (slotAddr (d.slotOf seq) + 4 * i.val) = .ok) :
    d.jLatch seq = d.latched (d.words (slotAddr (d.slotOf seq)) 8)
      (toWord (boolNat (d.word (slotAddr (d.slotOf seq)) == seq) +
        2 * boolNat (crcHolds (d.words (slotAddr (d.slotOf seq)) 8)))) := by
  have hwords : d.latchWords seq = d.words (slotAddr (d.slotOf seq)) 8 := by
    simp [Dev.latchWords, hheld, Dev.readRecord_of_ok hok]
  have hcrc : d.latchCrc seq = crcHolds (d.words (slotAddr (d.slotOf seq)) 8) := by
    simp [Dev.latchCrc, hwords, Dev.readRecord_of_ok hok]
  have hfirst : listGet 0 (d.words (slotAddr (d.slotOf seq)) 8) 0 = d.word (slotAddr (d.slotOf seq)) :=
    listGet_map_range 0 (fun i => d.word (slotAddr (d.slotOf seq) + 4 * i)) (by decide)
  rw [Dev.jLatch_eq, hwords, hcrc, hfirst, hheld]
  rfl

/-- Of an entry that is gone the window keeps its words. -/
theorem Dev.jLatch_of_gone {d : Dev} {seq : Word} (hgone : d.holdsEntry seq = false) :
    d.jLatch seq = d.latched ((List.range 8).map (fun i => d.reg (Reg.jrnl_RDWIN i)))
      (toWord (boolNat (listGet 0 (d.latchWords seq) 0 == seq) + 2 * boolNat (d.latchCrc seq) + 4)) := by
  have hwords : d.latchWords seq = (List.range 8).map (fun i => d.reg (Reg.jrnl_RDWIN i)) := by
    simp [Dev.latchWords, hgone]
  rw [Dev.jLatch_eq, hwords, hgone]
  rfl

theorem bitOf_gone (a b : Bool) : bitOf (toWord (boolNat a + 2 * boolNat b + 4)) 2 = true := by
  revert a b; decide

/-! A write of RDSEL (R53, R69): an LV write that acts in the HCLK of its admission. -/

theorem jrnl_RDSEL_field : FieldReg Reg.jrnl_RDSEL := ⟨by decide, by decide, by decide, by decide⟩
theorem shMask_jrnl_RDSEL : shMask Reg.jrnl_RDSEL = 0 := by decide
theorem w1cMask_jrnl_RDSEL : w1cMask Reg.jrnl_RDSEL = 0 := by decide
theorem lvMask_jrnl_RDSEL : lvMask Reg.jrnl_RDSEL = 0xFFFFFFFF := by decide

theorem mergeMask_full (v w : Word) : mergeMask 0xFFFFFFFF v w = v := by
  have hall : toWord 0xFFFFFFFF = BitVec.allOnes 32 := by decide
  rw [mergeMask, hall, BitVec.and_allOnes, BitVec.not_allOnes, BitVec.and_zero, BitVec.or_zero]

/-- The write that is admitted as the only LV write. -/
def Dev.lvOnly (d : Dev) (src : Src) (k : Nat) (v : Word) : Dev :=
  { d with pages := { d.pages with lv := [d.lvJob src k v], lvNext := d.pages.lvNext + 1 } }

theorem Dev.lvQueue_of_room {d : Dev} (src : Src) {k : Nat} (v : Word) (hclr : k ≠ Reg.release_CLR)
    (hroom : d.jRoom 1 = true) (hlv : d.pages.lv = []) :
    (d.lvQueue src k v (d.reg k) none).1 = (d.lvOnly src k v).jAdmit [d.lvEntry src k v] := by
  simp only [Dev.lvQueue, Dev.lvValue, hclr, hroom, hlv, if_true, if_false, List.nil_append]
  rfl

/-- The only LV write, where it acts at once, leaves the list and takes effect. -/
theorem Dev.lvAtOnceRun_of_only {d : Dev} {j : LvJob} (h : d.pages.lv = [j]) (hadm : j.admitted = true)
    (honce : lvAtOnce j.key = true) : d.lvAtOnceRun = (d.withLv []).lvEffect j := by
  simp [Dev.lvAtOnceRun, h, Dev.each, hadm, honce, Dev.lvRun, Dev.withLv]

theorem Dev.lvEffect_of_rdsel (d : Dev) {j : LvJob} (hkey : j.key = Reg.jrnl_RDSEL) :
    d.lvEffect j = (d.setReg Reg.jrnl_RDSEL (mergeMask (lvMask Reg.jrnl_RDSEL) j.val (d.reg Reg.jrnl_RDSEL))).jLatch j.val := by
  have hclr : Reg.jrnl_RDSEL ≠ Reg.release_CLR := by decide
  simp [Dev.lvEffect, hkey, hclr]

/-- The device after an admitted write of RDSEL, before the latch. -/
def Dev.rdselWritten (d : Dev) (src : Src) (seq : Word) : Dev :=
  (((d.lvOnly src Reg.jrnl_RDSEL seq).jAdmit [d.lvEntry src Reg.jrnl_RDSEL seq]).withLv []).setReg Reg.jrnl_RDSEL seq

theorem Dev.rdselWritten_mem (d : Dev) (src : Src) (seq : Word) : (d.rdselWritten src seq).mem = d.mem := by rfl
theorem Dev.rdselWritten_codes (d : Dev) (src : Src) (seq : Word) : (d.rdselWritten src seq).codes = d.codes := by rfl

theorem Dev.reg_rdselWritten (d : Dev) (src : Src) (seq : Word) {k : Nat} (hk : k ≠ Reg.jrnl_RDSEL) :
    (d.rdselWritten src seq).reg k = d.reg k :=
  (Dev.reg_setReg ..).trans (if_neg hk)

/-- A write of RDSEL that finds its place in the journal latches the entry it names. -/
theorem completes_jrnlRdsel {s : State} {src : Src} {seq : Word} (hlet : s.dev.letsWrite src Reg.jrnl_RDSEL)
    (hlock : s.dev.rbit (Reg.pgLock 1) 0 = false) (hroom : s.dev.jRoom 1 = true) (hlv : s.dev.pages.lv = []) :
    Completes (.jrnlRdsel src seq) s (· = (s.dev.rdselWritten src seq).jLatch seq) := by
  let job := s.dev.lvJob src Reg.jrnl_RDSEL seq
  let d1 := (s.dev.lvOnly src Reg.jrnl_RDSEL seq).jAdmit [s.dev.lvEntry src Reg.jrnl_RDSEL seq]
  have hval : job.val = seq := by
    simp only [job, Dev.lvJob, lvMask_jrnl_RDSEL, mergeMask_full]
  have hwrite : (s.dev.lvWrite src Reg.jrnl_RDSEL seq none).1 = d1 := by
    have hpage : Reg.jrnl_RDSEL / 0x1000 = 1 := by decide
    have hclr : Reg.jrnl_RDSEL ≠ Reg.release_CLR := by decide
    simp [Dev.lvWrite, hpage, hlock, Dev.lvQueue_of_room src seq hclr hroom hlv, d1]
  have hrun : d1.lvAtOnceRun = (s.dev.rdselWritten src seq).jLatch seq := by
    rw [Dev.lvAtOnceRun_of_only (j := job) rfl rfl rfl, Dev.lvEffect_of_rdsel _ rfl, hval, lvMask_jrnl_RDSEL, mergeMask_full,
      Dev.rdselWritten]
  have hfield : (s.dev.fieldWrite src Reg.jrnl_RDSEL seq none).1 = (s.dev.rdselWritten src seq).jLatch seq := by
    rw [← hrun, ← hwrite]
    simp [Dev.fieldWrite, Dev.lvPart, shMask_jrnl_RDSEL, w1cMask_jrnl_RDSEL, lvMask_jrnl_RDSEL]
  refine ⟨_, rfl, ?_⟩
  simp only [dueIf, hlet.1, if_true]
  rw [Dev.plainWrite_eq_fieldWrite seq hlet jrnl_RDSEL_field, hfield]

/-! What the latch reads is what was there before the write of RDSEL. -/

theorem Dev.holdsEntry_congr {d e : Dev} (h : ∀ k ≠ Reg.jrnl_RDSEL, e.reg k = d.reg k) (seq : Word) :
    e.holdsEntry seq = d.holdsEntry seq := by
  rw [Dev.holdsEntry, Dev.holdsEntry, h _ (by decide), h _ (by decide)]

theorem Dev.slotOf_congr {d e : Dev} (h : ∀ k ≠ Reg.jrnl_RDSEL, e.reg k = d.reg k) (seq : Word) :
    e.slotOf seq = d.slotOf seq := by
  rw [Dev.slotOf, Dev.slotOf, Dev.rfld, Dev.rfld, h _ (by decide), h _ (by decide)]

theorem Dev.word_congr_mem {d e : Dev} (h : e.mem = d.mem) (a : Nat) : e.word a = d.word a :=
  Dev.word_congr (fun x _ _ => Dev.byte_congr h x)

theorem Dev.words_congr_mem {d e : Dev} (h : e.mem = d.mem) (a n : Nat) : e.words a n = d.words a n :=
  List.map_congr_left (fun _ _ => Dev.word_congr_mem h _)

theorem Dev.checkAt_congr {d e : Dev} (hmem : e.mem = d.mem) (hcodes : e.codes = d.codes) (a : Nat) :
    e.checkAt a = d.checkAt a := by
  rw [Dev.checkAt, Dev.checkAt, Dev.word_congr_mem hmem, Dev.code, Dev.code, hcodes]

theorem slotAddr_slotOf (d : Dev) (seq : Word) : slotAddr (d.slotOf seq) = 0x30000000 + 32 * d.slotOf seq := by
  have hlt : d.slotOf seq < 384 := Nat.mod_lt _ (by decide)
  rw [slotAddr, Nat.mod_eq_of_lt hlt]

/-- Settles O32: the ring's entry read register by register and word by word, and the two cases of the read latch. -/
theorem journalRing : Obligations.JournalRing := by
  refine ⟨fun s e rest => ?_, fun s src seq => ?_⟩
  · intro d0 head slot cnt mir hlive hqueue hwait hdue hlv
    refine (journalEntryWrite_front hlive hqueue hwait hdue hlv).imp (fun d hd => ?_)
    let d1 := d0.withJrn { d0.jrn with queue := rest, wroteAt := d0.now }
    have hreg : ∀ k, 0x30 ≤ k % 0x1000 → d.reg k = (d1.ringStored e).reg k := fun k hk => by
      rw [hd, Dev.reg_jStore _ _ hk]
    refine ⟨?_, ?_, ?_, ?_, ?_, ?_, fun hfull hold => ?_, fun hfree => ?_, fun i => ?_, fun a ha => ?_⟩
    · rw [hreg _ (by decide), Dev.reg_ringStored]
      rfl
    · rw [hreg _ (by decide), Dev.reg_ringStored]
      rfl
    · rw [hreg _ (by decide), Dev.reg_ringStored]
      rfl
    · simp [hd]
    · simp [hd, d0]
    · rw [hd, Dev.jStore_jdup]
      rfl
    · have hover : d1.overwrites = true := Dev.overwrites_iff.2 ⟨hfull, hold⟩
      rw [hreg _ (by decide), Dev.reg_ringStored_unmir, if_pos hover]
      rfl
    · have hkept : ¬ d1.overwrites = true := fun h => Nat.not_lt.2 (Dev.overwrites_iff.1 h).1 hfree
      rw [hreg _ (by decide), Dev.reg_ringStored_unmir, if_neg hkept]
      rfl
    · rw [hd]
      exact Dev.word_jStore ..
    · rw [hd]
      exact Dev.byte_jStore_of_outside _ _ ha
  · intro d0 a hlet hlock hroom hlv
    have hrun := completes_jrnlRdsel (seq := seq) hlet hlock hroom hlv
    let d1 := d0.rdselWritten src seq
    have hreg : ∀ k ≠ Reg.jrnl_RDSEL, d1.reg k = d0.reg k := fun k hk => d0.reg_rdselWritten src seq hk
    have hmem : d1.mem = d0.mem := d0.rdselWritten_mem src seq
    have haddr : slotAddr (d1.slotOf seq) = a := by rw [Dev.slotOf_congr hreg, slotAddr_slotOf]
    refine ⟨fun hheld hok => hrun.imp (fun d hd => ?_), fun hgone => hrun.imp (fun d hd => ?_)⟩
    · rw [Dev.jLatch_of_held (by rwa [Dev.holdsEntry_congr hreg]) (fun i => by
        rw [haddr, Dev.checkAt_congr hmem (d0.rdselWritten_codes src seq)]; exact hok i),
        haddr, Dev.words_congr_mem hmem, Dev.word_congr_mem hmem] at hd
      refine ⟨fun i => ?_, ?_, ?_, ?_⟩
      · rw [hd, Dev.reg_latched_window, Dev.words, listGet_map_range _ _ i.isLt]
      · rw [hd, Dev.reg_latched_status]
      · rw [hd, Dev.latched_mem, hmem]
      · rw [hd, Dev.reg_latched_head, hreg _ (by decide)]
    · rw [Dev.jLatch_of_gone (by rwa [Dev.holdsEntry_congr hreg])] at hd
      refine ⟨?_, fun i => ?_, ?_⟩
      · rw [hd, Dev.rbit, Dev.reg_latched_status, bitOf_gone]
      · rw [hd, Dev.reg_latched_window, listGet_map_range _ _ i.isLt,
          hreg _ (jrnl_RDWIN_ne_of_lt (by decide) i.val).symm]
      · rw [hd, Dev.latched_mem, hmem]

end Sys2Proof.Machine

namespace Sys2Proof.Machine

open Sys2Proof

/-! The OTP load (R354, R444) leaves the reserved bits of the PUFF registers 0 (R14), whatever the OTP words hold there. -/

/-- A hub in boot step 1 whose OTP word for PUFF.CFG has the reserved bit 12 set, stored with its code. -/
def otpReservedDev : Dev := { Dev.reset with phase := .otpLoad }.putWord 0x50000040 0x1000

theorem otpWord_otpReservedDev : otpReservedDev.otpWord 0x40 = 0x1000 := by decide +kernel

/-- Refutes O35: after the OTP load PUFF.CFG reads the OTP word without its reserved bits (R14), and not the whole word. -/
theorem not_bootToImageCheck : ¬ Obligations.BootToImageCheck := by
  unfold Obligations.BootToImageCheck
  intro h
  let s : State := ⟨[], otpReservedDev⟩
  have hloads : Completes .otpLoadDone s (fun d => d.reg Reg.puff_CFG = 0) := ⟨_, rfl, by decide +kernel⟩
  obtain ⟨-, hload, -⟩ := h s
  obtain ⟨d, hzero, -, -, -, hcfg, -⟩ := hloads.agree (hload rfl)
  rw [hzero] at hcfg
  exact absurd (hcfg.trans otpWord_otpReservedDev) (by decide)

end Sys2Proof.Machine

namespace Sys2Proof.Machine

open Sys2Proof

/-! The send side of a link keeps every flit until it is acknowledged (R117, R118, R120): a flit that it holds is held after
another one is queued and after the window lets some out. -/

theorem mem_classInsert {F : Type} {c : BitVec 2} {f : F} {x : BitVec 2 × F} :
    ∀ {q : List (BitVec 2 × F)}, x ∈ classInsert c f q ↔ x = (c, f) ∨ x ∈ q
  | [] => by simp [classInsert]
  | (d, g) :: q => by
    rw [classInsert]
    split
    · exact List.mem_cons
    · rw [List.mem_cons, mem_classInsert, List.mem_cons, or_left_comm]

/-- What the window takes from the queue leaves with a SEQ, and the rest stays. -/
theorem mem_takeSend {F : Type} {c : BitVec 2} {f : F} : ∀ {room : Nat} {q : List (BitVec 2 × F)} {seq : BitVec 12},
    (c, f) ∈ q → (c, f) ∈ (takeSend room q seq).2.1 ∨ ∃ s, (s, f) ∈ (takeSend room q seq).1
  | 0, _ :: _, _, h => .inl h
  | _ + 1, (_, _) :: _, seq, h => by
    rcases List.mem_cons.1 h with heq | htail
    · obtain ⟨rfl, rfl⟩ := Prod.mk.inj heq
      exact .inr ⟨seq, List.mem_cons_self⟩
    · exact (mem_takeSend htail).imp_right (fun ⟨s, hs⟩ => ⟨s, List.mem_cons_of_mem _ hs⟩)

theorem LinkSide.holds_enqueue_self {F : Type} (x : LinkSide F) (c : BitVec 2) (f : F) : (x.enqueue c f).holds f :=
  .inl ⟨c, mem_classInsert.2 (.inl rfl)⟩

theorem LinkSide.holds.enqueue {F : Type} {x : LinkSide F} {g : F} (h : x.holds g) (c : BitVec 2) (f : F) :
    (x.enqueue c f).holds g :=
  h.imp_left (fun ⟨b, hb⟩ => ⟨b, mem_classInsert.2 (.inr hb)⟩)

theorem LinkSide.holds.drain {F : Type} {x : LinkSide F} {f : F} (h : x.holds f) (now tmo window : Nat) :
    (x.drain now tmo window).holds f := by
  rcases h with ⟨c, hc⟩ | ⟨q, hq⟩
  · rcases mem_takeSend hc with hstays | ⟨s, hs⟩
    · exact .inl ⟨c, hstays⟩
    · exact .inr ⟨s, List.mem_append_right _ hs⟩
  · exact .inr ⟨q, List.mem_append_left _ hq⟩

theorem Copy.send_side {x : Copy} (hstop : x.stop = none) (now : Nat) (cls : BitVec 2) (f : CopyFlit) :
    (x.send now cls f).side =
      if x.link == .active then (x.side.enqueue cls f).drain now (tmrTmo x.tmr) 2176 else x.side.enqueue cls f := by
  simp [Copy.send, hstop]

theorem Copy.holds_send_self {x : Copy} (hstop : x.stop = none) (now : Nat) (cls : BitVec 2) (f : CopyFlit) :
    (x.send now cls f).side.holds f := by
  rw [Copy.send_side hstop]
  split
  · exact (x.side.holds_enqueue_self cls f).drain ..
  · exact x.side.holds_enqueue_self cls f

theorem Copy.holds_send {x : Copy} {g : CopyFlit} (hstop : x.stop = none) (h : x.side.holds g) (now : Nat) (cls : BitVec 2)
    (f : CopyFlit) : (x.send now cls f).side.holds g := by
  rw [Copy.send_side hstop]
  split
  · exact (h.enqueue cls f).drain ..
  · exact h.enqueue cls f

@[simp] theorem Copy.send_stop (x : Copy) (now : Nat) (cls : BitVec 2) (f : CopyFlit) : (x.send now cls f).stop = x.stop := by
  obtain ⟨_, _, h⟩ := x.send_form now cls f; rw [h]

@[simp] theorem Copy.send_sense (x : Copy) (now : Nat) (cls : BitVec 2) (f : CopyFlit) :
    (x.send now cls f).sense = x.sense := by
  obtain ⟨_, _, h⟩ := x.send_form now cls f; rw [h]

/-! Reads of one value of three, and of one copy of three. -/

theorem Tri.get_set {α : Type} (t : Tri α) (i j : Fin 3) (x : α) : (t.set i x).get j = if j = i then x else t.get j := by
  match i, j with
  | 0, 0 | 0, 1 | 0, 2 | 1, 0 | 1, 1 | 1, 2 | 2, 0 | 2, 1 | 2, 2 => rfl

theorem Tri.get_upd_same {α : Type} (t : Tri α) (i : Fin 3) (f : α → α) : (t.upd i f).get i = f (t.get i) := by
  rw [Tri.upd, Tri.get_set, if_pos rfl]

theorem Dev.copy_updCopy (d : Dev) (c x : CopyId) (f : Copy → Copy) :
    (d.updCopy c f).copy x = if x = c then f (d.copy c) else d.copy x :=
  Tri.get_set d.copies c x _

theorem Dev.mem_svcCopies {d : Dev} {c : CopyId} : c ∈ d.svcCopies ↔ d.inSvc c = true := by
  have hall : c ∈ copyIds := by revert c; decide
  simp [Dev.svcCopies, hall]

theorem Dev.nodup_svcCopies (d : Dev) : d.svcCopies.Nodup := List.Nodup.filter _ (by decide)

/-- A command that is one change of copy `c` is a step of that copy. -/
theorem CopyStep.of_run {i : Instr} {s : State} {c : CopyId} {f : Copy → Copy} {P : Copy → Prop}
    (hexec : exec i s = s.run (fun d => d.updCopy c f)) (hP : P (f (s.dev.copy c))) : CopyStep i s c P :=
  ⟨f (s.dev.copy c), hexec, hP⟩

end Sys2Proof.Machine

namespace Sys2Proof.Machine

open Sys2Proof

/-! Guard entries of the journal: they enter the queue at once (R60). -/

theorem Dev.jlog_of_guard (d : Dev) {kind : Nat} (hkind : jClass kind = 0) (page off src : Nat) (new prev : Word) :
    d.jlog kind page off src new prev = d.jAdmit [d.jEntry kind page off src new prev d.frame32 false] := by
  have hcls : (d.jEntry kind page off src new prev d.frame32 false).cls = 0 := by rw [Dev.jEntry, hkind]; rfl
  rw [Dev.jlog, Dev.jput, if_pos hcls]

theorem Dev.regs_jlog_of_guard (d : Dev) {kind : Nat} (hkind : jClass kind = 0) (page off src : Nat) (new prev : Word) :
    (d.jlog kind page off src new prev).regs = d.regs := by
  rw [d.jlog_of_guard hkind, Dev.jAdmit_regs]

theorem Dev.journaled_jlog_of_guard (d : Dev) {kind : Nat} (hkind : jClass kind = 0) (page off src : Nat) (new prev : Word) :
    (d.jlog kind page off src new prev).journaled kind page new prev := by
  rw [d.jlog_of_guard hkind]
  exact ⟨_, .inl (d.mem_queue_jAdmit List.mem_cons_self), rfl, rfl, rfl, rfl⟩

/-- An entry that the journal has stays when others enter the queue. -/
theorem Dev.journaled.jAdmit {d : Dev} {kind page : Nat} {new prev : Word} (h : d.journaled kind page new prev)
    (es : List JEntry) : (d.jAdmit es).journaled kind page new prev := by
  obtain ⟨e, hplace, hentry⟩ := h
  refine ⟨e, hplace.imp_left (fun hq => mem_jInsertAll.2 (.inr ?_)), hentry⟩
  split
  · exact hq
  · exact List.mem_append_left _ hq

theorem Dev.journaled.jlog_of_guard {d : Dev} {kind page : Nat} {new prev : Word} (h : d.journaled kind page new prev)
    {kind' : Nat} (hkind : jClass kind' = 0) (page' off src : Nat) (new' prev' : Word) :
    (d.jlog kind' page' off src new' prev').journaled kind page new prev := by
  rw [d.jlog_of_guard hkind]
  exact h.jAdmit _

/-! A FAULT entry (R68, R450). -/

/-- PG_FAULT after a fault: LAST, CNT and the flag bits. -/
def faultWord (code flags : Nat) (w : Word) : Word :=
  toWord (code * 0x1000000 + min 255 (fld w 23 16 + 1) * 0x10000 + (fld w 15 0 ||| flags))

theorem fld_faultWord {code flags : Nat} (hcode : code < 256) (hflags : flags < 2 ^ 16) (w : Word) :
    fld (faultWord code flags w) 31 24 = code := by
  have hlow : fld w 15 0 < 2 ^ 16 := Nat.mod_lt _ (by decide)
  have hbits : (fld w 15 0 ||| flags) < 2 ^ 16 := Nat.or_lt_two_pow hlow hflags
  simp only [faultWord, toWord, fld, BitVec.toNat_ofNat] at hbits ⊢
  omega

theorem Dev.faultAt_eq (d : Dev) (code page off src : Nat) (detail : Word) (flags : Nat) :
    d.faultAt code page off src detail flags =
      (d.setReg (Reg.pgFault page) (faultWord code flags (d.reg (Reg.pgFault page)))).jlog 7 page off src (toWord code) detail :=
  rfl

theorem Dev.reg_faultAt (d : Dev) (code page off src : Nat) (detail : Word) (flags k : Nat) :
    (d.faultAt code page off src detail flags).reg k =
      if k = Reg.pgFault page then faultWord code flags (d.reg (Reg.pgFault page)) else d.reg k := by
  rw [Dev.faultAt_eq, Dev.reg, Dev.regs_jlog_of_guard _ (by decide)]
  exact Dev.reg_setReg ..

theorem Dev.faulted_fault (d : Dev) {code flags : Nat} (hcode : code < 256) (hflags : flags < 2 ^ 16) (page src : Nat)
    (detail : Word) : (d.fault code page src detail flags).faulted page code detail := by
  refine ⟨?_, ?_⟩
  · rw [Dev.rfld, Dev.fault, Dev.reg_faultAt, if_pos rfl, fld_faultWord hcode hflags]
  · rw [Dev.fault, Dev.faultAt_eq]
    exact Dev.journaled_jlog_of_guard _ (by decide) ..

end Sys2Proof.Machine

namespace Sys2Proof.Machine

open Sys2Proof

/-! What the hold of the outputs leaves alone (R292 step 1, R321, R453): the copies, and every register outside the drives'
pages but the latch and its cause. -/

/-- The registers of the drives' pages. -/
def driveKey (k : Nat) : Prop := 0x15000 ≤ k ∧ k < 0x18000

theorem driveKey_TSTAT (n : DrvId) : driveKey (Reg.drv_TSTAT n.val) := by
  have := n.isLt; unfold driveKey Reg.drv_TSTAT; omega
theorem driveKey_MSTAT (n : DrvId) : driveKey (Reg.drv_MSTAT n.val) := by
  have := n.isLt; unfold driveKey Reg.drv_MSTAT; omega
theorem driveKey_pgEvt (n : DrvId) : driveKey (Reg.pgEvt (0x15 + n.val)) := by
  have := n.isLt; unfold driveKey Reg.pgEvt; omega
theorem driveKey_pgFault (n : DrvId) : driveKey (Reg.pgFault (0x15 + n.val)) := by
  have := n.isLt; unfold driveKey Reg.pgFault; omega

/-- From `d` to `e` no copy changes, and no register outside the drives' pages. -/
structure Dev.DriveStep (d e : Dev) : Prop where
  copies : e.copies = d.copies
  reg : ∀ k, ¬ driveKey k → e.reg k = d.reg k

namespace Dev.DriveStep

theorem refl (d : Dev) : d.DriveStep d := ⟨rfl, fun _ _ => rfl⟩

theorem trans {d e f : Dev} (h : d.DriveStep e) (h' : e.DriveStep f) : d.DriveStep f :=
  ⟨h'.copies.trans h.copies, fun k hk => (h'.reg k hk).trans (h.reg k hk)⟩

theorem of_eq {d e : Dev} (hcopies : e.copies = d.copies) (hregs : e.regs = d.regs) : d.DriveStep e :=
  ⟨hcopies, fun k _ => by rw [Dev.reg, Dev.reg, hregs]⟩

theorem each {α : Type} {f : α → Dev → Dev} (h : ∀ x (d : Dev), d.DriveStep (f x d)) :
    ∀ (xs : List α) (d : Dev), d.DriveStep (Dev.each f xs d)
  | [], d => refl d
  | x :: xs, d => (h x d).trans (each h xs (f x d))

theorem setReg (d : Dev) {k : Nat} (hk : driveKey k) (v : Word) : d.DriveStep (d.setReg k v) :=
  ⟨Dev.setReg_copies .., fun j hj => by
    rw [Dev.reg_setReg, if_neg]
    rintro rfl
    exact hj hk⟩

theorem jlog (d : Dev) {kind : Nat} (hkind : jClass kind = 0) (page off src : Nat) (new prev : Word) :
    d.DriveStep (d.jlog kind page off src new prev) :=
  of_eq (Dev.jlog_copies ..) (d.regs_jlog_of_guard hkind ..)

theorem faultAt (d : Dev) (code : Nat) (n : DrvId) (off src : Nat) (detail : Word) (flags : Nat) :
    d.DriveStep (d.faultAt code (0x15 + n.val) off src detail flags) :=
  (setReg d (driveKey_pgFault n) _).trans (jlog _ (by decide) ..)

theorem gateChange {d : Dev} {chg : Dev → Dev} (h : d.DriveStep (chg d)) (n : DrvId) (s : Nat) :
    d.DriveStep (d.gateChange n s chg) :=
  h.trans (of_eq (Dev.updDrive_copies ..) (Dev.updDrive_regs ..))

theorem drvSync (d : Dev) (n : DrvId) (before : Word) : d.DriveStep (d.drvSync n before) := by
  have hmstat (w : Word) : d.DriveStep (d.setReg (Reg.drv_MSTAT n.val) w) := setReg d (driveKey_MSTAT n) w
  unfold Dev.drvSync
  extract_lets k ts tripped st m d3 same
  have htrip : d.DriveStep d3 := by
    unfold d3
    split
    · exact hmstat m
    · exact gateChange (hmstat m) ..
  split
  · exact htrip
  · exact htrip.trans (jlog _ (kind := 6) (by decide) ..)

theorem drvSet (d : Dev) (n : DrvId) (bits : Nat) : d.DriveStep (d.drvSet n bits) := by
  unfold Dev.drvSet
  dsimp only
  split
  · exact refl d
  · exact ((setReg d (driveKey_TSTAT n) _).trans (setReg _ (driveKey_pgEvt n) _)).trans (drvSync ..)

theorem drvSetFault (d : Dev) (n : DrvId) (bit code flag : Nat) : d.DriveStep (d.drvSetFault n bit code flag) := by
  unfold Dev.drvSetFault
  split
  · exact refl d
  · exact (drvSet ..).trans (faultAt ..)

theorem ovCheck (d : Dev) (n : DrvId) : d.DriveStep (d.ovCheck n) := by
  unfold Dev.ovCheck
  split
  · exact drvSetFault ..
  · exact refl d

theorem drvLatch (n : DrvId) (bits : Nat) (d : Dev) : d.DriveStep (d.drvLatch n bits) :=
  (drvSet d n bits).trans (ovCheck ..)

theorem fanHold (i : FanId) (d : Dev) : d.DriveStep (Dev.fanHold i d) := by
  unfold Dev.fanHold
  split
  · exact refl d
  · exact of_eq (Dev.updFan_copies ..) (Dev.updFan_regs ..)

theorem gpoSyncOne (i : Nat) (d : Dev) : d.DriveStep (Dev.gpoSyncOne i d) := by
  unfold Dev.gpoSyncOne
  split
  · exact refl d
  · exact of_eq (Dev.updGpo_copies ..) (Dev.updGpo_regs ..)

theorem gpoSync (d : Dev) : d.DriveStep d.gpoSync := each gpoSyncOne _ d

end Dev.DriveStep

/-- The latch with its cause. -/
def Dev.latchCause (d : Dev) (cause copies : Nat) : Dev :=
  (d.setBitR Reg.release_LATCH 0 true).setReg Reg.release_CAUSE (toWord (copies * 256 + cause))

/-- Where DEV is not set yet, the latch and its cause are written, and the drives, the fans and the outputs follow. -/
theorem Dev.driveStep_setDev {d : Dev} (h : d.devLatch = false) (cause copies : Nat) :
    (d.latchCause cause copies).DriveStep (d.setDev cause copies) := by
  have hset : d.setDev cause copies = (Dev.each Dev.fanHold fanIds
      (Dev.each (fun n d => d.drvLatch n 0x40) drvIds (d.latchCause cause copies))).gpoSync := by
    simp only [Dev.setDev, h, Bool.false_eq_true, if_false]
    rfl
  rw [hset]
  exact ((Dev.DriveStep.each (fun n d => .drvLatch n 0x40 d) drvIds _).trans (.each .fanHold fanIds _)).trans (.gpoSync _)

theorem Dev.setDev_of_latched {d : Dev} (h : d.devLatch = true) (cause copies : Nat) : d.setDev cause copies = d :=
  if_pos h

@[simp] theorem Dev.setDev_copies (d : Dev) (cause copies : Nat) : (d.setDev cause copies).copies = d.copies := by
  cases h : d.devLatch with
  | true => rw [Dev.setDev_of_latched h]
  | false => exact (Dev.driveStep_setDev h cause copies).copies.trans (by simp [Dev.latchCause])

theorem Dev.reg_setDev (d : Dev) (cause copies : Nat) {k : Nat} (hlatch : k ∉ [Reg.release_LATCH, Reg.release_CAUSE])
    (hdrive : ¬ driveKey k) : (d.setDev cause copies).reg k = d.reg k := by
  cases h : d.devLatch with
  | true => rw [Dev.setDev_of_latched h]
  | false =>
    rw [(Dev.driveStep_setDev h cause copies).reg k hdrive, Dev.latchCause, Dev.reg_setReg, if_neg (by simp_all),
      Dev.setBitR, Dev.reg_setReg, if_neg (by simp_all)]

theorem Dev.devLatch_setDev (d : Dev) (cause copies : Nat) : (d.setDev cause copies).devLatch = true := by
  cases h : d.devLatch with
  | true => rw [Dev.setDev_of_latched h, h]
  | false =>
    have hnot : ¬ driveKey Reg.release_LATCH := by unfold driveKey; decide
    rw [Dev.devLatch, Dev.rbit, (Dev.driveStep_setDev h cause copies).reg _ hnot, Dev.latchCause, Dev.reg_setReg,
      if_neg (by decide), Dev.setBitR, Dev.reg_setReg, if_pos rfl, bitOf_setBit_same _ (by decide)]

/-! SVCLVL (R291, R459). -/

theorem fld_svclvl (insvc : Nat) {level : Nat} (h : level < 4) : fld (toWord (insvc * 256 + level)) 1 0 = level := by
  simp only [fld, toWord, BitVec.toNat_ofNat]
  omega

/-- SVCLVL takes its value, and of the rest only the journal and Puffball change. -/
theorem Dev.setSvc_cases (d : Dev) (insvc level src : Nat) :
    (toWord (insvc * 256 + level) = d.reg Reg.sys_SVCLVL ∧ d.setSvc insvc level src = d) ∨
      ∃ p, d.setSvc insvc level src = ({ d with puff := p }.setReg Reg.sys_SVCLVL (toWord (insvc * 256 + level))).jlog
        6 0 0x48 src (toWord (insvc * 256 + level)) (d.reg Reg.sys_SVCLVL) := by
  by_cases hsame : toWord (insvc * 256 + level) = d.reg Reg.sys_SVCLVL
  · exact .inl ⟨hsame, if_pos hsame⟩
  · refine .inr ⟨if insvc = 0 then d.puff.insvcLost d.now else d.puff, (if_neg hsame).trans ?_⟩
    by_cases hnone : insvc = 0 <;> simp only [hnone, if_true, if_false] <;> rfl

theorem Dev.reg_setSvc (d : Dev) (insvc level src k : Nat) : (d.setSvc insvc level src).reg k =
    if k = Reg.sys_SVCLVL then toWord (insvc * 256 + level) else d.reg k := by
  rcases d.setSvc_cases insvc level src with ⟨hsame, h⟩ | ⟨p, h⟩
  · rw [h, hsame]
    split
    · next hk => rw [hk]
    · rfl
  · rw [h, Dev.reg, Dev.regs_jlog_of_guard _ (by decide)]
    exact Dev.reg_setReg ..

theorem Dev.level_setSvc (d : Dev) (insvc src : Nat) {level : Nat} (h : level < 4) :
    (d.setSvc insvc level src).level = level := by
  rw [Dev.level, Dev.rfld, Dev.reg_setSvc, if_pos rfl, fld_svclvl insvc h]

@[simp] theorem Dev.setSvc_copies (d : Dev) (insvc level src : Nat) : (d.setSvc insvc level src).copies = d.copies := by
  rcases d.setSvc_cases insvc level src with ⟨-, h⟩ | ⟨p, h⟩ <;> simp [h]

@[simp] theorem Dev.setSvc_cmp (d : Dev) (insvc level src : Nat) : (d.setSvc insvc level src).cmp = d.cmp := by
  rcases d.setSvc_cases insvc level src with ⟨-, h⟩ | ⟨p, h⟩ <;> simp [h]

theorem Dev.faulted.setSvc {d : Dev} {page code : Nat} {detail : Word} (h : d.faulted page code detail)
    (insvc level src : Nat) : (d.setSvc insvc level src).faulted page code detail := by
  obtain ⟨hlast, hentry⟩ := h
  have hpage : Reg.pgFault page ≠ Reg.sys_SVCLVL := by unfold Reg.pgFault Reg.sys_SVCLVL; omega
  refine ⟨by rwa [Dev.rfld, Dev.reg_setSvc, if_neg hpage], ?_⟩
  rcases d.setSvc_cases insvc level src with ⟨-, heq⟩ | ⟨p, heq⟩
  · rwa [heq]
  · rw [heq]
    exact Dev.journaled.jlog_of_guard (d := { d with puff := p }.setReg _ _) hentry (kind' := 6) (by decide) ..

/-! Reaction H (R292 steps 1 to 3, R446). -/

/-- The outputs are held and the fault is recorded. -/
def Dev.heldFault (d : Dev) (f : FaultInfo) : Dev := (d.holdOutputs 8 0).raise f

theorem Dev.reactH_eq (d : Dev) (f : FaultInfo) : d.reactH f =
    (d.heldFault f).setSvc ((d.heldFault f).rfld Reg.sys_SVCLVL 10 8) (if (d.heldFault f).level = 3 then 3 else 2) 0 := rfl

theorem Dev.reg_holdOutputs (d : Dev) (cause copies k : Nat) :
    (d.holdOutputs cause copies).reg k = (d.setDev cause copies).reg k := rfl

theorem Dev.reg_heldFault (d : Dev) {f : FaultInfo} {k : Nat} (hfault : k ≠ Reg.pgFault f.page) :
    (d.heldFault f).reg k = (d.setDev 8 0).reg k := by
  rw [Dev.heldFault, Dev.raise, Dev.fault, Dev.reg_faultAt, if_neg hfault, Dev.reg_holdOutputs]

theorem Dev.heldFault_level (d : Dev) (f : FaultInfo) : (d.heldFault f).level = d.level := by
  have hfault : Reg.sys_SVCLVL ≠ Reg.pgFault f.page := by unfold Reg.pgFault Reg.sys_SVCLVL; omega
  have hnot : ¬ driveKey Reg.sys_SVCLVL := by unfold driveKey; decide
  rw [Dev.level, Dev.level, Dev.rfld, Dev.rfld, d.reg_heldFault hfault, d.reg_setDev 8 0 (by decide) hnot]

theorem Dev.reactH_level (d : Dev) (f : FaultInfo) : (d.reactH f).level = if d.level = 3 then 3 else 2 := by
  rw [Dev.reactH_eq, Dev.level_setSvc _ _ _ (by split <;> decide), Dev.heldFault_level]

theorem Dev.reactH_devLatch (d : Dev) (f : FaultInfo) : (d.reactH f).devLatch = true := by
  have hfault : Reg.release_LATCH ≠ Reg.pgFault f.page := by unfold Reg.pgFault Reg.release_LATCH; omega
  rw [Dev.reactH_eq, Dev.devLatch, Dev.rbit, Dev.reg_setSvc, if_neg (by decide), d.reg_heldFault hfault]
  exact d.devLatch_setDev 8 0

theorem Dev.reactH_faulted (d : Dev) {f : FaultInfo} (hcode : f.code < 256) (hflags : f.flags < 2 ^ 16) :
    (d.reactH f).faulted f.page f.code f.detail :=
  (Dev.faulted_fault _ hcode hflags ..).setSvc ..

theorem Dev.reactH_copies (d : Dev) (f : FaultInfo) : (d.reactH f).copies = d.copies := by
  rw [Dev.reactH_eq, Dev.setSvc_copies, Dev.heldFault, Dev.raise, Dev.fault_copies]
  exact d.setDev_copies 8 0

theorem Dev.reactH_cmp (d : Dev) (f : FaultInfo) : (d.reactH f).cmp = [] := by
  rw [Dev.reactH_eq, Dev.setSvc_cmp, Dev.heldFault, Dev.raise, Dev.fault_cmp]
  rfl

end Sys2Proof.Machine

namespace Sys2Proof.Machine

open Sys2Proof

/-! The conversions of a group (R74, R76, R83). -/

theorem fourGet_four {α : Type} (f : Nat → α) (j : Fin 4) : fourGet (four f) j.val = f j.val := by
  match j with
  | 0 | 1 | 2 | 3 => rfl

/-- The sample of a channel that is on is R76's value, saturated. -/
theorem Sense.sampleMsg_y_of_on (s : Sense) (frame : Word) (g : GroupId) (q : Four Half) (temp : Half) {j : Fin 4}
    (hon : s.chEn (4 * g.val + j.val) = true) :
    fourGet (s.sampleMsg frame g q temp).y j.val = BitVec.ofNat 16 (wrapU 16 (satS 16
      (rRne ((16 * ((fourGet q j.val).toNat : Int) - listGet 0 s.ofs (4 * g.val + j.val)) *
        listGet 0 s.gain (4 * g.val + j.val)) 34))) :=
  (fourGet_four _ j).trans (if_pos hon)

theorem Sense.sampleMsg_y_of_off (s : Sense) (frame : Word) (g : GroupId) (q : Four Half) (temp : Half) {j : Fin 4}
    (hoff : s.chEn (4 * g.val + j.val) = false) : fourGet (s.sampleMsg frame g q temp).y j.val = 0 :=
  (fourGet_four _ j).trans (if_neg (by simp [hoff]))

/-- The sum of four calibration conversions. -/
def calSum (cal : Four Half) : Nat := (fourList cal).foldl (fun n w => n + w.toNat) 0

/-- The conversions are summed below in the first four frames of the run and above in the next four. -/
theorem Sense.calAdd_form (s : Sense) (g : GroupId) (age : Nat) (cal : Four Half) : ∃ bad, s.calAdd g age cal =
    { s with runBad := bad, runLo := if age < 4 then s.runLo.upd g (· + calSum cal) else s.runLo,
             runHi := if age < 4 then s.runHi else s.runHi.upd g (· + calSum cal) } := by
  refine ⟨if (fourList cal).any (fun w => w == 0 || w == 0xFFFF) then s.runBad.set g true else s.runBad, ?_⟩
  unfold Sense.calAdd
  generalize (fourList cal).any (fun w => w == 0 || w == 0xFFFF) = clipped
  cases clipped <;> split <;> rfl

theorem Sense.calAdd_runLo (s : Sense) (g : GroupId) (age : Nat) (cal : Four Half) :
    (s.calAdd g age cal).runLo.get g = s.runLo.get g + (if age < 4 then calSum cal else 0) := by
  obtain ⟨_, h⟩ := s.calAdd_form g age cal
  rw [h]
  split
  · exact Tri.get_upd_same ..
  · rfl

theorem Sense.calAdd_runHi (s : Sense) (g : GroupId) (age : Nat) (cal : Four Half) :
    (s.calAdd g age cal).runHi.get g = s.runHi.get g + (if age < 4 then 0 else calSum cal) := by
  obtain ⟨_, h⟩ := s.calAdd_form g age cal
  rw [h]
  split
  · rfl
  · exact Tri.get_upd_same ..

/-- The copy once the sums of group `g` have been in a message. -/
def Copy.sumsSent (x : Copy) (g : GroupId) : Copy :=
  { x with sense := { x.sense with sumv := x.sense.sumv.set g false } }

theorem Copy.groupEnd_of_noRun {x : Copy} (h : x.sense.runFrom = none) (now : Nat) (g : GroupId) (q cal : Four Half)
    (temp : Half) : x.groupEnd now g q cal temp =
      (x.sumsSent g).send now 0 (.sample (x.sense.sampleMsg x.time.frame g q temp)) := by
  simp [Copy.groupEnd, Sense.runAge, h, Copy.sumsSent]

theorem Copy.groupEnd_sense_of_run {x : Copy} {age : Nat} {g : GroupId} (hage : x.sense.runAge x.time.frame = some age)
    (hlt : age < 8) (hgrp : x.sense.runGroups.get g = true) (now : Nat) (q cal : Four Half) (temp : Half) :
    (x.groupEnd now g q cal temp).sense =
      { x.sense.calAdd g age cal with sumv := (x.sense.calAdd g age cal).sumv.set g false } := by
  simp [Copy.groupEnd, hage, hlt, hgrp]

theorem exec_groupConversionEnd_of_on {s : State} {c : CopyId} {g : GroupId} (hsenses : (s.dev.copy c).senses = true)
    (hgrp : (s.dev.copy c).sense.grpEn g.val = true) (q cal : Four Half) (temp : Half) :
    exec (.groupConversionEnd c g q cal temp) s =
      s.run (fun d => d.updCopy c (fun y => y.groupEnd s.dev.now g q cal temp)) := by
  show s.run _ = _
  simp [State.run, dueIf, hsenses, hgrp]

/-! The digital inputs (R90 to R92). -/

/-- The copy with the levels of an aperture. -/
def Copy.levels (x : Copy) (lvl : BitVec 12) : Copy := { x with sense := { x.sense with lvl := lvl } }

/-- The DINREC flit `p` of an aperture. -/
def Copy.dinFlit (x : Copy) (lvl : BitVec 12) (p : Fin 3) : CopyFlit := .dinrec p (x.sense.dinMsg x.time.frame lvl p.val)

/-- The copy after an aperture: three messages. -/
def Copy.aperture (x : Copy) (now : Nat) (lvl : BitVec 12) : Copy :=
  (((x.levels lvl).send now 0 (x.dinFlit lvl 0)).send now 0 (x.dinFlit lvl 1)).send now 0 (x.dinFlit lvl 2)

theorem exec_digitalAperture_of_on {s : State} {c : CopyId} (hsenses : (s.dev.copy c).senses = true)
    (hdin : (s.dev.copy c).sense.dinEn = true) (lvl : BitVec 12) :
    exec (.digitalAperture c lvl) s = s.run (fun d => d.updCopy c (fun y => y.aperture s.dev.now lvl)) := by
  show s.run _ = _
  simp [State.run, dueIf, hsenses, hdin, Copy.aperture, Copy.levels, Copy.dinFlit]

theorem Copy.aperture_holds {x : Copy} (hstop : x.stop = none) (now : Nat) (lvl : BitVec 12) (p : Fin 3) :
    (x.aperture now lvl).side.holds (x.dinFlit lvl p) := by
  have hstop0 : (x.levels lvl).stop = none := hstop
  have hstop1 : ((x.levels lvl).send now 0 (x.dinFlit lvl 0)).stop = none := by rwa [Copy.send_stop]
  have hstop2 : (((x.levels lvl).send now 0 (x.dinFlit lvl 0)).send now 0 (x.dinFlit lvl 1)).stop = none := by
    rwa [Copy.send_stop]
  match p with
  | 0 => exact Copy.holds_send hstop2 (Copy.holds_send hstop1 (Copy.holds_send_self hstop0 ..) ..) ..
  | 1 => exact Copy.holds_send hstop2 (Copy.holds_send_self hstop1 ..) ..
  | 2 => exact Copy.holds_send_self hstop2 ..

theorem Copy.aperture_form (x : Copy) (now : Nat) (lvl : BitVec 12) :
    ∃ sd st, x.aperture now lvl = { x.levels lvl with side := sd, stats := st } := by
  unfold Copy.aperture
  obtain ⟨_, _, h0⟩ := (x.levels lvl).send_form now 0 (x.dinFlit lvl 0)
  rw [h0]
  obtain ⟨_, _, h1⟩ := Copy.send_form { x.levels lvl with side := _, stats := _ } now 0 (x.dinFlit lvl 1)
  rw [h1]
  exact Copy.send_form _ now 0 (x.dinFlit lvl 2)

/-- The levels after an edge on input `i`. -/
def Sense.edgeLvl (s : Sense) (i : Fin 12) (rising : Bool) : BitVec 12 :=
  if rising then s.lvl ||| BitVec.twoPow 12 i.val else s.lvl &&& ~~~(BitVec.twoPow 12 i.val)

theorem Sense.getLsbD_edgeLvl (s : Sense) (i : Fin 12) (rising : Bool) : (s.edgeLvl i rising).getLsbD i.val = rising := by
  cases rising <;> simp [Sense.edgeLvl]

/-- The hub time, from the tick, of an edge after the glitch filter (R91, R147). -/
def Copy.edgeTime (x : Copy) (e : Nat) : Int :=
  x.time.hubTime ((e : Int) - 12 * fld (x.sense.reg Reg.sensecfg_DINCFG) 23 20)

theorem Copy.dinEdge_of_unselected {x : Copy} {i : Fin 12} {rising : Bool}
    (h : edgeQualifies (x.sense.edgeSel i.val) rising = false) (e : Nat) :
    x.dinEdge i rising e = { x with sense := { x.sense with lvl := x.sense.edgeLvl i rising } } := by
  simp [Copy.dinEdge, h, Sense.edgeLvl]

theorem Copy.dinEdge_of_selected {x : Copy} {i : Fin 12} {rising : Bool}
    (h : edgeQualifies (x.sense.edgeSel i.val) rising = true) (e : Nat) :
    ∃ st, x.dinEdge i rising e = { x with stats := st, sense :=
      { (x.sense.edge i.val rising (x.edgeTime e) x.time.prevPer.toNat).1 with lvl := x.sense.edgeLvl i rising } } :=
  ⟨_, if_pos h⟩

theorem exec_dinEdge_of_due {s : State} {c : CopyId} {e : Nat} (hdue : (s.dev.copy c).edgeDue e = true) (i : Fin 12)
    (rising : Bool) : exec (.dinEdge c i rising e) s = s.run (fun d => d.updCopy c (fun y => y.dinEdge i rising e)) := by
  show s.run _ = _
  simp [State.run, dueIf, hdue]

section Edges

variable (s : Sense) (i : Nat) (rising : Bool) {t : Int} (prevPer : Nat)

/-- An edge of this frame is counted in its record. -/
theorem Sense.edge_recs_of_nonneg (ht : 0 ≤ t) : (s.edge i rising t prevPer).1.recs =
    listSet s.recs i (addEdge (listGet emptyRec s.recs i) rising t.toNat) := by
  simp [Sense.edge, Int.not_lt.2 ht]

theorem Sense.edge_prevRecs_of_nonneg (ht : 0 ≤ t) : (s.edge i rising t prevPer).1.prevRecs = s.prevRecs := by
  simp [Sense.edge, Int.not_lt.2 ht]

/-- An edge of the frame before is counted in that frame's record. -/
theorem Sense.edge_prevRecs_of_neg (ht : t < 0) : (s.edge i rising t prevPer).1.prevRecs =
    listSet s.prevRecs i (addEdge (listGet emptyRec s.prevRecs i) rising (t + prevPer).toNat) := by
  simp [Sense.edge, ht]

theorem Sense.edge_recs_of_neg (ht : t < 0) : (s.edge i rising t prevPer).1.recs = s.recs := by
  simp [Sense.edge, ht]

end Edges

/-! A calibration run starts (R82 to R84). -/

/-- Copy `c` starts a run in the current frame. -/
def Dev.runStart (c : CopyId) (d : Dev) : Dev :=
  d.updCopy c (fun y => { y with sense := y.sense.startRun d.frnum })

theorem Dev.each_runStart_form : ∀ (cs : List CopyId) (d : Dev), ∃ t, Dev.each Dev.runStart cs d = { d with copies := t }
  | [], d => ⟨d.copies, rfl⟩
  | c :: cs, d => by
    obtain ⟨t, ht⟩ := Dev.each_runStart_form cs (d.runStart c)
    exact ⟨t, ht⟩

theorem Dev.copy_each_runStart (x : CopyId) : ∀ {cs : List CopyId} (d : Dev), cs.Nodup →
    (Dev.each Dev.runStart cs d).copy x =
      if x ∈ cs then { d.copy x with sense := (d.copy x).sense.startRun d.frnum } else d.copy x
  | [], _, _ => rfl
  | c :: cs, d, hnodup => by
    obtain ⟨hc, hcs⟩ := List.nodup_cons.1 hnodup
    have hframe : (d.runStart c).frnum = d.frnum := rfl
    rw [Dev.each, Dev.copy_each_runStart x _ hcs, hframe, Dev.runStart, Dev.copy_updCopy]
    by_cases hx : x = c
    · subst hx; simp [hc]
    · simp [hx]

/-- A calibration run that is due starts in every copy in service. -/
theorem completes_calibrationStart {s : State} (hdue : s.dev.calDue = true) : Completes .calibrationStart s
    (· = (Dev.each Dev.runStart s.dev.svcCopies s.dev).updAgr
      (fun a => { a with calNext := some (s.dev.tickt.toNat + 4000000000) })) := by
  refine ⟨_, rfl, ?_⟩
  simp only [dueIf, hdue, if_true]
  rfl

/-! OVER_TEMPERATURE (R93). -/

/-- The fault of copy `c` above TLIM in eight consecutive frames. -/
def Dev.hotFault (d : Dev) (c : CopyId) : FaultInfo := ⟨0x18, 9, c.val + 1, d.reg (Reg.agree_TEMP c.val), 0⟩

theorem completes_overTemperature {s : State} {c : CopyId} (hsvc : s.dev.inSvc c = true)
    (hhot : s.dev.agr.tempHot.get c = 8) : Completes (.overTemperature c) s
    (· = (s.dev.updAgr (fun a => { a with tempHot := a.tempHot.set c 9 })).reactH (s.dev.hotFault c)) := by
  have hdue : s.dev.tooHot c = true := by simp [Dev.tooHot, hsvc, hhot]
  refine ⟨_, rfl, ?_⟩
  simp only [dueIf, hdue, if_true]
  rfl

theorem completes_overTemperature_of_not_due {s : State} {c : CopyId} (hhot : s.dev.agr.tempHot.get c ≠ 8) :
    Completes (.overTemperature c) s (· = s.dev) := by
  have hdue : s.dev.tooHot c = false := by simp [Dev.tooHot, hhot]
  refine ⟨_, rfl, ?_⟩
  simp only [dueIf, hdue, Bool.false_eq_true, if_false]

/-- Settles O42, command by command: the group's message, the run's sums, the aperture's messages, the edge records, the start
of a run and reaction H. -/
theorem senseBlocks : Obligations.SenseBlocks := by
  intro s c d0 x
  refine ⟨fun g q cal temp hsenses hgrp hstop => ⟨fun hrun => ?_, fun age hage hlt hin => ?_⟩,
    fun lvl hsenses hdin hstop => ?_,
    fun i rising e hdue => ⟨fun hsel => ?_, fun hsel ht => ?_, fun hsel ht => ?_⟩, fun hdue => ?_, fun hsvc hhot => ?_,
    fun hhot => completes_overTemperature_of_not_due hhot⟩
  · refine CopyStep.of_run (exec_groupConversionEnd_of_on hsenses hgrp q cal temp) ?_
    rw [Copy.groupEnd_of_noRun hrun]
    obtain ⟨_, _, hform⟩ := (x.sumsSent g).send_form d0.now 0 (.sample (x.sense.sampleMsg x.time.frame g q temp))
    exact ⟨Copy.holds_send_self (x := x.sumsSent g) hstop .., rfl, rfl, rfl,
      fun _ hon => Sense.sampleMsg_y_of_on _ _ _ _ _ hon, fun _ hoff => Sense.sampleMsg_y_of_off _ _ _ _ _ hoff,
      by rw [hform]; rfl⟩
  · refine CopyStep.of_run (exec_groupConversionEnd_of_on hsenses hgrp q cal temp) ?_
    rw [Copy.groupEnd_sense_of_run hage hlt hin]
    exact ⟨Sense.calAdd_runLo .., Sense.calAdd_runHi ..⟩
  · refine CopyStep.of_run (exec_digitalAperture_of_on hsenses hdin lvl) ⟨Copy.aperture_holds hstop _ lvl, ?_⟩
    obtain ⟨_, _, hform⟩ := x.aperture_form d0.now lvl
    rw [hform]
    rfl
  · refine CopyStep.of_run (exec_dinEdge_of_due hdue i rising) ?_
    rw [Copy.dinEdge_of_unselected hsel]
    exact ⟨Sense.getLsbD_edgeLvl .., rfl⟩
  · refine CopyStep.of_run (exec_dinEdge_of_due hdue i rising) ?_
    obtain ⟨_, hform⟩ := Copy.dinEdge_of_selected hsel e
    rw [hform]
    exact ⟨Sense.edge_recs_of_nonneg _ _ _ _ ht, Sense.edge_prevRecs_of_nonneg _ _ _ _ ht, Sense.getLsbD_edgeLvl .., rfl⟩
  · refine CopyStep.of_run (exec_dinEdge_of_due hdue i rising) ?_
    obtain ⟨_, hform⟩ := Copy.dinEdge_of_selected hsel e
    rw [hform]
    exact ⟨Sense.edge_prevRecs_of_neg _ _ _ _ ht, Sense.edge_recs_of_neg _ _ _ _ ht⟩
  · refine (completes_calibrationStart hdue).imp (fun d hd => ?_)
    have hcopy : d.copy c = (Dev.each Dev.runStart d0.svcCopies d0).copy c := by rw [hd]; rfl
    rw [Dev.copy_each_runStart c d0 d0.nodup_svcCopies] at hcopy
    obtain ⟨_, hform⟩ := Dev.each_runStart_form d0.svcCopies d0
    refine ⟨fun hin => hcopy.trans (if_pos (Dev.mem_svcCopies.2 hin)),
      fun hout => hcopy.trans (if_neg (by simp [Dev.mem_svcCopies, hout])), ?_, ?_, ?_⟩
    · rw [hd]; rfl
    · rw [hd, Dev.updAgr_regs, hform]
    · rw [hd, Dev.updAgr_mem, hform]
  · refine (completes_overTemperature hsvc hhot).imp (fun d hd => ?_)
    obtain ⟨hlast, hentry⟩ := Dev.reactH_faulted (d0.updAgr (fun a => { a with tempHot := a.tempHot.set c 9 }))
      (f := d0.hotFault c) (show 0x18 < 256 by decide) (show 0 < 2 ^ 16 by decide)
    rw [hd]
    exact ⟨Dev.reactH_devLatch .., Dev.reactH_cmp .., hlast, hentry, (Dev.reactH_copies ..).trans (Dev.updAgr_copies ..),
      Dev.reactH_level ..⟩

end Sys2Proof.Machine

namespace Sys2Proof.Machine

open Sys2Proof

/-! An exchange whose deadline lies past the last HCLK that TIME counts. -/

/-- A frame that starts in that HCLK with copy A alone in service: its analog exchanges are open, and no message has come. -/
def lateExchangeDev : Dev :=
  { lastDev with tickt := BitVec.ofNat 64 lastTime, agr := { Dev.agreeReset with aOpen := Tri.const true } }.setReg
    Reg.sys_SVCLVL 0x100

/-- Refutes O43: copy A has not delivered in a frame that starts in the last HCLK of TIME, so the exchange of group 0 closes
at its deadline 800 HCLK later, at a TIME that 64 bits do not hold; the model's TIME is 799 then, and not the later of the two
instants. -/
theorem not_inputExchanges : ¬ Obligations.InputExchanges := by
  unfold Obligations.InputExchanges
  intro h
  let s : State := ⟨[], lateExchangeDev⟩
  have hmissing : ∃ c ∈ s.dev.svcCopies, s.dev.aMsg 0 c = none := ⟨0, by decide +kernel⟩
  have hwraps : Completes (.analogExchangeClose 0) s (fun d => d.now = 799) := ⟨_, rfl, by decide +kernel⟩
  obtain ⟨hanalog, -⟩ := h.2 s (by decide +kernel) rfl rfl (by decide +kernel)
  refine hwraps.not_now (u := lastTime + 800) (fun d hd => ?_) (by decide) (hanalog 0 rfl)
  obtain ⟨-, -, -, -, hdeadline, -⟩ := hd
  exact (hdeadline hmissing).trans (by decide +kernel)

end Sys2Proof.Machine

namespace Sys2Proof.Machine

open Sys2Proof

/-! Flits of the response channel at a copy (R114 to R116). -/

theorem Tri.set_set {α : Type} (t : Tri α) (i : Fin 3) (x y : α) : (t.set i x).set i y = t.set i y := by
  match i with
  | 0 | 1 | 2 => rfl

theorem Dev.updCopy_updCopy (d : Dev) (c : CopyId) (f g : Copy → Copy) :
    (d.updCopy c f).updCopy c g = d.updCopy c (fun x => g (f x)) := by
  simp only [Dev.updCopy, Tri.upd, Tri.get_set, if_true, Tri.set_set]

theorem LinkSide.takeAck_expSeq {F : Type} (x : LinkSide F) (a : BitVec 12) (now tmo : Nat) :
    (x.takeAck a now tmo).1.expSeq = x.expSeq := by
  unfold LinkSide.takeAck
  dsimp only
  split
  all_goals split <;> rfl

theorem Copy.takeAck_expSeq (x : Copy) (a : BitVec 12) (now : Nat) : (x.takeAck a now).side.expSeq = x.side.expSeq :=
  x.side.takeAck_expSeq a now (tmrTmo x.tmr)

/-- A flit that is accepted acts on the copy that has taken its header. -/
theorem Dev.copyRx_of_accepts {d : Dev} {c : CopyId} {h : Hdr} (haccepts : d.copyAccepts c h) (k : Dev → Dev) :
    Dev.copyRx c h k d = k (d.updCopy c (fun _ => d.acceptedCopy c h)) := by
  obtain ⟨hpowered, hactive, hseq⟩ := haccepts
  simp [Dev.copyRx, Dev.acceptedCopy, hpowered, hactive, seqCheck, Copy.takeAck_expSeq, hseq]

/-- A command that carries an accepted flit to copy `c` is a step of that copy. -/
theorem CopyStep.of_accepted {i : Instr} {s : State} {c : CopyId} {h : Hdr} {f : Env → Copy → Copy} {P : Copy → Prop}
    (hexec : exec i s = s.run (Dev.copyRx c h (Dev.core c f))) (haccepts : s.dev.copyAccepts c h)
    (hP : P (f s.dev.env (s.dev.acceptedCopy c h))) : CopyStep i s c P := by
  refine ⟨_, ?_, hP⟩
  rw [hexec, State.run, Dev.copyRx_of_accepts haccepts, Dev.core, Dev.updCopy_updCopy]
  rfl

/-! A response finds its request by the tag (R126, R127). -/

theorem Copy.response_of_unowned {x : Copy} {tag : BitVec 6} (howner : x.owner tag = none) (e : Env) (ty : ReqType)
    (last : Bool) (body : Outst → Copy → Copy) : x.response e tag ty last body = { x with stop := some .protocol } := by
  simp [Copy.response, howner, Copy.halt]

theorem Copy.response_of_owner {x : Copy} {tag : BitVec 6} {o : Outst} {ty : ReqType} (howner : x.owner tag = some o)
    (hty : o.ty = ty) (hstop : x.stop = none) (e : Env) (last : Bool) (body : Outst → Copy → Copy) :
    x.response e tag ty last body = (body o (if last then x.freed tag else x)).settle e := by
  have hgoes : (if last then x.freed tag else x).stop = none := by
    split
    · exact hstop
    · exact hstop
  simp [Copy.response, howner, hty, hgoes]

/-- A copy that waits for nothing and has no debug entry to make has nothing to settle. -/
theorem Copy.settle_of_quiet {x : Copy} (hwait : x.wait = .none) (hdbg : x.dbg = false) (e : Env) : x.settle e = x := by
  simp [Copy.settle, hwait, Copy.dbgDue, hdbg]

/-! What an entry without a change of stack leaves of the waiting and of the debug event. -/

/-- What the copy waits for, its debug event and its gate tables are in `y` as in `x`. -/
structure Copy.EntryFrame (x y : Copy) : Prop where
  wait : y.wait = x.wait
  dbg : y.dbg = x.dbg
  gtbaseI : y.gtbaseI = x.gtbaseI
  gtbaseT : y.gtbaseT = x.gtbaseT

theorem Copy.EntryFrame.trans {x y z : Copy} (h : x.EntryFrame y) (h' : y.EntryFrame z) : x.EntryFrame z :=
  ⟨h'.wait.trans h.wait, h'.dbg.trans h.dbg, h'.gtbaseI.trans h.gtbaseI, h'.gtbaseT.trans h.gtbaseT⟩

theorem Copy.entryFrame_updBank (x : Copy) (w : World) (f : Bank → Bank) : x.EntryFrame (x.updBank w f) := by
  cases w <;> exact ⟨rfl, rfl, rfl, rfl⟩

theorem Copy.entryFrame_setBusy (x : Copy) (w : World) (b : Bool) : x.EntryFrame (x.setBusy w b) := by
  cases w <;> exact ⟨rfl, rfl, rfl, rfl⟩

theorem Copy.entryFrame_toVector (x : Copy) (w : World) (code : Nat) : x.EntryFrame (x.toVector w code) :=
  ⟨rfl, rfl, rfl, rfl⟩

theorem Copy.entryFrame_event (x : Copy) (now : Nat) (cause : Byte) (detail : Word) :
    x.EntryFrame (x.event now cause detail) := by
  obtain ⟨_, _, hsent⟩ := x.send_form now 2 (.lstatEvent cause x.retire detail)
  rw [Copy.event, hsent]
  exact ⟨rfl, rfl, rfl, rfl⟩

/-- Step 5 of R213 where the stack stays. -/
theorem Copy.EntryFrame.switchStack {x y : Copy} {e : Env} {w : World} (hkeeps : x.keepsStack e w)
    (hframe : x.EntryFrame y) (pc : Word) :
    x.EntryFrame (if (x.world != w || x.ring != 0) = true then y.switchStack e w pc else y) := by
  rcases hkeeps with ⟨hworld, hring⟩ | hstack
  · simpa [hworld, hring] using hframe
  · have hnone : y.trapStack e w = some none := by
      unfold Copy.trapStack at hstack ⊢
      rw [hframe.gtbaseI, hframe.gtbaseT]
      exact hstack
    simpa [Copy.switchStack, hnone] using hframe

theorem Copy.entryFrame_enter {x : Copy} {e : Env} {w : World} (hkeeps : x.keepsStack e w) (code : Nat) (int : Bool)
    (eval : Word) (aux : DWord) : x.EntryFrame (x.enter e w code int eval aux) := by
  unfold Copy.enter
  dsimp only
  refine Copy.EntryFrame.switchStack hkeeps ?_ x.pc
  have hvector {y : Copy} (hy : x.EntryFrame y) : x.EntryFrame ((y.setBusy w true).toVector w code) :=
    (hy.trans (y.entryFrame_setBusy w true)).trans (Copy.entryFrame_toVector ..)
  have hhush {z : Copy} (hz : x.EntryFrame z) :
      x.EntryFrame (if code = 9 ∧ int = false then { z with hushCnt := 0 } else z) := by
    split
    · exact hz.trans ⟨rfl, rfl, rfl, rfl⟩
    · exact hz
  split
  · exact (hhush (hvector (x.entryFrame_updBank w _))).trans (Copy.entryFrame_event ..)
  · exact hhush (hvector (x.entryFrame_updBank w _))

/-- A synchronous cause that can enter at once is the entry of its own world. -/
theorem Copy.raise_eq_enter {x : Copy} (htrap : x.canTrap) (e : Env) {code : Nat} (h9 : code ≠ 9) (eval : Word)
    (aux : DWord) : x.raise e code eval aux = x.enter e x.world code false eval aux := by
  obtain ⟨hdrained, hentering, hrefusals, hbusy, hdflt⟩ := htrap
  have hfree : ¬ (x.world = .tin ∧ x.tdflt = true) := by
    rintro ⟨htin, hlatched⟩
    rw [htin, Copy.dflt, hlatched] at hdflt
    exact absurd hdflt (by decide)
  have htarget : x.target code = x.world := by simp [Copy.target, h9, hfree]
  have henter : x.enterWorld e x.world code eval aux = x.enter e x.world code false eval aux := by
    cases hworld : x.world with
    | iron =>
      rw [hworld, Copy.busy] at hbusy
      rw [hworld, Copy.dflt] at hdflt
      simp [Copy.enterWorld, Copy.enterIron, hbusy, hdflt]
    | tin =>
      rw [hworld, Copy.busy] at hbusy
      rw [hworld, Copy.dflt] at hdflt
      simp [Copy.enterWorld, Copy.enterTin, hbusy, hdflt]
  simp [Copy.raise, hdrained, Copy.syncEntry, hentering, htarget, hrefusals, hfree, henter]

/-- A response that traps: the entry is made at once, and nothing is left to settle. -/
theorem Copy.settle_raise_entered {z : Copy} (htrap : z.canTrap) {e : Env} (hkeeps : z.keepsStack e z.world)
    (hwait : z.wait = .none) (hdbg : z.dbg = false) {code : Nat} (h9 : code ≠ 9) (eval : Word) (aux : DWord) :
    z.entered ((z.raise e code eval aux).settle e) z.world code false eval aux := by
  have hframe : z.EntryFrame (z.raise e code eval aux) := by
    rw [Copy.raise_eq_enter htrap e h9]
    exact Copy.entryFrame_enter hkeeps ..
  rw [Copy.settle_of_quiet (hframe.wait.trans hwait) (hframe.dbg.trans hdbg)]
  exact Copy.raise_entered e code eval aux h9 htrap hkeeps

/-! RDDATA of a load (R184, R193, R253). -/

/-- RDDATA of a copy's own READ. -/
theorem CopyStep.of_rddata {s : State} {c : CopyId} {h : Hdr} {tag : BitVec 6} {o : Outst} {P : Copy → Prop}
    (haccepts : s.dev.copyAccepts c h) (howner : (s.dev.acceptedCopy c h).owner tag = some o) (hty : o.ty = .read)
    (hstop : (s.dev.acceptedCopy c h).stop = none) (status : Byte) (w : CWord)
    (hP : P ((((s.dev.acceptedCopy c h).freed tag).readReply s.dev.env o status w).settle s.dev.env)) :
    CopyStep (.rddata c h o.req.csn tag status w) s c P := by
  refine CopyStep.of_accepted rfl haccepts ?_
  rw [Copy.response_of_owner howner hty hstop]
  simpa using hP

theorem Copy.loadReply_of_refused {x : Copy} {len : Nat} (hwait : x.wait = .load len) (e : Env) (o : Outst) (k : LoadKind)
    (rd : BitVec 5) (a : Word) (cached : Bool) {status : Byte} (hrefused : isRefused status = true) (w : CWord) :
    x.loadReply e o k rd a cached status w = ({ x with wait := .none } : Copy).raise e 3 a (refusedAux o.req.csn status) := by
  simp [Copy.loadReply, hwait, hrefused]

theorem Copy.loadReply_of_bad {x : Copy} {len : Nat} (hwait : x.wait = .load len) (e : Env) (o : Outst) (k : LoadKind)
    (rd : BitVec 5) {a : Word} (cached : Bool) {status : Byte} (hserved : isRefused status = false) {w : CWord}
    (hbad : checkVal w.data w.ecc (wordOf a) = none) :
    x.loadReply e o k rd a cached status w = ({ x with wait := .none } : Copy).raise e 0x0A a (integrityAux o.req.csn) := by
  simp [Copy.loadReply, hwait, hserved, hbad]

/-- The copy whose load has its word: a cached one is in the data cache too. -/
def Copy.loaded (x : Copy) (a : Word) (cached : Bool) (w : CWord) (v : Word) : Copy :=
  if cached then ({ x with wait := .none } : Copy).dcFill (wordOf a) (fixWord w v (wordOf a)) else { x with wait := .none }

theorem Copy.loadReply_of_value {x : Copy} {len : Nat} (hwait : x.wait = .load len) (e : Env) (o : Outst) (k : LoadKind)
    (rd : BitVec 5) {a : Word} (cached : Bool) {status : Byte} (hserved : isRefused status = false) {w : CWord} {v : Word}
    (hvalue : checkVal w.data w.ecc (wordOf a) = some v) :
    x.loadReply e o k rd a cached status w = (x.loaded a cached w v).loadDone e k rd a len v := by
  simp [Copy.loadReply, Copy.loaded, hwait, hserved, hvalue]

/-- A fill of a word changes the data cache alone. -/
theorem Copy.dcFill_form (x : Copy) (a : Word) (w : CWord) : ∃ dc, x.dcFill a w = { x with dcache := dc } := by
  unfold Copy.dcFill
  split
  · exact ⟨_, rfl⟩
  · exact ⟨_, rfl⟩

theorem Copy.loaded_form (x : Copy) (a : Word) (cached : Bool) (w : CWord) (v : Word) :
    ∃ dc, x.loaded a cached w v = { x with wait := .none, dcache := dc } ∧ (cached = false → dc = x.dcache) := by
  cases cached with
  | false => exact ⟨x.dcache, rfl, fun _ => rfl⟩
  | true =>
    obtain ⟨dc, hfill⟩ := Copy.dcFill_form { x with wait := .none } (wordOf a) (fixWord w v (wordOf a))
    exact ⟨dc, by simp [Copy.loaded, hfill], by simp⟩

/-- Of what a retirement may not change. -/
theorem Copy.fields_of_masked {x y : Copy} (h : y.masked = x.masked) :
    y.out = x.out ∧ y.wait = x.wait ∧ y.dbg = x.dbg ∧ y.dcache = x.dcache := by
  have hout := congrArg Copy.out h
  have hwait := congrArg Copy.wait h
  have hdbg := congrArg Copy.dbg h
  have hdcache := congrArg Copy.dcache h
  exact ⟨hout, hwait, hdbg, hdcache⟩

/-- A load that ends writes its register and retires. -/
theorem Copy.loadDone_facts {x : Copy} (hwait : x.wait = .none) (hdbg : x.dbgDue = false) (e : Env) (k : LoadKind)
    (rd : BitVec 5) (a : Word) (len : Nat) (v : Word) :
    x.wrote (x.loadDone e k rd a len v) rd (loadVal k a v) ∧
      x.retired (x.loadDone e k rd a len v) (x.pc + toWord len) ∧ (x.loadDone e k rd a len v).masked = x.masked := by
  obtain ⟨w, hset⟩ := x.setX_form rd (loadVal k a v)
  have hwrote := x.wrote_setX rd (loadVal k a v)
  rw [hset] at hwrote
  obtain ⟨hregs, hretired, hmasked⟩ := Copy.retireTo_facts { x with x := w } e len (x.pc + toWord len) hwait hdbg
  rw [Copy.loadDone, hset, Copy.next]
  exact ⟨fun r => (hregs r).trans (hwrote r), hretired, hmasked⟩

/-- What the word of a load leaves of the copy. -/
theorem Copy.loadReply_value_facts {x : Copy} {len : Nat} (hwait : x.wait = .load len) (hdbg : x.dbg = false) (e : Env)
    (o : Outst) (k : LoadKind) (rd : BitVec 5) {a : Word} (cached : Bool) {status : Byte} (hserved : isRefused status = false)
    {w : CWord} {v : Word} (hvalue : checkVal w.data w.ecc (wordOf a) = some v) {y : Copy}
    (hy : y = (x.loadReply e o k rd a cached status w).settle e) :
    x.wrote y rd (loadVal k a v) ∧ x.retired y (x.pc + toWord len) ∧ y.out = x.out ∧ y.wait = .none ∧
      (cached = false → y.dcache = x.dcache) := by
  obtain ⟨dc, hform, hdc⟩ := x.loaded_form a cached w v
  obtain ⟨hwrote, hretired, hmasked⟩ := Copy.loadDone_facts (x := { x with wait := .none, dcache := dc }) rfl
    (by simp [Copy.dbgDue, hdbg]) e k rd a len v
  rw [Copy.loadReply_of_value hwait e o k rd cached hserved hvalue, hform] at hy
  generalize Copy.loadDone _ e k rd a len v = z at hy hwrote hretired hmasked
  obtain ⟨hout, hquiet, hnodbg, hdcache⟩ := Copy.fields_of_masked hmasked
  rw [Copy.settle_of_quiet hquiet (hnodbg.trans hdbg)] at hy
  subst hy
  exact ⟨hwrote, hretired, hout, hquiet, fun hplain => hdcache.trans (hdc hplain)⟩

/-! WRACK (R194, R202). -/

/-- WRACK of a copy's own WRITE. -/
theorem CopyStep.of_wrack {s : State} {c : CopyId} {h : Hdr} {tag : BitVec 6} {o : Outst} {P : Copy → Prop}
    (haccepts : s.dev.copyAccepts c h) (howner : (s.dev.acceptedCopy c h).owner tag = some o) (hty : o.ty = .write)
    (hstop : (s.dev.acceptedCopy c h).stop = none) (status : Byte)
    (hP : P ((if isRefused status then ((s.dev.acceptedCopy c h).freed tag).recordRefusal o.req status
      else (s.dev.acceptedCopy c h).freed tag).settle s.dev.env)) :
    CopyStep (.wrack c h o.req.csn tag status) s c P := by
  refine CopyStep.of_accepted rfl haccepts ?_
  rw [Copy.response_of_owner howner hty hstop]
  simpa using hP

/-- A recorded refusal changes the banks alone. -/
theorem Copy.recordRefusal_form (x : Copy) (q : Req) (status : Byte) :
    ∃ i t, x.recordRefusal q status = { x with iron := i, tin := t } := by
  unfold Copy.recordRefusal
  cases q.world
  · exact ⟨_, x.tin, rfl⟩
  · exact ⟨x.iron, _, rfl⟩

theorem Copy.bank_recordRefusal_of_ne (x : Copy) {q : Req} (status : Byte) {v : World} (hv : v ≠ q.world) :
    (x.recordRefusal q status).bank v = x.bank v :=
  (x.bank_updBank q.world v _).trans (if_neg hv)

theorem Copy.reqerr_recordRefusal (x : Copy) (q : Req) (status : Byte) :
    ((x.recordRefusal q status).bank q.world).reqerr =
      if fld (x.bank q.world).reqerr 15 8 = 0 then toWord (q.csn.toNat % 65536 * 65536 + 256 + status.toNat)
      else setFld (x.bank q.world).reqerr 15 8 (min 255 (fld (x.bank q.world).reqerr 15 8 + 1)) := by
  rw [Copy.recordRefusal, Copy.bank_updBank, if_pos rfl]

/-- What the record of a refused posted write leaves of the copy. -/
theorem Copy.recordRefusal_facts {x : Copy} (hwait : x.wait = .none) (hdbg : x.dbg = false) (q : Req) (status : Byte)
    (e : Env) : (x.recordRefusal q status).settle e = x.recordRefusal q status ∧
      (x.recordRefusal q status).out = x.out ∧ (x.recordRefusal q status).pc = x.pc ∧
      (x.recordRefusal q status).retire = x.retire := by
  obtain ⟨i, t, hform⟩ := x.recordRefusal_form q status
  rw [hform]
  exact ⟨Copy.settle_of_quiet (by exact hwait) (by exact hdbg) e, rfl, rfl, rfl⟩

/-! The line of a FETCH (R107, R178, R180, R181). -/

/-- Words that pass their codes enter the cache as they came. -/
theorem checkLine_of_ok {line : Word} : ∀ {ws : List CWord} {n : Nat},
    (∀ i, i < ws.length → checkWord (listGet cwordZero ws i).data (listGet cwordZero ws i).ecc (wordAddr line (n + i)) = .ok) →
    checkLine line ws n = .inl ws
  | [], _, _ => rfl
  | w :: ws, n, hok => by
    have hfirst : checkWord w.data w.ecc (wordAddr line n) = .ok := hok 0 (Nat.succ_pos _)
    have hword : checkVal w.data w.ecc (wordAddr line n) = some w.data := by rw [checkVal, hfirst]
    have hrest : checkLine line ws (n + 1) = .inl ws := checkLine_of_ok (fun i hi => by
      rw [Nat.add_assoc, Nat.add_comm 1 i]
      exact hok (i + 1) (Nat.succ_lt_succ hi))
    simp [checkLine, hword, hrest, fixWord]

/-- LINE0 of a copy's own FETCH. -/
theorem CopyStep.of_line0 {s : State} {c : CopyId} {h : Hdr} {tag : BitVec 6} {o : Outst} {P : Copy → Prop}
    (haccepts : s.dev.copyAccepts c h) (howner : (s.dev.acceptedCopy c h).owner tag = some o) (hty : o.ty = .fetch)
    (hstop : (s.dev.acceptedCopy c h).stop = none) {line : Word} (hwait : (s.dev.acceptedCopy c h).wait = .fetch line)
    (status : Byte) (lo : Four CWord)
    (hP : P { s.dev.acceptedCopy c h with out := (s.dev.acceptedCopy c h).out.map (fun (o : Outst) =>
      if o.tag = tag then { o with line0 := some (status, lo) } else o) }) :
    CopyStep (.line0 c h tag status lo) s c P := by
  refine CopyStep.of_accepted rfl haccepts ?_
  rw [Copy.response_of_owner howner hty hstop]
  simpa [Copy.settle, hwait] using hP

/-- LINE1 of a copy's own FETCH whose LINE0 is there. -/
theorem CopyStep.of_line1 {s : State} {c : CopyId} {h : Hdr} {tag : BitVec 6} {o : Outst} {P : Copy → Prop}
    (haccepts : s.dev.copyAccepts c h) (howner : (s.dev.acceptedCopy c h).owner tag = some o) (hty : o.ty = .fetch)
    (hstop : (s.dev.acceptedCopy c h).stop = none) {line : Word} (huse : o.use = .fetch line) {st0 : Byte}
    {lo : Four CWord} (hline0 : o.line0 = some (st0, lo)) (hserved : isRefused st0 = false) (status : Byte) (hi : Four CWord)
    (hP : P ((((s.dev.acceptedCopy c h).freed tag).lineReply s.dev.env o line status (fourList lo ++ fourList hi)).settle
      s.dev.env)) :
    CopyStep (.line1 c h tag status hi) s c P := by
  refine CopyStep.of_accepted rfl haccepts ?_
  rw [Copy.response_of_owner howner hty hstop]
  simpa [huse, hline0, hserved] using hP

theorem Copy.lineReply_of_refused {x : Copy} (e : Env) (o : Outst) {line : Word} (hpc : lineOf x.pc = line) {status : Byte}
    (hrefused : isRefused status = true) (ws : List CWord) : x.lineReply e o line status ws =
      ({ x with wait := .none } : Copy).raise e 1 x.pc (refusedAux o.req.csn status) := by
  simp [Copy.lineReply, hrefused, hpc]

/-- A register file that stays shows no write. -/
theorem Copy.wrote_zero_of_x {x y : Copy} (h : y.x = x.x) : x.wrote y 0 0 := by
  intro r
  rw [Copy.xr_congr h]
  by_cases hr : r = 0
  · rw [if_pos hr, hr, Copy.xr_zero]
  · rw [if_neg hr, if_neg hr]

theorem Cache.at_put {L : Type} [DecidableEq L] (c : Cache L) (slot : Nat) (l : Option L) : (c.put slot l).at slot = l :=
  mapGet_mapPut_same ..

/-- What a served line leaves of the copy. -/
theorem Copy.lineReply_served_facts {x : Copy} (hdbg : x.dbg = false) (e : Env) (o : Outst) {line : Word} {status : Byte}
    (hserved : isRefused status = false) {ws : List CWord} (hline : checkLine line ws 0 = .inl ws) {y : Copy}
    (hy : y = (x.lineReply e o line status ws).settle e) :
    y.out = x.out ∧ y.wait = .none ∧ y.pc = x.pc ∧ y.retire = x.retire ∧ x.wrote y 0 0 ∧
      y.icache.at (Cache.slotFor icSets x.icache line) = some ⟨line, ws, parityOf line ws⟩ := by
  have hfill : x.lineReply e o line status ws = ({ x with wait := .none } : Copy).icFill line ws := by
    simp [Copy.lineReply, hserved, hline]
  rw [hfill, Copy.settle_of_quiet (by rfl) (by exact hdbg)] at hy
  subst hy
  exact ⟨rfl, rfl, rfl, rfl, Copy.wrote_zero_of_x rfl, x.icache.at_put ..⟩

/-! The statement. -/

/-- Settles O26, response by response: each one finds its request by the tag, and what it does to the copy is read field by
field. -/
theorem responsesAtCopy : Obligations.ResponsesAtCopy := by
  refine ⟨fun s c h csn tag status w haccepts => ⟨?_, ?_, ?_, ?_⟩, fun s c h tag status lo hi haccepts => ⟨?_, ?_, ?_⟩⟩
  · rintro o k rd a cached len v howner hty rfl huse hwait hstop hdbg hserved hvalue
    refine CopyStep.of_rddata haccepts howner hty hstop status w ?_
    rw [Copy.readReply, huse]
    generalize s.dev.acceptedCopy c h = r at hwait hdbg
    exact Copy.loadReply_value_facts (x := r.freed tag) hwait hdbg _ o k rd cached hserved hvalue rfl
  · rintro o k rd a cached len howner hty rfl huse hwait hstop hdbg z htrap hkeeps
    refine ⟨fun hrefused => ?_, fun hserved hbad => ?_⟩
    · refine CopyStep.of_rddata haccepts howner hty hstop status w ?_
      rw [Copy.readReply, huse]
      dsimp only
      rw [Copy.loadReply_of_refused (x := (s.dev.acceptedCopy c h).freed tag) hwait _ o k rd a cached hrefused]
      exact Copy.settle_raise_entered htrap hkeeps rfl hdbg (by decide) ..
    · refine CopyStep.of_rddata haccepts howner hty hstop status w ?_
      rw [Copy.readReply, huse]
      dsimp only
      rw [Copy.loadReply_of_bad (x := (s.dev.acceptedCopy c h).freed tag) hwait _ o k rd cached hserved hbad]
      exact Copy.settle_raise_entered htrap hkeeps rfl hdbg (by decide) ..
  · rintro o sp howner hty rfl - hstop hdbg hwait
    have hrecord : ∀ {P : Copy → Prop}, isRefused status = true →
        P (((s.dev.acceptedCopy c h).freed tag).recordRefusal o.req status) → CopyStep (.wrack c h o.req.csn tag status) s c P :=
      fun hrefused hP => CopyStep.of_wrack haccepts howner hty hstop status (by
        rw [if_pos hrefused, (Copy.recordRefusal_facts (by exact hwait) (by exact hdbg) o.req status s.dev.env).1]
        exact hP)
    obtain ⟨-, hout, hpc, hretire⟩ := Copy.recordRefusal_facts (x := (s.dev.acceptedCopy c h).freed tag) hwait hdbg o.req
      status s.dev.env
    refine ⟨fun hserved => ?_, fun hrefused hfirst => ?_, fun hrefused hmore => ?_⟩
    · refine CopyStep.of_wrack haccepts howner hty hstop status ?_
      rw [if_neg (by simp [hserved])]
      exact Copy.settle_of_quiet (by exact hwait) (by exact hdbg) _
    · exact hrecord hrefused ⟨hout, (Copy.reqerr_recordRefusal ..).trans (if_pos hfirst),
        fun v hv => Copy.bank_recordRefusal_of_ne _ status hv, hpc, hretire⟩
    · exact hrecord hrefused ⟨hout, (Copy.reqerr_recordRefusal ..).trans (if_neg hmore.ne')⟩
  · intro howner
    exact ⟨CopyStep.of_accepted rfl haccepts (Copy.response_of_unowned howner ..),
      CopyStep.of_accepted rfl haccepts (Copy.response_of_unowned howner ..)⟩
  · intro o howner hty hstop hwait
    exact CopyStep.of_line0 haccepts howner hty hstop hwait status lo ⟨rfl, rfl, rfl, rfl⟩
  · intro o line st0 howner hty hstop hdbg huse hline0 hserved0 hserved hok
    have hline : checkLine line (fourList lo ++ fourList hi) 0 = .inl (fourList lo ++ fourList hi) :=
      checkLine_of_ok (fun i hi => by rw [Nat.zero_add]; exact hok ⟨i, hi⟩)
    refine CopyStep.of_line1 haccepts howner hty hstop huse hline0 hserved0 status hi ?_
    generalize s.dev.acceptedCopy c h = r at hdbg
    exact Copy.lineReply_served_facts (x := r.freed tag) hdbg _ o hserved hline rfl
  · intro o line st0 howner hty hstop hdbg huse hline0 hserved0 hrefused z htrap hkeeps hpc
    refine CopyStep.of_line1 haccepts howner hty hstop huse hline0 hserved0 status hi ?_
    rw [Copy.lineReply_of_refused (x := (s.dev.acceptedCopy c h).freed tag) _ o hpc hrefused]
    exact Copy.settle_raise_entered htrap hkeeps rfl hdbg (by decide) ..

end Sys2Proof.Machine

namespace Sys2Proof.Machine

open Sys2Proof

/-! A debug command that goes out behind a full window (R120, R441). -/

/-- The hub's end of a link with 128 write responses that the copy has not acknowledged yet. -/
def spilledLink : HubLink :=
  let flits := (List.range 128).map (fun n => (BitVec.ofNat 12 n, HubFlit.wrack (BitVec.ofNat 32 n) 0 stServed))
  { Dev.linkReset with side := { Dev.sideReset HubFlit with txSeq := 128, unacked := flits } }

/-- A running hub in HALTED whose link A is active and stands so. -/
def haltedDev : Dev :=
  ({ Dev.reset with phase := .run, links := (Tri.const Dev.linkReset).set 0 spilledLink }.setReg Reg.dbg_STAT 1).setLstate 0 7

/-- Refutes O27: the DBGCMD flit of a READ_PC is the 129th unacknowledged flit of link A, so its departure raises that link's
SPILLPK_H register from 0 to 1, where the statement keeps every register for each command but STEP. -/
theorem not_debug : ¬ Obligations.Debug := by
  unfold Obligations.Debug
  intro h
  let s : State := ⟨[], haltedDev⟩
  have hlets : s.dev.letsWrite .hub Reg.dbg_CMD := by
    refine ⟨?_, ?_, ?_, ?_, ?_⟩ <;> decide +kernel
  have hidle : s.dev.reg (Reg.linkx_SPILLPK_H 0) = 0 := by decide +kernel
  have hspills : Completes (.dbgReadPc .hub) s (fun d => d.reg (Reg.linkx_SPILLPK_H 0) = 1) := ⟨_, rfl, by decide +kernel⟩
  obtain ⟨-, hcommand, -⟩ := h.2 s .hub 0 (.dbgReadPc .hub)
  obtain ⟨hhalted, -⟩ := hcommand 5 0 (by simp) hlets
  obtain ⟨d, hraised, -, -, -, -, -, -, hregs, -⟩ := hspills.agree (hhalted (by decide +kernel))
  have hkept : d.reg (Reg.linkx_SPILLPK_H 0) = s.dev.reg (Reg.linkx_SPILLPK_H 0) := by
    rw [Dev.reg, Dev.reg, hregs (by decide)]
  exact absurd (hraised.symm.trans (hkept.trans hidle)) (by decide)

end Sys2Proof.Machine

namespace Sys2Proof.Machine

open Sys2Proof

/-! A request that joins an open compare entry which every copy in service counts as answered. -/

/-- An open entry of CSN 0 without any request, marked as answered to every copy. -/
def answeredEntry : CmpEntry :=
  { csn := 0, first := 0, arr := Tri.const none, agreed := Tri.const none, stage := .opened, winner := 0, safeDone := false,
    relAt := 0, delayed := false, refusal := none, flits := [], answered := Tri.const true }

/-- A running hub with that entry and copy A alone in service, whose link is active and has one grant. -/
def answeredDev : Dev :=
  ({ Dev.reset with phase := .run, cmp := [answeredEntry], links := Tri.const { Dev.linkReset with grant := 1 } }.setReg
    Reg.sys_SVCLVL 0x100).setLstate 0 7

/-- Refutes O46: the statement asks of the entry that a request joins only that it is open and has none of this copy, and not
that a copy in service still waits for its answer; an open entry that is marked as answered to all of them is dropped when the
request of copy A has joined it, and is no longer found. (The model itself marks only executed and discarded entries as
answered.) -/
theorem not_requestsArrive : ¬ Obligations.RequestsArrive := by
  unfold Obligations.RequestsArrive
  intro h
  let s : State := ⟨[], answeredDev⟩
  let q : Req := ⟨0, 0, 0, .iron, 0, 0, false, 0xF, 0x20000000, 0, 0, 0⟩
  have hdrops : Completes (.read 0 ⟨0, 0⟩ q) s (fun d => d.findCmp 0 = none) := ⟨_, rfl, by decide +kernel⟩
  obtain ⟨hnew, -⟩ := h s 0 ⟨0, 0⟩ q .read (.read 0 ⟨0, 0⟩ q) ⟨by decide +kernel, by decide +kernel⟩ (by simp)
    (by decide +kernel)
  obtain ⟨-, hjoins⟩ := hnew rfl (by decide +kernel) (by decide +kernel)
  obtain ⟨d, hgone, hfound, -⟩ := hdrops.agree (hjoins answeredEntry (by decide +kernel) rfl rfl)
  rw [hgone] at hfound
  exact absurd hfound (by simp)

end Sys2Proof.Machine

namespace Sys2Proof.Machine

open Sys2Proof

/-! Deliveries and the release at a copy (R148, R161 to R167, R227). -/

/-- The header of an accepted flit changes the link's end of the copy alone, and the SEQ that it expects rises by one. -/
theorem Dev.acceptedCopy_form (d : Dev) (c : CopyId) (h : Hdr) :
    ∃ sd, d.acceptedCopy c h = { d.copy c with side := sd } ∧ sd.expSeq = (d.copy c).side.expSeq + 1 := by
  refine ⟨_, rfl, ?_⟩
  rw [← Copy.takeAck_expSeq (d.copy c) h.ack d.now, LinkSide.accept]
  split
  · rfl
  · rfl

/-- An accepted flit that means nothing more to copy `c` leaves what its header leaves. -/
theorem CopyStep.of_header {i : Instr} {s : State} {c : CopyId} {h : Hdr} {k : Dev → Dev}
    (hexec : exec i s = s.run (Dev.copyRx c h k)) (haccepts : s.dev.copyAccepts c h) (hk : ∀ d, k d = d) :
    CopyStep i s c (fun y => y = s.dev.acceptedCopy c h) :=
  ⟨_, by rw [hexec, State.run, Dev.copyRx_of_accepts haccepts, hk], rfl⟩

/-! PROPOSE, REPLACE and CONFIRM (R164 to R166). -/

/-- The copy that keeps delivery `a`, or none, as the outcome of the proposal `id`. -/
def Copy.proposed (x : Copy) (a : Option Armed) (id : Byte) : Copy := { x with armed := a, lastDrp := id }

theorem Copy.propose_of_le {x : Copy} {p : BitVec 48} (hle : (p - x.retire).toNat < 2 ^ 47) (now : Nat) (id : Byte)
    (ev : Events) : x.propose now id p ev = (x.proposed (some ⟨id, p, ev, false⟩) id).send now 0 (.retrep x.retire id 1) := by
  have hreach : retireLe x.retire p = true := decide_eq_true hle
  simp only [Copy.propose, hreach, if_true, Copy.proposed]

theorem Copy.propose_of_passed {x : Copy} {p : BitVec 48} (hpast : 2 ^ 47 ≤ (p - x.retire).toNat) (now : Nat) (id : Byte)
    (ev : Events) : x.propose now id p ev = (x.proposed none id).send now 0 (.retrep x.retire id 2) := by
  have hreach : retireLe x.retire p = false := decide_eq_false (Nat.not_lt.2 hpast)
  simp only [Copy.propose, hreach, Bool.false_eq_true, if_false, Copy.proposed]

/-- The answer to a proposal waits for its ACK, and the core goes on as it was. -/
theorem Copy.proposed_send_facts {x : Copy} (hstop : x.stop = none) (a : Option Armed) (id : Byte) (now : Nat)
    (f : CopyFlit) : ∃ y, (x.proposed a id).send now 0 f = y ∧ y.armed = a ∧ y.lastDrp = id ∧ y.side.holds f ∧
      y.retire = x.retire ∧ y.pc = x.pc ∧ x.wrote y 0 0 := by
  have hholds := Copy.holds_send_self (x := x.proposed a id) hstop now 0 f
  obtain ⟨sd, st, hsent⟩ := (x.proposed a id).send_form now 0 f
  rw [hsent] at hholds
  exact ⟨_, hsent, rfl, rfl, hholds, rfl, rfl, Copy.wrote_zero_of_x rfl⟩

/-- PROPOSE and REPLACE are the same command to a copy. -/
theorem CopyStep.of_propose {i : Instr} {s : State} {c : CopyId} {h : Hdr} {id : Byte} {p : BitVec 48} {ev : Events}
    {P : Copy → Prop} (hi : i = .drpPropose c h id p ev ∨ i = .drpReplace c h id p ev) (haccepts : s.dev.copyAccepts c h)
    (hP : P ((s.dev.acceptedCopy c h).propose s.dev.now id p ev)) : CopyStep i s c P := by
  rcases hi with rfl | rfl
  · exact CopyStep.of_accepted (f := fun e x => x.propose e.now id p ev) rfl haccepts hP
  · exact CopyStep.of_accepted (f := fun e x => x.propose e.now id p ev) rfl haccepts hP

/-- The copy after a CONFIRM of delivery `id` (R166). -/
def Copy.confirmed (x : Copy) (id : Byte) : Copy :=
  { x with lastDrp := id, armed := x.armed.map (fun a => if a.id = id then { a with confirmed := true } else a) }

theorem CopyStep.of_confirm {s : State} {c : CopyId} {h : Hdr} {id : Byte} {P : Copy → Prop}
    (haccepts : s.dev.copyAccepts c h) (hP : P ((s.dev.acceptedCopy c h).confirmed id)) :
    CopyStep (.drpConfirm c h id) s c P :=
  CopyStep.of_accepted (f := fun _ x => x.confirmed id) rfl haccepts hP

/-! The instruction at which a confirmed delivery takes effect (R166, R210, R212). -/

theorem Copy.atPoint_of_confirmed {x : Copy} {a : Armed} (harmed : x.armed = some a) (hconfirmed : a.confirmed = true)
    (hretired : x.retire = a.d + 1) (hruns : x.runs = true) : x.atPoint = true := by
  simp [Copy.atPoint, harmed, hconfirmed, hretired, hruns]

/-- The events of a confirmed delivery become pending once its instruction has retired. -/
theorem CopyStep.of_retirePoint {s : State} {c : CopyId} {a : Armed} {P : Copy → Prop}
    (harmed : (s.dev.copy c).armed = some a) (hpoint : (s.dev.copy c).atPoint = true)
    (hP : P (((s.dev.copy c).markEvents s.dev.env a).debugEvent s.dev.env)) : CopyStep (.deliveryRetirePoint c) s c P := by
  refine ⟨_, ?_, hP⟩
  change execDeliveryRetirePoint c s = _
  unfold Dev.copy at harmed hpoint
  simp only [execDeliveryRetirePoint, State.run, Dev.core, Dev.updCopy, Tri.upd, harmed, hpoint, if_true]
  rfl

theorem Copy.debugEvent_of_noDbg {x : Copy} (hdbg : x.dbg = false) (e : Env) : x.debugEvent e = x := by
  simp [Copy.debugEvent, hdbg]

theorem Copy.debugEvent_of_settled {x : Copy} (hdbg : x.dbg = true) (hsettled : x.settled) (e : Env) :
    x.debugEvent e = x.enterDebug e.now := by
  obtain ⟨hdrained, hrefusals⟩ := hsettled
  simp [Copy.debugEvent, hdbg, hdrained, hrefusals]

/-- The events change the page events of the banks, and no response or refusal. -/
theorem Copy.settled_markEvents {x : Copy} (hsettled : x.settled) (e : Env) (a : Armed) : (x.markEvents e a).settled := by
  obtain ⟨hdrained, hrefusals⟩ := hsettled
  refine ⟨hdrained, ?_⟩
  have hworld : (x.markEvents e a).world = x.world := rfl
  have hbank : ∀ w, ((x.markEvents e a).bank w).reqerr = (x.bank w).reqerr := fun w => by cases w <;> rfl
  rw [Copy.refusals, hworld, hbank]
  exact hrefusals

theorem Copy.enterDebug_facts (x : Copy) (now : Nat) : (x.enterDebug now).debug = true ∧ (x.enterDebug now).dbg = false ∧
    (x.enterDebug now).armed = x.armed ∧ (x.enterDebug now).pc = x.pc ∧ (x.enterDebug now).retire = x.retire := by
  obtain ⟨_, _, hsent⟩ := Copy.send_form { x with debug := true, dbg := false, step := none } now 0 (.dbgrsp 0 0 0 0 x.retire)
  rw [Copy.enterDebug, hsent]
  exact ⟨rfl, rfl, rfl, rfl, rfl⟩

/-- Settles O24, command by command: AGREED is kept, a proposal is answered by the distance of its D from the retire count,
CONFIRM marks the armed delivery of its number, and the retire point takes the events with or without a debug entry. -/
theorem copyDeliveries : Obligations.CopyDeliveries := by
  refine fun s c h id p ev m => ⟨fun haccepts => ⟨?_, ?_, ?_, ?_⟩, ?_, ?_⟩
  · exact CopyStep.of_accepted (f := fun _ x => { x with agreedIn := m }) rfl haccepts rfl
  · intro i hi hstop
    obtain ⟨sd, hform, -⟩ := s.dev.acceptedCopy_form c h
    have hanswer := Copy.proposed_send_facts (x := { s.dev.copy c with side := sd }) hstop
    refine ⟨fun hle => CopyStep.of_propose hi haccepts ?_, fun hpast => CopyStep.of_propose hi haccepts ?_⟩
    · obtain ⟨y, hy, hfacts⟩ := hanswer (some ⟨id, p, ev, false⟩) id s.dev.now (.retrep (s.dev.copy c).retire id 1)
      rw [hform, Copy.propose_of_le (by exact hle), hy]
      exact hfacts
    · obtain ⟨y, hy, harmed, hlast, hholds, hretire, hpc, -⟩ :=
        hanswer none id s.dev.now (.retrep (s.dev.copy c).retire id 2)
      rw [hform, Copy.propose_of_passed (by exact hpast), hy]
      exact ⟨harmed, hlast, hholds, hretire, hpc⟩
  · intro a harmed hid
    have harmed' : (s.dev.acceptedCopy c h).armed = some a := harmed
    refine CopyStep.of_confirm haccepts ?_
    simp only [Copy.confirmed, harmed', Option.map_some, hid, if_true]
  · intro a harmed hid
    have harmed' : (s.dev.acceptedCopy c h).armed = some a := harmed
    refine CopyStep.of_confirm haccepts ?_
    simp only [Copy.confirmed, harmed', Option.map_some, hid, if_false]
  · intro a harmed hconfirmed hretired hruns hdbg hnodbg
    refine CopyStep.of_retirePoint harmed (Copy.atPoint_of_confirmed harmed hconfirmed hretired hruns) ?_
    rw [Copy.debugEvent_of_noDbg (by simp [Copy.markEvents, hdbg, hnodbg])]
    exact ⟨rfl, rfl, rfl, rfl, rfl, rfl, rfl, rfl, rfl, rfl, Copy.wrote_zero_of_x rfl⟩
  · intro a harmed hconfirmed hretired hruns hevent hsettled
    refine CopyStep.of_retirePoint harmed (Copy.atPoint_of_confirmed harmed hconfirmed hretired hruns) ?_
    rw [Copy.debugEvent_of_settled (by simp [Copy.markEvents, hevent]) (Copy.settled_markEvents hsettled ..)]
    obtain ⟨hdebug, hnodbg, hnone, hpc, hcount⟩ := ((s.dev.copy c).markEvents s.dev.env a).enterDebug_facts s.dev.env.now
    exact ⟨hnone, hdebug, hnodbg, hpc, hcount⟩

/-! The release (R148, R227, R231). -/

theorem Copy.xr_atRelease (x : Copy) (r : BitVec 5) : x.atRelease.xr r = 0 := by
  have hfile : x.atRelease.x = Vector.replicate 32 0 := rfl
  unfold Copy.xr
  split
  · rfl
  · simp [hfile]

/-- COREREL is the release of a copy of RELSET. -/
theorem CopyStep.of_release {s : State} {c : CopyId} {h : Hdr} {relset : BitVec 3} (hin : relset.getLsbD c.val = true)
    (haccepts : s.dev.copyAccepts c h) (frame : Word) (gen : Byte) (level : BitVec 2) {P : Copy → Prop}
    (hP : P (s.dev.acceptedCopy c h).atRelease) : CopyStep (.corerel c h frame relset gen level) s c P := by
  refine CopyStep.of_accepted (f := fun _ x => x.atRelease) ?_ haccepts hP
  change execCorerel c h frame relset gen level s = _
  simp only [execCorerel, dueIf, hin, if_true]
  rfl

/-- Settles O25: every field of a released copy is that of the reset state or goes on. -/
theorem copyRelease : Obligations.CopyRelease := by
  intro s c h frame relset gen level haccepts
  refine ⟨fun hin => CopyStep.of_release hin haccepts frame gen level ?_, fun hout => ?_⟩
  · obtain ⟨hpowered, hactive, -⟩ := haccepts
    obtain ⟨sd, hform, hseq⟩ := s.dev.acceptedCopy_form c h
    rw [hform]
    exact ⟨rfl, hpowered, rfl, rfl, rfl, rfl, rfl, rfl, rfl, rfl, rfl, rfl, rfl, rfl, rfl, rfl, rfl, rfl, rfl, rfl, rfl, rfl,
      rfl, rfl, Copy.xr_atRelease _, rfl, rfl, hactive, hseq⟩
  · exact CopyStep.of_header rfl haccepts (fun d => by simp only [dueIf, hout, Bool.false_eq_true, if_false])

end Sys2Proof.Machine

namespace Sys2Proof.Machine

open Sys2Proof

/-! What the hub sends on its links (R118, R120, R133): of the device only the links and the peaks of their spill RAM change,
and a flit that an end holds it keeps. -/

theorem Dev.link_updLink (d : Dev) (c x : CopyId) (f : HubLink → HubLink) :
    (d.updLink c f).link x = if x = c then f (d.link c) else d.link x :=
  Tri.get_set d.links c x _

theorem Dev.reg_updLink (d : Dev) (c : CopyId) (f : HubLink → HubLink) (k : Nat) : (d.updLink c f).reg k = d.reg k := by
  rw [Dev.reg, Dev.reg, Dev.updLink_regs]

theorem Dev.reg_updAgr (d : Dev) (f : Agree → Agree) (k : Nat) : (d.updAgr f).reg k = d.reg k := by
  rw [Dev.reg, Dev.reg, Dev.updAgr_regs]

theorem Dev.link_setReg (d : Dev) (k : Nat) (v : Word) (c : CopyId) : (d.setReg k v).link c = d.link c := by
  rw [Dev.link, Dev.link, Dev.setReg_links]

/-- The registers that hold the peak of a link's spill RAM (R120). -/
def spillKey (k : Nat) : Prop := ∃ c : CopyId, k = Reg.linkx_SPILLPK_H c.val

theorem not_spillKey_of_offset {k : Nat} (h : k % 0x1000 ≠ 0x68) : ¬ spillKey k := by
  rintro ⟨c, rfl⟩
  unfold Reg.linkx_SPILLPK_H at h
  omega

theorem not_spillKey_of_lt {k : Nat} (h : k < 0xE000) : ¬ spillKey k := by
  rintro ⟨c, rfl⟩
  unfold Reg.linkx_SPILLPK_H at h
  omega

theorem not_spillKey_STAT (c : CopyId) : ¬ spillKey (Reg.linkx_STAT c.val) :=
  not_spillKey_of_offset (by unfold Reg.linkx_STAT; omega)

/-- From `d` to `e` the hub has sent on its links. -/
structure Dev.SendStep (d e : Dev) : Prop where
  agr : e.agr = d.agr
  copies : e.copies = d.copies
  mem : e.mem = d.mem
  reg : ∀ k, ¬ spillKey k → e.reg k = d.reg k
  keeps : ∀ c f, (d.link c).side.holds f → (e.link c).side.holds f

namespace Dev.SendStep

theorem refl (d : Dev) : d.SendStep d := ⟨rfl, rfl, rfl, fun _ _ => rfl, fun _ _ hf => hf⟩

theorem trans {d e f : Dev} (h : d.SendStep e) (h' : e.SendStep f) : d.SendStep f :=
  ⟨h'.agr.trans h.agr, h'.copies.trans h.copies, h'.mem.trans h.mem, fun k hk => (h'.reg k hk).trans (h.reg k hk),
    fun c g hg => h'.keeps c g (h.keeps c g hg)⟩

theorem updLink (d : Dev) {c : CopyId} {g : HubLink → HubLink}
    (hkeeps : ∀ f, (d.link c).side.holds f → (g (d.link c)).side.holds f) : d.SendStep (d.updLink c g) := by
  refine ⟨Dev.updLink_agr .., Dev.updLink_copies .., Dev.updLink_mem .., fun k _ => d.reg_updLink c g k, fun x f hf => ?_⟩
  rw [Dev.link_updLink]
  split
  case isTrue hx => exact hkeeps f (hx ▸ hf)
  case isFalse => exact hf

theorem setSpill (d : Dev) (c : CopyId) (v : Word) : d.SendStep (d.setReg (Reg.linkx_SPILLPK_H c.val) v) := by
  refine ⟨Dev.setReg_agr .., Dev.setReg_copies .., Dev.setReg_mem .., fun k hk => ?_, fun x f hf => ?_⟩
  · rw [Dev.reg_setReg, if_neg (fun heq => hk ⟨c, heq⟩)]
  · rwa [Dev.link_setReg]

end Dev.SendStep

/-- Links are live by their LSTATE alone. -/
theorem Dev.liveLink_congr {d e : Dev} (h : ∀ c : CopyId, e.reg (Reg.linkx_STAT c.val) = d.reg (Reg.linkx_STAT c.val)) :
    e.liveLink = d.liveLink := by
  funext c
  simp only [Dev.liveLink, Dev.lstate, Dev.rfld, h]

theorem Dev.SendStep.liveLink {d e : Dev} (h : d.SendStep e) : e.liveLink = d.liveLink :=
  Dev.liveLink_congr (fun c => h.reg _ (not_spillKey_STAT c))

theorem Dev.mem_liveLinks {d : Dev} {c : CopyId} : c ∈ d.liveLinks ↔ d.liveLink c = true := by
  have hall : c ∈ copyIds := by revert c; decide
  simp [Dev.liveLinks, hall]

theorem HubLink.dropPlace_side (L : HubLink) (cls : BitVec 2) : (L.dropPlace cls).side = L.side := by
  unfold HubLink.dropPlace
  split
  · rfl
  · split
    · rfl
    · rfl

theorem HubLink.sent_side (L : HubLink) (x : BitVec 2 × HubFlit) : (L.sent x).side = L.side := by
  unfold HubLink.sent
  split
  · dsimp only
    split
    · exact L.dropPlace_side x.1
    · exact L.dropPlace_side x.1
  · rfl

theorem HubLink.sentAll_side : ∀ (xs : List (BitVec 2 × HubFlit)) (L : HubLink), (xs.foldl HubLink.sent L).side = L.side
  | [], _ => rfl
  | x :: xs, L => (HubLink.sentAll_side xs (L.sent x)).trans (L.sent_side x)

/-- The end of link `c` after its queue has been sent as far as the window allows. -/
def Dev.drained (d : Dev) (c : CopyId) : LinkSide HubFlit :=
  (d.link c).side.drain d.now (tmrTmo d.hubTmr) d.hubWindow

/-- The hub's end of link `c` with that: the responses that left gave their places back (R128, R136). -/
def Dev.drainedLink (d : Dev) (c : CopyId) : HubLink :=
  let gone := (d.link c).side.queue.take ((d.link c).side.queue.length - (d.drained c).queue.length)
  let L := gone.foldl HubLink.sent { d.link c with side := d.drained c }
  { L with guardWait := if guardWaiting (d.drained c).queue ≤ 80 then none else L.guardWait }

theorem Dev.drainedLink_side (d : Dev) (c : CopyId) : (d.drainedLink c).side = d.drained c := HubLink.sentAll_side ..

/-- The hub's drain of an active link is that of its end, and may raise the spill peak. -/
theorem Dev.hubDrain_form {d : Dev} {c : CopyId} (hactive : d.lstate c = 7) :
    d.hubDrain c = d.updLink c (fun _ => d.drainedLink c) ∨
      ∃ v, d.hubDrain c = (d.updLink c (fun _ => d.drainedLink c)).setReg (Reg.linkx_SPILLPK_H c.val) v := by
  have hform : d.hubDrain c =
      if (d.updLink c (fun _ => d.drainedLink c)).rfld (Reg.linkx_SPILLPK_H c.val) 11 0 < (d.drained c).unacked.length - 128
      then (d.updLink c (fun _ => d.drainedLink c)).setReg (Reg.linkx_SPILLPK_H c.val)
        (toWord ((d.drained c).unacked.length - 128))
      else d.updLink c (fun _ => d.drainedLink c) := if_pos hactive
  rw [hform]
  split
  · exact .inr ⟨_, rfl⟩
  · exact .inl rfl

/-- Of an inactive link nothing is sent. -/
theorem Dev.hubDrain_of_inactive {d : Dev} {c : CopyId} (hinactive : d.lstate c ≠ 7) : d.hubDrain c = d := if_neg hinactive

namespace Dev.SendStep

theorem hubDrain (d : Dev) (c : CopyId) : d.SendStep (d.hubDrain c) := by
  by_cases hactive : d.lstate c = 7
  · have hlink : d.SendStep (d.updLink c (fun _ => d.drainedLink c)) :=
      updLink d (fun f hf => by rw [Dev.drainedLink_side]; exact hf.drain ..)
    rcases Dev.hubDrain_form hactive with hform | ⟨v, hform⟩
    · rw [hform]; exact hlink
    · rw [hform]; exact hlink.trans (setSpill _ c v)
  · rw [Dev.hubDrain_of_inactive hactive]
    exact refl d

end Dev.SendStep

/-- A drain leaves the expected SEQ of every link. -/
theorem Dev.expSeq_hubDrain (d : Dev) (c x : CopyId) : ((d.hubDrain c).link x).side.expSeq = (d.link x).side.expSeq := by
  by_cases hactive : d.lstate c = 7
  · have hlink : ((d.updLink c (fun _ => d.drainedLink c)).link x).side.expSeq = (d.link x).side.expSeq := by
      rw [Dev.link_updLink]
      split
      case isTrue hx => rw [Dev.drainedLink_side, hx]; rfl
      case isFalse => rfl
    rcases Dev.hubDrain_form hactive with hform | ⟨v, hform⟩
    · rw [hform, hlink]
    · rw [hform, Dev.link_setReg, hlink]
  · rw [Dev.hubDrain_of_inactive hactive]

/-- The device in which flit `f` waits in the queue of link `c`, and the guard's wait is noted (R136). -/
def Dev.enqueued (d : Dev) (c : CopyId) (cls : BitVec 2) (f : HubFlit) : Dev :=
  (d.updLink c (fun L => { L with side := L.side.enqueue cls f })).updLink c (fun L =>
    if guardWaiting L.side.queue > 80 && L.guardWait.isNone then { L with guardWait := some d.now } else L)

theorem Dev.hubTx_of_live {d : Dev} {c : CopyId} (hlive : d.liveLink c = true) (cls : BitVec 2) (f : HubFlit) :
    Dev.hubTx c cls f d = (d.enqueued c cls f).hubDrain c := by
  unfold Dev.hubTx
  rw [if_pos hlive]
  rfl

theorem Dev.side_enqueued (d : Dev) (c : CopyId) (cls : BitVec 2) (f : HubFlit) :
    ((d.enqueued c cls f).link c).side = (d.link c).side.enqueue cls f := by
  rw [Dev.enqueued, Dev.link_updLink, if_pos rfl, Dev.link_updLink, if_pos rfl]
  split
  · rfl
  · rfl

namespace Dev.SendStep

theorem enqueued (d : Dev) (c : CopyId) (cls : BitVec 2) (f : HubFlit) : d.SendStep (d.enqueued c cls f) := by
  refine (updLink d (fun g hg => hg.enqueue cls f)).trans (updLink _ (fun g hg => ?_))
  split
  · exact hg
  · exact hg

theorem hubTx (d : Dev) (c : CopyId) (cls : BitVec 2) (f : HubFlit) : d.SendStep (d.hubTx c cls f) := by
  by_cases hlive : d.liveLink c = true
  · rw [Dev.hubTx_of_live hlive]
    exact (enqueued d c cls f).trans (hubDrain _ c)
  · rw [Dev.hubTx, if_neg hlive]
    exact refl d

end Dev.SendStep

theorem Dev.holds_hubTx {d : Dev} {c : CopyId} (hlive : d.liveLink c = true) (cls : BitVec 2) (f : HubFlit) :
    ((d.hubTx c cls f).link c).side.holds f := by
  rw [Dev.hubTx_of_live hlive]
  refine (Dev.SendStep.hubDrain _ c).keeps c f ?_
  rw [Dev.side_enqueued]
  exact LinkSide.holds_enqueue_self ..

/-- A message on live links is held by each of them. -/
theorem Dev.each_hubTx_sends (cls : BitVec 2) (f : HubFlit) : ∀ (cs : List CopyId) (d : Dev),
    (∀ c ∈ cs, d.liveLink c = true) → d.SendStep (Dev.each (fun c d => d.hubTx c cls f) cs d) ∧
      ∀ c ∈ cs, ((Dev.each (fun c d => d.hubTx c cls f) cs d).link c).side.holds f
  | [], d, _ => ⟨Dev.SendStep.refl d, by simp⟩
  | c :: cs, d, hlive => by
    have hfirst := Dev.SendStep.hubTx d c cls f
    obtain ⟨hstep, hrest⟩ := Dev.each_hubTx_sends cls f cs (d.hubTx c cls f)
      (fun x hx => by rw [hfirst.liveLink]; exact hlive x (List.mem_cons_of_mem c hx))
    refine ⟨hfirst.trans hstep, fun x hx => ?_⟩
    rcases List.mem_cons.1 hx with rfl | hx
    · exact hstep.keeps x f (Dev.holds_hubTx (hlive x List.mem_cons_self) cls f)
    · exact hrest x hx

/-- A hub-originated message (R133). -/
theorem Dev.SendStep.hubAll (d : Dev) (cls : BitVec 2) (f : HubFlit) : d.SendStep (d.hubAll cls f) :=
  (Dev.each_hubTx_sends cls f d.liveLinks d (fun _ hc => Dev.mem_liveLinks.1 hc)).1

theorem Dev.holds_hubAll (d : Dev) (cls : BitVec 2) (f : HubFlit) {c : CopyId} (hc : c ∈ d.liveLinks) :
    ((d.hubAll cls f).link c).side.holds f :=
  (Dev.each_hubTx_sends cls f d.liveLinks d (fun _ hc => Dev.mem_liveLinks.1 hc)).2 c hc

/-! The acceptance of a sequenced flit at the hub (R114). -/

theorem Dev.expSeq_hubAck (d : Dev) (c : CopyId) (a : BitVec 12) :
    ((d.hubAck c a).link c).side.expSeq = (d.link c).side.expSeq := by
  unfold Dev.hubAck
  dsimp only
  rw [Dev.expSeq_hubDrain]
  have htaken : ∀ d' : Dev, d'.links = (d.updLink c (fun L =>
      { L with side := { ((d.link c).side.takeAck a d.now (tmrTmo d.hubTmr)).1 with lastGood := d.now } })).links →
      (d'.link c).side.expSeq = (d.link c).side.expSeq := fun d' hlinks => by
    rw [Dev.link, hlinks, ← Dev.link, Dev.link_updLink, if_pos rfl]
    exact LinkSide.takeAck_expSeq ..
  split
  · exact htaken _ (Dev.setReg_links ..)
  · exact htaken _ rfl

/-- A flit that is accepted acts on the device that has taken its header. -/
theorem Dev.hubRx_of_accepts {d : Dev} {c : CopyId} {h : Hdr} (haccepts : d.hubAccepts c h) (k : Dev → Dev) :
    Dev.hubRx c h k d = k (d.acceptedHub c h) := by
  obtain ⟨hactive, hseq⟩ := haccepts
  simp [Dev.hubRx, Dev.acceptedHub, hactive, seqCheck, Dev.expSeq_hubAck, hseq]

theorem Completes.of_hubRx {i : Instr} {s : State} {c : CopyId} {h : Hdr} {k : Dev → Dev} {P : Dev → Prop}
    (hexec : exec i s = s.run (Dev.hubRx c h k)) (haccepts : s.dev.hubAccepts c h) (hP : P (k (s.dev.acceptedHub c h))) :
    Completes i s P :=
  ⟨_, by rw [hexec, State.run, Dev.hubRx_of_accepts haccepts], hP⟩

/-! The retire counts that the hub has seen (R161, R188). -/

/-- The device that has seen retire count `r`. -/
def Dev.seen (d : Dev) (r : BitVec 48) : Dev :=
  { d with agr := { d.agr with maxRetire := if retireLe r d.agr.maxRetire then d.agr.maxRetire else r } }

theorem Dev.sawRetire_of_inSvc {d : Dev} {c : CopyId} (hsvc : d.inSvc c = true) (r : BitVec 48) :
    d.sawRetire c r = d.seen r := if_pos hsvc

theorem Dev.inSvc_congr {d e : Dev} (h : e.reg Reg.sys_SVCLVL = d.reg Reg.sys_SVCLVL) : e.inSvc = d.inSvc := by
  funext c
  rw [Dev.inSvc, Dev.inSvc, Dev.rbit, Dev.rbit, h]

theorem Dev.inSvc_seen (d : Dev) (r : BitVec 48) : (d.seen r).inSvc = d.inSvc := Dev.inSvc_congr rfl

theorem Dev.liveLinks_seen (d : Dev) (r : BitVec 48) : (d.seen r).liveLinks = d.liveLinks :=
  congrArg (copyIds.filter ·) (Dev.liveLink_congr (fun _ => rfl))

theorem Dev.answers_of_open {d : Dev} {c : CopyId} {x : Delivery} (hsvc : d.inSvc c = true) (hopen : d.agr.dlv = some x) :
    d.answers c x.id = true := by
  simp [Dev.answers, hsvc, hopen]

theorem Dev.answers_of_other {d : Dev} {x : Delivery} {id : Byte} (hopen : d.agr.dlv = some x) (hid : x.id ≠ id)
    (c : CopyId) : d.answers c id = false := by
  simp [Dev.answers, hopen, hid]

/-! The opening of a delivery (R163, R167 to R169). -/

/-- The delivery that opens now, with the frame of the AGR that it carries. -/
def Dev.opening (d : Dev) (frame : Option (BitVec 48)) : Delivery :=
  ⟨d.agr.nextId, d.dlvPoint, d.pendEvents, frame, Tri.const false⟩

/-- The device in which delivery `x` is open, before its PROPOSE goes out. -/
def Dev.holding (d : Dev) (x : Delivery) : Dev :=
  let d1 := d.updAgr (fun a => { a with
    nextId := x.id + 1, tckPend := false, dbgPend := false, drpUsed := a.drpUsed + 1, dlv := some x })
  ((d1.setReg Reg.irqd_DLVD_LO (d1.reg Reg.irqd_DLVD_LO ||| lo32 x.ev.pages.toNat)).setReg Reg.irqd_DLVD_HI
    (d1.reg Reg.irqd_DLVD_HI ||| hi32 x.ev.pages.toNat)).setBitR Reg.agree_DLVSTAT 8 true

/-- The opening of a delivery: an AGREED goes out first where the delivery carries AGR, then the PROPOSE. -/
theorem Dev.dlvOpen_form (d : Dev) : ∃ d1 frame pend used,
    (d.updAgr (fun a => { a with agrPend := pend, agreedUsed := used })).SendStep d1 ∧
      d.dlvOpen = (d1.holding (d.opening frame)).hubAll 0 (.drp 0 d.agr.nextId d.dlvPoint d.pendEvents) := by
  unfold Dev.dlvOpen
  dsimp only
  split
  · split
    · exact ⟨_, _, _, _, Dev.SendStep.hubAll _ 0 _, rfl⟩
    · exact ⟨d, none, d.agr.agrPend, d.agr.agreedUsed, Dev.SendStep.refl d, rfl⟩
  · exact ⟨d, none, d.agr.agrPend, d.agr.agreedUsed, Dev.SendStep.refl d, rfl⟩

theorem Dev.holding_agr (d : Dev) (x : Delivery) : (d.holding x).agr = { d.agr with
    nextId := x.id + 1, tckPend := false, dbgPend := false, drpUsed := d.agr.drpUsed + 1, dlv := some x } := by
  simp only [Dev.holding, Dev.setBitR_agr, Dev.setReg_agr]
  rfl

theorem Dev.holding_copies (d : Dev) (x : Delivery) : (d.holding x).copies = d.copies := by
  simp only [Dev.holding, Dev.setBitR_copies, Dev.setReg_copies, Dev.updAgr_copies]

theorem Dev.holding_mem (d : Dev) (x : Delivery) : (d.holding x).mem = d.mem := by
  simp only [Dev.holding, Dev.setBitR_mem, Dev.setReg_mem, Dev.updAgr_mem]

theorem Dev.reg_holding_of_ne (d : Dev) (x : Delivery) {k : Nat}
    (hk : k ∉ [Reg.irqd_DLVD_LO, Reg.irqd_DLVD_HI, Reg.agree_DLVSTAT]) : (d.holding x).reg k = d.reg k := by
  simp only [List.mem_cons, List.not_mem_nil, or_false, not_or] at hk
  obtain ⟨hlo, hhi, hstat⟩ := hk
  simp only [Dev.holding, Dev.setBitR, Dev.reg_setReg, hlo, hhi, hstat, if_false, Dev.reg_updAgr]

theorem Dev.rbit_holding (d : Dev) (x : Delivery) : (d.holding x).rbit Reg.agree_DLVSTAT 8 = true := by
  rw [Dev.rbit, Dev.holding, Dev.setBitR, Dev.reg_setReg, if_pos rfl, bitOf_setBit_same _ (by decide)]

theorem Dev.liveLink_holding (d : Dev) (x : Delivery) : (d.holding x).liveLink = d.liveLink := by
  refine Dev.liveLink_congr (fun c => d.reg_holding_of_ne x ?_)
  simp only [List.mem_cons, List.not_mem_nil, or_false, not_or, Reg.linkx_STAT, Reg.irqd_DLVD_LO, Reg.irqd_DLVD_HI,
    Reg.agree_DLVSTAT]
  omega

/-- What the opening of a delivery leaves. -/
theorem Dev.dlvOpen_facts (d : Dev) :
    d.dlvOpen.agr.dlv.map (fun x => (x.id, x.d, x.ev, x.answered)) =
        some (d.agr.nextId, d.dlvPoint, d.pendEvents, Tri.const false) ∧
      d.dlvOpen.agr.nextId = d.agr.nextId + 1 ∧ d.dlvOpen.agr.tckPend = false ∧ d.dlvOpen.agr.dbgPend = false ∧
      d.dlvOpen.agr.drpUsed = d.agr.drpUsed + 1 ∧ d.dlvOpen.rbit Reg.agree_DLVSTAT 8 = true ∧
      (∀ c ∈ d.liveLinks, (d.dlvOpen.link c).side.holds (.drp 0 d.agr.nextId d.dlvPoint d.pendEvents)) ∧
      d.dlvOpen.copies = d.copies ∧ d.dlvOpen.mem = d.mem := by
  obtain ⟨d1, frame, pend, used, hagreed, hform⟩ := d.dlvOpen_form
  have hsent := Dev.SendStep.hubAll (d1.holding (d.opening frame)) 0 (.drp 0 d.agr.nextId d.dlvPoint d.pendEvents)
  have hheld := fun {c} => Dev.holds_hubAll (d1.holding (d.opening frame)) 0
    (.drp 0 d.agr.nextId d.dlvPoint d.pendEvents) (c := c)
  rw [← hform] at hsent hheld
  have hagr := hsent.agr
  rw [Dev.holding_agr, hagreed.agr] at hagr
  have hlive : (d1.holding (d.opening frame)).liveLink = d.liveLink :=
    (Dev.liveLink_holding ..).trans (hagreed.liveLink.trans (Dev.liveLink_congr (fun _ => d.reg_updAgr ..)))
  refine ⟨by rw [hagr]; rfl, by rw [hagr]; rfl, by rw [hagr], by rw [hagr], by rw [hagr]; rfl, ?_, fun c hc => hheld ?_, ?_, ?_⟩
  · rw [Dev.rbit, hsent.reg _ (not_spillKey_of_lt (by decide))]
    exact Dev.rbit_holding ..
  · rw [Dev.mem_liveLinks, hlive]
    exact Dev.mem_liveLinks.1 hc
  · rw [hsent.copies, Dev.holding_copies, hagreed.copies, Dev.updAgr_copies]
  · rw [hsent.mem, Dev.holding_mem, hagreed.mem, Dev.updAgr_mem]

theorem Dev.reqSync_copies (d : Dev) : d.reqSync.copies = d.copies := by
  simp only [Dev.reqSync, Dev.setReg_copies]

theorem Dev.reqSync_mem (d : Dev) : d.reqSync.mem = d.mem := by
  simp only [Dev.reqSync, Dev.setReg_mem]

theorem Dev.dlvFree_noDlv {d : Dev} (hfree : d.dlvFree = true) : d.agr.dlv = none := by
  simp only [Dev.dlvFree, Bool.and_eq_true, Option.isNone_iff_eq_none] at hfree
  exact hfree.1.1.1

/-- DELIVERY_OPEN while events wait and no delivery is open. -/
theorem Completes.of_deliveryOpen {s : State} {P : Dev → Prop} (hfree : s.dev.reqSync.dlvFree = true)
    (hpending : Events.some s.dev.reqSync.pendEvents = true)
    (hP : P (if s.dev.reqSync.agr.drpUsed < 4 then s.dev.reqSync.dlvOpen
      else if s.dev.reqSync.agr.deferred then s.dev.reqSync
      else (s.dev.reqSync.updAgr (fun a => { a with deferred := true })).count Reg.agree_DEFER 1)) :
    Completes .deliveryOpen s P := by
  refine ⟨_, rfl, ?_⟩
  simp only [dueIf, hfree, hpending, Bool.and_self, if_true]
  exact hP

theorem completes_deliveryOpen_of_noEvents {s : State} (hnone : Events.some s.dev.reqSync.pendEvents = false) :
    Completes .deliveryOpen s (· = s.dev.reqSync) := by
  refine ⟨_, rfl, ?_⟩
  simp only [dueIf, hnone, Bool.and_false, Bool.false_eq_true, if_false]

/-! The answers of the copies (R165, R166, R169). -/

/-- The device that has noted the acceptance of copy `c`. -/
def Dev.noted (d : Dev) (c : CopyId) : Dev :=
  d.updAgr (fun a => { a with dlv := a.dlv.map (fun x => { x with answered := x.answered.set c true }) })

theorem Dev.inSvc_noted (d : Dev) (c : CopyId) : (d.noted c).inSvc = d.inSvc := Dev.inSvc_congr rfl

theorem Dev.liveLinks_noted (d : Dev) (c : CopyId) : (d.noted c).liveLinks = d.liveLinks :=
  congrArg (copyIds.filter ·) (Dev.liveLink_congr (fun _ => rfl))

theorem Dev.noted_dlv {d : Dev} {x : Delivery} (hopen : d.agr.dlv = some x) (c : CopyId) :
    (d.noted c).agr.dlv = some { x with answered := x.answered.set c true } := by
  simp only [Dev.noted, Dev.updAgr, hopen, Option.map_some]

/-- CONFIRM closes a delivery that every copy in service has accepted. -/
theorem Dev.dlvConfirm_of_all {d : Dev} {x : Delivery} (hopen : d.agr.dlv = some x) {c : CopyId} (hsvc : d.inSvc c = true)
    (hall : ∀ y, d.inSvc y = true → x.answered.get y = true) :
    d.dlvConfirm.agr.dlv = none ∧ d.dlvConfirm.agr.maxRetire = d.agr.maxRetire ∧
      d.dlvConfirm.reg Reg.agree_DLVSTAT = toWord x.id.toNat ∧
      d.dlvConfirm.reg Reg.agree_DRP_LO = toWord (x.d.toNat % 2 ^ 32) ∧
      (∀ y ∈ d.liveLinks, (d.dlvConfirm.link y).side.holds (.drp 1 x.id 0 ⟨false, false, false, 0⟩)) := by
  have hmem : c ∈ d.svcCopies := Dev.mem_svcCopies.2 hsvc
  have hclosed : (!d.svcCopies.isEmpty && d.svcCopies.all (fun c => x.answered.get c)) = true := by
    rw [Bool.and_eq_true, List.all_eq_true]
    exact ⟨by simp [List.ne_nil_of_mem hmem], fun y hy => hall y (Dev.mem_svcCopies.1 hy)⟩
  have hsent := Dev.SendStep.hubAll d 0 (.drp 1 x.id 0 ⟨false, false, false, 0⟩)
  have hheld := fun {c} => Dev.holds_hubAll d 0 (.drp 1 x.id 0 ⟨false, false, false, 0⟩) (c := c)
  simp only [Dev.dlvConfirm, hopen, hclosed, if_true]
  generalize d.hubAll 0 (.drp 1 x.id 0 ⟨false, false, false, 0⟩) = e at hsent hheld
  refine ⟨by simp only [Dev.setReg_agr]; rfl, ?_, ?_, ?_, fun y hy => ?_⟩
  · simp only [Dev.setReg_agr]
    exact show e.agr.maxRetire = _ from congrArg Agree.maxRetire hsent.agr
  · simp [Dev.reg_setReg, Reg.agree_DLVSTAT, Reg.agree_DRP_LO, Reg.agree_DRP_HI]
  · simp [Dev.reg_setReg, Reg.agree_DRP_LO, Reg.agree_DRP_HI]
  · simp only [Dev.link_setReg]
    exact hheld hy

/-- A delivery that a copy in service has not accepted stays open. -/
theorem Dev.dlvConfirm_of_waiting {d : Dev} {x : Delivery} (hopen : d.agr.dlv = some x) {y : CopyId}
    (hsvc : d.inSvc y = true) (hwaits : x.answered.get y = false) : d.dlvConfirm = d := by
  have hnotAll : d.svcCopies.all (fun c => x.answered.get c) = false :=
    List.all_eq_false.2 ⟨y, Dev.mem_svcCopies.2 hsvc, by simp [hwaits]⟩
  simp only [Dev.dlvConfirm, hopen, hnotAll, Bool.and_false, Bool.false_eq_true, if_false]

/-- What REPLACE leaves (R165). -/
theorem Dev.dlvReplace_facts {d : Dev} {x : Delivery} (hopen : d.agr.dlv = some x) :
    d.dlvReplace.agr.dlv = some { x with id := d.agr.nextId, d := d.dlvPoint, answered := Tri.const false } ∧
      d.dlvReplace.reg Reg.agree_DRPOVR = satAdd (d.reg Reg.agree_DRPOVR) 1 ∧
      (∀ y ∈ d.liveLinks, (d.dlvReplace.link y).side.holds (.drp 2 d.agr.nextId d.dlvPoint x.ev)) := by
  simp only [Dev.dlvReplace, hopen]
  generalize hd1 : (d.updAgr _).count Reg.agree_DRPOVR 1 = d1
  have hsent := Dev.SendStep.hubAll d1 0 (.drp 2 d.agr.nextId d.dlvPoint x.ev)
  have hreg : ∀ k, d1.reg k = if k = Reg.agree_DRPOVR then satAdd (d.reg Reg.agree_DRPOVR) 1 else d.reg k := fun k => by
    rw [← hd1, Dev.count, Dev.reg_setReg, Dev.reg_updAgr, Dev.reg_updAgr]
  have hlive : d1.liveLink = d.liveLink := Dev.liveLink_congr (fun c => by
    rw [hreg, if_neg (by unfold Reg.linkx_STAT Reg.agree_DRPOVR; omega)])
  refine ⟨?_, ?_, fun y hy => Dev.holds_hubAll d1 0 _ ?_⟩
  · rw [hsent.agr, ← hd1, Dev.count_agr]
    rfl
  · rw [hsent.reg _ (not_spillKey_of_lt (by decide)), hreg, if_pos rfl]
  · rw [Dev.mem_liveLinks, hlive]
    exact Dev.mem_liveLinks.1 hy

section Answers

variable {s : State} {c : CopyId} {h : Hdr} {x : Delivery} {P : Dev → Prop}

theorem completes_retrepPeriodic (haccepts : s.dev.hubAccepts c h) (hsvc : (s.dev.acceptedHub c h).inSvc c = true)
    (retire : BitVec 48) (id : Byte) :
    Completes (.retrepPeriodic c h retire id) s (· = (s.dev.acceptedHub c h).seen retire) :=
  Completes.of_hubRx rfl haccepts (Dev.sawRetire_of_inSvc hsvc retire)

theorem Completes.of_retrepAccept (haccepts : s.dev.hubAccepts c h) (hsvc : (s.dev.acceptedHub c h).inSvc c = true)
    (hopen : (s.dev.acceptedHub c h).agr.dlv = some x) (retire : BitVec 48)
    (hP : P (((s.dev.acceptedHub c h).seen retire).noted c).dlvConfirm) : Completes (.retrepAccept c h retire x.id) s P := by
  refine Completes.of_hubRx rfl haccepts ?_
  generalize s.dev.acceptedHub c h = q at hsvc hopen hP
  have hanswers : (q.seen retire).answers c x.id = true := Dev.answers_of_open (by rwa [Dev.inSvc_seen]) hopen
  simp only [Dev.sawRetire_of_inSvc hsvc, hanswers, if_true]
  exact hP

theorem Completes.of_retrepOverrun (haccepts : s.dev.hubAccepts c h) (hsvc : (s.dev.acceptedHub c h).inSvc c = true)
    (hopen : (s.dev.acceptedHub c h).agr.dlv = some x) (retire : BitVec 48)
    (hP : P (if (s.dev.acceptedHub c h).agr.replUsed < 1 then ((s.dev.acceptedHub c h).seen retire).dlvReplace
      else ((s.dev.acceptedHub c h).seen retire).updAgr (fun a => { a with replPend := true }))) :
    Completes (.retrepOverrun c h retire x.id) s P := by
  refine Completes.of_hubRx rfl haccepts ?_
  generalize s.dev.acceptedHub c h = q at hsvc hopen hP
  have hanswers : (q.seen retire).answers c x.id = true := Dev.answers_of_open (by rwa [Dev.inSvc_seen]) hopen
  simp only [Dev.sawRetire_of_inSvc hsvc, hanswers, if_true]
  exact hP

/-- An answer to another delivery than the open one counts as a report alone. -/
theorem completes_retrepAccept_of_other (haccepts : s.dev.hubAccepts c h)
    (hsvc : (s.dev.acceptedHub c h).inSvc c = true) (hopen : (s.dev.acceptedHub c h).agr.dlv = some x) {id : Byte}
    (hid : x.id ≠ id) (retire : BitVec 48) :
    Completes (.retrepAccept c h retire id) s (· = (s.dev.acceptedHub c h).seen retire) := by
  refine Completes.of_hubRx rfl haccepts ?_
  generalize s.dev.acceptedHub c h = q at hsvc hopen
  have hanswers : (q.seen retire).answers c id = false := Dev.answers_of_other hopen hid c
  simp only [Dev.sawRetire_of_inSvc hsvc, hanswers, Bool.false_eq_true, if_false]

end Answers

/-- Settles O45: the opening with what it sends, and each answer by the state of the open delivery. -/
theorem hubDeliveries : Obligations.HubDeliveries := by
  intro s
  refine ⟨fun hfree hpending hused => ?_, fun hfree hpending hused hdeferred => ?_, completes_deliveryOpen_of_noEvents,
    fun c h retire id haccepts hsvc => ⟨?_, ?_, ?_, ?_, ?_, ?_⟩⟩
  · refine Completes.of_deliveryOpen hfree hpending ?_
    rw [if_pos hused]
    obtain ⟨hdlv, hnext, htck, hdbg, hcount, hstat, hheld, hcopies, hmem⟩ := s.dev.reqSync.dlvOpen_facts
    exact ⟨hdlv, hnext, htck, hdbg, hcount, hstat, hheld, hcopies.trans s.dev.reqSync_copies, hmem.trans s.dev.reqSync_mem⟩
  · refine Completes.of_deliveryOpen hfree hpending ?_
    rw [if_neg (Nat.not_lt.2 hused), if_neg (by simp [hdeferred])]
    have hnone := Dev.dlvFree_noDlv hfree
    refine ⟨by rw [Dev.count_agr]; rfl, by rw [Dev.count_agr]; exact hnone, ?_⟩
    rw [Dev.count, Dev.reg_setReg, if_pos rfl, Dev.reg_updAgr]
  · exact completes_retrepPeriodic haccepts hsvc retire id
  · rintro x hopen rfl hothers
    refine Completes.of_retrepAccept haccepts hsvc hopen retire ?_
    generalize s.dev.acceptedHub c h = q at hsvc hopen hothers
    have hin : ((q.seen retire).noted c).inSvc = q.inSvc := (Dev.inSvc_noted ..).trans (Dev.inSvc_seen ..)
    have hclosed := Dev.dlvConfirm_of_all (Dev.noted_dlv (d := q.seen retire) hopen c) (c := c) (by rwa [hin])
      (fun y hy => by
        rw [Tri.get_set]
        split
        case isTrue => rfl
        case isFalse hne => exact hothers y hne (by rwa [hin] at hy))
    rw [Dev.liveLinks_noted, Dev.liveLinks_seen] at hclosed
    exact hclosed
  · rintro x y hopen rfl hne hin hwaits
    refine Completes.of_retrepAccept haccepts hsvc hopen retire ?_
    generalize s.dev.acceptedHub c h = q at hsvc hopen hin
    have hnoted := Dev.noted_dlv (d := q.seen retire) hopen c
    rw [Dev.dlvConfirm_of_waiting hnoted (y := y) (by rwa [Dev.inSvc_noted, Dev.inSvc_seen])
      (by rw [Tri.get_set, if_neg hne]; exact hwaits)]
    exact ⟨hnoted, rfl⟩
  · rintro x hopen rfl hused
    refine Completes.of_retrepOverrun haccepts hsvc hopen retire ?_
    rw [if_pos hused]
    generalize s.dev.acceptedHub c h = q at hopen
    have hreplaced := Dev.dlvReplace_facts (d := q.seen retire) hopen
    rw [Dev.liveLinks_seen] at hreplaced
    exact hreplaced
  · rintro x hopen rfl hused
    refine Completes.of_retrepOverrun haccepts hsvc hopen retire ?_
    rw [if_neg (Nat.not_lt.2 hused)]
    exact ⟨rfl, hopen⟩
  · exact fun x hopen hid => completes_retrepAccept_of_other haccepts hsvc hopen hid retire

end Sys2Proof.Machine

namespace Sys2Proof.Machine

open Sys2Proof

/-! Integer instructions (R173, R187). -/

@[simp] theorem Copy.setX_zero (x : Copy) (v : Word) : x.setX 0 v = x := rfl

/-- An instruction whose body writes `v` to `rd` and retires towards `pc`. -/
theorem WritesRd.of_retireTo {i : Instr} {s : State} {c : CopyId} {len : Nat} {rd : BitVec 5} {v pc : Word}
    {body : Env → Copy → Copy} (h : (s.dev.copy c).fetched len)
    (he : exec i s = s.run (Dev.core c (fun e x => x.instr e len (body e))))
    (hb : ∀ z, (s.dev.copy c).afterFetch z → body s.dev.env z = (z.setX rd v).retireTo s.dev.env len pc) :
    WritesRd i s c rd v pc :=
  CopyStep.of_fetched h he (fun z hz => by
    rw [hb z hz]
    exact Copy.retire_wrote hz h.wait h.dbgDue s.dev.env rd v pc len)

theorem exec_integerOp_of_form {op : IntOp} (hform : intForm op = true) (c : CopyId) (b : Bool) (s : State) :
    exec (.integerOp c op b) s =
      s.run (Dev.core c (fun e x => x.instr e (instrLen b) (fun y => y.intOp e op (instrLen b)))) := by
  change execIntegerOp c op b s = _
  simp only [execIntegerOp, State.run, dueIf, hform, if_true]

/-- INTEGER_OP by what its operation does to the copy that the fetch leaves. -/
theorem writesRd_integerOp {s : State} {c : CopyId} {b : Bool} {op : IntOp} {rd : BitVec 5} {v pc : Word}
    (h : (s.dev.copy c).fetched (instrLen b)) (hform : intForm op = true)
    (hop : ∀ z, (s.dev.copy c).afterFetch z →
      z.intOp s.dev.env op (instrLen b) = (z.setX rd v).retireTo s.dev.env (instrLen b) pc) :
    WritesRd (.integerOp c op b) s c rd v pc :=
  WritesRd.of_retireTo h (exec_integerOp_of_form hform c b s) hop

/-! The arithmetic of the M extension. -/

/-- The two words of a double word. -/
theorem ofInt_append_ofInt (n : Int) :
    (BitVec.ofInt 32 (n / 2 ^ 32) ++ BitVec.ofInt 32 n : BitVec 64) = BitVec.ofInt 64 n := by
  refine BitVec.eq_of_toNat_eq ?_
  rw [BitVec.toNat_append, ← Nat.shiftLeft_add_eq_or_of_lt (BitVec.isLt _), Nat.shiftLeft_eq]
  simp only [BitVec.toNat_ofInt]
  omega

/-- A product of a signed word and an at most 32-bit factor fits a signed double word. -/
theorem toInt_ofInt_mul {m n : Int} (hm : |m| ≤ 2 ^ 31) (hn : |n| ≤ 2 ^ 32 - 1) :
    (BitVec.ofInt 64 (m * n)).toInt = m * n := by
  have hbound : |m * n| ≤ 2 ^ 31 * (2 ^ 32 - 1) := by
    rw [abs_mul]
    exact mul_le_mul hm hn (abs_nonneg n) (by decide)
  obtain ⟨hlow, hhigh⟩ := abs_le.1 hbound
  exact BitVec.toInt_ofInt_eq_self (by decide) (by omega) (by omega)

theorem abs_toInt_le (a : Word) : |a.toInt| ≤ 2 ^ 31 :=
  abs_le.2 ⟨a.le_toInt, a.toInt_lt.le⟩

theorem mulhu_append_mul (a b : Word) : (aluVal .mulhu a b ++ aluVal .mul a b : BitVec 64).toNat = a.toNat * b.toNat := by
  have hbound : a.toNat * b.toNat < 2 ^ 32 * 2 ^ 32 := Nat.mul_lt_mul'' a.isLt b.isLt
  have hlow : a * b = BitVec.ofInt 32 (a.toNat * b.toNat : Nat) := by simp [BitVec.ofInt_mul]
  have hhigh : aluVal .mulhu a b = BitVec.ofInt 32 ((a.toNat * b.toNat : Nat) / 2 ^ 32) :=
    (BitVec.ofInt_natCast 32 (a.toNat * b.toNat / 2 ^ 32)).symm
  rw [hhigh, aluVal, hlow, ofInt_append_ofInt, BitVec.ofInt_natCast, BitVec.toNat_ofNat]
  exact Nat.mod_eq_of_lt hbound

theorem mulh_append_mul (a b : Word) : (aluVal .mulh a b ++ aluVal .mul a b : BitVec 64).toInt = a.toInt * b.toInt := by
  have hlow : a * b = BitVec.ofInt 32 (a.toInt * b.toInt) := by simp [BitVec.ofInt_mul]
  rw [aluVal, aluVal, hlow, ofInt_append_ofInt]
  exact toInt_ofInt_mul (abs_toInt_le a) ((abs_toInt_le b).trans (by decide))

theorem mulhsu_append_mul (a b : Word) : (aluVal .mulhsu a b ++ aluVal .mul a b : BitVec 64).toInt = a.toInt * b.toNat := by
  have hlow : a * b = BitVec.ofInt 32 (a.toInt * b.toNat) := by simp [BitVec.ofInt_mul]
  have hfactor : |(b.toNat : Int)| ≤ 2 ^ 32 - 1 := by
    have hb := b.isLt
    rw [Nat.abs_cast]
    omega
  rw [aluVal, aluVal, hlow, ofInt_append_ofInt]
  exact toInt_ofInt_mul (abs_toInt_le a) hfactor

theorem divu_mul_add_remu (a b : Word) : aluVal .divu a b * b + aluVal .remu a b = a := by
  by_cases hb : b = 0
  · simp [aluVal, hb]
  · simp only [aluVal, hb, if_false]
    refine BitVec.eq_of_toNat_eq ?_
    simp [Nat.div_add_mod', Nat.mod_eq_of_lt a.isLt]

theorem div_mul_add_rem (a b : Word) : aluVal .div a b * b + aluVal .rem a b = a := by
  by_cases hb : b = 0
  · simp [aluVal, divS, remS, hb]
  · simp only [aluVal, divS, remS, hb, if_false]
    calc BitVec.ofInt 32 (a.toInt.tdiv b.toInt) * b + BitVec.ofInt 32 (a.toInt.tmod b.toInt)
        = BitVec.ofInt 32 (a.toInt.tdiv b.toInt * b.toInt + a.toInt.tmod b.toInt) := by simp [BitVec.ofInt_add, BitVec.ofInt_mul]
      _ = a := by rw [Int.tdiv_mul_add_tmod, BitVec.ofInt_toInt]

theorem remu_lt {b : Word} (hb : b ≠ 0) (a : Word) : (aluVal .remu a b).toNat < b.toNat := by
  have hpos : 0 < b.toNat := Nat.pos_of_ne_zero (fun h => hb (BitVec.eq_of_toNat_eq h))
  rw [aluVal, if_neg hb, BitVec.toNat_umod]
  exact Nat.mod_lt _ hpos

/-- Settles O5: each operation is a write of its value and a retirement, and the M extension is exact. -/
theorem integerOps : Obligations.IntegerOps := by
  refine ⟨fun s c b h => ⟨?_, ?_, ?_, ?_, ?_, ?_, ?_⟩, fun a w => ?_⟩
  · exact fun rd imm => writesRd_integerOp h rfl (fun z hz => by
      rw [Copy.intOp, Copy.next, Copy.setX_pc, hz.pc])
  · exact fun rd imm => writesRd_integerOp h rfl (fun z hz => by
      rw [Copy.intOp, Copy.next, Copy.setX_pc, hz.pc])
  · exact fun op rd rs1 rs2 => writesRd_integerOp h rfl (fun z hz => by
      rw [Copy.intOp, Copy.next, Copy.setX_pc, hz.pc, hz.xr, hz.xr])
  · exact fun op rd rs1 imm hform => writesRd_integerOp h hform (fun z hz => by
      rw [Copy.intOp, Copy.next, Copy.setX_pc, hz.pc, hz.xr, imm12])
  · exact fun op rs1 rs2 off => writesRd_integerOp h rfl (fun z hz => by
      rw [Copy.intOp, Copy.setX_zero, hz.pc, hz.xr, hz.xr])
  · exact fun rd off hlink => writesRd_integerOp h (by simp [intForm, hlink]) (fun z hz => by
      rw [Copy.intOp, hz.pc])
  · exact fun rd rs1 off hlink hpops => writesRd_integerOp h (by simp [intForm, hlink, hpops]) (fun z hz => by
      rw [Copy.intOp, Copy.jumpTarget, hz.pc, hz.xr, imm12])
  · exact ⟨mulhu_append_mul a w, mulh_append_mul a w, mulhsu_append_mul a w, divu_mul_add_remu a w, div_mul_add_rem a w,
      fun hw => remu_lt hw a, by rintro rfl; exact ⟨rfl, rfl⟩⟩

end Sys2Proof.Machine

namespace Sys2Proof.Machine

open Sys2Proof

/-! Synchronization points (R194), fences and the scrubber (R182, R186). -/

theorem Copy.afterFetch.settled {x z : Copy} (hz : x.afterFetch z) (h : x.settled) : z.settled := by
  obtain ⟨_, _, rfl⟩ := hz
  exact h

theorem Copy.afterFetch.drained {x z : Copy} (hz : x.afterFetch z) : z.drained = x.drained := by
  obtain ⟨_, _, rfl⟩ := hz
  rfl

theorem Copy.syncPoint_of_settled {x : Copy} (h : x.settled) (e : Env) (body : Copy → Copy) :
    x.syncPoint e body = body x := by
  obtain ⟨hdrained, hrefusals⟩ := h
  simp [Copy.syncPoint, hdrained, hrefusals]

theorem Copy.syncPoint_of_undrained {x : Copy} (h : x.drained = false) (e : Env) (body : Copy → Copy) :
    x.syncPoint e body = x := by
  simp [Copy.syncPoint, h]

/-- A cause enters a world whose bank is free. -/
theorem Copy.enterWorld_of_free {x : Copy} {w : World} (hbusy : x.busy w = false) (hdflt : x.dflt w = false) (e : Env)
    (code : Nat) (eval : Word) (aux : DWord) : x.enterWorld e w code eval aux = x.enter e w code false eval aux := by
  cases w with
  | iron => simp only [Copy.enterWorld, Copy.enterIron, show x.idflt = false from hdflt, show x.ibusy = false from hbusy,
      Bool.false_eq_true, if_false]
  | tin => simp only [Copy.enterWorld, Copy.enterTin, show x.tdflt = false from hdflt, show x.tbusy = false from hbusy,
      Bool.false_eq_true, if_false]

/-- A recorded refusal makes a synchronization point the entry with code 4 (R194, R202). -/
theorem Copy.syncPoint_of_refused {x : Copy} (hdrained : x.drained = true) (hrefused : x.refusals x.world ≠ 0)
    (hentering : x.entering = none) (hbusy : x.busy x.world = false) (hdflt : x.dflt x.world = false) (e : Env)
    (body : Copy → Copy) : x.syncPoint e body =
      x.enter e x.world 4 false (x.bank x.world).reqerr (BitVec.ofNat 64 (x.refusals x.world)) := by
  have hopen : ¬ (x.world = .tin ∧ x.tdflt = true) := by
    rintro ⟨htin, hlatched⟩
    rw [htin, Copy.dflt, hlatched] at hdflt
    exact absurd hdflt (by decide)
  simp [Copy.syncPoint, hdrained, hrefused, Copy.syncEntry, hentering, Copy.target, hopen,
    Copy.enterWorld_of_free hbusy hdflt]

/-- From `x` to `y` the scrubber has written words of lines back, and may have stopped the copy. -/
def Copy.ScrubStep (x y : Copy) : Prop :=
  ∃ ls st sd sp, y = { x with icache := { x.icache with lines := ls }, stats := st, side := sd, stop := sp }

theorem Copy.ScrubStep.refl (x : Copy) : x.ScrubStep x := ⟨_, _, _, _, rfl⟩

theorem Copy.ScrubStep.trans {x y z : Copy} (h : x.ScrubStep y) (h' : y.ScrubStep z) : x.ScrubStep z := by
  obtain ⟨_, _, _, _, rfl⟩ := h
  obtain ⟨_, _, _, _, rfl⟩ := h'
  exact ⟨_, _, _, _, rfl⟩

theorem Copy.scrubStep_icFail (x : Copy) (now : Nat) (a : Word) : x.ScrubStep (x.icFail now a) := by
  obtain ⟨sd, st, hsent⟩ := x.send_form now 2 (.lstatEvent 1 x.retire a)
  rw [Copy.icFail, Copy.event, hsent]
  exact ⟨_, _, _, _, rfl⟩

theorem Copy.scrubStep_scrubWord (now k i : Nat) (x : Copy) : x.ScrubStep (x.scrubWord now k i) := by
  unfold Copy.scrubWord
  split
  · exact .refl x
  · split
    · exact .refl x
    · exact ⟨_, _, _, _, rfl⟩
    · exact ⟨_, _, _, _, rfl⟩
    · split
      · exact .refl x
      · exact x.scrubStep_icFail ..

theorem Copy.scrubStep_scrubWords (now k : Nat) : ∀ (is : List Nat) (x : Copy),
    x.ScrubStep (is.foldl (fun y i => Copy.scrubWord now k i y) x)
  | [], x => .refl x
  | i :: is, x => (Copy.scrubStep_scrubWord now k i x).trans (Copy.scrubStep_scrubWords now k is _)

theorem Copy.scrubStep_scrubParity (k : Nat) (x : Copy) : x.ScrubStep (x.scrubParity k) := by
  unfold Copy.scrubParity
  split
  · exact .refl x
  · split
    · exact ⟨_, _, _, _, rfl⟩
    · exact .refl x

/-- ICACHE_SCRUB of a copy that runs: a scrub step, and the walk goes on to the next slot. -/
theorem CopyStep.of_icacheScrub {s : State} {c : CopyId} {P : Copy → Prop} (hpowered : (s.dev.copy c).powered = true)
    (hreleased : (s.dev.copy c).released = true) (hstop : (s.dev.copy c).stop = none)
    (hP : ∀ y, (s.dev.copy c).ScrubStep y → P { y with scrub := y.scrub + 1 }) : CopyStep (.icacheScrub c) s c P := by
  have hstep := (Copy.scrubStep_scrubWords s.dev.env.now (s.dev.copy c).scrub.toNat (List.range 8) (s.dev.copy c)).trans
    (Copy.scrubStep_scrubParity (s.dev.copy c).scrub.toNat _)
  refine ⟨_, ?_, hP _ hstep⟩
  change execIcacheScrub c s = _
  unfold Dev.copy at hpowered hreleased hstop
  simp only [execIcacheScrub, State.run, Dev.core, Dev.updCopy, Tri.upd, hpowered, hreleased, hstop, Option.isNone_none,
    Bool.and_self, if_true]
  rfl

/-- Settles O8: each fence by what its synchronization point finds, and the scrub step by its frame. -/
theorem fencesAndScrub : Obligations.FencesAndScrub := by
  intro s c
  refine ⟨fun h hsettled => ?_, fun h hsettled => ?_, fun h hwaits => ⟨?_, ?_⟩, ?_, fun hpowered hreleased hstop => ?_⟩
  · refine CopyStep.of_fetched h rfl (fun z hz => ?_)
    have hretires := Copy.retire_wrote hz h.wait h.dbgDue s.dev.env 0 0 (z.pc + toWord 4) 4
    rw [Copy.syncPoint_of_settled (hz.settled hsettled), Copy.next, ← hz.pc]
    exact hretires
  · refine CopyStep.of_fetched h rfl (fun z hz => ?_)
    obtain ⟨hwrote, hretired, hmasked⟩ := Copy.retire_wrote hz h.wait h.dbgDue s.dev.env 0 0 (z.pc + toWord 4) 4
    rw [Copy.syncPoint_of_settled (hz.settled hsettled), Copy.next, ← hz.pc]
    exact ⟨hwrote, hretired, rfl, congrArg (fun y : Copy => { y with dcache := ⟨[], []⟩ }) hmasked⟩
  · refine CopyStep.of_fetched h rfl (fun z hz => ?_)
    rw [Copy.syncPoint_of_undrained (hz.drained.trans hwaits)]
    exact ⟨hz.pc, hz.retire, hz.masked⟩
  · refine CopyStep.of_fetched h rfl (fun z hz => ?_)
    rw [Copy.syncPoint_of_undrained (hz.drained.trans hwaits)]
    exact ⟨hz.pc, hz.retire, hz.masked⟩
  · intro h hdrained hrefused hentering hbusy hdflt hkeeps
    refine CopyStep.of_fetched h rfl (fun z hz => hz.entered ?_)
    obtain ⟨_, _, rfl⟩ := hz
    rw [Copy.syncPoint_of_refused (by exact hdrained) (by exact hrefused) (by exact hentering) (by exact hbusy)
      (by exact hdflt)]
    exact Copy.enter_entered _ _ _ _ _ _ _ hkeeps
  · refine CopyStep.of_icacheScrub hpowered hreleased hstop ?_
    rintro y ⟨ls, st, sd, sp, rfl⟩
    exact ⟨rfl, Copy.wrote_zero_of_x rfl, rfl, rfl, rfl, rfl, rfl, rfl⟩

end Sys2Proof.Machine

namespace Sys2Proof.Machine

open Sys2Proof

/-! Illegal instructions (R228, R230, R236) and EBREAK (R440). -/

/-- An instruction whose body is illegal enters cause 0x00 with its word. -/
theorem TrapsWith.of_illegal {i : Instr} {s : State} {c : CopyId} {len : Nat} {iw : Word} {body : Env → Copy → Copy}
    (h : (s.dev.copy c).fetched len) (he : exec i s = s.run (Dev.core c (fun e x => x.instr e len (body e))))
    (hb : ∀ z, (s.dev.copy c).afterFetch z → body s.dev.env z = z.illegal s.dev.env iw) : TrapsWith i s c 0 iw 0 :=
  TrapsWith.of_raise h he (by decide) (fun z hz _ => hb z hz)

/-- A Bronze instruction that is illegal wherever BMODE lets it execute is illegal. -/
theorem TrapsWith.of_bronze {i : Instr} {s : State} {c : CopyId} {iw : Word} {body : Env → Copy → Copy}
    (h : (s.dev.copy c).fetched 4) (he : exec i s = s.run (Dev.bronze c iw body))
    (hb : ∀ z, (s.dev.copy c).afterFetch z → z.bronzeOn = true → body s.dev.env z = z.illegal s.dev.env iw) :
    TrapsWith i s c 0 iw 0 := by
  refine TrapsWith.of_illegal h he (fun z hz => ?_)
  split
  case isTrue hon => exact hb z hz hon
  case isFalse => rfl

/-- With BMODE 0b00 a Bronze instruction is illegal. -/
theorem TrapsWith.of_bronze_off {i : Instr} {s : State} {c : CopyId} {iw : Word} {body : Env → Copy → Copy}
    (h : (s.dev.copy c).fetched 4) (hoff : (s.dev.copy c).bmode = 0) (he : exec i s = s.run (Dev.bronze c iw body)) :
    TrapsWith i s c 0 iw 0 :=
  TrapsWith.of_bronze h he (fun z hz hon => by simp [Copy.bronzeOn, hz.bmode, hoff] at hon)

theorem rmMode_of_reserved {rm : Nat} (hrm : rm = 4 ∨ rm = 5 ∨ rm = 6) (bstat : Word) : rmMode rm bstat = none := by
  rcases hrm with rfl | rfl | rfl
  · rfl
  · rfl
  · rfl

/-- A reserved rounding field is illegal in every BMODE. -/
theorem TrapsWith.of_bronzeRm_reserved {i : Instr} {s : State} {c : CopyId} {iw : Word} {rm : BitVec 3}
    {body : Nat → Env → Copy → Copy} (h : (s.dev.copy c).fetched 4) (hrm : rm.toNat = 4 ∨ rm.toNat = 5 ∨ rm.toNat = 6)
    (he : exec i s = s.run (Dev.bronzeRm c iw rm body)) : TrapsWith i s c 0 iw 0 :=
  TrapsWith.of_bronze h he (fun z _ _ => by simp only [rmMode_of_reserved hrm])

/-- Debug entry changes the debug state and the link's send side alone. -/
theorem Copy.enterDebug_form (x : Copy) (now : Nat) :
    ∃ sd st, x.enterDebug now = { x with debug := true, dbg := false, step := none, side := sd, stats := st } :=
  Copy.send_form { x with debug := true, dbg := false, step := none } now 0 (.dbgrsp 0 0 0 0 x.retire)

/-- Settles O12: the causes of an illegal instruction and of EBREAK by DBG.CTRL.EBEN, and the two ways in which a Bronze
instruction is illegal. -/
theorem illegalInstructions : Obligations.IllegalInstructions := by
  refine ⟨fun s c => ⟨fun iw h => ?_, fun b h hoff => ?_, fun b h hon hsettled => ?_⟩,
    fun s c sat rs2 rs1 rd rm h => ⟨fun hoff => ?_, fun hrm => ?_⟩⟩
  · exact TrapsWith.of_illegal h rfl (fun _ _ => rfl)
  · have heben : s.dev.env.eben = false := hoff
    exact TrapsWith.of_illegal h rfl (fun z _ => by simp only [Copy.ebreak, heben, Bool.false_eq_true, if_false])
  · have heben : s.dev.env.eben = true := hon
    refine CopyStep.of_fetched h rfl (fun z hz => ?_)
    obtain ⟨sd, st, hentered⟩ := z.enterDebug_form s.dev.env.now
    rw [Copy.ebreak, if_pos heben, Copy.syncPoint_of_settled (hz.settled hsettled), hentered]
    exact ⟨rfl, hz.pc, hz.retire, Copy.wrote_zero_of_x hz.x,
      congrArg (fun y : Copy => { y with debug := true, dbg := false }) hz.masked⟩
  · exact ⟨.of_bronze_off h hoff rfl, .of_bronze_off h hoff rfl, .of_bronze_off h hoff rfl, .of_bronze_off h hoff rfl,
      .of_bronze_off h hoff rfl⟩
  · exact ⟨.of_bronzeRm_reserved h hrm rfl, .of_bronzeRm_reserved h hrm rfl⟩

end Sys2Proof.Machine

namespace Sys2Proof.Machine

open Sys2Proof

/-! A line in a cache (R180, R183). -/

/-- The slots that may hold the line of address `a`. -/
def cacheWays (sets : Nat) (a : Word) : List Nat :=
  let s := a.toNat / 32 % sets * 4
  [s, s + 1, s + 2, s + 3]

/-- Slot `k` holds the line of address `a`. -/
def Cache.hits {L : Type} (tag : L → Word) (c : Cache L) (a : Word) (k : Nat) : Bool :=
  (c.at k).any (fun l => tag l == lineOf a)

theorem Cache.find_eq {L : Type} (tag : L → Word) (sets : Nat) (c : Cache L) (a : Word) :
    c.find tag sets a = ((cacheWays sets a).find? (c.hits tag a)).bind (fun k => (c.at k).map (fun l => (k, l))) := by
  have hhits : c.hits tag a = fun k => match c.at k with | some l => tag l == lineOf a | none => false := by
    funext k
    unfold Cache.hits
    cases c.at k <;> rfl
  rw [hhits]
  unfold Cache.find
  dsimp only
  split
  case h_1 k hk => exact (congrArg (Option.bind · (fun k => (c.at k).map (fun l => (k, l)))) hk).symm
  case h_2 hnone => exact (congrArg (Option.bind · (fun k => (c.at k).map (fun l => (k, l)))) hnone).symm

theorem Cache.slotFor_mem_ways {L : Type} (sets : Nat) (c : Cache L) (a : Word) : c.slotFor sets a ∈ cacheWays sets a := by
  have hvictim : ∀ b : BitVec 3, plruVictim b ∈ [0, 1, 2, 3] := by decide
  unfold Cache.slotFor
  dsimp only
  split
  case h_1 k hk => exact List.mem_of_find?_eq_some hk
  case h_2 =>
    have := hvictim (mapGet plruDflt c.plru (a.toNat / 32 % sets * 4 / 4))
    simp only [List.mem_cons, List.not_mem_nil, or_false, cacheWays] at this ⊢
    omega

theorem Cache.hits_iff {L : Type} {tag : L → Word} {c : Cache L} {a : Word} {k : Nat} :
    c.hits tag a k = true ↔ ∃ l, c.at k = some l ∧ tag l = lineOf a := by
  unfold Cache.hits
  cases c.at k with
  | none => simp
  | some l => simp

/-- The line that a search finds stands in one of the slots for its address, and has its address. -/
theorem Cache.of_find {L : Type} {tag : L → Word} {sets : Nat} {c : Cache L} {a : Word} {k : Nat} {l : L}
    (h : c.find tag sets a = some (k, l)) : k ∈ cacheWays sets a ∧ tag l = lineOf a := by
  rw [Cache.find_eq, Option.bind_eq_some_iff] at h
  obtain ⟨j, hj, hl⟩ := h
  obtain ⟨m, hm, htag⟩ := Cache.hits_iff.1 (List.find?_some hj)
  rw [hm, Option.map_some, Option.some.injEq, Prod.mk.injEq] at hl
  obtain ⟨rfl, rfl⟩ := hl
  exact ⟨List.mem_of_find?_eq_some hj, htag⟩

/-- A search that finds nothing but `k` finds `k` once that passes. -/
theorem find?_of_passing {p q : Nat → Bool} {k : Nat} (hk : q k = true) (hrest : ∀ j, j ≠ k → q j = p j) :
    ∀ {xs : List Nat}, k ∈ xs → (∀ j, xs.find? p = some j → j = k) → xs.find? q = some k
  | [], hmem, _ => absurd hmem List.not_mem_nil
  | x :: xs, hmem, honly => by
    by_cases hx : x = k
    · rw [List.find?_cons_of_pos (by rw [hx, hk]), hx]
    · have hmiss : p x = false := by
        by_contra hpass
        exact hx (honly x (List.find?_cons_of_pos (by simpa using hpass)))
      rw [List.find?_cons_of_neg (by simp [hrest x hx, hmiss])]
      rw [List.find?_cons_of_neg (by simp [hmiss])] at honly
      exact find?_of_passing hk hrest ((List.mem_cons.1 hmem).resolve_left (Ne.symm hx)) honly

/-- A line that is put where the search for it ends, or where it may stand if it is absent, is found there. -/
theorem Cache.find_put {L : Type} [DecidableEq L] {tag : L → Word} {sets : Nat} {c : Cache L} {a : Word} {k : Nat} {l : L}
    (hway : k ∈ cacheWays sets a) (hplace : ∀ e, c.find tag sets a = some e → e.1 = k) (htag : tag l = lineOf a) :
    (c.put k (some l)).find tag sets a = some (k, l) := by
  have hpass : (c.put k (some l)).hits tag a k = true := by simp [Cache.hits, Cache.at_put, htag]
  have hrest : ∀ j, j ≠ k → (c.put k (some l)).hits tag a j = c.hits tag a j := fun j hj =>
    congrArg (Option.any _) (mapGet_mapPut_ne c.lines (some l) hj)
  have honly : ∀ j, (cacheWays sets a).find? (c.hits tag a) = some j → j = k := fun j hj => by
    obtain ⟨m, hm, -⟩ := Cache.hits_iff.1 (List.find?_some hj)
    exact hplace (j, m) (by rw [Cache.find_eq, hj, Option.bind_some, hm, Option.map_some])
  rw [Cache.find_eq, find?_of_passing hpass hrest hway honly, Option.bind_some, Cache.at_put, Option.map_some]

theorem listGet_listSet_same {α : Type} (x y : α) : ∀ {xs : List α} {i : Nat}, i < xs.length →
    listGet x (listSet xs i y) i = y
  | _ :: _, 0, _ => rfl
  | _ :: xs, _ + 1, hi => listGet_listSet_same x y (xs := xs) (Nat.lt_of_succ_lt_succ hi)

/-! The data cache (R183). -/

theorem Copy.holdsWord_congr {x y : Copy} (h : y.dcache = x.dcache) {a : Word} {w : CWord} (hx : x.holdsWord a w) :
    y.holdsWord a w := by
  unfold Copy.holdsWord Copy.dcGet Copy.dcFind at hx ⊢
  rwa [h]

/-- The line whose word for address `a` is `w`. -/
def DLine.withWord (l : DLine) (a : Word) (w : CWord) : DLine := { l with words := listSet l.words (wordIndex a) (some w) }

theorem DLine.dcWord_withWord {l : DLine} (hlen : l.words.length = 8) (a : Word) (w : CWord) :
    dcWord (l.withWord a w) (wordIndex a) = some w :=
  listGet_listSet_same none (some w) (by rw [hlen]; exact Nat.mod_lt _ (by decide))

/-- The word that is set in a line of eight is held. -/
theorem Copy.holdsWord_dcSet {x : Copy} {k : Nat} {l : DLine} {a : Word} (hway : k ∈ cacheWays dcSets a)
    (hplace : ∀ e, x.dcFind a = some e → e.1 = k) (htag : l.line = lineOf a) (hlen : l.words.length = 8) (w : CWord) :
    (x.dcSet k l a (some w)).holdsWord a w := by
  have hfound : (x.dcSet k l a (some w)).dcFind a = some (k, l.withWord a w) := Cache.find_put hway hplace htag
  refine ⟨k, l.withWord a w, ?_⟩
  simp only [Copy.dcGet, hfound, DLine.dcWord_withWord hlen, Option.map_some]

/-- Replacement state does not tell which words are held. -/
theorem Copy.holdsWord_touch {x : Copy} {a : Word} {w : CWord} (h : x.holdsWord a w) (k : Nat) :
    ({ x with dcache := x.dcache.touch k } : Copy).holdsWord a w := h

theorem Copy.holdsWord_dcTouch {x : Copy} {a : Word} {w : CWord} (h : x.holdsWord a w) (b : Word) :
    (x.dcTouch b).holdsWord a w := by
  unfold Copy.dcTouch
  split
  · exact Copy.holdsWord_touch h _
  · exact h

/-- A filled word is held. -/
theorem Copy.holdsWord_dcFill {x : Copy} {a : Word} (hlen : ∀ j l, x.dcFind a = some (j, l) → l.words.length = 8)
    (w : CWord) : (x.dcFill a w).holdsWord a w := by
  unfold Copy.dcFill
  split
  case h_1 k l hfound =>
    obtain ⟨hway, htag⟩ := Cache.of_find hfound
    exact Copy.holdsWord_dcSet hway (fun e he => by rw [hfound] at he; cases he; rfl) htag (hlen k l hfound) w
  case h_2 hnone =>
    exact Copy.holdsWord_touch (Copy.holdsWord_dcSet (Cache.slotFor_mem_ways ..) (fun e he => by rw [hnone] at he; cases he)
      rfl (by simp) w) _

/-- A full-word store is held with its code. -/
theorem Copy.holdsWord_dcStore {x : Copy} {a : Word} (hlen : ∀ j l, x.dcFind a = some (j, l) → l.words.length = 8)
    (v : Word) : (x.dcStore 0xF a v).holdsWord a ⟨v, ecc v (wordOf a)⟩ :=
  Copy.holdsWord_dcTouch (Copy.holdsWord_dcFill hlen _) a

theorem Copy.dcTouch_form (x : Copy) (a : Word) : ∃ dc, x.dcTouch a = { x with dcache := dc } := by
  unfold Copy.dcTouch
  split
  · exact ⟨_, rfl⟩
  · exact ⟨_, rfl⟩

/-- A store changes the data cache alone. -/
theorem Copy.dcStore_form (x : Copy) (be : BitVec 4) (a v : Word) : ∃ dc, x.dcStore be a v = { x with dcache := dc } := by
  have htouched : ∀ {y : Copy}, (∃ dc, y = { x with dcache := dc }) → ∃ dc, y.dcTouch a = { x with dcache := dc } := by
    rintro _ ⟨_, rfl⟩
    obtain ⟨dc, htouch⟩ := Copy.dcTouch_form _ a
    exact ⟨dc, htouch⟩
  unfold Copy.dcStore
  split
  · exact htouched (x.dcFill_form a _)
  · split
    · exact ⟨_, rfl⟩
    · split
      · exact htouched ⟨_, rfl⟩
      · exact ⟨_, rfl⟩

/-- The look-up of a load changes the data cache and the report counters alone. -/
theorem Copy.dcLoad_form (x : Copy) (a : Word) : ∃ dc st, (x.dcLoad a).1 = { x with dcache := dc, stats := st } := by
  unfold Copy.dcLoad
  split
  · exact ⟨_, _, rfl⟩
  · split
    · obtain ⟨dc, htouch⟩ := x.dcTouch_form a
      exact ⟨dc, x.stats, htouch⟩
    · obtain ⟨dc, htouch⟩ := Copy.dcTouch_form (x.dcSet _ _ a _) a
      dsimp only
      rw [htouch]
      exact ⟨_, _, rfl⟩
    · exact ⟨_, _, rfl⟩

/-- What a load finds is in the data cache alone. -/
theorem Copy.afterFetch.dcLoad {x z : Copy} (hz : x.afterFetch z) (a : Word) : (z.dcLoad a).2 = (x.dcLoad a).2 := by
  have hget : z.dcGet a = x.dcGet a := by
    unfold Copy.dcGet Copy.dcFind
    rw [hz.dcache]
  unfold Copy.dcLoad
  rw [hget]
  rcases x.dcGet a with _ | ⟨k, l, w⟩
  · rfl
  · dsimp only
    cases checkWord w.data w.ecc (wordOf a) with
    | ok => rfl
    | corrected v => rfl
    | bad => rfl

/-! A request that goes out (R127, R192). -/

/-- From `x` to `y` request `o` has gone out; the caches, the report counters and the link's send side may differ too. -/
def Copy.Asks (x y : Copy) (o : Outst) : Prop :=
  ∃ ic dc st sd, y = { x with
    csn := x.csn + 1, issued := x.issued + 1, out := x.out ++ [o], icache := ic, dcache := dc, stats := st, side := sd }

/-- A request of the current world and ring; the data cache stays. -/
theorem Copy.asks_issue (x : Copy) (now : Nat) (ty : ReqType) (be : BitVec 4) (addr data : Word) (code : BitVec 7)
    (rcrc : Byte) (use : RespUse) :
    x.Asks (x.issue now ty x.world x.ring be addr data code rcrc use) (x.nextReq ty be addr data code rcrc use) ∧
      (x.issue now ty x.world x.ring be addr data code rcrc use).dcache = x.dcache := by
  obtain ⟨sd, st, hsent⟩ := Copy.send_form { x with
    csn := x.csn + 1, issued := x.issued + 1, out := x.out ++ [x.nextReq ty be addr data code rcrc use] } now (x.clsOf x.world)
    (.req ty (x.nextReq ty be addr data code rcrc use).req)
  have hform : x.issue now ty x.world x.ring be addr data code rcrc use = _ := hsent
  rw [hform]
  exact ⟨⟨_, _, _, _, rfl⟩, rfl⟩

theorem Copy.Asks.of_afterFetch {x z y : Copy} {o : Outst} (hz : x.afterFetch z) (h : z.Asks y o) : x.Asks y o := by
  obtain ⟨_, _, rfl⟩ := hz
  obtain ⟨_, _, _, _, rfl⟩ := h
  exact ⟨_, _, _, _, rfl⟩

/-- An instruction that has sent its request writes `v` to `rd` and retires. -/
theorem Copy.Asks.next_facts {x z : Copy} {o : Outst} (h : x.Asks z o) (hwait : x.wait = .none) (hdbg : x.dbgDue = false)
    (e : Env) (rd : BitVec 5) (v : Word) (len : Nat) {y : Copy} (hy : y = (z.setX rd v).next e len) :
    x.wrote y rd v ∧ y.pc = x.pc + toWord len ∧ y.retire = x.retire + 1 ∧ y.wait = .none ∧ y.csn = x.csn + 1 ∧
      y.issued = x.issued + 1 ∧ y.out = x.out ++ [o] ∧ y.dcache = z.dcache := by
  obtain ⟨ic, dc, st, sd, hform⟩ := h
  have hfacts := Copy.retire_wrote (x := z) ⟨z.icache, z.stats, rfl⟩ (by rw [hform]; exact hwait)
    (by rw [hform]; exact hdbg) e rd v (z.pc + toWord len) len
  rw [Copy.next, Copy.setX_pc] at hy
  rw [← hy] at hfacts
  subst hform
  obtain ⟨hwrote, ⟨hpc, hretire, -⟩, hmasked⟩ := hfacts
  obtain ⟨hout, hquiet, -, hdcache⟩ := Copy.fields_of_masked hmasked
  exact ⟨hwrote, hpc, hretire, hquiet.trans hwait, congrArg Copy.csn hmasked, congrArg Copy.issued hmasked, hout, hdcache⟩

end Sys2Proof.Machine

namespace Sys2Proof.Machine

open Sys2Proof

/-! LOAD (R177, R184, R185). -/

theorem Copy.afterFetch.room {x z : Copy} (hz : x.afterFetch z) (n : Nat) : z.room n = x.room n := by
  obtain ⟨_, _, rfl⟩ := hz
  rfl

/-- The address that a load or a store names is that of the copy before the fetch. -/
theorem Copy.afterFetch.address {x z : Copy} (hz : x.afterFetch z) (rs1 : BitVec 5) (off : BitVec 12) :
    z.xr rs1 + imm12 off = x.xr rs1 + off.signExtend 32 := by
  rw [hz.xr, imm12]

theorem Copy.afterFetch.nextReq {x z : Copy} (hz : x.afterFetch z) (ty : ReqType) (be : BitVec 4) (addr data : Word)
    (code : BitVec 7) (rcrc : Byte) (use : RespUse) :
    z.nextReq ty be addr data code rcrc use = x.nextReq ty be addr data code rcrc use := by
  obtain ⟨_, _, rfl⟩ := hz
  rfl

section Load

variable {x : Copy} {k : LoadKind} {rs1 : BitVec 5} {off : BitVec 12} {a : Word}

theorem Copy.load_of_misaligned (ha : x.xr rs1 + imm12 off = a) (halign : a.toNat % loadSize k ≠ 0) (e : Env)
    (rd : BitVec 5) (len : Nat) : x.load e k rd rs1 off len = x.raise e 2 a 0 := by
  simp [Copy.load, ha, halign]

theorem Copy.load_of_unmapped (ha : x.xr rs1 + imm12 off = a) (halign : a.toNat % loadSize k = 0)
    (hmap : canLoad a.toNat = false) (e : Env) (rd : BitVec 5) (len : Nat) :
    x.load e k rd rs1 off len = x.raise e 3 a 0 := by
  simp [Copy.load, ha, halign, hmap]

theorem Copy.load_of_room (ha : x.xr rs1 + imm12 off = a) (halign : a.toNat % loadSize k = 0) (hmap : canLoad a.toNat = true)
    (hroom : x.room 1 = true) (e : Env) (rd : BitVec 5) (len : Nat) :
    x.load e k rd rs1 off len = x.loadAt e k rd a len := by
  simp [Copy.load, ha, halign, hmap, hroom]

end Load

/-- The copy that has looked a cached address up in its data cache. -/
def Copy.lookedUp (x : Copy) (a : Word) : Copy := if isCached a.toNat then (x.dcLoad a).1 else x

/-- The READ of a load goes out after the look-up. -/
theorem Copy.asks_lookedUp_readReq (x : Copy) (now : Nat) (a : Word) (use : RespUse) :
    x.Asks ((x.lookedUp a).readReq now x.world x.ring a use) (x.nextReq .read 0xF (wordOf a) 0 0 0 use) := by
  have hform : ∃ dc st, x.lookedUp a = { x with dcache := dc, stats := st } := by
    unfold Copy.lookedUp
    split
    · exact x.dcLoad_form a
    · exact ⟨_, _, rfl⟩
  obtain ⟨dc, st, hlooked⟩ := hform
  obtain ⟨⟨_, _, _, _, hasked⟩, -⟩ :=
    Copy.asks_issue { x with dcache := dc, stats := st } now .read 0xF (wordOf a) 0 0 0 use
  rw [hlooked]
  exact ⟨_, _, _, _, hasked⟩

theorem Copy.loadAt_of_hit {x : Copy} {a : Word} {w : CWord} (hcached : isCached a.toNat = true)
    (hhit : (x.dcLoad a).2 = some w) (e : Env) (k : LoadKind) (rd : BitVec 5) (len : Nat) : x.loadAt e k rd a len =
      ((x.lookedUp a).readReq e.now x.world x.ring a (.loadHit (wordOf a) w)).loadDone e k rd a len w.data := by
  simp [Copy.loadAt, Copy.lookedUp, hcached, hhit]

theorem Copy.loadAt_of_miss {x : Copy} {a : Word} (hmiss : isCached a.toNat = true → (x.dcLoad a).2 = none) (e : Env)
    (k : LoadKind) (rd : BitVec 5) (len : Nat) : x.loadAt e k rd a len =
      { (x.lookedUp a).readReq e.now x.world x.ring a (.loadWait k rd a (isCached a.toNat)) with wait := .load len } := by
  by_cases hcached : isCached a.toNat = true
  · simp [Copy.loadAt, Copy.lookedUp, hcached, hmiss hcached]
  · simp [Copy.loadAt, Copy.lookedUp, hcached]

/-- A load that hits writes its register at once, behind its READ. -/
theorem load_of_hit {s : State} {c : CopyId} {k : LoadKind} {rd rs1 : BitVec 5} {off : BitVec 12} {b : Bool} {a : Word}
    {w : CWord} (h : (s.dev.copy c).fetched (instrLen b)) (ha : (s.dev.copy c).xr rs1 + off.signExtend 32 = a)
    (halign : a.toNat % loadSize k = 0) (hmap : canLoad a.toNat = true) (hroom : (s.dev.copy c).room 1 = true)
    (hcached : isCached a.toNat = true) (hhit : ((s.dev.copy c).dcLoad a).2 = some w) :
    CopyStep (.load c k rd rs1 off b) s c (fun y => (s.dev.copy c).wrote y rd (loadVal k a w.data) ∧
      y.pc = (s.dev.copy c).pc + toWord (instrLen b) ∧ y.retire = (s.dev.copy c).retire + 1 ∧ y.wait = .none ∧
      y.csn = (s.dev.copy c).csn + 1 ∧ y.issued = (s.dev.copy c).issued + 1 ∧
      y.out = (s.dev.copy c).out ++ [(s.dev.copy c).nextReq .read 0xF (wordOf a) 0 0 0 (.loadHit (wordOf a) w)]) := by
  refine CopyStep.of_fetched h rfl (fun z hz => ?_)
  have hasks := (z.asks_lookedUp_readReq s.dev.env.now a (.loadHit (wordOf a) w)).of_afterFetch hz
  rw [Copy.load_of_room ((hz.address rs1 off).trans ha) halign hmap ((hz.room 1).trans hroom),
    Copy.loadAt_of_hit hcached ((hz.dcLoad a).trans hhit), ← hz.nextReq]
  obtain ⟨hwrote, hpc, hretire, hwait, hcsn, hissued, hout, -⟩ :=
    hasks.next_facts h.wait h.dbgDue s.dev.env rd (loadVal k a w.data) (instrLen b) rfl
  exact ⟨hwrote, hpc, hretire, hwait, hcsn, hissued, hout⟩

/-- A load that does not hit waits behind its READ. -/
theorem load_of_miss {s : State} {c : CopyId} {k : LoadKind} {rd rs1 : BitVec 5} {off : BitVec 12} {b : Bool} {a : Word}
    (h : (s.dev.copy c).fetched (instrLen b)) (ha : (s.dev.copy c).xr rs1 + off.signExtend 32 = a)
    (halign : a.toNat % loadSize k = 0) (hmap : canLoad a.toNat = true) (hroom : (s.dev.copy c).room 1 = true)
    (hmiss : isCached a.toNat = true → ((s.dev.copy c).dcLoad a).2 = none) :
    CopyStep (.load c k rd rs1 off b) s c (fun y => (s.dev.copy c).wrote y 0 0 ∧ y.pc = (s.dev.copy c).pc ∧
      y.retire = (s.dev.copy c).retire ∧ y.wait = .load (instrLen b) ∧ y.csn = (s.dev.copy c).csn + 1 ∧
      y.issued = (s.dev.copy c).issued + 1 ∧ y.out = (s.dev.copy c).out ++
        [(s.dev.copy c).nextReq .read 0xF (wordOf a) 0 0 0 (.loadWait k rd a (isCached a.toNat))]) := by
  refine CopyStep.of_fetched h rfl (fun z hz => ?_)
  obtain ⟨_, _, _, _, hasks⟩ :=
    (z.asks_lookedUp_readReq s.dev.env.now a (.loadWait k rd a (isCached a.toNat))).of_afterFetch hz
  rw [Copy.load_of_room ((hz.address rs1 off).trans ha) halign hmap ((hz.room 1).trans hroom),
    Copy.loadAt_of_miss (fun hcached => (hz.dcLoad a).trans (hmiss hcached)), ← hz.nextReq, hasks]
  exact ⟨Copy.wrote_zero_of_x rfl, rfl, rfl, rfl, rfl, rfl, rfl⟩

/-! STORE (R177, R183, R192). -/

section Store

variable {x : Copy} {k : StoreKind} {rs1 rs2 : BitVec 5} {off : BitVec 12} {a : Word}

theorem Copy.store_of_misaligned (ha : x.xr rs1 + imm12 off = a) (halign : a.toNat % storeSize k ≠ 0) (e : Env)
    (len : Nat) : x.store e k rs1 rs2 off len = x.raise e 2 a 0 := by
  simp [Copy.store, ha, halign]

theorem Copy.store_of_unmapped (ha : x.xr rs1 + imm12 off = a) (halign : a.toNat % storeSize k = 0)
    (hmap : canStore a.toNat = false) (e : Env) (len : Nat) : x.store e k rs1 rs2 off len = x.raise e 3 a 0 := by
  simp [Copy.store, ha, halign, hmap]

theorem Copy.store_of_room (ha : x.xr rs1 + imm12 off = a) (halign : a.toNat % storeSize k = 0)
    (hmap : canStore a.toNat = true) (hroom : x.room 1 = true) (e : Env) (len : Nat) : x.store e k rs1 rs2 off len =
      (x.storeReq e.now x.world x.ring a (x.xr rs2) (storeSize k) false).next e len := by
  simp [Copy.store, ha, halign, hmap, hroom]

end Store

/-- The posted WRITE of a store goes out. -/
theorem Copy.asks_storeReq (x : Copy) (now : Nat) (a v : Word) (size : Nat) :
    x.Asks (x.storeReq now x.world x.ring a v size false) (x.nextReq .write (laneMask a size) a (laneData a v size)
      (ecc (laneData a v size) a) (if isPages a.toNat then rcrcOf a (laneData a v size) else 0) (.posted false)) := by
  obtain ⟨⟨_, _, _, _, hasked⟩, -⟩ := x.asks_issue now .write (laneMask a size) a (laneData a v size)
    (ecc (laneData a v size) a) (if isPages a.toNat then rcrcOf a (laneData a v size) else 0) (.posted false)
  unfold Copy.storeReq
  dsimp only
  rw [Copy.writeReq, hasked]
  split
  · obtain ⟨dc, hstored⟩ := Copy.dcStore_form _ (laneMask a size) a (laneData a v size)
    rw [hstored]
    exact ⟨_, _, _, _, rfl⟩
  · exact ⟨_, _, _, _, rfl⟩

/-- A store outside SRAM leaves the data cache. -/
theorem Copy.dcache_storeReq_of_uncached {a : Word} (hsram : isSram a.toNat = false) (x : Copy) (now : Nat) (v : Word)
    (size : Nat) : (x.storeReq now x.world x.ring a v size false).dcache = x.dcache := by
  simp only [Copy.storeReq, hsram, Bool.false_eq_true, if_false]
  exact (x.asks_issue ..).2

/-- A full-word store to SRAM is in the data cache. -/
theorem Copy.holdsWord_storeReq {x : Copy} {a : Word} {size : Nat} (hsram : isSram a.toNat = true)
    (hmask : laneMask a size = 0xF) (hlen : ∀ j l, x.dcFind a = some (j, l) → l.words.length = 8) (now : Nat) (v : Word) :
    (x.storeReq now x.world x.ring a v size false).holdsWord a
      ⟨laneData a v size, ecc (laneData a v size) (wordOf a)⟩ := by
  have hfind : (x.writeReq now x.world x.ring 0xF a (laneData a v size) false).dcFind a = x.dcFind a :=
    congrArg (Cache.find DLine.line dcSets · a) (x.asks_issue ..).2
  simp only [Copy.storeReq, hsram, hmask, if_true]
  exact Copy.holdsWord_dcStore (by rwa [hfind]) _

/-- A store retires behind its posted WRITE, and a full word to SRAM is in the data cache. -/
theorem store_of_room {s : State} {c : CopyId} {k : StoreKind} {rs1 rs2 : BitVec 5} {off : BitVec 12} {b : Bool} {a v : Word}
    (h : (s.dev.copy c).fetched (instrLen b)) (ha : (s.dev.copy c).xr rs1 + off.signExtend 32 = a)
    (hv : laneData a ((s.dev.copy c).xr rs2) (storeSize k) = v) (halign : a.toNat % storeSize k = 0)
    (hmap : canStore a.toNat = true) (hroom : (s.dev.copy c).room 1 = true) :
    CopyStep (.store c k rs1 rs2 off b) s c (fun y => (s.dev.copy c).wrote y 0 0 ∧
      y.pc = (s.dev.copy c).pc + toWord (instrLen b) ∧ y.retire = (s.dev.copy c).retire + 1 ∧ y.wait = .none ∧
      y.csn = (s.dev.copy c).csn + 1 ∧ y.issued = (s.dev.copy c).issued + 1 ∧
      y.out = (s.dev.copy c).out ++ [(s.dev.copy c).nextReq .write (laneMask a (storeSize k)) a v (ecc v a)
        (if isPages a.toNat then rcrcOf a v else 0) (.posted false)] ∧
      (isSram a.toNat = false → y.dcache = (s.dev.copy c).dcache) ∧
      (isSram a.toNat = true → laneMask a (storeSize k) = 0xF →
        (∀ j l, (s.dev.copy c).dcFind a = some (j, l) → l.words.length = 8) → y.holdsWord a ⟨v, ecc v (wordOf a)⟩)) := by
  refine CopyStep.of_fetched h rfl (fun z hz => ?_)
  have hasks := (z.asks_storeReq s.dev.env.now a (z.xr rs2) (storeSize k)).of_afterFetch hz
  obtain ⟨hwrote, hpc, hretire, hwait, hcsn, hissued, hout, hdcache⟩ :=
    hasks.next_facts h.wait h.dbgDue s.dev.env 0 0 (instrLen b) rfl
  rw [Copy.store_of_room ((hz.address rs1 off).trans ha) halign hmap ((hz.room 1).trans hroom), ← hz.nextReq,
    ← hv, ← hz.xr rs2]
  refine ⟨hwrote, hpc, hretire, hwait, hcsn, hissued, hout, fun hsram => ?_, fun hsram hmask hlen => ?_⟩
  · exact hdcache.trans ((Copy.dcache_storeReq_of_uncached hsram ..).trans hz.dcache)
  · refine Copy.holdsWord_congr hdcache (Copy.holdsWord_storeReq hsram hmask ?_ ..)
    rwa [Copy.dcFind, hz.dcache]

/-- Settles O6: each case by what goes out, and the retirement, the wait or the trap that follows. -/
theorem loadsAndStores : Obligations.LoadsAndStores := by
  refine ⟨fun s c k rd rs1 off b h => ⟨fun halign hmap hroom => ⟨fun w hcached hhit => ?_, fun hmiss => ?_⟩,
    fun halign => ?_, fun halign hmap => ?_⟩,
    fun s c k rs1 rs2 off b h => ⟨fun halign hmap hroom => ?_, fun halign => ?_, fun halign hmap => ?_⟩⟩
  · exact load_of_hit h rfl halign hmap hroom hcached hhit
  · exact load_of_miss h rfl halign hmap hroom hmiss
  · exact TrapsWith.of_raise h rfl (by decide) (fun z hz _ => Copy.load_of_misaligned (hz.address rs1 off) halign ..)
  · exact TrapsWith.of_raise h rfl (by decide) (fun z hz _ => Copy.load_of_unmapped (hz.address rs1 off) halign hmap ..)
  · exact store_of_room h rfl rfl halign hmap hroom
  · exact TrapsWith.of_raise h rfl (by decide) (fun z hz _ => Copy.store_of_misaligned (hz.address rs1 off) halign ..)
  · exact TrapsWith.of_raise h rfl (by decide) (fun z hz _ => Copy.store_of_unmapped (hz.address rs1 off) halign hmap ..)

end Sys2Proof.Machine

namespace Sys2Proof.Machine

open Sys2Proof

/-! A request that is released at the wrap of TIME (R136, R279). -/

/-- The guard READ of `lateEntry`, whose comparison completed in the last HCLK of TIME: its release is due one HCLK later. -/
def lateRelease : CmpEntry := { lateEntry with stage := .released, relAt := lastTime + 1 }

/-- A running hub in that HCLK with three copies in service, their links active and empty. -/
def lateReleaseDev : Dev :=
  (((({ lastDev with cmp := [lateRelease] }.setReg Reg.sys_SVCLVL 0x703).setLstate 0 7).setLstate 1 7).setLstate 2 7)

/-- Refutes O49: a request that the copies agreed on in the last HCLK of TIME is released one HCLK later, at a TIME that 64 bits
do not hold; the model's TIME is 0 when it has its response places, and not the later of the two instants. -/
theorem not_requestsExecute : ¬ Obligations.RequestsExecute := by
  unfold Obligations.RequestsExecute
  intro h
  let s : State := ⟨[], lateReleaseDev⟩
  have hwraps : Completes (.responseReserve 0) s (fun d => d.now = 0) := ⟨_, rfl, by decide +kernel⟩
  obtain ⟨hreserves, -⟩ := h s 0 lateRelease true ⟨0, 0, 0, .iron, 0, 0, false, 0xF, 0x20000000, 0, 0, 0⟩ .read lastTime
    (by decide +kernel) rfl rfl rfl (by decide) (by decide +kernel) (by decide +kernel) rfl
  exact hwraps.not_now (fun _ hd => hd.1) (by decide +kernel) (hreserves rfl (by decide +kernel))

end Sys2Proof.Machine

namespace Sys2Proof.Machine

open Sys2Proof

/-! A step of one copy, one shadow stack of it, and the end of an instruction (R187, R218, R220). -/

/-- A command of a core is a step of its copy. -/
theorem CopyStep.of_core {i : Instr} {s : State} {c : CopyId} {f : Env → Copy → Copy} {P : Copy → Prop}
    (hexec : exec i s = s.run (Dev.core c f)) (hP : P (f s.dev.env (s.dev.copy c))) : CopyStep i s c P :=
  ⟨_, hexec, hP⟩

/-- A step of one copy satisfies every consequence of what it satisfies. -/
theorem CopyStep.imp {i : Instr} {s : State} {c : CopyId} {P Q : Copy → Prop} (h : CopyStep i s c P)
    (himp : ∀ y, P y → Q y) : CopyStep i s c Q := by
  obtain ⟨y, hexec, hy⟩ := h
  exact ⟨y, hexec, himp y hy⟩

theorem Quad.get_set {α : Type} (t : Quad α) (i j : Fin 4) (x : α) : (t.set i x).get j = if j = i then x else t.get j := by
  match i, j with
  | 0, 0 | 0, 1 | 0, 2 | 0, 3 | 1, 0 | 1, 1 | 1, 2 | 1, 3 | 2, 0 | 2, 1 | 2, 2 | 2, 3 | 3, 0 | 3, 1 | 3, 2 | 3, 3 => rfl

theorem Quad.set_set {α : Type} (t : Quad α) (i : Fin 4) (x y : α) : (t.set i x).set i y = t.set i y := by
  match i with
  | 0 | 1 | 2 | 3 => rfl

theorem Copy.stack_updStack (x : Copy) (w v : World) (r q : Fin 4) (f : SStack → SStack) :
    (x.updStack w r f).stack v q = if v = w ∧ q = r then f (x.stack v q) else x.stack v q := by
  rw [Copy.stack, Copy.updStack, Copy.bank_updBank]
  by_cases hv : v = w
  · rw [if_pos hv, Quad.upd, Quad.get_set]
    by_cases hq : q = r
    · rw [if_pos hq, if_pos ⟨hv, hq⟩, hq]
      rfl
    · rw [if_neg hq, if_neg (fun h => hq h.2)]
      rfl
  · rw [if_neg hv, if_neg (fun h => hv h.1)]
    rfl

@[simp] theorem Copy.stack_updStack_same (x : Copy) (w : World) (r : Fin 4) (f : SStack → SStack) :
    (x.updStack w r f).stack w r = f (x.stack w r) := by
  rw [Copy.stack_updStack, if_pos ⟨rfl, rfl⟩]

theorem Copy.updStack_updStack (x : Copy) (w : World) (r : Fin 4) (f g : SStack → SStack) :
    (x.updStack w r f).updStack w r g = x.updStack w r (fun s => g (f s)) := by
  have hquad (t : Quad SStack) : (t.upd r f).upd r g = t.upd r (fun s => g (f s)) := by
    simp only [Quad.upd, Quad.get_set, if_true, Quad.set_set]
  cases w with
  | iron => simp only [Copy.updStack, Copy.updBank, hquad]
  | tin => simp only [Copy.updStack, Copy.updBank, hquad]

/-- A stack is changed in the banks alone. -/
theorem Copy.updStack_form (x : Copy) (w : World) (r : Fin 4) (f : SStack → SStack) :
    ∃ i t, x.updStack w r f = { x with iron := i, tin := t } := by
  cases w with
  | iron => exact ⟨_, x.tin, rfl⟩
  | tin => exact ⟨x.iron, _, rfl⟩

theorem Copy.wait_updStack (x : Copy) (w : World) (r : Fin 4) (f : SStack → SStack) :
    (x.updStack w r f).wait = x.wait := by
  obtain ⟨i, t, hform⟩ := x.updStack_form w r f
  rw [hform]

theorem Copy.csn_updStack (x : Copy) (w : World) (r : Fin 4) (f : SStack → SStack) :
    (x.updStack w r f).csn = x.csn := by
  obtain ⟨i, t, hform⟩ := x.updStack_form w r f
  rw [hform]

theorem Copy.issued_updStack (x : Copy) (w : World) (r : Fin 4) (f : SStack → SStack) :
    (x.updStack w r f).issued = x.issued := by
  obtain ⟨i, t, hform⟩ := x.updStack_form w r f
  rw [hform]

theorem Copy.out_updStack (x : Copy) (w : World) (r : Fin 4) (f : SStack → SStack) :
    (x.updStack w r f).out = x.out := by
  obtain ⟨i, t, hform⟩ := x.updStack_form w r f
  rw [hform]

theorem Copy.refusals_updStack (x : Copy) (w v : World) (r : Fin 4) (f : SStack → SStack) :
    (x.updStack w r f).refusals v = x.refusals v := by
  rw [Copy.refusals, Copy.refusals, Copy.updStack, Copy.bank_updBank]
  split
  · rfl
  · rfl

theorem Copy.dbgDue_updStack (x : Copy) (w : World) (r : Fin 4) (f : SStack → SStack) :
    (x.updStack w r f).dbgDue = x.dbgDue := by
  have hrefusals := x.refusals_updStack w x.world r f
  obtain ⟨i, t, hform⟩ := x.updStack_form w r f
  rw [hform] at hrefusals ⊢
  exact congrArg (fun n => x.dbg && n == 0) hrefusals

/-- A write to the registers of `x` is one to those of a copy with the same registers. -/
theorem Copy.wrote_of_x {x z y : Copy} {rd : BitVec 5} {v : Word} (hx : z.x = x.x) (h : z.wrote y rd v) : x.wrote y rd v :=
  fun r => by rw [h r, Copy.xr_congr hx]

theorem Copy.afterFetch.refl (x : Copy) : x.afterFetch x := ⟨x.icache, x.stats, rfl⟩

theorem Copy.afterFetch.dbgDue {x z : Copy} (hz : x.afterFetch z) : z.dbgDue = x.dbgDue := by
  obtain ⟨_, _, rfl⟩ := hz
  rfl

theorem Copy.afterFetch.stack {x z : Copy} (hz : x.afterFetch z) (w : World) (r : Fin 4) : z.stack w r = x.stack w r :=
  congrArg (fun b : Bank => b.stk.get r) (hz.bank w)

theorem Copy.afterFetch.updStack {x z : Copy} (hz : x.afterFetch z) (w : World) (r : Fin 4) (f : SStack → SStack) :
    (x.updStack w r f).afterFetch (z.updStack w r f) := by
  obtain ⟨ic, st, rfl⟩ := hz
  cases w with
  | iron => exact ⟨ic, st, rfl⟩
  | tin => exact ⟨ic, st, rfl⟩

/-- From `x` to `y` an instruction has ended with `v` in `rd` and the next one at `pc`: nothing else that `Copy.masked` keeps
has changed. -/
structure Copy.Ends (x y : Copy) (rd : BitVec 5) (v pc : Word) : Prop where
  wrote : x.wrote y rd v
  retired : x.retired y pc
  masked : y.masked = x.masked

theorem Copy.ends_retireTo {x z : Copy} (hz : x.afterFetch z) (hwait : x.wait = .none) (hdbg : x.dbgDue = false) (e : Env)
    (rd : BitVec 5) (v pc : Word) (len : Nat) : x.Ends ((z.setX rd v).retireTo e len pc) rd v pc := by
  obtain ⟨hwrote, hretired, hmasked⟩ := Copy.retire_wrote hz hwait hdbg e rd v pc len
  exact ⟨hwrote, hretired, hmasked⟩

section Ends

variable {x y : Copy} {rd : BitVec 5} {v p : Word}

theorem Copy.Ends.pc (h : x.Ends y rd v p) : y.pc = p := h.retired.1
theorem Copy.Ends.retire (h : x.Ends y rd v p) : y.retire = x.retire + 1 := h.retired.2.1
theorem Copy.Ends.world (h : x.Ends y rd v p) : y.world = x.world := (congrArg Copy.world h.masked :)
theorem Copy.Ends.ring (h : x.Ends y rd v p) : y.ring = x.ring := (congrArg Copy.ring h.masked :)
theorem Copy.Ends.hush (h : x.Ends y rd v p) : y.hush = x.hush := (congrArg Copy.hush h.masked :)
theorem Copy.Ends.bmode (h : x.Ends y rd v p) : y.bmode = x.bmode := (congrArg Copy.bmode h.masked :)
theorem Copy.Ends.ibusy (h : x.Ends y rd v p) : y.ibusy = x.ibusy := (congrArg Copy.ibusy h.masked :)
theorem Copy.Ends.idflt (h : x.Ends y rd v p) : y.idflt = x.idflt := (congrArg Copy.idflt h.masked :)
theorem Copy.Ends.tbusy (h : x.Ends y rd v p) : y.tbusy = x.tbusy := (congrArg Copy.tbusy h.masked :)
theorem Copy.Ends.tdflt (h : x.Ends y rd v p) : y.tdflt = x.tdflt := (congrArg Copy.tdflt h.masked :)
theorem Copy.Ends.iron (h : x.Ends y rd v p) : y.iron = x.iron := (congrArg Copy.iron h.masked :)
theorem Copy.Ends.tin (h : x.Ends y rd v p) : y.tin = x.tin := (congrArg Copy.tin h.masked :)
theorem Copy.Ends.acc (h : x.Ends y rd v p) : y.acc = x.acc := (congrArg Copy.acc h.masked :)
theorem Copy.Ends.bstat (h : x.Ends y rd v p) : y.bstat = x.bstat := (congrArg Copy.bstat h.masked :)
theorem Copy.Ends.csn (h : x.Ends y rd v p) : y.csn = x.csn := (congrArg Copy.csn h.masked :)
theorem Copy.Ends.issued (h : x.Ends y rd v p) : y.issued = x.issued := (congrArg Copy.issued h.masked :)
theorem Copy.Ends.out (h : x.Ends y rd v p) : y.out = x.out := (congrArg Copy.out h.masked :)
theorem Copy.Ends.wait (h : x.Ends y rd v p) : y.wait = x.wait := (congrArg Copy.wait h.masked :)
theorem Copy.Ends.dcache (h : x.Ends y rd v p) : y.dcache = x.dcache := (congrArg Copy.dcache h.masked :)

theorem Copy.Ends.busy (h : x.Ends y rd v p) (w : World) : y.busy w = x.busy w := by
  cases w with
  | iron => exact h.ibusy
  | tin => exact h.tbusy

theorem Copy.Ends.dflt (h : x.Ends y rd v p) (w : World) : y.dflt w = x.dflt w := by
  cases w with
  | iron => exact h.idflt
  | tin => exact h.tdflt

theorem Copy.Ends.bank (h : x.Ends y rd v p) (w : World) : y.bank w = x.bank w := by
  cases w with
  | iron => exact h.iron
  | tin => exact h.tin

theorem Copy.Ends.stack (h : x.Ends y rd v p) (w : World) (r : Fin 4) : y.stack w r = x.stack w r :=
  congrArg (fun b : Bank => b.stk.get r) (h.bank w)

end Ends

/-! A push of a call (R219, R220). -/

section Push

variable {t : SStack} {n : Nat}

theorem SStack.overflows_of_fits (h : t.top.length + n ≤ 32) : t.overflows n = false := by
  simp [SStack.overflows, Nat.not_lt.2 h]

theorem SStack.pushNeed_of_fits (h : t.top.length + n ≤ 32) : t.pushNeed n = 0 := if_neg (Nat.not_lt.2 h)

theorem SStack.overflows_of_full (h : 32 < t.top.length + n) : t.overflows n = decide (128 < t.cnt + 8) := by
  simp [SStack.overflows, h]

theorem SStack.pushNeed_of_full (h : 32 < t.top.length + n) : t.pushNeed n = 16 := if_pos h

end Push

/-- Entries that fit are pushed without a spill. -/
theorem Copy.push_of_fits {x : Copy} {w : World} {r : Fin 4} {es : List SEntry}
    (h : (x.stack w r).top.length + es.length ≤ 32) (now : Nat) :
    x.push now w r es = x.updStack w r (fun t => { t with top := es.reverse ++ t.top }) := by
  rw [Copy.push, SStack.pushNeed_of_fits h]
  rfl

theorem fld_setFld_cnt (w : Word) {n : Nat} (hn : n < 256) : fld (setFld w 9 2 n) 9 2 = n := by
  have hw := w.isLt
  simp only [fld, setFld, BitVec.toNat_ofNat]
  omega

theorem SStack.cnt_setCnt (t : SStack) {n : Nat} (hn : n < 256) : (t.setCnt n).cnt = n := fld_setFld_cnt t.ssp hn

end Sys2Proof.Machine

namespace Sys2Proof.Machine

open Sys2Proof

/-! Requests that go out one after another (R127, R192), and the spill and the fill of a stack (R220). -/

/-- From `x` to `y` the requests `os` have gone out; the data cache, the report counters and the link's send side may differ
too. -/
def Copy.Sends (x y : Copy) (os : List Outst) : Prop :=
  ∃ dc st sd, y = { x with
    csn := x.csn + BitVec.ofNat 32 os.length, issued := x.issued + BitVec.ofNat 16 os.length, out := x.out ++ os,
    dcache := dc, stats := st, side := sd }

theorem Copy.Sends.refl (x : Copy) : x.Sends x [] :=
  ⟨x.dcache, x.stats, x.side, by simp⟩

theorem Copy.Sends.trans {x y z : Copy} {os ps : List Outst} (h : x.Sends y os) (h' : y.Sends z ps) : x.Sends z (os ++ ps) := by
  obtain ⟨_, _, _, rfl⟩ := h
  obtain ⟨dc, st, sd, rfl⟩ := h'
  exact ⟨dc, st, sd, by simp only [List.length_append, BitVec.ofNat_add, BitVec.add_assoc, List.append_assoc]⟩

section Sends

variable {x y : Copy} {os : List Outst} (h : x.Sends y os)

include h

theorem Copy.Sends.csn : y.csn = x.csn + BitVec.ofNat 32 os.length := by obtain ⟨_, _, _, rfl⟩ := h; rfl
theorem Copy.Sends.issued : y.issued = x.issued + BitVec.ofNat 16 os.length := by obtain ⟨_, _, _, rfl⟩ := h; rfl
theorem Copy.Sends.out : y.out = x.out ++ os := by obtain ⟨_, _, _, rfl⟩ := h; rfl
theorem Copy.Sends.regs : y.x = x.x := by obtain ⟨_, _, _, rfl⟩ := h; rfl
theorem Copy.Sends.pc : y.pc = x.pc := by obtain ⟨_, _, _, rfl⟩ := h; rfl
theorem Copy.Sends.retire : y.retire = x.retire := by obtain ⟨_, _, _, rfl⟩ := h; rfl
theorem Copy.Sends.wait : y.wait = x.wait := by obtain ⟨_, _, _, rfl⟩ := h; rfl
theorem Copy.Sends.dbgDue : y.dbgDue = x.dbgDue := by obtain ⟨_, _, _, rfl⟩ := h; rfl

theorem Copy.Sends.stack (w : World) (r : Fin 4) : y.stack w r = x.stack w r := by
  obtain ⟨_, _, _, rfl⟩ := h
  cases w with
  | iron => rfl
  | tin => rfl

end Sends

/-- A request leaves the data cache. -/
theorem Copy.sends_issue (x : Copy) (now : Nat) (ty : ReqType) (w : World) (r : Fin 4) (be : BitVec 4) (addr data : Word)
    (code : BitVec 7) (rcrc : Byte) (use : RespUse) :
    ∃ o : Outst, o.req.addr = addr ∧ x.Sends (x.issue now ty w r be addr data code rcrc use) [o] ∧
      (x.issue now ty w r be addr data code rcrc use).dcache = x.dcache := by
  let o : Outst := ⟨x.freeTag, ty, ⟨x.csn, x.retire, x.freeTag, w, r, x.clsOf w, false, be, addr, data, code, rcrc⟩, use, none⟩
  obtain ⟨sd, st, hsent⟩ := Copy.send_form { x with csn := x.csn + 1, issued := x.issued + 1, out := x.out ++ [o] } now
    (x.clsOf w) (.req ty o.req)
  have hform : x.issue now ty w r be addr data code rcrc use = _ := hsent
  rw [hform]
  exact ⟨o, rfl, ⟨_, _, _, rfl⟩, rfl⟩

theorem Copy.sends_storeReq (x : Copy) (now : Nat) (w : World) (r : Fin 4) (a v : Word) (size : Nat) (spill : Bool) :
    ∃ o, x.Sends (x.storeReq now w r a v size spill) [o] := by
  obtain ⟨o, -, ⟨dc, st, sd, hsent⟩, -⟩ := x.sends_issue now .write w r (laneMask a size) a (laneData a v size)
    (ecc (laneData a v size) a) (if isPages a.toNat then rcrcOf a (laneData a v size) else 0) (.posted spill)
  refine ⟨o, ?_⟩
  unfold Copy.storeReq
  dsimp only
  rw [Copy.writeReq, hsent]
  split
  · obtain ⟨dc', hstored⟩ := Copy.dcStore_form _ (laneMask a size) a (laneData a v size)
    rw [hstored]
    exact ⟨_, _, _, rfl⟩
  · exact ⟨_, _, _, rfl⟩

/-- Each record of a spill is two posted writes. -/
theorem Copy.sends_spillRecs (now : Nat) (w : World) (r : Fin 4) : ∀ (es : List SEntry) (d : Nat) (x : Copy),
    ∃ os, os.length = 2 * es.length ∧ x.Sends (Copy.spillRecs now w r es d x) os
  | [], _, x => ⟨[], rfl, .refl x⟩
  | _ :: es, d, x => by
    obtain ⟨o, ho⟩ := x.sends_storeReq now w r _ _ 4 true
    obtain ⟨p, hp⟩ := Copy.sends_storeReq _ now w r _ _ 4 true
    obtain ⟨os, hlen, hos⟩ := Copy.sends_spillRecs now w r es (d + 1) _
    exact ⟨[o] ++ ([p] ++ os), by simp [hlen]; omega, ho.trans (hp.trans hos)⟩

/-- Each record of a fill is two reads. -/
theorem Copy.sends_fillReqs (now : Nat) (w : World) (r : Fin 4) : ∀ (ds : List Nat) (i : Nat) (x : Copy),
    ∃ os, os.length = 2 * ds.length ∧ x.Sends (Copy.fillReqs now w r ds i x) os
  | [], _, x => ⟨[], rfl, .refl x⟩
  | _ :: ds, i, x => by
    obtain ⟨o, -, ho, -⟩ := x.sends_issue now .read w r 0xF _ 0 0 0 (.fillWord i)
    obtain ⟨p, -, hp, -⟩ := Copy.sends_issue _ now .read w r 0xF _ 0 0 0 (.fillWord (i + 1))
    obtain ⟨os, hlen, hos⟩ := Copy.sends_fillReqs now w r ds (i + 2) _
    exact ⟨[o] ++ ([p] ++ os), by simp [hlen]; omega, ho.trans (hp.trans hos)⟩

/-- A full stack: eight records go out, and the entries are pushed on what stays. -/
theorem Copy.push_of_full {x : Copy} {w : World} {r : Fin 4} {es : List SEntry}
    (hfull : 32 < (x.stack w r).top.length + es.length) (height : 8 ≤ (x.stack w r).top.length) (now : Nat) :
    ∃ y os, os.length = 16 ∧ x.Sends y os ∧ x.push now w r es = y.updStack w r (fun t =>
      { t.setCnt (t.cnt + 8) with top := es.reverse ++ t.top.take (t.top.length - 8) }) := by
  obtain ⟨os, hlen, hos⟩ := Copy.sends_spillRecs now w r
    ((x.stack w r).top.drop ((x.stack w r).top.length - 8)).reverse ((x.stack w r).cnt + 1) x
  have height' : ((x.stack w r).top.drop ((x.stack w r).top.length - 8)).reverse.length = 8 := by
    rw [List.length_reverse, List.length_drop]
    omega
  refine ⟨_, os, hlen.trans (congrArg (2 * ·) height'), hos, ?_⟩
  rw [Copy.push, SStack.pushNeed_of_full hfull, if_neg (by decide), Copy.spill, Copy.updStack_updStack]

/-! CALL (R219, R220). -/

/-- The link register of a call. -/
def linkReg : CallForm → BitVec 5
  | .jal rd _ => rd
  | .jalr rd _ _ => rd

/-- Where a call goes. -/
def Copy.callTarget (x : Copy) : CallForm → Word
  | .jal _ off => x.pc + off.signExtend 32
  | .jalr _ rs1 off => x.jumpTarget rs1 off

theorem Copy.afterFetch.jumpTarget {x z : Copy} (hz : x.afterFetch z) (rs1 : BitVec 5) (off : BitVec 12) :
    z.jumpTarget rs1 off = x.jumpTarget rs1 off := by
  rw [Copy.jumpTarget, hz.xr, Copy.jumpTarget]

theorem Copy.afterFetch.callTarget {x z : Copy} (hz : x.afterFetch z) (f : CallForm) : z.callTarget f = x.callTarget f := by
  cases f with
  | jal rd off => exact congrArg (· + off.signExtend 32) hz.pc
  | jalr rd rs1 off => exact hz.jumpTarget rs1 off

theorem Copy.afterFetch.curStack {x z : Copy} (hz : x.afterFetch z) : z.curStack = x.curStack := by
  rw [Copy.curStack, hz.stack, hz.world, hz.ring, Copy.curStack]

/-- A call is the push of its return address, then the write of its link register. -/
theorem Copy.call_eq (x : Copy) (e : Env) (f : CallForm) (len : Nat) :
    x.call e f len = x.pushCall e [⟨.call, x.pc + toWord len⟩] (fun y =>
      (y.setX (linkReg f) (x.pc + toWord len)).retireTo e len (x.callTarget f)) := by
  cases f with
  | jal rd off => rfl
  | jalr rd rs1 off => rfl

theorem exec_call_of_form {f : CallForm} (hform : callForm f = true) (c : CopyId) (b : Bool) (s : State) :
    exec (.call c f b) s = s.run (Dev.core c (fun e x => x.instr e (instrLen b) (fun y => y.call e f (instrLen b)))) := by
  change execCall c f b s = _
  simp only [execCall, State.run, dueIf, hform, if_true]

/-- What an instruction leaves that has changed a stack of the copy. -/
theorem Copy.Ends.of_updStack {x y : Copy} {w : World} {r : Fin 4} {f : SStack → SStack} {rd : BitVec 5} {v pc : Word}
    (h : (x.updStack w r f).Ends y rd v pc) :
    x.wrote y rd v ∧ x.retired y pc ∧ y.masked = (x.updStack w r f).masked := by
  obtain ⟨hwrote, hretired, hmasked⟩ := h
  obtain ⟨i, t, hform⟩ := x.updStack_form w r f
  refine ⟨?_, ?_, hmasked⟩
  · rw [hform] at hwrote
    exact hwrote
  · rw [hform] at hretired
    exact hretired

section Call

variable {x z : Copy} (hz : x.afterFetch z)

include hz

/-- A call on a stack with room retires behind its push. -/
theorem Copy.call_of_fits (hwait : x.wait = .none) (hdbg : x.dbgDue = false) (hfits : x.curStack.top.length + 1 ≤ 32)
    (hroom : x.room 0 = true) (e : Env) (f : CallForm) (len : Nat) :
    (x.updStack x.world x.ring (fun t => { t with top := ⟨.call, x.pc + toWord len⟩ :: t.top })).Ends (z.call e f len)
      (linkReg f) (x.pc + toWord len) (x.callTarget f) := by
  have hfits' : (z.stack x.world x.ring).top.length + 1 ≤ 32 := by rwa [hz.stack]
  rw [Copy.call_eq, Copy.pushCall, hz.world, hz.ring, hz.pc, hz.callTarget]
  simp only [List.length_singleton, SStack.overflows_of_fits hfits', SStack.pushNeed_of_fits hfits', hz.room, hroom,
    Bool.false_eq_true, if_false, if_true]
  rw [Copy.push_of_fits hfits']
  exact Copy.ends_retireTo (hz.updStack ..) ((x.wait_updStack ..).trans hwait) ((x.dbgDue_updStack ..).trans hdbg) ..

/-- A call on a full stack retires behind the sixteen writes of its spill. -/
theorem Copy.call_of_full (hwait : x.wait = .none) (hdbg : x.dbgDue = false) (hfull : 32 < x.curStack.top.length + 1)
    (hcnt : x.curStack.cnt + 8 ≤ 128) (hroom : x.room 16 = true) (e : Env) (f : CallForm) (len : Nat) :
    ∃ m os, os.length = 16 ∧ z.Sends m os ∧ (m.updStack x.world x.ring (fun t =>
      { t.setCnt (t.cnt + 8) with top := ⟨.call, x.pc + toWord len⟩ :: t.top.take (t.top.length - 8) })).Ends
        (z.call e f len) (linkReg f) (x.pc + toWord len) (x.callTarget f) := by
  have hfull' : 32 < (z.stack x.world x.ring).top.length + 1 := by rwa [hz.stack]
  have hcnt' : ¬ 128 < (z.stack x.world x.ring).cnt + 8 := by rw [hz.stack]; exact Nat.not_lt.2 hcnt
  obtain ⟨m, os, hlen, hos, hpush⟩ :=
    Copy.push_of_full (es := [⟨.call, x.pc + toWord len⟩]) hfull' (by omega) e.now
  refine ⟨m, os, hlen, hos, ?_⟩
  rw [Copy.call_eq, Copy.pushCall, hz.world, hz.ring, hz.pc, hz.callTarget]
  simp only [List.length_singleton, SStack.overflows_of_full hfull', SStack.pushNeed_of_full hfull', hz.room, hroom, hcnt',
    decide_false, Bool.false_eq_true, if_false, if_true]
  rw [hpush]
  refine Copy.ends_retireTo (.refl _) ?_ ?_ ..
  · rw [Copy.wait_updStack, hos.wait, hz.wait, hwait]
  · rw [Copy.dbgDue_updStack, hos.dbgDue, hz.dbgDue, hdbg]

/-- A call that would pass record 128 faults. -/
theorem Copy.call_of_overflow (hfull : 32 < x.curStack.top.length + 1) (hcnt : 128 < x.curStack.cnt + 8) (e : Env)
    (f : CallForm) (len : Nat) :
    z.call e f len = z.raise e 7 1 ((x.curStack.base + toWord (8 * x.curStack.cnt)).setWidth 64) := by
  have hover : (z.stack z.world z.ring).overflows 1 = true := by
    rw [show z.stack z.world z.ring = x.curStack from hz.curStack, SStack.overflows_of_full hfull]
    exact decide_eq_true hcnt
  rw [Copy.call_eq, Copy.pushCall]
  simp only [List.length_singleton, hover, if_true]
  rw [show z.stack z.world z.ring = x.curStack from hz.curStack]
  rfl

end Call

end Sys2Proof.Machine

namespace Sys2Proof.Machine

open Sys2Proof

/-! RETURN (R219, R220), and the statement about calls and returns. -/

theorem exec_ret_of_pops {rd rs1 : BitVec 5} (hpops : jalrPops rd rs1 = true) (c : CopyId) (off : BitVec 12) (b : Bool)
    (s : State) : exec (.ret c rd rs1 off b) s =
      s.run (Dev.core c (fun e x => x.instr e (instrLen b) (fun y => y.ret e rd rs1 off (instrLen b)))) := by
  change execRet c rd rs1 off b s = _
  simp only [execRet, State.run, dueIf, hpops, if_true]

/-- Entries that are on core, or that no record holds, are not read. -/
theorem Copy.havingEntries_of_ready {x : Copy} {n : Nat} (h : n ≤ x.curStack.top.length ∨ x.curStack.cnt = 0) (e : Env)
    (body : Copy → Copy) : x.havingEntries e n body = body x := if_pos h

/-- Records that are left in memory are read first. -/
theorem Copy.havingEntries_of_spilled {x : Copy} {n : Nat} (htop : x.curStack.top.length < n) (hcnt : x.curStack.cnt ≠ 0)
    (hroom : x.room (2 * min 8 x.curStack.cnt) = true) (e : Env) (body : Copy → Copy) :
    x.havingEntries e n body = x.fill e.now x.world x.ring :=
  (if_neg (not_or.2 ⟨Nat.not_le.2 htop, hcnt⟩)).trans (if_pos hroom)

/-- The copy that waits for the words of `n` records of its current ring. -/
def Copy.filling (x : Copy) (n : Nat) : Copy := { x with wait := .fill x.world x.ring n (List.replicate (2 * n) none) }

/-- A fill: the copy waits for the words of the newest records, whose reads have gone out. -/
theorem Copy.sends_fill (x : Copy) (now : Nat) : ∃ os, os.length = 2 * min 8 x.curStack.cnt ∧
    (x.filling (min 8 x.curStack.cnt)).Sends (x.fill now x.world x.ring) os := by
  obtain ⟨os, hlen, hos⟩ := Copy.sends_fillReqs now x.world x.ring
    ((List.range (min 8 x.curStack.cnt)).map (fun i => x.curStack.cnt - i)) 0 (x.filling (min 8 x.curStack.cnt))
  exact ⟨os, by rw [hlen, List.length_map, List.length_range], hos⟩

/-- The pop of a return, with the push of the form that does both. -/
def Copy.popped (x : Copy) (w : World) (r : Fin 4) (rd : BitVec 5) (link : Word) (rest : List SEntry) : Copy :=
  x.updStack w r (fun t => { t with top := if isLink rd then ⟨.call, link⟩ :: rest else rest })

theorem Copy.updStack_congr {x : Copy} {w : World} {r : Fin 4} {f g : SStack → SStack}
    (h : f (x.stack w r) = g (x.stack w r)) : x.updStack w r f = x.updStack w r g := by
  have hquad : (x.bank w).stk.upd r f = (x.bank w).stk.upd r g := congrArg ((x.bank w).stk.set r) h
  cases w with
  | iron => exact congrArg (fun k => { x with iron := { x.iron with stk := k } }) hquad
  | tin => exact congrArg (fun k => { x with tin := { x.tin with stk := k } }) hquad

theorem Copy.pop_eq {x : Copy} {w : World} {r : Fin 4} {es rest : List SEntry} (htop : (x.stack w r).top = es ++ rest) :
    x.pop w r es.length = x.updStack w r (fun t => { t with top := rest }) :=
  Copy.updStack_congr (by rw [htop, List.drop_left])

theorem Copy.pop_push_eq_popped {x : Copy} {w : World} {r : Fin 4} {en : SEntry} {rest : List SEntry}
    (htop : (x.stack w r).top = en :: rest) (hrest : rest.length < 32) (now : Nat) (rd : BitVec 5) (link : Word) :
    (if isLink rd then (x.pop w r 1).push now w r [⟨.call, link⟩] else x.pop w r 1) = x.popped w r rd link rest := by
  have hpop : x.pop w r 1 = x.updStack w r (fun t => { t with top := rest }) := Copy.pop_eq (es := [en]) htop
  cases hlink : isLink rd with
  | false => simpa [Copy.popped, hlink] using hpop
  | true =>
    rw [if_pos rfl, hpop, Copy.push_of_fits (by rw [Copy.stack_updStack_same]; exact hrest), Copy.updStack_updStack,
      Copy.popped, hlink]
    rfl

section Ret

variable {x z : Copy} (hz : x.afterFetch z)

include hz

/-- A call entry with the target's address retires there. -/
theorem Copy.ret_of_match (hwait : x.wait = .none) (hdbg : x.dbgDue = false) {rs1 : BitVec 5} {off : BitVec 12}
    {rest : List SEntry} (htop : x.curStack.top = ⟨.call, x.jumpTarget rs1 off⟩ :: rest) (hrest : rest.length < 32) (e : Env)
    (rd : BitVec 5) (len : Nat) :
    (x.popped x.world x.ring rd (x.pc + toWord len) rest).Ends (z.ret e rd rs1 off len) rd (x.pc + toWord len)
      (x.jumpTarget rs1 off) := by
  have htop' : (z.stack x.world x.ring).top = ⟨.call, x.jumpTarget rs1 off⟩ :: rest := by rwa [hz.stack]
  have hready : 1 ≤ z.curStack.top.length ∨ z.curStack.cnt = 0 := by rw [hz.curStack, htop]; exact .inl (by simp)
  rw [Copy.ret, Copy.havingEntries_of_ready hready]
  simp only [hz.world, hz.ring, hz.pc, hz.jumpTarget, htop', and_self, if_true]
  rw [Copy.pop_push_eq_popped htop' hrest]
  exact Copy.ends_retireTo (hz.updStack ..) ((x.wait_updStack ..).trans hwait) ((x.dbgDue_updStack ..).trans hdbg) ..

/-- Another entry is a control-flow fault. -/
theorem Copy.ret_of_other {rs1 : BitVec 5} {off : BitVec 12} {en : SEntry} {rest : List SEntry}
    (htop : x.curStack.top = en :: rest) (hother : ¬ (en.kind = .call ∧ en.value = x.jumpTarget rs1 off)) (e : Env)
    (rd : BitVec 5) (len : Nat) : z.ret e rd rs1 off len = z.flowFault e (x.jumpTarget rs1 off) (some en) := by
  have htop' : (z.stack z.world z.ring).top = en :: rest := (congrArg SStack.top hz.curStack).trans htop
  have hready : 1 ≤ z.curStack.top.length ∨ z.curStack.cnt = 0 := by rw [hz.curStack, htop]; exact .inl (by simp)
  rw [Copy.ret, Copy.havingEntries_of_ready hready]
  simp only [htop', hz.jumpTarget, hother, if_false]

/-- An empty stack is a control-flow fault. -/
theorem Copy.ret_of_empty (htop : x.curStack.top = []) (hcnt : x.curStack.cnt = 0) (e : Env) (rd rs1 : BitVec 5)
    (off : BitVec 12) (len : Nat) : z.ret e rd rs1 off len = z.flowFault e (x.jumpTarget rs1 off) none := by
  have htop' : (z.stack z.world z.ring).top = [] := (congrArg SStack.top hz.curStack).trans htop
  rw [Copy.ret, Copy.havingEntries_of_ready (.inr (by rw [hz.curStack, hcnt]))]
  simp only [htop', hz.jumpTarget]

/-- A return whose records are left in memory reads them and does nothing else. -/
theorem Copy.ret_of_spilled (htop : x.curStack.top = []) (hcnt : x.curStack.cnt ≠ 0)
    (hroom : x.room (2 * min 8 x.curStack.cnt) = true) (e : Env) (rd rs1 : BitVec 5) (off : BitVec 12) (len : Nat) :
    ∃ os, os.length = 2 * min 8 x.curStack.cnt ∧
      (z.filling (min 8 x.curStack.cnt)).Sends (z.ret e rd rs1 off len) os := by
  obtain ⟨os, hlen, hos⟩ := z.sends_fill e.now
  rw [Copy.ret, Copy.havingEntries_of_spilled (by rw [hz.curStack, htop]; exact Nat.one_pos) (by rwa [hz.curStack])
    (by rwa [hz.curStack, hz.room])]
  rw [hz.curStack] at hlen hos
  exact ⟨os, hlen, hos⟩

end Ret

theorem copyStep_call_of_fits {s : State} {c : CopyId} {b : Bool} {f : CallForm}
    (h : (s.dev.copy c).fetched (instrLen b)) (hform : callForm f = true)
    (hfits : (s.dev.copy c).curStack.top.length + 1 ≤ 32) (hroom : (s.dev.copy c).room 0 = true) :
    CopyStep (.call c f b) s c (fun y => (s.dev.copy c).wrote y (linkReg f) ((s.dev.copy c).pc + toWord (instrLen b)) ∧
      (s.dev.copy c).retired y ((s.dev.copy c).callTarget f) ∧ y.masked =
        ((s.dev.copy c).updStack (s.dev.copy c).world (s.dev.copy c).ring (fun t =>
          { t with top := ⟨.call, (s.dev.copy c).pc + toWord (instrLen b)⟩ :: t.top })).masked) :=
  CopyStep.of_fetched h (exec_call_of_form hform c b s) (fun _ hz =>
    (Copy.call_of_fits hz h.wait h.dbgDue hfits hroom s.dev.env f (instrLen b)).of_updStack)

theorem copyStep_call_of_full {s : State} {c : CopyId} {b : Bool} {f : CallForm}
    (h : (s.dev.copy c).fetched (instrLen b)) (hform : callForm f = true)
    (hfull : 32 < (s.dev.copy c).curStack.top.length + 1) (hcnt : (s.dev.copy c).curStack.cnt + 8 ≤ 128)
    (hroom : (s.dev.copy c).room 16 = true) :
    CopyStep (.call c f b) s c (fun y => (s.dev.copy c).wrote y (linkReg f) ((s.dev.copy c).pc + toWord (instrLen b)) ∧
      y.pc = (s.dev.copy c).callTarget f ∧ y.retire = (s.dev.copy c).retire + 1 ∧ y.csn = (s.dev.copy c).csn + 16 ∧
      y.issued = (s.dev.copy c).issued + 16 ∧ y.out.length = (s.dev.copy c).out.length + 16 ∧
      (y.stack (s.dev.copy c).world (s.dev.copy c).ring).cnt = (s.dev.copy c).curStack.cnt + 8 ∧
      (y.stack (s.dev.copy c).world (s.dev.copy c).ring).top = ⟨.call, (s.dev.copy c).pc + toWord (instrLen b)⟩ ::
        (s.dev.copy c).curStack.top.take ((s.dev.copy c).curStack.top.length - 8)) := by
  refine CopyStep.of_fetched h (exec_call_of_form hform c b s) (fun z hz => ?_)
  obtain ⟨m, os, hlen, hos, hends⟩ := Copy.call_of_full hz h.wait h.dbgDue hfull hcnt hroom s.dev.env f (instrLen b)
  obtain ⟨hwrote, ⟨hpc, hretire, -⟩, -⟩ := hends.of_updStack
  have hstack := hends.stack (s.dev.copy c).world (s.dev.copy c).ring
  rw [Copy.stack_updStack_same, hos.stack, hz.stack] at hstack
  refine ⟨Copy.wrote_of_x (hos.regs.trans hz.x) hwrote, hpc, ?_, ?_, ?_, ?_, ?_, ?_⟩
  · rw [hretire, hos.retire, hz.retire]
  · rw [hends.csn, Copy.csn_updStack, hos.csn, hz.csn, hlen]
    rfl
  · rw [hends.issued, Copy.issued_updStack, hos.issued, hz.issued, hlen]
    rfl
  · rw [hends.out, Copy.out_updStack, hos.out, hz.out, List.length_append, hlen]
  · rw [hstack]
    exact SStack.cnt_setCnt _ (Nat.lt_of_le_of_lt hcnt (by decide))
  · rw [hstack]
    rfl

/-- Settles O7: the push, the spill and the overflow of a call, and what a return finds. -/
theorem callsAndReturns : Obligations.CallsAndReturns := by
  refine ⟨fun s c f b h hform => ⟨fun hfull hroom => ?_, fun hfull hcnt hroom => ?_, fun hfull hcnt => ?_⟩,
    fun s c rd rs1 off b h hpops => ⟨fun rest htop hrest => ?_, fun en rest htop hother => ?_, fun htop hcnt => ?_,
      fun htop hcnt hroom => ?_⟩⟩
  · exact copyStep_call_of_fits h hform (Nat.not_lt.1 (of_decide_eq_false hfull)) hroom
  · exact copyStep_call_of_full h hform (of_decide_eq_true hfull) hcnt hroom
  · exact TrapsWith.of_raise h (exec_call_of_form hform c b s) (by decide) (fun z hz _ =>
      Copy.call_of_overflow hz (of_decide_eq_true hfull) hcnt ..)
  · exact CopyStep.of_fetched h (exec_ret_of_pops hpops c off b s) (fun z hz =>
      (Copy.ret_of_match hz h.wait h.dbgDue htop hrest s.dev.env rd (instrLen b)).of_updStack)
  · exact TrapsWith.of_raise h (exec_ret_of_pops hpops c off b s) (by decide) (fun z hz _ =>
      Copy.ret_of_other hz htop hother ..)
  · exact TrapsWith.of_raise h (exec_ret_of_pops hpops c off b s) (by decide) (fun z hz _ =>
      Copy.ret_of_empty hz htop hcnt ..)
  · refine CopyStep.of_fetched h (exec_ret_of_pops hpops c off b s) (fun z hz => ?_)
    obtain ⟨os, hlen, hos⟩ := Copy.ret_of_spilled hz htop hcnt hroom s.dev.env rd rs1 off (instrLen b)
    refine ⟨Copy.wrote_zero_of_x (hos.regs.trans hz.x), hos.pc.trans hz.pc, hos.retire.trans hz.retire, ?_, hos.wait.trans ?_⟩
    · rw [hos.out, List.length_append, hlen]
      exact congrArg (fun os : List Outst => os.length + _) hz.out
    · rw [Copy.filling, hz.world, hz.ring]

end Sys2Proof.Machine

namespace Sys2Proof.Machine

open Sys2Proof

/-! Event entries and hush overrun (R210, R213, R214, R217, R228). -/

/-- Step 5 of R213 where the stack stays. -/
theorem Copy.switchStack_of_keepsStack {x y : Copy} {e : Env} {w : World} (hkeeps : x.keepsStack e w)
    (hI : y.gtbaseI = x.gtbaseI) (hT : y.gtbaseT = x.gtbaseT) (pc : Word) :
    (if (x.world != w || x.ring != 0) = true then y.switchStack e w pc else y) = y := by
  rcases hkeeps with ⟨hworld, hring⟩ | hstack
  · simp [hworld, hring]
  · have hnone : y.trapStack e w = some none := by
      unfold Copy.trapStack at hstack ⊢
      rwa [hI, hT]
    simp [Copy.switchStack, hnone]

/-- The copy that stands at the vector of an entry into `w` (R213 steps 3 and 4, R217). -/
def Copy.atVector (x : Copy) (w : World) (code : Nat) (int : Bool) (eval : Word) (aux : DWord) : Copy :=
  { ((x.updBank w (fun b => { b with
      estatus := x.status6, epc := x.pc &&& 0xFFFFFFFE, ecause := toWord (code + 0x80000000 * boolNat int),
      eval := eval, aux := aux })).setBusy w true).toVector w code with
    hushCnt := if code = 9 ∧ int = false then 0 else x.hushCnt }

theorem Copy.gtbase_atVector (x : Copy) (w : World) (code : Nat) (int : Bool) (eval : Word) (aux : DWord) :
    (x.atVector w code int eval aux).gtbaseI = x.gtbaseI ∧ (x.atVector w code int eval aux).gtbaseT = x.gtbaseT := by
  cases w with
  | iron => exact ⟨rfl, rfl⟩
  | tin => exact ⟨rfl, rfl⟩

/-- The report of an entry, where it has one (R110, R226). -/
def Copy.reported (x : Copy) (now code : Nat) (int : Bool) (eval : Word) : Copy :=
  if !int && reportCause code != 0 then x.event now (reportCause code) eval else x

theorem Copy.reported_form (x : Copy) (now code : Nat) (int : Bool) (eval : Word) :
    ∃ sd st, x.reported now code int eval = { x with side := sd, stats := st } := by
  unfold Copy.reported
  split
  · exact x.send_form now 2 (.lstatEvent (reportCause code) x.retire eval)
  · exact ⟨x.side, x.stats, rfl⟩

/-- An entry is the vector, its report and the change of stack (R213). -/
theorem Copy.enter_eq (x : Copy) (e : Env) (w : World) (code : Nat) (int : Bool) (eval : Word) (aux : DWord) :
    x.enter e w code int eval aux = (if (x.world != w || x.ring != 0) = true then
      ((x.atVector w code int eval aux).reported e.now code int eval).switchStack e w x.pc
      else (x.atVector w code int eval aux).reported e.now code int eval) := by
  by_cases hreset : code = 9 ∧ int = false
  · simp only [Copy.enter, Copy.atVector, Copy.reported, hreset, and_self, if_true]
  · simp only [Copy.enter, Copy.atVector, Copy.reported, hreset, if_false]
    cases w with
    | iron => rfl
    | tin => rfl

/-- What an entry without a change of stack does: nothing beside `Copy.atVector` but its report. -/
theorem Copy.enter_form {x : Copy} {e : Env} {w : World} (hkeeps : x.keepsStack e w) (code : Nat) (int : Bool) (eval : Word)
    (aux : DWord) :
    ∃ sd st, x.enter e w code int eval aux = { x.atVector w code int eval aux with side := sd, stats := st } := by
  obtain ⟨hI, hT⟩ := x.gtbase_atVector w code int eval aux
  obtain ⟨sd, st, hreported⟩ := (x.atVector w code int eval aux).reported_form e.now code int eval
  rw [Copy.enter_eq, hreported, Copy.switchStack_of_keepsStack hkeeps (by exact hI) (by exact hT)]
  exact ⟨sd, st, rfl⟩

/-- EVENT_ENTRY of a copy that may take an event, once no response is missing and the world holds no refusal. -/
theorem CopyStep.of_eventEntry {s : State} {c : CopyId} {k : Nat} {P : Copy → Prop} (hidle : (s.dev.copy c).idleReady)
    (hdrained : (s.dev.copy c).drained = true) (hnext : (s.dev.copy c).nextEvent = some k)
    (hrefusals : (s.dev.copy c).refusals (if k = 3 then .tin else .iron) = 0)
    (hP : P ((s.dev.copy c).takeEvent s.dev.env k)) : CopyStep (.eventEntry c) s c P := by
  obtain ⟨hruns, hwait, hstalled, hdbg⟩ := hidle
  refine CopyStep.of_core rfl ?_
  simpa [hruns, hwait, hstalled, hdbg, Copy.eventEntry, hnext, hdrained, hrefusals] using hP

theorem lowestPage_eq {pages : DWord} {p : Fin 64} (hset : pages.getLsbD p.val = true)
    (hlow : ∀ q, q < p.val → pages.getLsbD q = false) : lowestPage pages = p.val := by
  have hfind : (List.range 64).find? (fun i => pages.getLsbD i) = some p.val := by
    rw [List.find?_range_eq_some]
    exact ⟨hset, List.mem_range.2 p.isLt, fun q hq => by simp [hlow q hq]⟩
  rw [lowestPage, hfind]

theorem ne_zero_of_getLsbD {v : DWord} {i : Nat} (h : v.getLsbD i = true) : v ≠ 0#64 := by
  rintro rfl
  simp at h

section TakeEvent

variable {x : Copy} {e : Env}

/-- TCK enters Iron with the frame and its tick, and is no longer pending. -/
theorem Copy.takeEvent_tck {f : Word} {t : BitVec 48} (htck : x.tck = some (f, t)) (hkeeps : x.keepsStack e .iron) :
    x.entered (x.takeEvent e 0) .iron 0x10 true f (t.setWidth 64) ∧ (x.takeEvent e 0).tck = none ∧
      (x.takeEvent e 0).agr = x.agr ∧ (x.takeEvent e 0).iron.pages = x.iron.pages ∧ (x.takeEvent e 0).tin = x.tin := by
  have hevent : x.takeEvent e 0 = Copy.enter { x with tck := none } e .iron 0x10 true f (t.setWidth 64) := by
    simp only [Copy.takeEvent, htck]
  obtain ⟨sd, st, hform⟩ := Copy.enter_form (x := { x with tck := none }) hkeeps 0x10 true f (t.setWidth 64)
  rw [hevent]
  refine ⟨Copy.enter_entered { x with tck := none } e .iron 0x10 true f (t.setWidth 64) hkeeps, ?_⟩
  rw [hform]
  exact ⟨rfl, rfl, rfl, rfl⟩

/-- AGR enters Iron with the agreed frame's words, and is no longer pending. -/
theorem Copy.takeEvent_agr (hkeeps : x.keepsStack e .iron) :
    x.entered (x.takeEvent e 1) .iron 0x11 true x.agreed.w0 (agreedAux x.agreed) ∧ (x.takeEvent e 1).agr = false ∧
      (x.takeEvent e 1).iron.pages = x.iron.pages ∧ (x.takeEvent e 1).tin = x.tin := by
  obtain ⟨sd, st, hform⟩ :=
    Copy.enter_form (x := { x with agr := false }) hkeeps 0x11 true x.agreed.w0 (agreedAux x.agreed)
  refine ⟨Copy.enter_entered { x with agr := false } e .iron 0x11 true x.agreed.w0 (agreedAux x.agreed) hkeeps, ?_⟩
  simp only [Copy.takeEvent]
  rw [hform]
  exact ⟨rfl, rfl, rfl⟩

/-- The pages of Iron enter Iron with the lowest of them, and none stays pending. -/
theorem Copy.takeEvent_ironPages {p : Fin 64} (hset : x.iron.pages.getLsbD p.val = true)
    (hlow : ∀ q, q < p.val → x.iron.pages.getLsbD q = false) (hkeeps : x.keepsStack e .iron) :
    x.entered (x.takeEvent e 2) .iron 0x12 true (toWord p.val) x.iron.pages ∧ (x.takeEvent e 2).iron.pages = 0 ∧
      (x.takeEvent e 2).tin = x.tin := by
  have hevent : x.takeEvent e 2 = Copy.enter { x with iron := { x.iron with pages := 0 } } e .iron 0x12 true
      (toWord p.val) x.iron.pages := by
    simp only [Copy.takeEvent, lowestPage_eq hset hlow, Copy.updBank]
  obtain ⟨sd, st, hform⟩ := Copy.enter_form (x := { x with iron := { x.iron with pages := 0 } }) hkeeps 0x12 true
    (toWord p.val) x.iron.pages
  rw [hevent]
  refine ⟨Copy.enter_entered { x with iron := { x.iron with pages := 0 } } e .iron 0x12 true (toWord p.val) x.iron.pages
    hkeeps, ?_⟩
  rw [hform]
  exact ⟨rfl, rfl⟩

/-- The pages of Tin enter Tin with the lowest of them, and none stays pending. -/
theorem Copy.takeEvent_tinPages {p : Fin 64} (hset : x.tin.pages.getLsbD p.val = true)
    (hlow : ∀ q, q < p.val → x.tin.pages.getLsbD q = false) (hkeeps : x.keepsStack e .tin) :
    x.entered (x.takeEvent e 3) .tin 0x12 true (toWord p.val) x.tin.pages ∧ (x.takeEvent e 3).tin.pages = 0 ∧
      (x.takeEvent e 3).iron = x.iron := by
  have hevent : x.takeEvent e 3 = Copy.enter { x with tin := { x.tin with pages := 0 } } e .tin 0x12 true
      (toWord p.val) x.tin.pages := by
    simp only [Copy.takeEvent, lowestPage_eq hset hlow, Copy.updBank]
  obtain ⟨sd, st, hform⟩ := Copy.enter_form (x := { x with tin := { x.tin with pages := 0 } }) hkeeps 0x12 true
    (toWord p.val) x.tin.pages
  rw [hevent]
  refine ⟨Copy.enter_entered { x with tin := { x.tin with pages := 0 } } e .tin 0x12 true (toWord p.val) x.tin.pages
    hkeeps, ?_⟩
  rw [hform]
  exact ⟨rfl, rfl⟩

end TakeEvent

/-- While HUSH is 1 no event is taken. -/
theorem eventEntry_hushed {s : State} {c : CopyId} (hhush : (s.dev.copy c).hush = true) :
    CopyStep (.eventEntry c) s c (fun y => y = s.dev.copy c) := by
  refine CopyStep.of_core rfl ?_
  have hnone : (s.dev.copy c).nextEvent = none := if_pos hhush
  simp [Copy.eventEntry, hnone]

/-- Hush overrun enters Iron at once where Iron can take it and Tin has not to collapse (R214, R217, R223). -/
theorem Copy.raise_hushOverrun {x : Copy} (hdrained : x.drained = true) (hdue : x.hushDue = true)
    (hrefusals : x.refusals .iron = 0) (hbusy : x.ibusy = false) (hdflt : x.idflt = false)
    (htin : x.world = .tin → x.tdflt = false) (e : Env) (eval : Word) (aux : DWord) :
    x.raise e 9 eval aux = x.enter e .iron 9 false eval aux := by
  have hentering : x.entering = none := by
    simp only [Copy.hushDue, Bool.and_eq_true, Option.isNone_iff_eq_none] at hdue
    exact hdue.1.1.2
  have htarget : x.target 9 = .iron := rfl
  have hopen : ¬ (x.world = .tin ∧ x.tdflt = true) := by
    rintro ⟨hworld, hlatched⟩
    rw [htin hworld] at hlatched
    exact absurd hlatched (by decide)
  simp [Copy.raise, hdrained, Copy.syncEntry, hentering, htarget, hrefusals, hopen,
    Copy.enterWorld_of_free (w := .iron) hbusy hdflt]

theorem hushOverrun_enters {s : State} {c : CopyId} (hidle : (s.dev.copy c).idleReady)
    (hdrained : (s.dev.copy c).drained = true) (hdue : (s.dev.copy c).hushDue = true)
    (hrefusals : (s.dev.copy c).refusals .iron = 0) (hbusy : (s.dev.copy c).ibusy = false)
    (hdflt : (s.dev.copy c).idflt = false) (htin : (s.dev.copy c).world = .tin → (s.dev.copy c).tdflt = false)
    (hkeeps : (s.dev.copy c).keepsStack s.dev.env .iron) :
    CopyStep (.hushOverrun c) s c (fun y => (s.dev.copy c).entered y .iron 9 false (toWord (s.dev.copy c).hushCnt)
      (BitVec.ofNat 64 (worldNo (s.dev.copy c).world)) ∧ y.hushCnt = 0) := by
  obtain ⟨hruns, hwait, hstalled, hdbg⟩ := hidle
  refine CopyStep.of_core rfl ?_
  simp only [hruns, hwait, hstalled, hdbg, hdue, beq_self_eq_true, Bool.not_false, Bool.and_self, if_true]
  rw [Copy.raise_hushOverrun hdrained hdue hrefusals hbusy hdflt htin]
  refine ⟨Copy.enter_entered _ _ _ _ _ _ _ hkeeps, ?_⟩
  obtain ⟨sd, st, hform⟩ := Copy.enter_form hkeeps 9 false (toWord (s.dev.copy c).hushCnt)
    (BitVec.ofNat 64 (worldNo (s.dev.copy c).world))
  rw [hform]
  rfl

/-- Settles O13: each event and hush overrun is an entry, which leaves the other events pending. -/
theorem eventsEnter : Obligations.EventsEnter := by
  intro s c hidle hdrained
  refine ⟨fun f t hhush htck hrefusals hkeeps => ?_, fun hhush htck hagr hrefusals hkeeps => ?_,
    fun p hhush htck hagr hset hlow hrefusals hkeeps => ?_,
    fun p hhush htck hagr hiron htin hset hlow hrefusals hkeeps => ?_, eventEntry_hushed, hushOverrun_enters hidle hdrained⟩
  · exact CopyStep.of_eventEntry hidle hdrained (k := 0) (by simp [Copy.nextEvent, hhush, htck]) hrefusals
      (Copy.takeEvent_tck htck hkeeps)
  · exact CopyStep.of_eventEntry hidle hdrained (k := 1) (by simp [Copy.nextEvent, hhush, htck, hagr]) hrefusals
      (Copy.takeEvent_agr hkeeps)
  · have hpages := ne_zero_of_getLsbD hset
    exact CopyStep.of_eventEntry hidle hdrained (k := 2) (by simp [Copy.nextEvent, hhush, htck, hagr, hpages]) hrefusals
      (Copy.takeEvent_ironPages hset hlow hkeeps)
  · have hpages := ne_zero_of_getLsbD hset
    exact CopyStep.of_eventEntry hidle hdrained (k := 3)
      (by simp [Copy.nextEvent, hhush, htck, hagr, hiron, htin, hpages]) hrefusals
      (Copy.takeEvent_tinPages hset hlow hkeeps)

end Sys2Proof.Machine

namespace Sys2Proof.Machine

open Sys2Proof

/-! WSWITCH (R203, R209), HUSH and UNHUSH (R203, R216, R225). -/

theorem Copy.dbgDue_of_noDbg {x : Copy} (h : x.dbg = false) : x.dbgDue = false := by
  rw [Copy.dbgDue, h, Bool.false_and]

/-- Bits [31:10] of a word as a number. -/
theorem toNat_and_base (w : Word) : (w &&& (0xFFFFFC00 : Word)).toNat = w.toNat / 1024 * 1024 := by
  have hshift : w &&& (0xFFFFFC00 : Word) = w >>> 10 <<< 10 := by
    ext i hi
    interval_cases i <;> simp
  have hw := w.isLt
  rw [hshift, BitVec.toNat_shiftLeft, BitVec.toNat_ushiftRight, Nat.shiftRight_eq_div_pow, Nat.shiftLeft_eq]
  omega

theorem SStack.base_setCnt (t : SStack) (n : Nat) : (t.setCnt n).base = t.base := by
  have hw := t.ssp.isLt
  refine BitVec.eq_of_toNat_eq ?_
  simp only [SStack.base, SStack.setCnt, toNat_and_base, setFld, BitVec.toNat_ofNat]
  omega

/-- A stack without entries and records. -/
def SStack.emptied (t : SStack) : SStack := { t.setCnt 0 with top := [] }

theorem SStack.emptied_facts (t : SStack) : t.emptied.top = [] ∧ t.emptied.cnt = 0 ∧ t.emptied.base = t.base :=
  ⟨rfl, t.cnt_setCnt (by decide), t.base_setCnt 0⟩

theorem Copy.stack_dropTinStacks {r : Fin 4} (hr : r = 0 ∨ r = 3) (x : Copy) :
    x.dropTinStacks.stack .tin r = (x.stack .tin r).emptied := by
  rcases hr with rfl | rfl
  · rfl
  · rfl

/-- The copy that WSWITCH starts in Tin. -/
def Copy.inTin (x : Copy) (ring bmode : BitVec 2) : Copy :=
  { x.dropTinStacks with
    world := .tin, ring := bitsRing ring, bmode := bmode, hush := false, ibusy := false, tbusy := false, tdflt := false }

theorem Copy.wswitch_eq (x : Copy) (e : Env) (target : Word) (ring bmode : BitVec 2) :
    x.wswitch e target ring bmode = ((x.inTin ring bmode).setX 0 0).retireTo e 4 (target &&& 0xFFFFFFFE) := rfl

/-- WSWITCH changes the status, the three bits and Tin's stacks alone. -/
theorem Copy.inTin_form (x : Copy) (ring bmode : BitVec 2) : ∃ t, x.inTin ring bmode = { x with
    tin := t, world := .tin, ring := bitsRing ring, bmode := bmode, hush := false, ibusy := false, tbusy := false,
    tdflt := false } := ⟨_, rfl⟩

theorem Copy.afterFetch.inTin {x z : Copy} (hz : x.afterFetch z) (ring bmode : BitVec 2) :
    (x.inTin ring bmode).afterFetch (z.inTin ring bmode) := by
  obtain ⟨ic, st, rfl⟩ := hz
  exact ⟨ic, st, rfl⟩

theorem wswitch_starts {s : State} {c : CopyId} {rs1 : BitVec 5} {ring bmode : BitVec 2} (h : (s.dev.copy c).fetched 4)
    (hsettled : (s.dev.copy c).settled) (hdbg : (s.dev.copy c).dbg = false) (hworld : (s.dev.copy c).world = .iron)
    (hring : (s.dev.copy c).ring = 0) (hexists : ring = 0 ∨ ring = 3) (hmode : bmode ≠ 3) :
    CopyStep (.wswitch c rs1 ring bmode) s c (fun y =>
      ((s.dev.copy c).inTin ring bmode).Ends y 0 0 ((s.dev.copy c).xr rs1 &&& 0xFFFFFFFE)) := by
  refine CopyStep.of_fetched h rfl (fun z hz => ?_)
  have hlegal : ¬ (z.world ≠ .iron ∨ z.ring ≠ 0 ∨ ring = 1 ∨ ring = 2 ∨ bmode = 3) := by
    have hrings : ring ≠ 1 ∧ ring ≠ 2 := by rcases hexists with rfl | rfl <;> decide
    rw [hz.world, hz.ring, hworld, hring]
    rintro (hiron | hzero | hone | htwo | hthree)
    · exact hiron rfl
    · exact hzero rfl
    · exact hrings.1 hone
    · exact hrings.2 htwo
    · exact hmode hthree
  rw [Copy.syncPoint_of_settled (hz.settled hsettled), if_neg hlegal, hz.xr]
  rw [Copy.wswitch_eq]
  obtain ⟨t, hform⟩ := (s.dev.copy c).inTin_form ring bmode
  exact Copy.ends_retireTo (hz.inTin ring bmode) (by rw [hform]; exact h.wait)
    (Copy.dbgDue_of_noDbg (by rw [hform]; exact hdbg)) s.dev.env 0 0 _ 4

theorem wswitch_illegal {s : State} {c : CopyId} {rs1 : BitVec 5} {ring bmode : BitVec 2} (h : (s.dev.copy c).fetched 4)
    (hsettled : (s.dev.copy c).settled)
    (hno : (s.dev.copy c).world ≠ .iron ∨ (s.dev.copy c).ring ≠ 0 ∨ ring = 1 ∨ ring = 2 ∨ bmode = 3) :
    TrapsWith (.wswitch c rs1 ring bmode) s c 0 (encSys 2 (bmode.toNat * 16 + ring.toNat) rs1.toNat) 0 := by
  refine TrapsWith.of_illegal h rfl (fun z hz => ?_)
  rw [← hz.world, ← hz.ring] at hno
  rw [Copy.syncPoint_of_settled (hz.settled hsettled), if_pos hno]

/-- An instruction whose body sets the HUSH bit to `b` and retires. -/
theorem RetiresAs.of_hush {i : Instr} {s : State} {c : CopyId} {b : Bool} {body : Env → Copy → Copy}
    (h : (s.dev.copy c).fetched 4) (he : exec i s = s.run (Dev.core c (fun e x => x.instr e 4 (body e))))
    (hb : ∀ z, (s.dev.copy c).afterFetch z → body s.dev.env z = Copy.next { z with hush := b } s.dev.env 4) :
    RetiresAs i s c 4 { s.dev.copy c with hush := b } := by
  refine CopyStep.of_fetched h he (fun z hz => ?_)
  have hhush : ({ s.dev.copy c with hush := b } : Copy).afterFetch { z with hush := b } := by
    obtain ⟨ic, st, rfl⟩ := hz
    exact ⟨ic, st, rfl⟩
  obtain ⟨hwrote, hretired, hmasked⟩ :=
    Copy.ends_retireTo hhush h.wait h.dbgDue s.dev.env 0 0 ((s.dev.copy c).pc + toWord 4) 4
  rw [hb z hz, Copy.next, ← hz.pc]
  rw [← hz.pc] at hwrote hretired hmasked
  exact ⟨hwrote, hretired, hmasked⟩

/-- Settles O11: what WSWITCH starts, and the HUSH bit that HUSH and UNHUSH leave. -/
theorem worldAndHush : Obligations.WorldAndHush := by
  refine ⟨fun s c rs1 ring bmode h hsettled hdbg => ⟨fun hworld hring hexists hmode => ?_, wswitch_illegal h hsettled⟩,
    fun s c h => ⟨fun hring htin => ?_, fun hring => ?_, fun hno => ?_, fun hno => ?_⟩⟩
  · obtain ⟨y, hexec, hends⟩ := wswitch_starts (rs1 := rs1) h hsettled hdbg hworld hring hexists hmode
    obtain ⟨htop0, hcnt0, hbase0⟩ := ((s.dev.copy c).stack .tin 0).emptied_facts
    obtain ⟨htop3, hcnt3, hbase3⟩ := ((s.dev.copy c).stack .tin 3).emptied_facts
    have h0 : y.stack .tin 0 = _ := (hends.stack .tin 0).trans (Copy.stack_dropTinStacks (.inl rfl) _)
    have h3 : y.stack .tin 3 = _ := (hends.stack .tin 3).trans (Copy.stack_dropTinStacks (.inr rfl) _)
    rw [← h0] at htop0 hcnt0 hbase0
    rw [← h3] at htop3 hcnt3 hbase3
    obtain ⟨t, hform⟩ := (s.dev.copy c).inTin_form ring bmode
    rw [hform] at hends
    exact ⟨y, hexec, hends.world, hends.ring, hends.bmode, hends.hush, hends.pc, hends.retire, hends.ibusy, hends.tbusy,
      hends.tdflt, hends.idflt, htop0, hcnt0, hbase0, htop3, hcnt3, hbase3, hends.iron, hends.acc, hends.bstat, hends.out,
      hends.wrote⟩
  · refine RetiresAs.of_hush h rfl (fun z hz => if_neg ?_)
    rw [hz.ring, hz.world, hz.hushmax]
    exact not_or.2 ⟨not_not.2 hring, htin⟩
  · refine RetiresAs.of_hush h rfl (fun z hz => if_neg ?_)
    rw [hz.ring]
    exact not_not.2 hring
  · refine TrapsWith.of_illegal h rfl (fun z hz => if_pos ?_)
    rwa [hz.ring, hz.world, hz.hushmax]
  · refine TrapsWith.of_illegal h rfl (fun z hz => if_pos ?_)
    rwa [hz.ring]

end Sys2Proof.Machine

namespace Sys2Proof.Machine

open Sys2Proof

/-! Returns from traps (R202, R208) and from gates (R207, R228). -/

theorem Copy.updStack_self (x : Copy) (w : World) (r : Fin 4) : x.updStack w r (fun t => t) = x := by
  have hquad (t : Quad SStack) : t.upd r (fun t => t) = t := by
    match r with
    | 0 | 1 | 2 | 3 => rfl
  cases w with
  | iron => simp only [Copy.updStack, Copy.updBank, hquad]
  | tin => simp only [Copy.updStack, Copy.updBank, hquad]

theorem Copy.stack_of_bank {x y : Copy} {w : World} (h : y.bank w = x.bank w) (r : Fin 4) : y.stack w r = x.stack w r :=
  congrArg (fun b : Bank => b.stk.get r) h

theorem Copy.setX_setStatus6 (x : Copy) (v : BitVec 6) (rd : BitVec 5) (a : Word) :
    (x.setX rd a).setStatus6 v = (x.setStatus6 v).setX rd a := by
  unfold Copy.setX
  split
  · rfl
  · rfl

/-! The return from a trap. -/

/-- The copy that a return from a trap of `w` leaves, with the status `es` and the bank free. -/
def Copy.restored (x : Copy) (w : World) (es : BitVec 6) : Copy := ((x.setBusy w false).setDflt w false).setStatus6 es

theorem Copy.restored_form (x : Copy) (w : World) (es : BitVec 6) : ∃ ib id tb td, x.restored w es = { x with
    world := status6World es, ring := status6Ring es, hush := es.getLsbD 3, bmode := es.extractLsb' 4 2,
    ibusy := ib, idflt := id, tbusy := tb, tdflt := td } := by
  cases w with
  | iron => exact ⟨_, _, _, _, rfl⟩
  | tin => exact ⟨_, _, _, _, rfl⟩

theorem Copy.busy_restored (x : Copy) (w v : World) (es : BitVec 6) :
    (x.restored w es).busy v = if v = w then false else x.busy v := by
  cases w <;> cases v <;> rfl

theorem Copy.dflt_restored (x : Copy) (w v : World) (es : BitVec 6) :
    (x.restored w es).dflt v = if v = w then false else x.dflt v := by
  cases w <;> cases v <;> rfl

theorem Copy.bank_restored (x : Copy) (w v : World) (es : BitVec 6) : (x.restored w es).bank v = x.bank v := by
  cases w <;> cases v <;> rfl

theorem Copy.setX_restored (x : Copy) (w : World) (es : BitVec 6) (rd : BitVec 5) (a : Word) :
    (x.setX rd a).restored w es = (x.restored w es).setX rd a := by
  unfold Copy.setX
  cases w with
  | iron => split <;> rfl
  | tin => split <;> rfl

theorem Copy.afterFetch.restored {x z : Copy} (hz : x.afterFetch z) (w : World) (es : BitVec 6) :
    (x.restored w es).afterFetch (z.restored w es) := by
  obtain ⟨ic, st, rfl⟩ := hz
  cases w with
  | iron => exact ⟨ic, st, rfl⟩
  | tin => exact ⟨ic, st, rfl⟩

/-- The status leaves ring 0 of the current world. -/
def Copy.leaves (x : Copy) (es : BitVec 6) : Bool := status6World es != x.world || status6Ring es != 0

/-- Without a TSP to take, a return from a trap leaves the stack. -/
theorem Copy.xret0_of_kept {x : Copy} {es : BitVec 6}
    (hkept : x.leaves es = false ∨ ∀ en rest, x.curStack.top = en :: rest → en.kind ≠ .tsp) (e : Env) :
    x.xret0 e es = (x.restored x.world es).retireTo e 4 (x.bank x.world).epc := by
  unfold Copy.xret0
  dsimp only
  split
  case h_1 en rest htop =>
    have hno : ¬ ((status6World es != x.world || status6Ring es != 0) && en.kind == .tsp) = true := by
      rw [Bool.and_eq_true, beq_iff_eq]
      rintro ⟨hleaves, htsp⟩
      rcases hkept with hstays | hkind
      · exact Bool.false_ne_true (hstays.symm.trans hleaves)
      · exact hkind en rest htop htsp
    rw [if_neg hno]
    rfl
  case h_2 => rfl

/-- A TSP on top of the stack is popped into x2 on the way out of ring 0. -/
theorem Copy.xret0_of_tsp {x : Copy} {es : BitVec 6} {en : SEntry} {rest : List SEntry} (hleaves : x.leaves es = true)
    (htop : x.curStack.top = en :: rest) (hkind : en.kind = .tsp) (e : Env) :
    x.xret0 e es = (((x.updStack x.world x.ring (fun t => { t with top := rest })).restored x.world es).setX 2
      en.value).retireTo e 4 (x.bank x.world).epc := by
  have htop' : (x.stack x.world x.ring).top = en :: rest := htop
  have htake : ((status6World es != x.world || status6Ring es != 0) && en.kind == .tsp) = true := by
    rw [hkind]
    exact Bool.and_eq_true_iff.2 ⟨hleaves, rfl⟩
  have hpop : x.pop x.world x.ring 1 = _ := Copy.pop_eq (es := [en]) htop'
  unfold Copy.xret0
  simp only [htop', htake, if_true]
  rw [hpop, ← Copy.setX_restored]
  rfl

/-- What a return from a trap leaves, whatever it has changed of the stack. -/
def Copy.trapBack (x : Copy) (es : BitVec 6) (y : Copy) : Prop :=
  y.world = status6World es ∧ y.ring = status6Ring es ∧ y.hush = es.getLsbD 3 ∧
    y.bmode = es.extractLsb' 4 2 ∧ y.pc = (x.bank x.world).epc ∧ y.retire = x.retire + 1 ∧
    y.busy x.world = false ∧ y.dflt x.world = false ∧ y.acc = x.acc ∧ y.bstat = x.bstat ∧ y.out = x.out ∧
    (∀ w, w ≠ x.world → y.busy w = x.busy w ∧ y.dflt w = x.dflt w ∧ y.bank w = x.bank w)

theorem Copy.trapBack_of_ends {x y : Copy} {es : BitVec 6} {f : SStack → SStack} {rd : BitVec 5} {v : Word}
    (h : ((x.updStack x.world x.ring f).restored x.world es).Ends y rd v (x.bank x.world).epc) :
    x.trapBack es y ∧ x.wrote y rd v ∧ y.bank x.world = (x.updStack x.world x.ring f).bank x.world := by
  have hbusy w : y.busy w = if w = x.world then false else x.busy w := by
    obtain ⟨i, t, hform⟩ := x.updStack_form x.world x.ring f
    rw [h.busy, Copy.busy_restored, hform]
    cases w <;> rfl
  have hdflt w : y.dflt w = if w = x.world then false else x.dflt w := by
    obtain ⟨i, t, hform⟩ := x.updStack_form x.world x.ring f
    rw [h.dflt, Copy.dflt_restored, hform]
    cases w <;> rfl
  have hbank w : y.bank w = (x.updStack x.world x.ring f).bank w := (h.bank w).trans (Copy.bank_restored ..)
  have hother w (hw : w ≠ x.world) : y.busy w = x.busy w ∧ y.dflt w = x.dflt w ∧ y.bank w = x.bank w :=
    ⟨(hbusy w).trans (if_neg hw), (hdflt w).trans (if_neg hw),
      (hbank w).trans ((x.bank_updBank ..).trans (if_neg hw))⟩
  have hown := hbank x.world
  obtain ⟨i, t, hform⟩ := x.updStack_form x.world x.ring f
  obtain ⟨ib, id, tb, td, hrestored⟩ := (x.updStack x.world x.ring f).restored_form x.world es
  rw [hrestored, hform] at h
  exact ⟨⟨h.world, h.ring, h.hush, h.bmode, h.pc, h.retire, (hbusy _).trans (if_pos rfl), (hdflt _).trans (if_pos rfl), h.acc,
    h.bstat, h.out, hother⟩, h.wrote, hown⟩

/-- The bank's ESTATUS names a ring that the current one may return to. -/
theorem Copy.xretTrap_of_ready {x : Copy} {es : BitVec 6} (hes : x.estatus = es) (hring : x.ring = 0)
    (hbad : badTinRing es = false)
    (hready : x.leaves es = true → 1 ≤ x.curStack.top.length ∨ x.curStack.cnt = 0) (e : Env) :
    x.xretTrap e = x.xret0 e es := by
  have hlegal : ¬ (x.ring ≠ 0 ∨ badTinRing es = true) := by simp [hring, hbad]
  unfold Copy.xretTrap
  dsimp only
  rw [hes, if_neg hlegal]
  split
  case isTrue hleaves => rw [Copy.havingEntries_of_ready (hready hleaves)]
  case isFalse => rfl

section XretTrap

variable {s : State} {c : CopyId} {es : BitVec 6}

theorem Copy.afterFetch.estatus {x z : Copy} (hz : x.afterFetch z) : z.estatus = x.estatus := by
  obtain ⟨ic, st, rfl⟩ := hz
  rfl

theorem Copy.afterFetch.leaves {x z : Copy} (hz : x.afterFetch z) (es : BitVec 6) : z.leaves es = x.leaves es := by
  rw [Copy.leaves, hz.world, Copy.leaves]

/-- XRET_TRAP that takes what `f` leaves of the stack, and `v` into `rd`. -/
theorem CopyStep.of_xretTrap {f : SStack → SStack} {rd : BitVec 5} {v : Word} (h : (s.dev.copy c).fetched 4)
    (hsettled : (s.dev.copy c).settled) (hdbg : (s.dev.copy c).dbg = false)
    (hback : ∀ z, (s.dev.copy c).afterFetch z → z.xretTrap s.dev.env =
      (((z.updStack z.world z.ring f).restored z.world es).setX rd v).retireTo s.dev.env 4 (z.bank z.world).epc) :
    CopyStep (.xretTrap c) s c (fun y => (s.dev.copy c).trapBack es y ∧ (s.dev.copy c).wrote y rd v ∧
      y.bank (s.dev.copy c).world =
        ((s.dev.copy c).updStack (s.dev.copy c).world (s.dev.copy c).ring f).bank (s.dev.copy c).world) := by
  refine CopyStep.of_fetched h rfl (fun z hz => ?_)
  rw [Copy.syncPoint_of_settled (hz.settled hsettled), hback z hz, hz.world, hz.ring, hz.bank]
  refine Copy.trapBack_of_ends (Copy.ends_retireTo ((hz.updStack ..).restored ..) ?_ (Copy.dbgDue_of_noDbg ?_) ..)
  all_goals
    obtain ⟨i, t, hform⟩ := (s.dev.copy c).updStack_form (s.dev.copy c).world (s.dev.copy c).ring f
    obtain ⟨ib, id, tb, td, hrestored⟩ :=
      ((s.dev.copy c).updStack (s.dev.copy c).world (s.dev.copy c).ring f).restored_form (s.dev.copy c).world es
    rw [hrestored, hform]
  · exact h.wait
  · exact hdbg

/-- XRET_TRAP with nothing to take from the stack. -/
theorem xretTrap_keeps (h : (s.dev.copy c).fetched 4) (hsettled : (s.dev.copy c).settled)
    (hdbg : (s.dev.copy c).dbg = false) (hes : (s.dev.copy c).estatus = es) (hring : (s.dev.copy c).ring = 0)
    (hbad : badTinRing es = false)
    (hready : (s.dev.copy c).leaves es = true → 1 ≤ (s.dev.copy c).curStack.top.length ∨ (s.dev.copy c).curStack.cnt = 0)
    (hkept : (s.dev.copy c).leaves es = false ∨ ∀ en rest, (s.dev.copy c).curStack.top = en :: rest → en.kind ≠ .tsp) :
    CopyStep (.xretTrap c) s c (fun y => (s.dev.copy c).trapBack es y ∧ (s.dev.copy c).wrote y 0 0 ∧
      y.bank (s.dev.copy c).world = (s.dev.copy c).bank (s.dev.copy c).world) := by
  refine CopyStep.imp (CopyStep.of_xretTrap (f := fun t => t) h hsettled hdbg (fun z hz => ?_))
    (fun y ⟨hback, hwrote, hown⟩ => ⟨hback, hwrote, hown.trans (by rw [Copy.updStack_self])⟩)
  rw [← hz.leaves, ← hz.curStack] at hready hkept
  rw [Copy.xretTrap_of_ready (hz.estatus.trans hes) (hz.ring.trans hring) hbad hready, Copy.xret0_of_kept hkept,
    Copy.updStack_self, Copy.setX_zero]

/-- XRET_TRAP that leaves ring 0 with a TSP on top of the stack. -/
theorem xretTrap_takes {en : SEntry} {rest : List SEntry} (h : (s.dev.copy c).fetched 4)
    (hsettled : (s.dev.copy c).settled) (hdbg : (s.dev.copy c).dbg = false) (hes : (s.dev.copy c).estatus = es)
    (hring : (s.dev.copy c).ring = 0) (hbad : badTinRing es = false) (hleaves : (s.dev.copy c).leaves es = true)
    (htop : (s.dev.copy c).curStack.top = en :: rest) (hkind : en.kind = .tsp) :
    CopyStep (.xretTrap c) s c (fun y => (s.dev.copy c).trapBack es y ∧ (s.dev.copy c).wrote y 2 en.value ∧
      (y.stack (s.dev.copy c).world (s.dev.copy c).ring).top = rest) := by
  refine CopyStep.imp (CopyStep.of_xretTrap (f := fun t => { t with top := rest }) h hsettled hdbg (fun z hz => ?_))
    (fun y ⟨hback, hwrote, hown⟩ => ⟨hback, hwrote, (congrArg SStack.top (Copy.stack_of_bank hown _)).trans ?_⟩)
  · rw [← hz.curStack] at htop
    rw [Copy.xretTrap_of_ready (hz.estatus.trans hes) (hz.ring.trans hring) hbad
      (fun _ => .inl (by rw [htop]; exact Nat.succ_pos _)), Copy.xret0_of_tsp ((hz.leaves es).trans hleaves) htop hkind]
  · rw [Copy.stack_updStack_same]

theorem xretTrap_illegal (h : (s.dev.copy c).fetched 4) (hsettled : (s.dev.copy c).settled)
    (hes : (s.dev.copy c).estatus = es) (hno : (s.dev.copy c).ring ≠ 0 ∨ badTinRing es = true) :
    TrapsWith (.xretTrap c) s c 0 0x0000100B 0 := by
  refine TrapsWith.of_illegal h rfl (fun z hz => ?_)
  rw [← hz.ring, ← hes, ← hz.estatus] at hno
  rw [Copy.syncPoint_of_settled (hz.settled hsettled)]
  exact if_pos hno

end XretTrap

/-! The return from a gate. -/

theorem Copy.frameSize_eq (x : Copy) : x.frameSize = match x.curStack.top with
    | [] => 1
    | en :: _ => if en.kind = .gsp then 3 else 2 := rfl

/-- The copy that a return from a gate leaves, the entries above `rest` popped. -/
def Copy.gateLeft (x : Copy) (st : Word) (rest : List SEntry) : Copy :=
  (x.updStack x.world x.ring (fun t => { t with top := rest })).setStatus6 (st.setWidth 6)

theorem Copy.afterFetch.gateLeft {x z : Copy} (hz : x.afterFetch z) (st : Word) (rest : List SEntry) :
    (x.gateLeft st rest).afterFetch (z.gateLeft st rest) := by
  have hstack := hz.updStack x.world x.ring (fun t => { t with top := rest })
  rw [Copy.gateLeft, Copy.gateLeft, hz.world, hz.ring]
  obtain ⟨ic, sc, hform⟩ := hstack
  exact ⟨ic, sc, by rw [hform]; rfl⟩

theorem Copy.afterFetch.mayReturn {x z : Copy} (hz : x.afterFetch z) (v : BitVec 6) : z.mayReturn v = x.mayReturn v := by
  rw [Copy.mayReturn, hz.world, hz.ring, Copy.mayReturn]

section GateFrame

variable {x : Copy} {sp st pc : Word} {rest : List SEntry}

/-- A gate frame without a GSP. -/
theorem Copy.xret1_of_frame (htop : x.curStack.top = ⟨.gstat, st⟩ :: ⟨.gpc, pc⟩ :: rest)
    (hmay : x.mayReturn (st.setWidth 6) = true) (e : Env) :
    x.xret1 e = ((x.gateLeft st rest).setX 0 0).retireTo e 4 pc := by
  have htop' : (x.stack x.world x.ring).top = ⟨.gstat, st⟩ :: ⟨.gpc, pc⟩ :: rest := htop
  have hpop : x.pop x.world x.ring 2 = _ := Copy.pop_eq (es := [⟨.gstat, st⟩, ⟨.gpc, pc⟩]) htop'
  simp only [Copy.xret1, htop', Copy.gateBack, ne_eq, not_true_eq_false, if_false, hmay, Bool.not_true, Bool.false_eq_true,
    hpop]
  rfl

/-- A gate frame with a GSP. -/
theorem Copy.xret1_of_gspFrame (htop : x.curStack.top = ⟨.gsp, sp⟩ :: ⟨.gstat, st⟩ :: ⟨.gpc, pc⟩ :: rest)
    (hmay : x.mayReturn (st.setWidth 6) = true) (e : Env) :
    x.xret1 e = ((x.gateLeft st rest).setX 2 sp).retireTo e 4 pc := by
  have htop' : (x.stack x.world x.ring).top = ⟨.gsp, sp⟩ :: ⟨.gstat, st⟩ :: ⟨.gpc, pc⟩ :: rest := htop
  have hpop : x.pop x.world x.ring 3 = _ := Copy.pop_eq (es := [⟨.gsp, sp⟩, ⟨.gstat, st⟩, ⟨.gpc, pc⟩]) htop'
  simp only [Copy.xret1, htop', Copy.gateBack, ne_eq, not_true_eq_false, if_false, hmay, Bool.not_true, Bool.false_eq_true,
    hpop, Copy.setX_setStatus6]
  rfl

/-- A frame with a status that may not be restored. -/
theorem Copy.xret1_of_noReturn (htop : x.curStack.top = ⟨.gstat, st⟩ :: ⟨.gpc, pc⟩ :: rest)
    (hmay : x.mayReturn (st.setWidth 6) = false) (e : Env) : x.xret1 e = x.flowFault e pc (some ⟨.gstat, st⟩) := by
  have htop' : (x.stack x.world x.ring).top = ⟨.gstat, st⟩ :: ⟨.gpc, pc⟩ :: rest := htop
  simp only [Copy.xret1, htop', Copy.gateBack, ne_eq, not_true_eq_false, if_false, hmay, Bool.not_false, if_true]

/-- A call entry where a gate frame has its status. -/
theorem Copy.xret1_of_call {v : Word} {en : SEntry} (htop : x.curStack.top = ⟨.call, v⟩ :: en :: rest) (e : Env) :
    x.xret1 e = x.raise e 6 0 (BitVec.ofNat 64 v.toNat) := by
  have htop' : (x.stack x.world x.ring).top = ⟨.call, v⟩ :: en :: rest := htop
  simp [Copy.xret1, htop', Copy.gateBack, Copy.flowFault, kindCode]

theorem Copy.xret1_of_empty (htop : x.curStack.top = []) (e : Env) : x.xret1 e = x.flowFault e 0 none := by
  have htop' : (x.stack x.world x.ring).top = [] := htop
  simp only [Copy.xret1, htop']

end GateFrame

theorem bitOf_eq_getLsbD_setWidth (w : Word) : bitOf w 3 = (w.setWidth 6).getLsbD 3 := by
  rw [bitOf_eq_testBit, BitVec.getLsbD_setWidth]
  rfl

theorem extractLsb'_setWidth_six (w : Word) : (w.setWidth 6).extractLsb' 4 2 = w.extractLsb' 4 2 := by
  ext i hi
  simp
  omega

/-- What a return from a gate leaves. -/
def Copy.gateReturned (x : Copy) (st pc : Word) (rest : List SEntry) (y : Copy) : Prop :=
  y.world = status6World (st.setWidth 6) ∧ y.ring = status6Ring (st.setWidth 6) ∧ y.hush = bitOf st 3 ∧
    y.bmode = st.extractLsb' 4 2 ∧ y.pc = pc ∧ y.retire = x.retire + 1 ∧ (y.stack x.world x.ring).top = rest ∧
    (y.stack x.world x.ring).ssp = x.curStack.ssp ∧ y.acc = x.acc ∧ y.bstat = x.bstat ∧ y.out = x.out ∧
    y.ibusy = x.ibusy ∧ y.idflt = x.idflt ∧ y.tbusy = x.tbusy ∧ y.tdflt = x.tdflt

theorem Copy.gateReturned_of_ends {x y : Copy} {st pc : Word} {rest : List SEntry} {rd : BitVec 5} {v : Word}
    (h : (x.gateLeft st rest).Ends y rd v pc) : x.gateReturned st pc rest y ∧ x.wrote y rd v := by
  have hstack : y.stack x.world x.ring = { x.curStack with top := rest } :=
    (h.stack x.world x.ring).trans (x.stack_updStack_same x.world x.ring (fun t => { t with top := rest }))
  obtain ⟨i, t, hform⟩ := x.updStack_form x.world x.ring (fun t => { t with top := rest })
  rw [Copy.gateLeft, hform] at h
  exact ⟨⟨h.world, h.ring, h.hush.trans (bitOf_eq_getLsbD_setWidth st).symm, h.bmode.trans (extractLsb'_setWidth_six st),
    h.pc, h.retire, by rw [hstack], by rw [hstack], h.acc, h.bstat, h.out, h.ibusy, h.idflt, h.tbusy, h.tdflt⟩, h.wrote⟩

section XretGate

variable {s : State} {c : CopyId}

/-- XRET_GATE that returns. -/
theorem CopyStep.of_xretGate {st pc v : Word} {rest : List SEntry} {rd : BitVec 5} (h : (s.dev.copy c).fetched 4)
    (hsettled : (s.dev.copy c).settled) (hdbg : (s.dev.copy c).dbg = false)
    (hready : (s.dev.copy c).frameSize ≤ (s.dev.copy c).curStack.top.length)
    (hback : ∀ z, (s.dev.copy c).afterFetch z →
      z.xret1 s.dev.env = ((z.gateLeft st rest).setX rd v).retireTo s.dev.env 4 pc) :
    CopyStep (.xretGate c) s c (fun y => (s.dev.copy c).gateReturned st pc rest y ∧ (s.dev.copy c).wrote y rd v) := by
  refine CopyStep.of_fetched h rfl (fun z hz => ?_)
  have hready' : z.frameSize ≤ z.curStack.top.length := by rwa [Copy.frameSize_eq, hz.curStack]
  rw [Copy.syncPoint_of_settled (hz.settled hsettled), Copy.havingEntries_of_ready (.inl hready'), hback z hz]
  refine Copy.gateReturned_of_ends (Copy.ends_retireTo (hz.gateLeft st rest) ?_ (Copy.dbgDue_of_noDbg ?_) ..)
  all_goals
    obtain ⟨i, t, hform⟩ :=
      (s.dev.copy c).updStack_form (s.dev.copy c).world (s.dev.copy c).ring (fun t => { t with top := rest })
    rw [Copy.gateLeft, hform]
  · exact h.wait
  · exact hdbg

/-- XRET_GATE that ends in a control-flow fault. -/
theorem TrapsWith.of_xretGate {eval : Word} {aux : DWord} (h : (s.dev.copy c).fetched 4)
    (hsettled : (s.dev.copy c).settled)
    (hready : (s.dev.copy c).frameSize ≤ (s.dev.copy c).curStack.top.length ∨ (s.dev.copy c).curStack.cnt = 0)
    (hfault : ∀ z, (s.dev.copy c).afterFetch z → z.xret1 s.dev.env = z.raise s.dev.env 6 eval aux) :
    TrapsWith (.xretGate c) s c 6 eval aux := by
  refine TrapsWith.of_raise h rfl (by decide) (fun z hz _ => ?_)
  have hready' : z.frameSize ≤ z.curStack.top.length ∨ z.curStack.cnt = 0 := by rwa [Copy.frameSize_eq, hz.curStack]
  rw [Copy.syncPoint_of_settled (hz.settled hsettled), Copy.havingEntries_of_ready hready', hfault z hz]

end XretGate

/-- Settles O10: a return from a trap by what stands on top of the stack it leaves, and one from a gate by its frame. -/
theorem trapAndGateReturns : Obligations.TrapAndGateReturns := by
  refine ⟨fun s c h hsettled hdbg => ?_, fun s c h hsettled hdbg => ?_⟩
  · refine ⟨fun hring hbad => ⟨fun hstays => ?_, fun en rest hleaves htop hkind => ?_, fun en rest hleaves htop hkind => ?_,
      fun hleaves htop hcnt => ?_⟩, xretTrap_illegal h hsettled rfl⟩
    · exact (xretTrap_keeps h hsettled hdbg rfl hring hbad (fun hleaves => absurd (hleaves.symm.trans hstays) (by decide))
        (.inl hstays)).imp (fun y ⟨hback, hwrote, hown⟩ => ⟨hback, hown, hwrote⟩)
    · exact xretTrap_takes h hsettled hdbg rfl hring hbad hleaves htop hkind
    · have hkeeps := xretTrap_keeps h hsettled hdbg rfl hring hbad (fun _ => .inl (by rw [htop]; exact Nat.succ_pos _))
        (.inr (fun en' rest' htop' => by
          rw [htop, List.cons.injEq] at htop'
          rw [← htop'.1]
          exact hkind))
      exact hkeeps.imp (fun y ⟨hback, hwrote, hown⟩ =>
        ⟨hback, hwrote, (congrArg SStack.top (Copy.stack_of_bank hown _)).trans htop⟩)
    · have hkeeps := xretTrap_keeps h hsettled hdbg rfl hring hbad (fun _ => .inr hcnt)
        (.inr (fun en' rest' htop' => by
          rw [htop] at htop'
          cases htop'))
      exact hkeeps.imp (fun y ⟨hback, hwrote, hown⟩ =>
        ⟨hback, hwrote, (congrArg SStack.top (Copy.stack_of_bank hown _)).trans htop⟩)
  · refine ⟨fun st pc rest htop => ⟨fun hmay => ?_, fun hmay => ?_⟩, fun sp st pc rest htop hmay => ?_,
      fun v rest en htop => ?_, fun htop hcnt => ?_⟩
    · refine CopyStep.of_xretGate h hsettled hdbg (by rw [Copy.frameSize_eq, htop]; simp) (fun z hz => ?_)
      exact Copy.xret1_of_frame ((congrArg SStack.top hz.curStack).trans htop) ((hz.mayReturn _).trans hmay) _
    · refine TrapsWith.of_xretGate h hsettled (.inl (by rw [Copy.frameSize_eq, htop]; simp)) (fun z hz => ?_)
      exact Copy.xret1_of_noReturn ((congrArg SStack.top hz.curStack).trans htop) ((hz.mayReturn _).trans hmay) _
    · refine CopyStep.of_xretGate h hsettled hdbg (by rw [Copy.frameSize_eq, htop]; simp) (fun z hz => ?_)
      exact Copy.xret1_of_gspFrame ((congrArg SStack.top hz.curStack).trans htop) ((hz.mayReturn _).trans hmay) _
    · refine TrapsWith.of_xretGate h hsettled (.inl (by rw [Copy.frameSize_eq, htop]; simp)) (fun z hz => ?_)
      exact Copy.xret1_of_call ((congrArg SStack.top hz.curStack).trans htop) _
    · refine TrapsWith.of_xretGate h hsettled (.inr hcnt) (fun z hz => ?_)
      exact Copy.xret1_of_empty ((congrArg SStack.top hz.curStack).trans htop) _

end Sys2Proof.Machine

namespace Sys2Proof.Machine

open Sys2Proof

/-! GATE and ECALL (R203 to R206). -/

/-- GATE goes on once the words of its entry are there. -/
theorem Copy.gate_of_words {x : Copy} {n : BitVec 6} {w0 w1 w2 w3 : Word}
    (hwait : x.wait = .gate n ⟨some w0, some w1, some w2, some w3⟩) (hruns : x.runs = true) (e : Env) :
    x.gate e n = x.gateDo e n.toNat w0 w1 w2 := by
  simp only [Copy.gate, hwait, hruns, and_self, if_true]

/-- The world and the ring that an entry with word 1 `w1` opens (R204). -/
def gateWorld (w : World) (w1 : Word) : World := if bitOf w1 2 then .iron else w
def gateRing (w1 : Word) : Fin 4 := bitsRing (w1.extractLsb' 0 2)

/-- The copy behind a gate whose frame is on the stack of the target ring (R206 steps 4 and 5). -/
def Copy.behindGate (x : Copy) (w1 : Word) : Copy :=
  { x.updStack (gateWorld x.world w1) (gateRing w1) (fun t =>
      { t with top := (x.gateFrame (bitOf w1 8)).reverse ++ t.top }) with
    wait := .none, world := gateWorld x.world w1, ring := gateRing w1, hush := x.hush || bitOf w1 11,
    bmode := w1.extractLsb' 9 2 }

theorem Copy.behindGate_form (x : Copy) (w1 : Word) : ∃ i t, x.behindGate w1 = { x with
    iron := i, tin := t, wait := .none, world := gateWorld x.world w1, ring := gateRing w1,
    hush := x.hush || bitOf w1 11, bmode := w1.extractLsb' 9 2 } := by
  obtain ⟨i, t, hform⟩ := x.updStack_form (gateWorld x.world w1) (gateRing w1) (fun t =>
    { t with top := (x.gateFrame (bitOf w1 8)).reverse ++ t.top })
  exact ⟨i, t, by rw [Copy.behindGate, hform]⟩

theorem Copy.stack_behindGate (x : Copy) (w1 : Word) :
    ((x.behindGate w1).stack (gateWorld x.world w1) (gateRing w1)).top =
        (x.gateFrame (bitOf w1 8)).reverse ++ (x.stack (gateWorld x.world w1) (gateRing w1)).top ∧
      ((x.behindGate w1).stack (gateWorld x.world w1) (gateRing w1)).ssp =
        (x.stack (gateWorld x.world w1) (gateRing w1)).ssp := by
  have hstack : (x.behindGate w1).stack (gateWorld x.world w1) (gateRing w1) = _ :=
    x.stack_updStack_same (gateWorld x.world w1) (gateRing w1) (fun t =>
      { t with top := (x.gateFrame (bitOf w1 8)).reverse ++ t.top })
  exact ⟨by rw [hstack], by rw [hstack]⟩

theorem Copy.updStack_unwaiting (x : Copy) (w : World) (r : Fin 4) (f : SStack → SStack) :
    Copy.updStack { x with wait := .none } w r f = { x.updStack w r f with wait := .none } := by
  cases w with
  | iron => rfl
  | tin => rfl

/-- Step 5 of R206 loads x2 where the entry says so, and retires. -/
theorem Copy.gateGo_eq (x : Copy) (e : Env) (tw : World) (w0 w1 w2 : Word) : x.gateGo e tw w0 w1 w2 =
    (({ x with world := tw, ring := gateRing w1, hush := x.hush || bitOf w1 11, bmode := w1.extractLsb' 9 2 } : Copy).setX
      (if bitOf w1 8 then 2 else 0) w2).retireTo e 4 (w0 &&& 0xFFFFFFFE) := by
  unfold Copy.gateGo
  cases bitOf w1 8 with
  | true => rfl
  | false => rfl

/-- An entry that fails a check is the gate fault with its detail code. -/
theorem Copy.gateDo_of_failed {x : Copy} {n : Nat} {w0 w1 : Word}
    (hdet : gateDetail x.world x.ring.val n (bitOf (x.gtbase x.world) 0) w0 w1 ≠ 0) (e : Env) (w2 : Word) :
    x.gateDo e n w0 w1 w2 = ({ x with wait := .none } : Copy).raise e 5 (toWord n)
      (BitVec.ofNat 64 (gateDetail x.world x.ring.val n (bitOf (x.gtbase x.world) 0) w0 w1)) := if_pos hdet

/-- An entry that passes every check, with room for its frame. -/
theorem Copy.gateDo_of_passed {x : Copy} {n : Nat} {w0 w1 : Word}
    (hdet : gateDetail x.world x.ring.val n (bitOf (x.gtbase x.world) 0) w0 w1 = 0)
    (hfits : (x.stack (gateWorld x.world w1) (gateRing w1)).top.length + (x.gateFrame (bitOf w1 8)).length ≤ 32)
    (hroom : x.room 0 = true) (e : Env) (w2 : Word) : x.gateDo e n w0 w1 w2 =
      ((x.behindGate w1).setX (if bitOf w1 8 then 2 else 0) w2).retireTo e 4 (w0 &&& 0xFFFFFFFE) := by
  have hgo : x.gateDo e n w0 w1 w2 = (Copy.push { x with wait := .none } e.now (gateWorld x.world w1) (gateRing w1)
      (x.gateFrame (bitOf w1 8))).gateGo e (gateWorld x.world w1) w0 w1 w2 := by
    refine (if_neg (not_not.2 hdet)).trans ?_
    refine (if_neg (Bool.eq_false_iff.1 (SStack.overflows_of_fits hfits))).trans (if_pos ?_)
    exact (congrArg x.room (SStack.pushNeed_of_fits hfits)).trans hroom
  rw [hgo, Copy.push_of_fits (by exact hfits), Copy.updStack_unwaiting, Copy.gateGo_eq, Copy.behindGate]
  obtain ⟨i, t, hform⟩ := x.updStack_form (gateWorld x.world w1) (gateRing w1) (fun t =>
    { t with top := (x.gateFrame (bitOf w1 8)).reverse ++ t.top })
  rw [hform]

/-! The reads of an entry's words (R206 step 2). -/

theorem Copy.dcLoad_of_missing {x : Copy} {a : Word} (h : x.dcFind a = none) : x.dcLoad a = (x, none) := by
  simp only [Copy.dcLoad, Copy.dcGet, h]

theorem Copy.Sends.gateAddr {x y : Copy} {os : List Outst} (h : x.Sends y os) (n i : Nat) : y.gateAddr n i = x.gateAddr n i := by
  obtain ⟨_, _, _, rfl⟩ := h
  rfl

/-- Words that the data cache does not hold are read one after another. -/
theorem Copy.gateReads_of_missing (e : Env) (n : Nat) : ∀ (is : List (Fin 4)) (x : Copy),
    (∀ j : Fin 4, x.dcFind (x.gateAddr n j.val) = none) →
    ∃ os : List Outst, os.map (fun o => o.req.addr) = is.map (fun j => wordOf (x.gateAddr n j.val)) ∧
      x.Sends (Copy.gateReads e n is x).1 os ∧ (Copy.gateReads e n is x).2 = is.map (fun _ => none)
  | [], x, _ => ⟨[], rfl, .refl x, rfl⟩
  | i :: is, x, hmiss => by
    obtain ⟨o, haddr, ho, hdcache⟩ := x.sends_issue e.now .read x.world x.ring 0xF (wordOf (x.gateAddr n i.val)) 0 0 0
      (.gateWord i)
    have hmiss' (j : Fin 4) : (x.readReq e.now x.world x.ring (x.gateAddr n i.val) (.gateWord i)).dcFind
        ((x.readReq e.now x.world x.ring (x.gateAddr n i.val) (.gateWord i)).gateAddr n j.val) = none := by
      rw [show Copy.gateAddr (x.readReq ..) n j.val = _ from ho.gateAddr n j.val]
      exact (congrArg (Cache.find DLine.line dcSets · (x.gateAddr n j.val)) hdcache).trans (hmiss j)
    obtain ⟨os, haddrs, hos, hwords⟩ := Copy.gateReads_of_missing e n is _ hmiss'
    have hreads : Copy.gateReads e n (i :: is) x = ((Copy.gateReads e n is
        (x.readReq e.now x.world x.ring (x.gateAddr n i.val) (.gateWord i))).1, none :: (Copy.gateReads e n is
        (x.readReq e.now x.world x.ring (x.gateAddr n i.val) (.gateWord i))).2) := by
      simp only [Copy.gateReads, Copy.dcLoad_of_missing (hmiss i), Option.map_none]
    have hsame (j : Fin 4) : (x.readReq e.now x.world x.ring (x.gateAddr n i.val) (.gateWord i)).gateAddr n j.val =
        x.gateAddr n j.val := ho.gateAddr n j.val
    rw [hreads]
    refine ⟨o :: os, ?_, ho.trans hos, congrArg (none :: ·) hwords⟩
    rw [List.map_cons, List.map_cons, haddrs, haddr]
    simp only [hsame]

/-- GATE begins with the reads of the four words, and waits for them. -/
theorem Copy.gateStart_of_missing {x : Copy} {n : BitVec 6} (hroom : x.room 4 = true)
    (hmiss : ∀ j : Fin 4, x.dcFind (x.gateAddr n.toNat j.val) = none) (e : Env) : ∃ os : List Outst,
      os.map (fun o => o.req.addr) = [wordOf (x.gateAddr n.toNat 0), wordOf (x.gateAddr n.toNat 1),
        wordOf (x.gateAddr n.toNat 2), wordOf (x.gateAddr n.toNat 3)] ∧
      ∃ y, x.Sends y os ∧ x.gateStart e n = { y with wait := .gate n ⟨none, none, none, none⟩ } := by
  obtain ⟨os, haddrs, hos, hwords⟩ := Copy.gateReads_of_missing e n.toNat [0, 1, 2, 3] x hmiss
  refine ⟨os, haddrs, _, hos, ?_⟩
  have hnone : (Copy.gateReads e n.toNat [0, 1, 2, 3] x).2 = [none, none, none, none] := hwords
  simp only [Copy.gateStart, hroom, Bool.not_true, Bool.false_eq_true, if_false, hnone]

section Gate

variable {s : State} {c : CopyId} {n : BitVec 6}

theorem CopyStep.of_gate {P : Copy → Prop} (hP : P ((s.dev.copy c).gate s.dev.env n)) : CopyStep (.gate c n) s c P :=
  CopyStep.of_core rfl hP

/-- GATE whose entry passes every check. -/
theorem gate_passes {w0 w1 w2 w3 : Word} (hwait : (s.dev.copy c).wait = .gate n ⟨some w0, some w1, some w2, some w3⟩)
    (hruns : (s.dev.copy c).runs = true) (hdbg : (s.dev.copy c).dbg = false) (hroom : (s.dev.copy c).room 0 = true)
    (hdet : gateDetail (s.dev.copy c).world (s.dev.copy c).ring.val n.toNat
      (bitOf ((s.dev.copy c).gtbase (s.dev.copy c).world) 0) w0 w1 = 0)
    (hfits : ((s.dev.copy c).stack (gateWorld (s.dev.copy c).world w1) (gateRing w1)).top.length +
      ((s.dev.copy c).gateFrame (bitOf w1 8)).length ≤ 32) :
    CopyStep (.gate c n) s c (fun y =>
      ((s.dev.copy c).behindGate w1).Ends y (if bitOf w1 8 then 2 else 0) w2 (w0 &&& 0xFFFFFFFE)) := by
  refine CopyStep.of_gate ?_
  obtain ⟨i, t, hform⟩ := (s.dev.copy c).behindGate_form w1
  rw [Copy.gate_of_words hwait hruns, Copy.gateDo_of_passed hdet hfits hroom]
  exact Copy.ends_retireTo (.refl _) (by rw [hform]) (Copy.dbgDue_of_noDbg (by rw [hform]; exact hdbg)) ..

/-- GATE whose entry fails a check. -/
theorem gate_fails {w0 w1 w2 w3 : Word} (hwait : (s.dev.copy c).wait = .gate n ⟨some w0, some w1, some w2, some w3⟩)
    (hruns : (s.dev.copy c).runs = true)
    (hdet : gateDetail (s.dev.copy c).world (s.dev.copy c).ring.val n.toNat
      (bitOf ((s.dev.copy c).gtbase (s.dev.copy c).world) 0) w0 w1 ≠ 0)
    (htrap : (s.dev.copy c).canTrap) (hkeeps : (s.dev.copy c).keepsStack s.dev.env (s.dev.copy c).world) :
    CopyStep (.gate c n) s c (fun y => (s.dev.copy c).entered y (s.dev.copy c).world 5 false (toWord n.toNat)
      (BitVec.ofNat 64 (gateDetail (s.dev.copy c).world (s.dev.copy c).ring.val n.toNat
        (bitOf ((s.dev.copy c).gtbase (s.dev.copy c).world) 0) w0 w1))) := by
  refine CopyStep.of_gate ?_
  rw [Copy.gate_of_words hwait hruns, Copy.gateDo_of_failed hdet]
  have hentered := Copy.raise_entered (x := { s.dev.copy c with wait := .none }) s.dev.env 5 (toWord n.toNat)
    (BitVec.ofNat 64 (gateDetail (s.dev.copy c).world (s.dev.copy c).ring.val n.toNat
      (bitOf ((s.dev.copy c).gtbase (s.dev.copy c).world) 0) w0 w1)) (by decide) htrap hkeeps
  exact hentered

theorem Copy.gate_of_idle {x : Copy} (hwait : x.wait = .none) (e : Env) (n : BitVec 6) :
    x.gate e n = x.instr e 4 (fun y => y.syncPoint e (fun z => z.gateStart e n)) := by
  simp only [Copy.gate, hwait]

theorem Copy.afterFetch.gateAddr {x z : Copy} (hz : x.afterFetch z) (n i : Nat) : z.gateAddr n i = x.gateAddr n i := by
  obtain ⟨_, _, rfl⟩ := hz
  rfl

/-- GATE that finds none of its entry's words in the data cache. -/
theorem gate_reads (h : (s.dev.copy c).fetched 4) (hsettled : (s.dev.copy c).settled) (hroom : (s.dev.copy c).room 4 = true)
    (hmiss : ∀ j : Fin 4, (s.dev.copy c).dcFind ((s.dev.copy c).gateAddr n.toNat j.val) = none) :
    CopyStep (.gate c n) s c (fun y => (s.dev.copy c).wrote y 0 0 ∧ y.pc = (s.dev.copy c).pc ∧
      y.retire = (s.dev.copy c).retire ∧ y.csn = (s.dev.copy c).csn + 4 ∧ y.wait = .gate n ⟨none, none, none, none⟩ ∧
      y.out.map (fun (o : Outst) => o.req.addr) = (s.dev.copy c).out.map (fun (o : Outst) => o.req.addr) ++
        [wordOf ((s.dev.copy c).gateAddr n.toNat 0), wordOf ((s.dev.copy c).gateAddr n.toNat 1),
          wordOf ((s.dev.copy c).gateAddr n.toNat 2), wordOf ((s.dev.copy c).gateAddr n.toNat 3)]) := by
  refine CopyStep.of_gate ?_
  obtain ⟨z, hz, hinstr⟩ := Copy.instr_fetched h s.dev.env
    (fun y => y.syncPoint s.dev.env (fun z => z.gateStart s.dev.env n))
  have hmiss' (j : Fin 4) : z.dcFind (z.gateAddr n.toNat j.val) = none := by
    rw [hz.gateAddr, Copy.dcFind, hz.dcache]
    exact hmiss j
  obtain ⟨os, haddrs, y, hos, hstart⟩ := Copy.gateStart_of_missing ((hz.room 4).trans hroom) hmiss' s.dev.env
  have hlen : os.length = 4 := by simpa using congrArg List.length haddrs
  simp only [hz.gateAddr] at haddrs
  rw [Copy.gate_of_idle h.wait, hinstr, Copy.syncPoint_of_settled (hz.settled hsettled), hstart]
  refine ⟨Copy.wrote_zero_of_x (hos.regs.trans hz.x), hos.pc.trans hz.pc, hos.retire.trans hz.retire, ?_, rfl, ?_⟩
  · change y.csn = _
    rw [hos.csn, hz.csn, hlen]
    rfl
  · change y.out.map _ = _
    rw [hos.out, hz.out, List.map_append, haddrs]

end Gate

/-- x2 is another after a gate where the entry says so. -/
theorem Copy.xr_of_gate (x : Copy) (ssw : Bool) (sp : Word) (r : BitVec 5) :
    (if r = 0 then 0 else if r = (if ssw then 2 else 0) then sp else x.xr r) = if ssw && r == 2 then sp else x.xr r := by
  by_cases hr : r = 0
  · subst hr
    cases ssw with
    | true => rfl
    | false => rfl
  · rw [if_neg hr]
    cases ssw with
    | true => simp only [if_true, Bool.true_and, beq_iff_eq]
    | false => simp only [Bool.false_eq_true, if_false, hr, Bool.false_and]

/-- Settles O9: the frame and the status behind a gate, its fault, its reads, and ECALL as GATE 0. -/
theorem gateEnters : Obligations.GateEnters := by
  intro s c
  refine ⟨fun n w0 w1 w2 w3 hwait hruns hdbg hroom => ⟨fun hdet hfits => ?_, gate_fails hwait hruns⟩,
    fun n h hsettled hroom hmiss => gate_reads h hsettled hroom hmiss, CopyStep.of_gate rfl⟩
  refine (gate_passes hwait hruns hdbg hroom hdet hfits).imp (fun y hends => ?_)
  have hstack := hends.stack (gateWorld (s.dev.copy c).world w1) (gateRing w1)
  obtain ⟨htop, hssp⟩ := (s.dev.copy c).stack_behindGate w1
  rw [← hstack] at htop hssp
  obtain ⟨i, t, hform⟩ := (s.dev.copy c).behindGate_form w1
  rw [hform] at hends
  refine ⟨hends.world, hends.ring, hends.bmode, hends.hush, hends.pc, hends.retire, hends.wait, htop, hssp, fun r => ?_,
    hends.acc, hends.bstat, hends.csn, hends.out, hends.dcache⟩
  exact (hends.wrote r).trans (Copy.xr_of_gate _ (bitOf w1 8) w2 r)

end Sys2Proof.Machine

namespace Sys2Proof.Machine

open Sys2Proof

/-! The square root (R247). -/

/-- The leading bit pairs of a number with the next pair appended. -/
theorem four_mul_div_add_digit (n i : Nat) :
    4 * (n / 2 ^ (2 * (i + 1))) + n / 2 ^ (2 * i) % 4 = n / 2 ^ (2 * i) := by
  have hpow : 2 ^ (2 * (i + 1)) = 2 ^ (2 * i) * 4 := by ring
  rw [hpow, ← Nat.div_div_eq_div_mul]
  exact Nat.div_add_mod _ 4

/-- The loop of SQRT keeps a root and a remainder of the leading bit pairs, and ends with those of the whole number. -/
theorem sqrtSteps_root_remainder (n : Nat) : ∀ i r m, r ^ 2 + m = n / 2 ^ (2 * i) → m ≤ 2 * r →
    (sqrtSteps n i r m).1 ^ 2 + (sqrtSteps n i r m).2 = n ∧ (sqrtSteps n i r m).2 ≤ 2 * (sqrtSteps n i r m).1
  | 0, r, m, hroot, hrem => ⟨by simpa [sqrtSteps] using hroot, hrem⟩
  | i + 1, r, m, hroot, hrem => by
    have hpair := four_mul_div_add_digit n i
    rw [← hroot] at hpair
    have hdigit : n / 2 ^ (2 * i) % 4 < 4 := Nat.mod_lt _ (by decide)
    simp only [sqrtSteps]
    generalize n / 2 ^ (2 * i) % 4 = digit at hpair hdigit ⊢
    split
    case isTrue hfits =>
      refine sqrtSteps_root_remainder n i _ _ ?_ (by omega)
      rw [← hpair]
      have hsquare : (2 * r + 1) ^ 2 = 4 * r ^ 2 + (4 * r + 1) := by ring
      omega
    case isFalse hexceeds =>
      refine sqrtSteps_root_remainder n i _ _ ?_ (by omega)
      rw [← hpair]
      ring

theorem toNat_lt_of_wordInt_nonneg {x : Word} (h : 0 ≤ wordInt x) : x.toNat < 2 ^ 31 := by
  have hx := x.isLt
  by_contra hbig
  simp only [wordInt, sext, Nat.mod_eq_of_lt hx] at h
  rw [if_neg (by omega)] at h
  omega

/-- The rounded root of a radicand `x · 2^31` fits 31 bits. -/
theorem roundedRoot_le {x r m : Nat} (hx : x < 2 ^ 31) (hroot : r ^ 2 + m = x * 2 ^ 31) :
    (if r < m then r + 1 else r) ≤ 0x7FFFFFFF := by
  have hr : r < 2 ^ 31 := by
    by_contra hbig
    have hsquare : (2 ^ 31) ^ 2 ≤ r ^ 2 := Nat.pow_le_pow_left (by omega) 2
    omega
  split
  case isFalse => omega
  case isTrue hup =>
    have htop : r ≠ 0x7FFFFFFF := by
      rintro rfl
      omega
    omega

/-- With a remainder of at most twice the root, the root rounded by the remainder is the nearest integer. -/
theorem roundedRoot_nearest {n r m v : Nat} (hroot : r ^ 2 + m = n) (hrem : m ≤ 2 * r)
    (hv : v = if r < m then r + 1 else r) : 4 * n < (2 * v + 1) ^ 2 ∧ (0 < v → (2 * v - 1) ^ 2 < 4 * n) := by
  have hbelow : (2 * r + 1) ^ 2 = 4 * r ^ 2 + 4 * r + 1 := by ring
  split at hv
  case isTrue hup =>
    subst hv
    have habove : (2 * (r + 1) + 1) ^ 2 = 4 * r ^ 2 + 12 * r + 9 := by ring
    rw [show 2 * (r + 1) - 1 = 2 * r + 1 by omega]
    omega
  case isFalse hdown =>
    subst hv
    refine ⟨by omega, fun hpos => ?_⟩
    obtain ⟨k, rfl⟩ : ∃ k, v = k + 1 := ⟨v - 1, by omega⟩
    rw [show 2 * (k + 1) - 1 = 2 * k + 1 by omega]
    have hk : (2 * k + 1) ^ 2 = 4 * k ^ 2 + 4 * k + 1 := by ring
    have hk1 : (k + 1) ^ 2 = k ^ 2 + 2 * k + 1 := by ring
    omega

theorem sqrtQ_of_nonneg {x : Word} (h : 0 ≤ wordInt x) : ∃ r m, r ^ 2 + m = x.toNat * 2 ^ 31 ∧ m ≤ 2 * r ∧
    sqrtQ x = (toWord (if r < m then r + 1 else r), 0) := by
  have hx := toNat_lt_of_wordInt_nonneg h
  have hempty : x.toNat * 2 ^ 31 / 2 ^ (2 * 31) = 0 := Nat.div_eq_of_lt (by omega)
  obtain ⟨hroot, hrem⟩ := sqrtSteps_root_remainder (x.toNat * 2 ^ 31) 31 0 0 hempty.symm le_rfl
  exact ⟨_, _, hroot, hrem, if_neg (not_lt.2 h)⟩

/-- Settles O18: the loop ends with the root and its remainder, and the remainder says to which side the root is rounded. -/
theorem sqrtCorrectlyRounded : Obligations.SqrtCorrectlyRounded := by
  intro x h
  obtain ⟨r, m, hroot, hrem, hsqrt⟩ := sqrtQ_of_nonneg h
  have hle := roundedRoot_le (toNat_lt_of_wordInt_nonneg h) hroot
  rw [hsqrt]
  have hval : (toWord (if r < m then r + 1 else r)).toNat = if r < m then r + 1 else r := by
    rw [toWord, BitVec.toNat_ofNat]
    exact Nat.mod_eq_of_lt (by omega)
  exact ⟨rfl, hval.le.trans hle, roundedRoot_nearest hroot hrem hval⟩

end Sys2Proof.Machine

namespace Sys2Proof.Machine

open Sys2Proof

/-! The range check (R237). -/

theorem rangeCheck_of_mem {w : Nat} {v : Int} (hlo : -(2 ^ (w - 1)) ≤ v) (hhi : v ≤ 2 ^ (w - 1) - 1) (sat : Bool) :
    rangeCheck w sat v = ⟨v, 0⟩ := by
  have hsat : satS w v = v := by rw [satS, if_neg (by omega), if_neg (by omega)]
  rw [rangeCheck, if_pos hsat]

theorem rangeCheck_of_not_mem {w : Nat} {v : Int} (hout : v < -(2 ^ (w - 1)) ∨ 2 ^ (w - 1) - 1 < v) (sat : Bool) :
    rangeCheck w sat v = if sat then ⟨satS w v, 3⟩ else ⟨sext w (wrapU w v), 1⟩ := by
  have hpos : (0 : Int) < 2 ^ (w - 1) := by positivity
  have hsat : satS w v ≠ v := by
    unfold satS
    split
    · omega
    · split <;> omega
  rw [rangeCheck, if_neg hsat]

theorem satS_of_lt {w : Nat} {v : Int} (h : v < -(2 ^ (w - 1))) : satS w v = -(2 ^ (w - 1)) := if_pos h

theorem satS_of_gt {w : Nat} {v : Int} (h : 2 ^ (w - 1) - 1 < v) : satS w v = 2 ^ (w - 1) - 1 := by
  have hpos : (0 : Int) < 2 ^ (w - 1) := by positivity
  rw [satS, if_neg (by omega), if_pos h]

theorem satS_mem (w : Nat) (v : Int) : -(2 ^ (w - 1)) ≤ satS w v ∧ satS w v ≤ 2 ^ (w - 1) - 1 := by
  have hpos : (0 : Int) < 2 ^ (w - 1) := by positivity
  unfold satS
  split
  · omega
  · split <;> omega

theorem sext_mem {w : Nat} (hw : 0 < w) (n : Nat) : -(2 ^ (w - 1)) ≤ sext w n ∧ sext w n ≤ 2 ^ (w - 1) - 1 := by
  have hlt : n % 2 ^ w < 2 ^ w := Nat.mod_lt _ (by positivity)
  have hhalf : 2 ^ w = 2 * 2 ^ (w - 1) := (mul_pow_sub_one (by omega) 2).symm
  have hhalfInt : (2 : Int) ^ w = 2 * 2 ^ (w - 1) := by exact_mod_cast hhalf
  have hcast : ((2 ^ (w - 1) : Nat) : Int) = 2 ^ (w - 1) := by push_cast; rfl
  unfold sext
  split <;> omega

theorem sext_modEq (w n : Nat) : sext w n ≡ n [ZMOD 2 ^ w] := by
  have hmod : ((n % 2 ^ w : Nat) : Int) ≡ n [ZMOD 2 ^ w] := by
    rw [Int.natCast_mod, Nat.cast_pow]
    exact Int.mod_modEq _ _
  unfold sext
  split
  · exact hmod
  · exact Int.sub_modulus_modEq_iff.2 hmod

/-- The low bits of an integer, read as signed, are congruent to it. -/
theorem sext_wrapU_modEq (w : Nat) (v : Int) : sext w (wrapU w v) ≡ v [ZMOD 2 ^ w] := by
  have hwrap : (wrapU w v : Int) = v % 2 ^ w := Int.toNat_of_nonneg (Int.emod_nonneg _ (by positivity))
  calc sext w (wrapU w v) ≡ wrapU w v [ZMOD 2 ^ w] := sext_modEq w _
    _ ≡ v [ZMOD 2 ^ w] := by
      rw [hwrap]
      exact Int.mod_modEq _ _

theorem rangeCheck_mem {w : Nat} (hw : 0 < w) (sat : Bool) (v : Int) :
    -(2 ^ (w - 1)) ≤ (rangeCheck w sat v).val ∧ (rangeCheck w sat v).val ≤ 2 ^ (w - 1) - 1 := by
  by_cases hin : -(2 ^ (w - 1)) ≤ v ∧ v ≤ 2 ^ (w - 1) - 1
  · rw [rangeCheck_of_mem hin.1 hin.2]
    exact hin
  · rw [rangeCheck_of_not_mem (by omega)]
    cases sat with
    | true => exact satS_mem w v
    | false => exact sext_mem hw _

/-- The range check sets no flag, OVF and SAT, or OVF alone. -/
theorem rangeCheck_flags (w : Nat) (sat : Bool) (v : Int) :
    (rangeCheck w sat v).flags = 0 ∨ (rangeCheck w sat v).flags = 3 ∨ (rangeCheck w sat v).flags = 1 := by
  unfold rangeCheck
  split
  · exact .inl rfl
  · split
    · exact .inr (.inl rfl)
    · exact .inr (.inr rfl)

/-! Rounding (R235). -/

@[simp] theorem roundMode_zero (m : Nat) (n : Int) : roundMode m n 0 = n := if_pos rfl

/-- The remainder over `2 ^ k` as a number. -/
theorem toNat_emod_two_pow (n : Int) (k : Nat) : ((n % 2 ^ k).toNat : Int) = n % 2 ^ k :=
  Int.toNat_of_nonneg (Int.emod_nonneg n (by positivity))

/-- A floor that goes up only from half a unit of remainder on, and stays only up to it, is rounded to nearest. -/
theorem floor_up_nearest {q r p : Int} {up : Bool} (hup : up = true → p ≤ 2 * r) (hdown : up = false → 2 * r ≤ p) :
    ((if up then q + 1 else q) = q ∧ 2 * r ≤ p) ∨ ((if up then q + 1 else q) = q + 1 ∧ p ≤ 2 * r) := by
  cases up with
  | true => exact .inr ⟨rfl, hup rfl⟩
  | false => exact .inl ⟨rfl, hdown rfl⟩

/-- The nearest modes take the floor up to half a unit of remainder, and the next integer from half a unit on. -/
theorem roundMode_nearest {m : Nat} (hm : m = 0 ∨ m = 1) (n : Int) (k : Nat) :
    (roundMode m n k = n / 2 ^ k ∧ 2 * (n % 2 ^ k) ≤ 2 ^ k) ∨
      (roundMode m n k = n / 2 ^ k + 1 ∧ 2 ^ k ≤ 2 * (n % 2 ^ k)) := by
  cases k with
  | zero => simp
  | succ k =>
    have hrem := toNat_emod_two_pow n (k + 1)
    have hhalf : (2 : Int) ^ (k + 1) = 2 * (2 ^ k : Nat) := by rw [pow_succ']; norm_cast
    rcases hm with rfl | rfl
    case inl =>
      simp only [roundMode, Nat.succ_ne_zero, if_false, Nat.add_sub_cancel]
      refine floor_up_nearest (fun hup => ?_) (fun hdown => ?_)
      · simp only [Bool.or_eq_true, decide_eq_true_eq, Bool.and_eq_true, beq_iff_eq] at hup
        omega
      · simp only [Bool.or_eq_false_iff, decide_eq_false_iff_not] at hdown
        omega
    case inr =>
      simp only [roundMode, Nat.succ_ne_zero, if_false, Nat.add_sub_cancel]
      refine floor_up_nearest (fun hup => ?_) (fun hdown => ?_)
      · split at hup <;> simp only [decide_eq_true_eq] at hup <;> omega
      · split at hdown <;> simp only [decide_eq_false_iff_not] at hdown <;> omega

theorem roundMode_rtz (n : Int) (k : Nat) :
    roundMode 2 n k = if n < 0 ∧ n % 2 ^ k ≠ 0 then n / 2 ^ k + 1 else n / 2 ^ k := by
  cases k with
  | zero => simp
  | succ k =>
    have hrem := toNat_emod_two_pow n (k + 1)
    have hzero : (n % 2 ^ (k + 1)).toNat = 0 ↔ n % 2 ^ (k + 1) = 0 := by omega
    simp only [roundMode, Nat.succ_ne_zero, if_false, Bool.and_eq_true, decide_eq_true_eq, bne_iff_ne, ne_eq, hzero]

/-- Every other mode takes the floor. -/
theorem roundMode_floor {m : Nat} (hm : 3 ≤ m) (n : Int) (k : Nat) : roundMode m n k = n / 2 ^ k := by
  match m, hm with
  | m + 3, _ =>
    by_cases hk : k = 0
    · simp [hk]
    · simp [roundMode, hk]

/-- The rounded value is the floor, or the next integer where a remainder is left. -/
theorem roundMode_floor_or_succ (m : Nat) (n : Int) (k : Nat) :
    roundMode m n k = n / 2 ^ k ∨ (n % 2 ^ k ≠ 0 ∧ roundMode m n k = n / 2 ^ k + 1) := by
  have hpos : (0 : Int) < 2 ^ k := by positivity
  match m with
  | 0 => exact (roundMode_nearest (.inl rfl) n k).imp And.left (fun h => ⟨by omega, h.1⟩)
  | 1 => exact (roundMode_nearest (.inr rfl) n k).imp And.left (fun h => ⟨by omega, h.1⟩)
  | 2 =>
    rw [roundMode_rtz]
    split
    case isTrue hup => exact .inr ⟨hup.2, rfl⟩
    case isFalse => exact .inl rfl
  | m + 3 => exact .inl (roundMode_floor (Nat.le_add_left 3 m) n k)

section Rounded

variable (n : Int) (k : Nat)

/-- A rounded value lies less than one unit from the exact one. -/
theorem roundMode_lt_unit (m : Nat) :
    roundMode m n k * 2 ^ k - n < 2 ^ k ∧ n - roundMode m n k * 2 ^ k < 2 ^ k := by
  have hsplit := Int.ediv_mul_add_emod n (2 ^ k)
  have hnonneg := Int.emod_nonneg n (b := 2 ^ k) (by positivity)
  have hlt := Int.emod_lt_of_pos n (b := 2 ^ k) (by positivity)
  rcases roundMode_floor_or_succ m n k with hv | ⟨hrem, hv⟩
  · rw [hv]
    omega
  · rw [hv, add_mul, one_mul]
    omega

theorem roundMode_nearest_half {m : Nat} (hm : m = 0 ∨ m = 1) :
    2 * (roundMode m n k * 2 ^ k - n) ≤ 2 ^ k ∧ 2 * (n - roundMode m n k * 2 ^ k) ≤ 2 ^ k := by
  have hsplit := Int.ediv_mul_add_emod n (2 ^ k)
  have hnonneg := Int.emod_nonneg n (b := 2 ^ k) (by positivity)
  have hlt := Int.emod_lt_of_pos n (b := 2 ^ k) (by positivity)
  rcases roundMode_nearest hm n k with ⟨hv, hhalf⟩ | ⟨hv, hhalf⟩
  · rw [hv]
    omega
  · rw [hv, add_mul, one_mul]
    omega

theorem roundMode_rtz_of_nonneg (hn : 0 ≤ n) : 0 ≤ roundMode 2 n k ∧ roundMode 2 n k * 2 ^ k ≤ n := by
  rw [roundMode_rtz, if_neg (by omega)]
  exact ⟨Int.ediv_nonneg hn (by positivity), Int.ediv_mul_le n (by positivity)⟩

theorem roundMode_rtz_of_nonpos (hn : n ≤ 0) : roundMode 2 n k ≤ 0 ∧ n ≤ roundMode 2 n k * 2 ^ k := by
  rcases hn.lt_or_eq with hneg | rfl
  case inr => simp [roundMode_rtz]
  case inl =>
    have hsplit := Int.ediv_mul_add_emod n (2 ^ k)
    have hlt := Int.emod_lt_of_pos n (b := 2 ^ k) (by positivity)
    have hfloor := Int.ediv_neg_of_neg_of_pos hneg (b := 2 ^ k) (by positivity)
    rw [roundMode_rtz]
    split
    case isTrue =>
      rw [add_mul, one_mul]
      omega
    case isFalse hdown =>
      have hexact : n % 2 ^ k = 0 := by_contra fun hrem => hdown ⟨hneg, hrem⟩
      omega

theorem roundMode_rdn_le : roundMode 3 n k * 2 ^ k ≤ n := by
  rw [roundMode_floor le_rfl]
  exact Int.ediv_mul_le n (by positivity)

end Rounded

/-- Settles O17: rounding is the floor or its successor by the remainder of `2 ^ k`, and the range check returns the value,
the end of the range that it passed, or the representative of its residue. -/
theorem roundingAndRange : Obligations.RoundingAndRange := by
  refine ⟨fun m n k => ⟨roundMode_zero m n, (roundMode_lt_unit n k m).1, (roundMode_lt_unit n k m).2,
    roundMode_nearest_half n k, ?_, ?_⟩, fun w sat v hw => ⟨?_, ?_, ?_, fun hout hsat => ?_, rangeCheck_mem hw sat v⟩⟩
  · rintro rfl
    exact ⟨roundMode_rtz_of_nonneg n k, roundMode_rtz_of_nonpos n k⟩
  · rintro rfl
    exact roundMode_rdn_le n k
  · intro hlo hhi
    rw [rangeCheck_of_mem hlo hhi]
    exact ⟨rfl, rfl⟩
  · rintro hlt rfl
    rw [rangeCheck_of_not_mem (.inl hlt)]
    exact ⟨satS_of_lt hlt, rfl⟩
  · rintro hgt rfl
    rw [rangeCheck_of_not_mem (.inr hgt)]
    exact ⟨satS_of_gt hgt, rfl⟩
  · subst hsat
    rw [rangeCheck_of_not_mem hout]
    exact ⟨rfl, (sext_wrapU_modEq w v).symm.dvd⟩

end Sys2Proof.Machine

namespace Sys2Proof.Machine

open Sys2Proof

/-! Bronze instructions by what their body does (R230, R236 to R238). -/

theorem Copy.bronzeOn_iff (x : Copy) : x.bronzeOn = true ↔ x.bmode = 1 ∨ x.bmode = 2 := by
  simp [Copy.bronzeOn]

theorem Copy.afterFetch.bronzeOn {x z : Copy} (hz : x.afterFetch z) : z.bronzeOn = x.bronzeOn := by
  rw [Copy.bronzeOn, Copy.bronzeOn, hz.bmode]

theorem Copy.afterFetch.bronzeTraps {x z : Copy} (hz : x.afterFetch z) (flags : Nat) :
    z.bronzeTraps flags = x.bronzeTraps flags := by
  rw [Copy.bronzeTraps, Copy.bronzeTraps, hz.bmode]

/-- A range check traps where it sets OVF and BMODE is 0b10. -/
theorem Copy.bronzeTraps_rangeCheck (x : Copy) (w : Nat) (sat : Bool) (v : Int) :
    x.bronzeTraps (rangeCheck w sat v).flags = true ↔ x.bmode = 2 ∧ (rangeCheck w sat v).flags % 2 = 1 := by
  rcases rangeCheck_flags w sat v with hflags | hflags | hflags <;> simp [Copy.bronzeTraps, hflags]

theorem Copy.bronzeTraps_rangeCheck_passes {x : Copy} {w : Nat} {sat : Bool} {v : Int}
    (hpasses : x.bmode = 1 ∨ (x.bmode = 2 ∧ (rangeCheck w sat v).flags % 2 = 0)) :
    x.bronzeTraps (rangeCheck w sat v).flags = false := by
  rw [Bool.eq_false_iff, Ne, x.bronzeTraps_rangeCheck]
  rintro ⟨hmode, hovf⟩
  rcases hpasses with hone | ⟨-, hnone⟩
  · rw [hone] at hmode
    exact absurd hmode (by decide)
  · omega

/-- A flag of the range check is one of BSTAT's. -/
theorem rangeCheck_flags_mod_eight (w : Nat) (sat : Bool) (v : Int) :
    (rangeCheck w sat v).flags % 8 = (rangeCheck w sat v).flags := by
  rcases rangeCheck_flags w sat v with hflags | hflags | hflags <;> rw [hflags]

section Bronze

variable {i : Instr} {s : State} {c : CopyId} {iw : Word} {rd : BitVec 5}

/-- A Bronze instruction that may execute (R230) completes as its body does on the copy that the fetch leaves. -/
theorem CopyStep.of_bronze {P : Copy → Prop} {body : Env → Copy → Copy} (h : (s.dev.copy c).fetched 4)
    (hon : (s.dev.copy c).bronzeOn = true) (hexec : exec i s = s.run (Dev.bronze c iw body))
    (hP : ∀ z, (s.dev.copy c).afterFetch z → P (body s.dev.env z)) : CopyStep i s c P :=
  CopyStep.of_fetched h hexec (fun z hz => by
    rw [if_pos (hz.bronzeOn.trans hon)]
    exact hP z hz)

/-- A Bronze instruction that raises a cause where it may execute ends in that entry. -/
theorem TrapsWith.of_bronze_raise {body : Env → Copy → Copy} {code : Nat} {eval : Word} {aux : DWord}
    (h : (s.dev.copy c).fetched 4) (hon : (s.dev.copy c).bronzeOn = true)
    (hexec : exec i s = s.run (Dev.bronze c iw body)) (hcode : code ≠ 9)
    (hraise : ∀ z, (s.dev.copy c).afterFetch z → body s.dev.env z = z.raise s.dev.env code eval aux) :
    TrapsWith i s c code eval aux :=
  TrapsWith.of_raise h hexec hcode (fun z hz _ => by
    rw [if_pos (hz.bronzeOn.trans hon)]
    exact hraise z hz)

/-- The end of a Bronze instruction that writes `v` to `rd` and leaves ACC and BSTAT as given. -/
theorem Copy.ends_bronze {x z : Copy} (h : x.fetched 4) (hz : x.afterFetch z) (e : Env) (rd : BitVec 5) (v : Word)
    (a : BitVec 72) (b : Word) :
    ({ x with acc := a, bstat := b } : Copy).Ends (({ z with acc := a, bstat := b } : Copy).setX rd v |>.next e 4)
      rd v (x.pc + 4) := by
  have hfetched : ({ x with acc := a, bstat := b } : Copy).afterFetch { z with acc := a, bstat := b } := by
    obtain ⟨ic, st, rfl⟩ := hz
    exact ⟨ic, st, rfl⟩
  have hpc : z.pc + toWord 4 = x.pc + 4 := congrArg (· + toWord 4) hz.pc
  rw [Copy.next, Copy.setX_pc, hpc]
  exact Copy.ends_retireTo hfetched h.wait h.dbgDue e rd v _ 4

/-- A Bronze instruction that writes `v` to `rd`, leaves ACC and BSTAT as given, and retires. -/
theorem CopyStep.of_bronze_next {body : Env → Copy → Copy} {v : Word} {a : BitVec 72} {b : Word}
    (h : (s.dev.copy c).fetched 4) (hon : (s.dev.copy c).bronzeOn = true)
    (hexec : exec i s = s.run (Dev.bronze c iw body))
    (hnext : ∀ z, (s.dev.copy c).afterFetch z →
      body s.dev.env z = (({ z with acc := a, bstat := b } : Copy).setX rd v).next s.dev.env 4) :
    CopyStep i s c (fun y => (s.dev.copy c).wrote y rd v ∧ (s.dev.copy c).retired y ((s.dev.copy c).pc + 4) ∧
      y.masked = ({ s.dev.copy c with acc := a, bstat := b } : Copy).masked) :=
  CopyStep.of_bronze h hon hexec (fun z hz => by
    rw [hnext z hz]
    obtain ⟨hwrote, hretired, hmasked⟩ := Copy.ends_bronze h hz s.dev.env rd v a b
    exact ⟨hwrote, hretired, hmasked⟩)

theorem Copy.toRd_of_traps {x : Copy} {flags : Nat} (ht : x.bronzeTraps flags = true) (e : Env) (iw : Word) (rd : BitVec 5)
    (v : Word) : x.toRd e iw rd (v, flags) = x.raise e 8 iw (BitVec.ofNat 64 (v.toNat + flags * 2 ^ 32)) :=
  if_pos ht

theorem Copy.toRd_of_passes {x : Copy} {flags : Nat} (ht : x.bronzeTraps flags = false) (e : Env) (iw : Word)
    (rd : BitVec 5) (v : Word) : x.toRd e iw rd (v, flags) =
      (({ x with bstat := x.bstat ||| toWord (flags % 8) } : Copy).setX rd v).next e 4 := by
  have hcomm : (x.setX rd v).stick flags = ({ x with bstat := x.bstat ||| toWord (flags % 8) } : Copy).setX rd v := by
    unfold Copy.setX
    split
    · rfl
    · rfl
  rw [Copy.toRd, ht, hcomm]
  rfl

/-- A Bronze instruction whose body ends in the result `r` for `rd`. -/
theorem BronzeRd.of_bronze_body {r : Word × Nat} {body : Env → Copy → Copy} (h : (s.dev.copy c).fetched 4)
    (hexec : exec i s = s.run (Dev.bronze c iw body))
    (hbody : ∀ z, (s.dev.copy c).afterFetch z → body s.dev.env z = z.toRd s.dev.env iw rd r) : BronzeRd i s c iw rd r :=
  .of_toRd h hexec (fun z hz hon => by
    rw [if_pos hon]
    exact hbody z hz)

/-- One whose result is read off the copy that the fetch leaves. -/
theorem BronzeRd.of_bronze {r : Word × Nat} {res : Copy → Word × Nat} (h : (s.dev.copy c).fetched 4)
    (hexec : exec i s = s.run (Dev.bronze c iw (fun e y => y.toRd e iw rd (res y))))
    (hres : ∀ z, (s.dev.copy c).afterFetch z → res z = r) : BronzeRd i s c iw rd r :=
  .of_bronze_body h hexec (fun z hz => congrArg (z.toRd s.dev.env iw rd) (hres z hz))

/-- One with a rounding field that selects mode `m`. -/
theorem BronzeRd.of_bronzeRm {rm : BitVec 3} {m : Nat} {r : Word × Nat} {res : Nat → Copy → Word × Nat}
    (h : (s.dev.copy c).fetched 4) (hm : rmMode rm.toNat (s.dev.copy c).bstat = some m)
    (hexec : exec i s = s.run (Dev.bronzeRm c iw rm (fun m e y => y.toRd e iw rd (res m y))))
    (hres : ∀ z, (s.dev.copy c).afterFetch z → res m z = r) : BronzeRd i s c iw rd r :=
  .of_bronze_body h hexec (fun z hz => by simp only [hz.bstat, hm, hres z hz])

/-- A Bronze instruction whose body ends in a result for ACC. -/
theorem BronzeAcc.of_bronze {sat : Bool} {v : Int} {res : Copy → Int} (h : (s.dev.copy c).fetched 4)
    (hexec : exec i s = s.run (Dev.bronze c iw (fun e y => y.toAcc e iw sat (res y))))
    (hres : ∀ z, (s.dev.copy c).afterFetch z → res z = v) : BronzeAcc i s c iw sat v := by
  have htraps (z : Copy) (hz : (s.dev.copy c).afterFetch z) := hz.bronzeTraps (rangeCheck 72 sat v).flags
  refine ⟨fun hpasses => ?_, fun hdue => ?_⟩
  · have hon : (s.dev.copy c).bronzeOn = true := (Copy.bronzeOn_iff _).2 (hpasses.imp_right And.left)
    refine CopyStep.of_bronze_next (rd := 0) (v := 0) h hon hexec (fun z hz => ?_)
    rw [hres z hz, Copy.toAcc, htraps z hz, Copy.bronzeTraps_rangeCheck_passes hpasses,
      Copy.setX_zero, Copy.stick, rangeCheck_flags_mod_eight,
      ← hz.bstat]
    rfl
  · have hon : (s.dev.copy c).bronzeOn = true := (Copy.bronzeOn_iff _).2 (.inr hdue.1)
    refine TrapsWith.of_bronze_raise h hon hexec (by decide) (fun z hz => ?_)
    rw [hres z hz, Copy.toAcc, htraps z hz, ((s.dev.copy c).bronzeTraps_rangeCheck 72 sat v).2 hdue]
    rfl

end Bronze

end Sys2Proof.Machine

namespace Sys2Proof.Machine

open Sys2Proof

/-! The Bronze scalar, pair and accumulator instructions (R239), the accumulator's moves and ACCEXT (R241, R242). -/

theorem Copy.afterFetch.accInt {x z : Copy} (hz : x.afterFetch z) : z.accInt = x.acc.toInt :=
  congrArg BitVec.toInt hz.acc

theorem Copy.afterFetch.hh {x z : Copy} (hz : x.afterFetch z) (r q : BitVec 5) :
    z.hh r q = laneH (x.xr r) * laneH (x.xr q) := by
  rw [Copy.hh, hz.xr, hz.xr]

theorem Copy.afterFetch.ll {x z : Copy} (hz : x.afterFetch z) (r q : BitVec 5) :
    z.ll r q = laneL (x.xr r) * laneL (x.xr q) := by
  rw [Copy.ll, hz.xr, hz.xr]

theorem Copy.afterFetch.hl {x z : Copy} (hz : x.afterFetch z) (r q : BitVec 5) :
    z.hl r q = laneH (x.xr r) * laneL (x.xr q) := by
  rw [Copy.hl, hz.xr, hz.xr]

theorem Copy.afterFetch.lh {x z : Copy} (hz : x.afterFetch z) (r q : BitVec 5) :
    z.lh r q = laneL (x.xr r) * laneH (x.xr q) := by
  rw [Copy.lh, hz.xr, hz.xr]

theorem abs_wordInt_le (w : Word) : |wordInt w| ≤ 2 ^ 31 := by
  obtain ⟨hlow, hhigh⟩ := sext_mem (w := 32) (by decide) w.toNat
  exact abs_le.2 ⟨hlow, hhigh.trans (by decide)⟩

/-- A product of two words fits ACC. -/
theorem rangeCheck_acc_mul (a b : Word) (sat : Bool) :
    rangeCheck 72 sat (wordInt a * wordInt b) = ⟨wordInt a * wordInt b, 0⟩ := by
  have hbound : |wordInt a * wordInt b| ≤ 2 ^ 31 * 2 ^ 31 := by
    rw [abs_mul]
    exact mul_le_mul (abs_wordInt_le a) (abs_wordInt_le b) (abs_nonneg _) (by decide)
  obtain ⟨hlow, hhigh⟩ := abs_le.1 hbound
  exact rangeCheck_of_mem (by omega) (by omega) sat

section Moves

variable {i : Instr} {s : State} {c : CopyId} {iw : Word}

/-- MUL0 cannot overflow, so it sets no flag. -/
theorem retiresAs_mul0 (h : (s.dev.copy c).fetched 4) (hon : (s.dev.copy c).bmode = 1 ∨ (s.dev.copy c).bmode = 2)
    (rs2 rs1 : BitVec 5) : RetiresAs (.mul0 c rs2 rs1) s c 4 { s.dev.copy c with
      acc := BitVec.ofInt 72 (wordInt ((s.dev.copy c).xr rs1) * wordInt ((s.dev.copy c).xr rs2)) } := by
  obtain ⟨hcompletes, -⟩ : BronzeAcc (.mul0 c rs2 rs1) s c _ false _ :=
    .of_bronze h rfl (fun z hz => by rw [hz.qa, hz.qa])
  simp only [rangeCheck_acc_mul] at hcompletes
  have hflags : (s.dev.copy c).bstat ||| toWord 0 = (s.dev.copy c).bstat := BitVec.or_zero
  rw [hflags] at hcompletes
  exact hcompletes (hon.imp_right (fun hmode => ⟨hmode, trivial⟩))

/-- A Bronze instruction that moves a value to `rd`. -/
theorem WritesRd.of_bronze {rd : BitVec 5} {v : Word} {val : Copy → Word} (h : (s.dev.copy c).fetched 4)
    (hon : (s.dev.copy c).bronzeOn = true)
    (hexec : exec i s = s.run (Dev.bronze c iw (fun e y => (y.setX rd (val y)).next e 4)))
    (hval : ∀ z, (s.dev.copy c).afterFetch z → val z = v) : WritesRd i s c rd v ((s.dev.copy c).pc + 4) :=
  CopyStep.of_bronze_next (a := (s.dev.copy c).acc) (b := (s.dev.copy c).bstat) h hon hexec (fun z hz => by
    rw [hval z hz, ← hz.acc, ← hz.bstat])

/-- A Bronze instruction that moves a value to ACC. -/
theorem RetiresAs.of_bronze {a : BitVec 72} {val : Copy → BitVec 72} (h : (s.dev.copy c).fetched 4)
    (hon : (s.dev.copy c).bronzeOn = true)
    (hexec : exec i s = s.run (Dev.bronze c iw (fun e y => Copy.next { y with acc := val y } e 4)))
    (hval : ∀ z, (s.dev.copy c).afterFetch z → val z = a) : RetiresAs i s c 4 { s.dev.copy c with acc := a } :=
  CopyStep.of_bronze_next (rd := 0) (v := 0) (b := (s.dev.copy c).bstat) h hon hexec (fun z hz => by
    rw [hval z hz, ← hz.bstat, Copy.setX_zero])

end Moves

section Accext

variable {s : State} {c : CopyId} {imm : BitVec 12} {m : Nat}

/-- The checked value of ACCEXT in rounding mode `m` (R241). -/
def Copy.extracted (x : Copy) (imm : BitVec 12) (m : Nat) : Flagged :=
  rangeCheck (if imm.getLsbD 10 then 16 else 32) (imm.getLsbD 6) (roundMode m x.acc.toInt (imm.extractLsb' 0 6).toNat)

theorem Copy.afterFetch.extract {x z : Copy} (hz : x.afterFetch z) (imm : BitVec 12) (m : Nat) :
    z.extract imm m = (intWord (x.extracted imm m).val, (x.extracted imm m).flags) := by
  have hshift : (imm.extractLsb' 0 6).toNat = imm.toNat % 64 := by simp [BitVec.extractLsb'_toNat]
  rw [Copy.extract, Copy.extracted, hz.accInt, hshift]

theorem Copy.afterFetch.rmMode {x z : Copy} (hz : x.afterFetch z) {rm m : Nat}
    (hm : Machine.rmMode rm x.bstat = some m) : Machine.rmMode rm z.bstat = some m :=
  (congrArg (Machine.rmMode rm) hz.bstat).trans hm

/-- A result for rd that may clear ACC, where it does not trap. -/
theorem Copy.toRd_clearing_of_passes {x : Copy} {flags : Nat} (ht : x.bronzeTraps flags = false) (e : Env) (iw : Word)
    (rd : BitVec 5) (v : Word) (clear : Bool) :
    (if x.bronzeTraps flags || !clear then x.toRd e iw rd (v, flags)
      else Copy.toRd { x with acc := 0 } e iw rd (v, flags)) =
      (({ x with
        acc := if clear then 0 else x.acc
        bstat := x.bstat ||| toWord (flags % 8) } : Copy).setX rd v).next e 4 := by
  cases clear with
  | false =>
    rw [ht]
    exact Copy.toRd_of_passes ht e iw rd v
  | true =>
    rw [ht]
    exact Copy.toRd_of_passes (x := { x with acc := 0 }) ht e iw rd v

theorem accext_completes (h : (s.dev.copy c).fetched 4) (rd : BitVec 5)
    (hm : rmMode (imm.extractLsb' 7 3).toNat (s.dev.copy c).bstat = some m)
    (hpasses : (s.dev.copy c).bmode = 1 ∨
      ((s.dev.copy c).bmode = 2 ∧ ((s.dev.copy c).extracted imm m).flags % 2 = 0)) :
    CopyStep (.accext c imm rd) s c (fun y =>
      (s.dev.copy c).wrote y rd (intWord ((s.dev.copy c).extracted imm m).val) ∧
      (s.dev.copy c).retired y ((s.dev.copy c).pc + 4) ∧
      y.masked = ({ s.dev.copy c with
        acc := if imm.getLsbD 11 then 0 else (s.dev.copy c).acc
        bstat := (s.dev.copy c).bstat ||| toWord ((s.dev.copy c).extracted imm m).flags } : Copy).masked) := by
  have hon : (s.dev.copy c).bronzeOn = true := (Copy.bronzeOn_iff _).2 (hpasses.imp_right And.left)
  refine CopyStep.of_bronze_next h hon rfl (fun z hz => ?_)
  have hnot : z.bronzeTraps ((s.dev.copy c).extracted imm m).flags = false :=
    (hz.bronzeTraps _).trans (Copy.bronzeTraps_rangeCheck_passes hpasses)
  simp only [hz.rmMode hm, hz.extract]
  rw [Copy.toRd_clearing_of_passes hnot, hz.acc, hz.bstat, Copy.extracted, rangeCheck_flags_mod_eight]

theorem accext_traps (h : (s.dev.copy c).fetched 4) (rd : BitVec 5)
    (hm : rmMode (imm.extractLsb' 7 3).toNat (s.dev.copy c).bstat = some m) (hmode : (s.dev.copy c).bmode = 2)
    (hovf : ((s.dev.copy c).extracted imm m).flags % 2 = 1) :
    TrapsWith (.accext c imm rd) s c 8 (encB2 0 imm.toNat 0 rd) (BitVec.ofNat 64
      ((intWord ((s.dev.copy c).extracted imm m).val).toNat + ((s.dev.copy c).extracted imm m).flags * 2 ^ 32)) := by
  have hon : (s.dev.copy c).bronzeOn = true := (Copy.bronzeOn_iff _).2 (.inr hmode)
  refine TrapsWith.of_bronze_raise h hon rfl (by decide) (fun z hz => ?_)
  have hdue : z.bronzeTraps ((s.dev.copy c).extracted imm m).flags = true :=
    (hz.bronzeTraps _).trans ((Copy.bronzeTraps_rangeCheck _ _ _ _).2 ⟨hmode, hovf⟩)
  simp only [hz.rmMode hm, hz.extract, hdue, Bool.true_or, if_true]
  exact Copy.toRd_of_traps hdue _ _ _ _

end Accext

/-- Settles O15, instruction by instruction: each one's body is a result for rd or for ACC, which the range check completes
or traps, or a move. -/
theorem bronzeArithmetic : Obligations.BronzeArithmetic := by
  refine ⟨fun s c sat rs2 rs1 rd h => ⟨?_, ?_, ?_, ?_, ?_, fun rm m hm => ⟨?_, ?_, ?_, ?_⟩⟩,
    fun s c sat rs2 rs1 h => ⟨?_, ?_, fun hmode => retiresAs_mul0 h hmode rs2 rs1, ?_, ?_, ?_, ?_⟩,
    fun s c r h => ⟨fun hmode => ?_, fun imm m hm => ⟨accext_completes h r hm, accext_traps h r hm⟩⟩⟩
  · exact .of_bronze h rfl (fun z hz => by rw [hz.qa, hz.qa])
  · exact .of_bronze h rfl (fun z hz => by rw [hz.qa, hz.qa])
  · exact .of_bronze h rfl (fun z hz => by rw [hz.qa, hz.xr])
  · exact .of_bronze h rfl (fun z hz => by rw [hz.xr, hz.xr])
  · exact .of_bronze h rfl (fun z hz => by rw [hz.xr, hz.xr])
  · exact .of_bronzeRm h hm rfl (fun z hz => by rw [hz.qa, hz.qa])
  · exact .of_bronzeRm h hm rfl (fun z hz => by rw [hz.qa, hz.xr])
  · exact .of_bronzeRm h hm rfl (fun z hz => by rw [hz.qa, hz.qa])
  · exact .of_bronzeRm h hm rfl (fun z hz => by rw [hz.xr, hz.xr])
  · exact .of_bronze h rfl (fun z hz => by rw [hz.accInt, hz.qa, hz.qa])
  · exact .of_bronze h rfl (fun z hz => by rw [hz.accInt, hz.qa, hz.qa])
  · exact .of_bronze h rfl (fun z hz => by rw [hz.accInt, hz.hh, hz.ll])
  · exact .of_bronze h rfl (fun z hz => by rw [hz.accInt, hz.hh, hz.ll])
  · exact .of_bronze h rfl (fun z hz => by rw [hz.accInt, hz.hl, hz.lh])
  · exact .of_bronze h rfl (fun z hz => by rw [hz.accInt, hz.hl, hz.lh])
  · have hon := (Copy.bronzeOn_iff _).2 hmode
    exact ⟨.of_bronze h hon rfl (fun z hz => by rw [hz.acc]), .of_bronze h hon rfl (fun z hz => by rw [hz.acc]),
      .of_bronze h hon rfl (fun z hz => by rw [hz.acc]), .of_bronze h hon rfl (fun z hz => by rw [hz.acc, hz.xr]),
      .of_bronze h hon rfl (fun z hz => by rw [hz.acc, hz.xr]), .of_bronze h hon rfl (fun z hz => by rw [hz.acc, hz.xr]),
      .of_bronze h hon rfl (fun _ _ => rfl), .of_bronze h hon rfl (fun z hz => by rw [hz.qa])⟩

end Sys2Proof.Machine

namespace Sys2Proof.Machine

open Sys2Proof

/-! The Bronze functions (R243 to R249). -/

theorem sqrtQ_of_neg {a : Word} (h : wordInt a < 0) : sqrtQ a = (0, 4) := if_pos h

theorem recipQ_zero (k : Nat) : recipQ 0 k = (0x7FFFFFFF, 4) := rfl

theorem recipQ_of_pos {a : Word} (h : 0 < wordInt a) (k : Nat) :
    recipQ a k = wordCheck true (rneDiv (2 ^ (62 - k)) (wordInt a).toNat) := by
  simp only [recipQ, if_neg h.ne', if_pos h]

theorem recipQ_of_neg {a : Word} (h : wordInt a < 0) (k : Nat) :
    recipQ a k = wordCheck true (-(rneDiv (2 ^ (62 - k)) (-wordInt a).toNat)) := by
  simp only [recipQ, if_neg h.ne, if_neg h.not_gt]

section Functions

variable {s : State} {c : CopyId}

/-- SQRT writes the value of its reference algorithm, whatever its operand. -/
theorem bronzeRd_sqrt (h : (s.dev.copy c).fetched 4) (rs1 rd : BitVec 5) :
    BronzeRd (.sqrt c rs1 rd) s c (encFunc 3 0 rs1 rd) rd (sqrtQ ((s.dev.copy c).xr rs1)) :=
  .of_bronze h rfl (fun z hz => by rw [hz.xr])

theorem bronzeRd_recip (h : (s.dev.copy c).fetched 4) (rs2 rs1 rd : BitVec 5) :
    BronzeRd (.recip c rs2 rs1 rd) s c (encFunc 4 rs2 rs1 rd) rd
      (recipQ ((s.dev.copy c).xr rs1) (((s.dev.copy c).xr rs2).toNat % 32)) :=
  .of_bronze h rfl (fun z hz => by rw [hz.xr, hz.xr])

end Functions

/-- Settles O16: each function's body is the result of its reference algorithm for rd. -/
theorem bronzeFunctions : Obligations.BronzeFunctions := by
  intro s c rs2 rs1 rd h
  refine ⟨.of_bronze h rfl (fun z hz => by rw [hz.xr]), .of_bronze h rfl (fun z hz => by rw [hz.xr]),
    .of_bronze h rfl (fun z hz => by rw [hz.xr, hz.xr, hz.qa, hz.qa]), fun hneg => ?_, fun _ => bronzeRd_sqrt h rs1 rd,
    fun hzero => ?_, fun hpos => ?_, fun hneg => ?_, .of_bronze h rfl (fun z hz => by rw [hz.xr])⟩
  · rw [← sqrtQ_of_neg hneg]
    exact bronzeRd_sqrt h rs1 rd
  · rw [← recipQ_zero, ← hzero]
    exact bronzeRd_recip h rs2 rs1 rd
  · rw [← recipQ_of_pos hpos]
    exact bronzeRd_recip h rs2 rs1 rd
  · rw [← recipQ_of_neg hneg]
    exact bronzeRd_recip h rs2 rs1 rd

end Sys2Proof.Machine

namespace Sys2Proof.Machine

open Sys2Proof

/-! The stored code (R251, R252): it is linear over XOR, each data bit moves it by a value of weight 3 and each bit of the
word address by one of weight 4. So a syndrome of even weight that is not 0 is the mark of an error that no single bit
explains. -/

/-! The selection of table values. -/

theorem xorSel_xor (ts : List Nat) (m n : Nat) : xorSel ts (m ^^^ n) = xorSel ts m ^^^ xorSel ts n := by
  induction ts generalizing m n with
  | nil => exact (Nat.xor_self 0).symm
  | cons t ts ih =>
    have hbit : (m ^^^ n) % 2 = (m + n) % 2 := Nat.xor_mod_two_eq
    simp only [xorSel, hbit, Nat.xor_div_two, ih]
    rcases Nat.mod_two_eq_zero_or_one m with hm | hm <;> rcases Nat.mod_two_eq_zero_or_one n with hn | hn <;>
      simp [Nat.add_mod, hm, hn, Nat.xor_assoc, Nat.xor_left_comm]

theorem xorSel_zero (ts : List Nat) : xorSel ts 0 = 0 := by
  induction ts with
  | nil => rfl
  | cons t ts ih => simpa [xorSel] using ih

theorem xorSel_two_pow (ts : List Nat) (i : Nat) : xorSel ts (2 ^ i) = listGet 0 ts i := by
  induction ts generalizing i with
  | nil => rfl
  | cons t ts ih =>
    cases i with
    | zero => simp [xorSel, xorSel_zero, listGet]
    | succ i => simp [xorSel, Nat.pow_succ, listGet, ih]

theorem toNat_one_shiftLeft (i : Fin 32) : (1#32 <<< i.val).toNat = 2 ^ i.val := by
  rw [← BitVec.twoPow_eq, BitVec.toNat_twoPow]
  exact Nat.mod_eq_of_lt (Nat.pow_lt_pow_right (by decide) i.isLt)

/-- DC(i): by what data bit `i` moves the code (R251). -/
def dataColumn (i : Nat) : BitVec 7 := BitVec.ofNat 7 (listGet 0 dcTable i)

/-- AC(k): by what address bit `k` moves the code (R251). -/
def addrColumn (k : Nat) : BitVec 7 := BitVec.ofNat 7 (listGet 0 (acTable.take 30) (k - 2))

theorem ecc_flip_data (w a : Word) (i : Fin 32) : ecc (w ^^^ 1#32 <<< i.val) a = ecc w a ^^^ dataColumn i := by
  rw [ecc, BitVec.toNat_xor, toNat_one_shiftLeft, xorSel_xor, xorSel_two_pow, Nat.xor_right_comm, BitVec.ofNat_xor]
  rfl

theorem toNat_flip_addr_div (a : Word) (k : Fin 32) :
    (a ^^^ 1#32 <<< k.val).toNat / 4 = a.toNat / 4 ^^^ 2 ^ k.val / 4 := by
  rw [BitVec.toNat_xor, toNat_one_shiftLeft]
  exact Nat.xor_div_two_pow (n := 2)

theorem ecc_flip_addr (w a : Word) {k : Fin 32} (hk : 2 ≤ k.val) :
    ecc w (a ^^^ 1#32 <<< k.val) = ecc w a ^^^ addrColumn k := by
  have hword : 2 ^ k.val / 4 = 2 ^ (k.val - 2) := Nat.pow_div hk (by decide)
  rw [ecc, toNat_flip_addr_div, hword, xorSel_xor, xorSel_two_pow, ← Nat.xor_assoc, BitVec.ofNat_xor]
  rfl

/-- The code is that of the word's address: the two lowest bits of an address do not enter it. -/
theorem ecc_flip_byte_addr (w a : Word) {k : Fin 32} (hk : k.val < 2) : ecc w (a ^^^ 1#32 <<< k.val) = ecc w a := by
  have hbyte : 2 ^ k.val / 4 = 0 := Nat.div_eq_of_lt (Nat.pow_lt_pow_right (m := k.val) (n := 2) (by decide) hk)
  rw [ecc, toNat_flip_addr_div, hbyte, Nat.xor_zero]
  rfl

/-! The weights of the tables' values. -/

theorem mem_dcTable {n : Nat} : n ∈ dcTable ↔ n < 128 ∧ weight7 n = 3 := by simp [dcTable]

theorem mem_acTable {n : Nat} : n ∈ acTable ↔ n < 128 ∧ weight7 n = 4 := by simp [acTable]

theorem dcTable_nodup : dcTable.Nodup := List.nodup_range.filter _

theorem dcTable_length : dcTable.length = 35 := by decide +kernel

theorem acTable_take_length : (acTable.take 30).length = 30 := by decide +kernel

theorem weight7_eq_sum (n : Nat) : weight7 n = ∑ j ∈ Finset.range 7, n / 2 ^ j % 2 := by
  simp [weight7, Finset.sum_range_succ]

theorem weight7_xor_mod_two (m n : Nat) : weight7 (m ^^^ n) % 2 = (weight7 m + weight7 n) % 2 := by
  have hdigit (j : Nat) : (m ^^^ n) / 2 ^ j % 2 % 2 = (m / 2 ^ j % 2 + n / 2 ^ j % 2) % 2 := by
    rw [Nat.xor_div_two_pow, Nat.xor_mod_two_eq, Nat.mod_mod, Nat.add_mod]
  simp only [weight7_eq_sum]
  rw [← Finset.sum_add_distrib, Finset.sum_nat_mod, Finset.sum_nat_mod (Finset.range 7) 2 fun j => m / 2 ^ j % 2 + _]
  simp only [hdigit]

theorem listGet_mem {α : Type} (x : α) {xs : List α} {i : Nat} (hi : i < xs.length) : listGet x xs i ∈ xs := by
  rw [listGet_eq_getElem x hi]
  exact List.getElem_mem hi

theorem toNat_dataColumn (i : Fin 32) : (dataColumn i).toNat = listGet 0 dcTable i := by
  have hmem : listGet 0 dcTable i ∈ dcTable := listGet_mem 0 (by rw [dcTable_length]; omega)
  exact Nat.mod_eq_of_lt (mem_dcTable.1 hmem).1

theorem weight7_dataColumn (i : Fin 32) : weight7 (dataColumn i).toNat = 3 := by
  rw [toNat_dataColumn]
  exact (mem_dcTable.1 (listGet_mem 0 (by rw [dcTable_length]; omega))).2

theorem weight7_addrColumn {k : Fin 32} (hk : 2 ≤ k.val) : weight7 (addrColumn k).toNat = 4 := by
  have hmem : listGet 0 (acTable.take 30) (k - 2) ∈ acTable :=
    List.mem_of_mem_take (listGet_mem 0 (by rw [acTable_take_length]; omega))
  obtain ⟨hlt, hweight⟩ := mem_acTable.1 hmem
  rwa [addrColumn, BitVec.toNat_ofNat, Nat.mod_eq_of_lt hlt]

theorem dataColumn_injective {i j : Fin 32} (h : dataColumn i = dataColumn j) : i = j := by
  have hi : i.val < dcTable.length := by rw [dcTable_length]; omega
  have hj : j.val < dcTable.length := by rw [dcTable_length]; omega
  have hvals := congrArg BitVec.toNat h
  rw [toNat_dataColumn, toNat_dataColumn, listGet_eq_getElem 0 hi, listGet_eq_getElem 0 hj,
    dcTable_nodup.getElem_inj_iff] at hvals
  exact Fin.ext hvals

/-! The place of a syndrome in the data bits' table. -/

theorem indexOf_eq_none {s : Nat} {ts : List Nat} (h : s ∉ ts) (n : Nat) : indexOf s ts n = none := by
  induction ts generalizing n with
  | nil => rfl
  | cons t ts ih =>
    obtain ⟨hne, hmem⟩ := not_or.1 (mt List.mem_cons.2 h)
    rw [indexOf, if_neg (Ne.symm hne), ih hmem]

theorem indexOf_getElem {ts : List Nat} (hts : ts.Nodup) {i : Nat} (hi : i < ts.length) (n : Nat) :
    indexOf ts[i] ts n = some (n + i) := by
  induction ts generalizing i n with
  | nil => exact absurd hi (Nat.not_lt_zero i)
  | cons t ts ih =>
    obtain ⟨ht, hts⟩ := List.nodup_cons.1 hts
    cases i with
    | zero => simp [indexOf]
    | succ i =>
      have hi : i < ts.length := Nat.lt_of_succ_lt_succ hi
      have hne : t ≠ ts[i] := fun h => ht (h ▸ List.getElem_mem hi)
      rw [List.getElem_cons_succ, indexOf, if_neg hne, ih hts hi, Nat.add_right_comm, Nat.add_assoc]

theorem indexOf_dataColumn (i : Fin 32) : indexOf (dataColumn i).toNat (dcTable.take 32) 0 = some i.val := by
  have hi : i.val < dcTable.length := by rw [dcTable_length]; omega
  have htake : i.val < (dcTable.take 32).length := by rw [List.length_take]; omega
  have hplace : (dcTable.take 32)[i.val] = (dataColumn i).toNat := by
    rw [List.getElem_take, toNat_dataColumn, listGet_eq_getElem 0 hi]
  simpa [hplace] using indexOf_getElem (dcTable_nodup.sublist (List.take_sublist 32 _)) htake 0

theorem indexOf_eq_none_of_ne_dataColumn {s : BitVec 7} (h : ∀ i : Fin 32, s ≠ dataColumn i) :
    indexOf s.toNat (dcTable.take 32) 0 = none := by
  refine indexOf_eq_none (fun hmem => ?_) 0
  obtain ⟨i, hi, hs⟩ := List.mem_iff_getElem.1 hmem
  obtain ⟨hbit, hlen⟩ := Nat.lt_min.1 (List.length_take ▸ hi)
  refine h ⟨i, hbit⟩ (BitVec.eq_of_toNat_eq ?_)
  rw [toNat_dataColumn, listGet_eq_getElem 0 hlen, ← hs, List.getElem_take]

theorem weight7_unit (j : Fin 7) : weight7 (1#7 <<< j.val).toNat = 1 := by decide +revert

theorem exists_unit_of_weight7_eq_one : ∀ s : BitVec 7, weight7 s.toNat = 1 → ∃ j : Fin 7, s = 1#7 <<< j.val := by decide

/-! The checker's decision by the syndrome (R252). -/

section Checker

variable {w a : Word} {c : BitVec 7}

theorem checkWord_of_zero (herased : ¬ (a.toNat < 0x400000 ∧ w = 0xFFFFFFFF ∧ c = 0x7F)) (h : c ^^^ ecc w a = 0) :
    checkWord w c a = .ok := by
  simp only [checkWord, if_neg herased, h]
  rfl

theorem checkWord_of_weight_one (herased : ¬ (a.toNat < 0x400000 ∧ w = 0xFFFFFFFF ∧ c = 0x7F))
    (h : weight7 (c ^^^ ecc w a).toNat = 1) : checkWord w c a = .corrected w := by
  have hne : (c ^^^ ecc w a).toNat ≠ 0 := fun h0 => by rw [h0] at h; exact absurd h (by decide)
  simp only [checkWord, if_neg herased, if_neg hne, if_pos h]

theorem checkWord_of_dataColumn (herased : ¬ (a.toNat < 0x400000 ∧ w = 0xFFFFFFFF ∧ c = 0x7F)) (i : Fin 32)
    (h : c ^^^ ecc w a = dataColumn i) : checkWord w c a = .corrected (w ^^^ 1#32 <<< i.val) := by
  have hweight := weight7_dataColumn i
  have hne : (dataColumn i).toNat ≠ 0 := fun h0 => by rw [h0] at hweight; exact absurd hweight (by decide)
  have hbit : BitVec.ofNat 32 (2 ^ i.val) = 1#32 <<< i.val := by
    rw [← toNat_one_shiftLeft, BitVec.ofNat_toNat, BitVec.setWidth_eq]
  simp only [checkWord, h, if_neg herased, if_neg hne, hweight, indexOf_dataColumn, hbit]
  rfl

theorem checkWord_of_no_column (hzero : c ^^^ ecc w a ≠ 0) (hunit : weight7 (c ^^^ ecc w a).toNat ≠ 1)
    (hdata : ∀ i : Fin 32, c ^^^ ecc w a ≠ dataColumn i) : checkWord w c a = .bad := by
  have hne : (c ^^^ ecc w a).toNat ≠ 0 := fun h0 => hzero (BitVec.eq_of_toNat_eq h0)
  simp only [checkWord, if_neg hne, if_neg hunit, indexOf_eq_none_of_ne_dataColumn hdata, ite_self]

theorem checkWord_of_even_weight (hzero : c ^^^ ecc w a ≠ 0) (heven : weight7 (c ^^^ ecc w a).toNat % 2 = 0) :
    checkWord w c a = .bad :=
  checkWord_of_no_column hzero (by omega) (fun i hi => by rw [hi, weight7_dataColumn] at heven; omega)

end Checker

theorem checkWord_one_data_bit (w a : Word) (i : Fin 32)
    (herased : ¬ (a.toNat < 0x400000 ∧ w ^^^ 1#32 <<< i.val = 0xFFFFFFFF ∧ ecc w a = 0x7F)) :
    checkWord (w ^^^ 1#32 <<< i.val) (ecc w a) a = .corrected w := by
  have hsyn : ecc w a ^^^ ecc (w ^^^ 1#32 <<< i.val) a = dataColumn i := by simp [ecc_flip_data]
  rw [checkWord_of_dataColumn herased i hsyn, BitVec.xor_assoc, BitVec.xor_self, BitVec.xor_zero]

theorem checkWord_two_data_bits (w a : Word) {i j : Fin 32} (hij : i ≠ j) :
    checkWord (w ^^^ 1#32 <<< i.val ^^^ 1#32 <<< j.val) (ecc w a) a = .bad := by
  have hsyn : ecc w a ^^^ ecc (w ^^^ 1#32 <<< i.val ^^^ 1#32 <<< j.val) a = dataColumn i ^^^ dataColumn j := by
    rw [ecc_flip_data, ecc_flip_data]
    simp [BitVec.xor_assoc]
  apply checkWord_of_even_weight <;> rw [hsyn]
  · exact fun h => hij (dataColumn_injective (BitVec.xor_eq_zero_iff.1 h))
  · rw [BitVec.toNat_xor, weight7_xor_mod_two, weight7_dataColumn, weight7_dataColumn]

theorem checkWord_one_addr_bit (w a : Word) {k : Fin 32} (hk : 2 ≤ k.val) :
    checkWord w (ecc w a) (a ^^^ 1#32 <<< k.val) = .bad := by
  have hsyn : ecc w a ^^^ ecc w (a ^^^ 1#32 <<< k.val) = addrColumn k := by simp [ecc_flip_addr w a hk]
  have hweight := weight7_addrColumn hk
  apply checkWord_of_even_weight <;> rw [hsyn]
  · exact fun h => by rw [h] at hweight; exact absurd hweight (by decide)
  · rw [hweight]

/-- Settles O4: the decision by the syndrome, and what each wrong bit makes of it. -/
theorem storedCode : Obligations.StoredCode := by
  intro w a c
  refine ⟨fun herased => ⟨checkWord_of_zero herased, fun j hj => ?_, checkWord_of_dataColumn herased,
      fun hzero hunit hdata => ?_⟩,
    checkWord_one_data_bit w a, fun _ _ => checkWord_two_data_bits w a, fun _ => checkWord_one_addr_bit w a,
    fun _ => ecc_flip_byte_addr w a⟩
  · exact checkWord_of_weight_one herased (by rw [hj]; exact weight7_unit j)
  · refine checkWord_of_no_column hzero (fun hone => ?_) hdata
    obtain ⟨j, hj⟩ := exists_unit_of_weight7_eq_one _ hone
    exact hunit j hj

end Sys2Proof.Machine

namespace Sys2Proof.Machine

open Sys2Proof

/-! Boot and upkeep past the end of TIME: the states stand in the last HCLK that TIME counts, and what they wait for is due
behind it. -/

/-- Refutes O36: a core-set restart in the last HCLK of TIME gives the copies power again 4 000 HCLK later (R435), at a TIME
that 64 bits do not hold; the model's TIME is 3 999 then. -/
theorem not_bootToRelease : ¬ Obligations.BootToRelease := by
  unfold Obligations.BootToRelease
  intro h
  let s : State := ⟨[], { lastDev with cs := .waiting, csDue := lastTime + 4000 }⟩
  have hwraps : Completes .copyPowerOn s (fun d => d.now = 3999) := ⟨_, rfl, by decide +kernel⟩
  obtain ⟨-, -, -, hpower, -⟩ := h.1 s
  exact hwraps.not_now (fun _ hd => hd.2.1) (by decide +kernel) (hpower rfl)

/-- Refutes O52: after a word of retention memory that is refreshed in the last HCLK of TIME, the next one is due 24 414 HCLK
later (R267), at a TIME that 64 bits do not hold; the model's TIME is 24 413 then. -/
theorem not_flashAndUpkeep : ¬ Obligations.FlashAndUpkeep := by
  unfold Obligations.FlashAndUpkeep
  intro h
  let s : State := ⟨[], { lastDev with refreshW := { lastDev.refreshW with next := 1, due := lastTime + 24414 } }⟩
  have hgood : s.dev.checkAt (0x30000000 + 4 * s.dev.refreshW.next) = .ok := by decide +kernel
  have hwraps : Completes .retentionRefresh s (fun d => d.now = 24413) := ⟨_, rfl, by decide +kernel⟩
  obtain ⟨-, -, -, hrefresh⟩ := h.2 s
  obtain ⟨hok, -⟩ := hrefresh rfl
  exact hwraps.not_now (fun _ hd => hd.1.2.2 rfl) (by decide +kernel) (hok hgood)

end Sys2Proof.Machine

namespace Sys2Proof.Machine

open Sys2Proof

/-! The crystal's start and safe-direction outputs past the end of TIME: what they wait for begins in the last HCLK that TIME
counts. -/

/-- A running hub whose crystal starts in that HCLK. -/
def lateCrystalDev : Dev := { lastDev with clk := { lastDev.clk with starting := true, startedAt := lastTime } }

/-- Refutes O37: a crystal that starts in the last HCLK of TIME is given up 4 000 000 HCLK later (R420), at a TIME that 64
bits do not hold; the model's TIME is 3 999 999 then. -/
theorem not_suppliesAndClocks : ¬ Obligations.SuppliesAndClocks := by
  unfold Obligations.SuppliesAndClocks
  intro h
  let s : State := ⟨[], lateCrystalDev⟩
  have hwraps : Completes .crystalTimeout s (fun d => d.now = 3999999) := ⟨_, rfl, by decide +kernel⟩
  obtain ⟨-, htimeout, -⟩ := h.2 s
  exact hwraps.not_now (fun _ hd => hd.1) (by decide +kernel) (htimeout rfl)

/-- A write of RELEASE.SAFE with its code, as copy A's core of world Iron and ring 0 sends it; it arrives in that HCLK. -/
def lateSafeArrival : Arrival :=
  let addr : Word := 0x40000000 + toWord Reg.release_SAFE
  { ty := .write, req := ⟨0, 0, 0, .iron, 0, 0, false, 0xF, addr, 1, 0, rcrcOf addr 1⟩, time := lastTime }

/-- Its compare entry, which no other copy has joined. -/
def lateSafeEntry : CmpEntry :=
  { csn := 0, first := lastTime, arr := (Tri.const none).set 0 (some lateSafeArrival), agreed := Tri.const none,
    stage := .opened, winner := 0, safeDone := false, relAt := 0, delayed := false, refusal := none, flits := [],
    answered := Tri.const false }

/-- Refutes O47: a safe-direction output that arrives in the last HCLK of TIME executes 2 HCLK later (R286), at a TIME that
64 bits do not hold; the model's TIME is 1 then. -/
theorem not_safeDirection : ¬ Obligations.SafeDirection := by
  unfold Obligations.SafeDirection
  intro h
  let s : State := ⟨[], { lastDev with cmp := [lateSafeEntry] }⟩
  have hfound : s.dev.findCmp 0 = some lateSafeEntry := by decide +kernel
  have hkey : lateSafeArrival.safeKey = some Reg.release_SAFE := by decide +kernel
  have hfirst : s.dev.firstSafe lateSafeEntry = some 0 := by decide +kernel
  have hwraps : Completes (.releaseSafeEnter 0 0) s (fun d => d.now = 1) := ⟨_, rfl, by decide +kernel⟩
  obtain ⟨hexecutes, -⟩ := h s 0 0 (.releaseSafeEnter 0 0) Reg.release_SAFE (by simp)
  exact hwraps.not_now (fun _ hd => hd.1) (by decide +kernel)
    (hexecutes lateSafeEntry lateSafeArrival hfound rfl rfl hkey hfirst)

end Sys2Proof.Machine

namespace Sys2Proof.Machine

open Sys2Proof

/-! A fault of the release gate while the hub leaves Doze (R390, R394, R457). -/

/-- A hub in Doze with three copies in service and no output held. -/
def dozingDev : Dev :=
  (({ Dev.reset with phase := .dozing }.setReg Reg.sys_SVCLVL 0x700).setReg Reg.pwr_STAT 6).setReg Reg.release_LATCH 0

/-- That hub once the WAKE pin has ended Doze and HCLK runs again (R394): the PLLs of its copies lock. -/
def dozeExitDev : Dev := (dozingDev.dozeWake .pin).dozeRestore 0

/-- Refutes O60: in a Doze exit the copy set counts as running because INSVC still names its copies (R390), so the statement
asks for a core-set restart when the channels of the release gate differ; but reaction S of that fault first writes INSVC 0,
which leaves no copy that counts, and the model begins no restart: the copies go on locking. -/
theorem not_supervision : ¬ Obligations.Supervision := by
  unfold Obligations.Supervision
  intro h
  let s : State := ⟨[], dozeExitDev⟩
  have hrunning : s.dev.csRunning = true := by decide +kernel
  have hnoPlan : s.dev.planExec = false := by decide +kernel
  have hmayRestart : s.dev.rfld Reg.release_RSTCNT 3 0 < s.dev.rfld Reg.release_RSTCFG 3 0 := by decide +kernel
  have hlocks : Completes (.hubCrosscheckFault .releaseGate) s (fun d => d.cs = .locking) := ⟨_, rfl, by decide +kernel⟩
  obtain ⟨-, -, -, -, hcross⟩ := h s .hub 0 .releaseGate
  obtain ⟨hgate, -⟩ := hcross (by decide +kernel)
  obtain ⟨d, hlocking, -, -, -, hrestart⟩ := hlocks.agree (hgate rfl)
  obtain ⟨hwaiting, -⟩ := hrestart hrunning hnoPlan hmayRestart
  exact absurd (hlocking.symm.trans hwaiting) (by decide)

end Sys2Proof.Machine

namespace Sys2Proof.Machine

open Sys2Proof

/-! One step, and the state right after reset. -/

/-- The meaning of every command is a run: it changes the device and leaves the queue. -/
theorem exec_completes (i : Instr) (s : State) : ∃ d, exec i s = .next { s with dev := d } := by
  cases i <;> exact ⟨_, rfl⟩

/-- With no report waiting, none is judged. -/
theorem Dev.reportsClose_of_none {d : Dev} (hnone : d.agr.reports = []) : d.reportsClose = d := by
  simp only [Dev.reportsClose, Dev.updAgr, hnone, List.filter_nil, Dev.each]
  rw [← hnone]

theorem Dev.idle_of_running {d : Dev} (hruns : d.clockRuns = true) (hnone : d.agr.reports = []) :
    d.idle = { d with time := d.time + 1 } := by
  rw [Dev.idle, if_pos hruns]
  exact Dev.reportsClose_of_none hnone

/-- Settles O1: the step's own equations, and what an HCLK does on an empty queue. -/
theorem stepRunsFront : Obligations.StepRunsFront := by
  unfold Obligations.StepRunsFront
  refine ⟨fun _ _ => rfl, exec_completes, fun s hempty hstopped => ?_, fun s hempty hruns hnone => ?_⟩
  · have hidle : s.dev.idle = s.dev := if_neg (by simp [hstopped])
    simp only [step, hempty, hidle]
    rw [← hempty]
  · simp [step, hempty, Dev.idle_of_running hruns hnone]

/-- Settles O2: the device after reset is the one whose registers all read as their tables say. -/
theorem resetState : Obligations.ResetState := by
  unfold Obligations.ResetState
  refine ⟨⟨rfl, rfl, rfl, rfl, by decide, by decide, by decide⟩, ⟨⟨rfl, fun _ _ => rfl, rfl⟩, by decide⟩, by decide⟩

end Sys2Proof.Machine

namespace Sys2Proof.Machine

open Sys2Proof

/-! A device without power (R389): every sequencer, link, copy and output is as at reset, and the registers that a loss of power
does not keep read their reset values. Each command but POWER_ON and RETENTION_SUPPLY_LOSS finds its gate closed there. -/

/-- The device that is at rest with what `d` keeps without power (R390). -/
def Dev.atRest (d : Dev) : Dev :=
  { Dev.reset with
    regs := d.regs, shadow := d.shadow, mem := d.mem, codes := d.codes, freeCtr := d.freeCtr, frnum := d.frnum,
    jdup := d.jdup, flopp := d.flopp, floppDst := d.floppDst, refreshW := d.refreshW, phaseDue := d.phaseDue, jtag := d.jtag,
    ledger := { Dev.ledgerReset with resid := d.ledger.resid },
    boot := { Dev.reset.boot with resetSrc := d.boot.resetSrc } }

/-- The registers that a loss of power does not keep read their reset values. -/
def Dev.regsLost (d : Dev) : Prop := ∀ k, k ∉ retainedKeys → d.reg k = regReset k

theorem Dev.unpowered_iff (d : Dev) : d.unpowered ↔ d.regsLost ∧ d = d.atRest := by
  refine ⟨fun h => h.2, fun h => ⟨?_, h⟩⟩
  rw [h.2]; rfl

theorem Tri.get_const {α : Type} (x : α) (i : Fin 3) : (Tri.const x).get i = x := by
  match i with
  | 0 => rfl
  | 1 => rfl
  | 2 => rfl

theorem Tri.upd_const {α : Type} {x : α} {f : α → α} (hf : f x = x) (i : Fin 3) : (Tri.const x).upd i f = Tri.const x := by
  unfold Tri.upd
  rw [Tri.get_const, hf]
  match i with
  | 0 => rfl
  | 1 => rfl
  | 2 => rfl

theorem Quad.get_const {α : Type} (x : α) (i : Fin 4) : (Quad.const x).get i = x := by
  match i with
  | 0 => rfl
  | 1 => rfl
  | 2 => rfl
  | 3 => rfl

theorem Duo.get_const {α : Type} (x : α) (i : Fin 2) : (Duo.const x).get i = x := by
  match i with
  | 0 => rfl
  | 1 => rfl

theorem part_PSTAT_reset : ∀ e : Fin 128,
    Reg.part_PSTAT e.val ∉ retainedKeys ∧ fld (regReset (Reg.part_PSTAT e.val)) 1 0 = 0 := by decide +kernel

section AtRest

variable {d : Dev}

theorem Dev.copy_atRest (c : CopyId) : d.atRest.copy c = Dev.copyReset := Tri.get_const _ c
theorem Dev.link_atRest (c : CopyId) : d.atRest.link c = Dev.linkReset := Tri.get_const _ c
theorem Dev.drive_atRest (n : DrvId) : d.atRest.drive n = Dev.driveReset := Tri.get_const _ n
theorem Dev.fanCh_atRest (i : FanId) : d.atRest.fanCh i = Dev.fanReset := Quad.get_const _ i
theorem Dev.canCh_atRest (n : CanId) : d.atRest.canCh n = Dev.canReset := Duo.get_const _ n

theorem Dev.gpoCh_atRest (i : GpoId) : d.atRest.gpoCh i.val = ⟨false, 0, none, true, false⟩ := by
  exact (by decide : ∀ i : GpoId, listGet ⟨false, 0, none, true, false⟩ Dev.reset.gpo i.val = ⟨false, 0, none, true, false⟩) i

theorem Dev.nextApply_atRest (page : Nat) : d.atRest.nextApply page = none := by
  unfold Dev.nextApply
  split <;> rfl

theorem Dev.slotCls_atRest (n : CanId) (k : Nat) : d.atRest.slotCls n k = 0 := by
  rw [Dev.slotCls, Dev.slotStg, Dev.canCh_atRest]
  exact (by decide : fld (0 : Word) 7 6 = 0)

theorem Dev.slotDeadline_atRest (n : CanId) (k : Nat) : d.atRest.slotDeadline n k = none := by
  rw [Dev.slotDeadline, Dev.slotCls_atRest]; rfl

theorem Dev.updCopy_atRest {f : Copy → Copy} (hf : f Dev.copyReset = Dev.copyReset) (c : CopyId) :
    d.atRest.updCopy c f = d.atRest :=
  congrArg (fun t => { d.atRest with copies := t }) (Tri.upd_const hf c)

theorem State.run_fixed {s : State} {f : Dev → Dev} (hf : f s.dev = s.dev) : s.run f = .next s := by
  rw [State.run, hf]

theorem run_core_atRest {p : List Instr} {c : CopyId} {f : Env → Copy → Copy}
    (hf : ∀ e, f e Dev.copyReset = Dev.copyReset) :
    State.run ⟨p, d.atRest⟩ (Dev.core c f) = .next ⟨p, d.atRest⟩ :=
  State.run_fixed (Dev.updCopy_atRest (hf _) c)

theorem run_core_dueIf_atRest {p : List Instr} {c : CopyId} {b : Bool} {f : Env → Copy → Copy}
    (hf : ∀ e, f e Dev.copyReset = Dev.copyReset) :
    State.run ⟨p, d.atRest⟩ (dueIf b (Dev.core c f)) = .next ⟨p, d.atRest⟩ := by
  cases b
  · rfl
  · exact run_core_atRest hf

/-- A Bronze instruction does not execute in a copy that does not run. -/
theorem run_bronze_atRest {p : List Instr} {c : CopyId} {iw : Word} {body : Env → Copy → Copy} :
    State.run ⟨p, d.atRest⟩ (Dev.bronze c iw body) = .next ⟨p, d.atRest⟩ := run_core_atRest (fun _ => rfl)

theorem run_bronzeRm_atRest {p : List Instr} {c : CopyId} {iw : Word} {rm : BitVec 3} {body : Nat → Env → Copy → Copy} :
    State.run ⟨p, d.atRest⟩ (Dev.bronzeRm c iw rm body) = .next ⟨p, d.atRest⟩ := run_bronze_atRest

theorem Dev.copyGrant_atRest (c : CopyId) (h : Hdr) (g : Half) : d.atRest.copyGrant c h g = d.atRest := by
  rw [Dev.copyGrant, Dev.copy_atRest]; rfl

theorem run_copyRx_atRest {p : List Instr} {c : CopyId} {h : Hdr} {k : Dev → Dev} :
    State.run ⟨p, d.atRest⟩ (Dev.copyRx c h k) = .next ⟨p, d.atRest⟩ := by
  refine State.run_fixed ?_
  unfold Dev.copyRx
  rw [Dev.copy_atRest]
  rfl

/-- A command whose gate is closed changes nothing (assumption 2). -/
theorem run_dueIf_closed {s : State} {gate : Dev → Bool} {f : Dev → Dev → Dev} (hgate : gate s.dev = false) :
    s.run (fun d => dueIf (gate d) (f d) d) = .next s :=
  State.run_fixed (by rw [dueIf, hgate]; rfl)


variable (hregs : d.regsLost)
include hregs

theorem Dev.reg_atRest {k : Nat} (hk : k ∉ retainedKeys) : d.atRest.reg k = regReset k := hregs k hk

theorem Dev.rfld_atRest {k : Nat} (hk : k ∉ retainedKeys) (hi lo : Nat) : d.atRest.rfld k hi lo = fld (regReset k) hi lo := by
  rw [Dev.rfld, Dev.reg_atRest hregs hk]

theorem Dev.rbit_atRest {k : Nat} (hk : k ∉ retainedKeys) (i : Nat) : d.atRest.rbit k i = bitOf (regReset k) i := by
  rw [Dev.rbit, Dev.reg_atRest hregs hk]

theorem Dev.lstate_atRest (c : CopyId) : d.atRest.lstate c = 0 := by
  refine (Dev.rfld_atRest hregs ?_ 31 28).trans ?_ <;> revert c <;> decide

theorem Dev.canSt_atRest (n : CanId) : d.atRest.canSt n = 0 := by
  refine (Dev.rfld_atRest hregs ?_ 2 0).trans ?_ <;> revert n <;> decide

theorem Dev.fanSt_atRest (i : FanId) : d.atRest.fanSt i = 0 := by
  refine (Dev.rfld_atRest hregs ?_ _ _).trans ?_ <;> revert i <;> decide

theorem Dev.inSvc_atRest (c : CopyId) : d.atRest.inSvc c = false := by
  refine (Dev.rbit_atRest hregs (by decide) _).trans ?_
  revert c; decide

theorem Dev.nSvc_atRest : d.atRest.nSvc = 0 := by
  simp [Dev.nSvc, Dev.svcCopies, Dev.inSvc_atRest hregs]

theorem Dev.inAlign_atRest (c : CopyId) : d.atRest.inAlign c = false := by
  rw [Dev.inAlign, Dev.lstate_atRest hregs]; rfl

theorem Dev.inConfig_atRest (c : CopyId) : d.atRest.inConfig c = false := by
  rw [Dev.inConfig, Dev.lstate_atRest hregs]; rfl

theorem Dev.calTime_atRest (c : CopyId) : d.atRest.calTime c = false := by
  rw [Dev.calTime, Dev.lstate_atRest hregs]; rfl

theorem Dev.planExec_atRest : d.atRest.planExec = false := (Dev.rbit_atRest hregs (by decide) _).trans (by decide)

theorem Dev.puffActive_atRest : d.atRest.puffActive = false := (Dev.rbit_atRest hregs (by decide) _).trans (by decide)

theorem Dev.canContends_atRest (n : CanId) : d.atRest.canContends n = false := by
  rw [Dev.canContends, Dev.canSt_atRest hregs]; rfl

theorem Dev.canHears_atRest (n : CanId) : d.atRest.canHears n = false := by
  rw [Dev.canHears, Dev.canSt_atRest hregs]; rfl

theorem run_hubRx_atRest {p : List Instr} {c : CopyId} {h : Hdr} {k : Dev → Dev} :
    State.run ⟨p, d.atRest⟩ (Dev.hubRx c h k) = .next ⟨p, d.atRest⟩ := by
  refine State.run_fixed ?_
  unfold Dev.hubRx
  rw [Dev.lstate_atRest hregs]
  rfl

theorem exec_atRest (p : List Instr) : ∀ i : Instr, i ≠ .powerOn → i ≠ .retentionSupplyLoss → i ≠ .deliveryOpen →
    exec i ⟨p, d.atRest⟩ = .next ⟨p, d.atRest⟩ := by
  intro i hpower hretn hopen
  cases i
  case powerOn => exact absurd rfl hpower
  case retentionSupplyLoss => exact absurd rfl hretn
  case deliveryOpen => exact absurd rfl hopen
  all_goals rw [exec]
  -- What travels on a link whose ends are off.
  case read | write | fetch | sample | dinrec | retrepPeriodic | retrepAccept | retrepOverrun | lstatFrameReport
    | lstatEventReport | dbgrsp => exact run_hubRx_atRest hregs
  case agreed | drpPropose | drpReplace | drpConfirm | cfgbc | corerel | linkcfg | rddata | wrack | line0 | line1 | dbgcmd =>
    exact run_copyRx_atRest
  case trainingStateTimer | resume | resyncStateTimer => exact run_dueIf_closed (by simp [Dev.lstate_atRest hregs])
  case train => exact run_dueIf_closed (Dev.inAlign_atRest hregs _)
  case config => exact run_dueIf_closed (Dev.inConfig_atRest hregs _)
  case cal | ping => exact run_dueIf_closed (Dev.calTime_atRest hregs _)
  case echo => exact run_dueIf_closed (by simp [Dev.calTime_atRest hregs])
  case flitCorrupt e c flit =>
    refine State.run_fixed ?_
    cases hbad : flitBad flit
    · rfl
    · cases e <;> simp [dueIf, Dev.inAlign_atRest hregs, Dev.inConfig_atRest hregs, Dev.lstate_atRest hregs,
        Dev.copy_atRest, Dev.copyReset]
  case ackTimer e c | replayTimeout e c | lostimeExpiry e c | resyncPatternDetect e c =>
    refine State.run_fixed ?_
    cases e <;> simp only [Dev.lstate_atRest hregs, Dev.link_atRest, Dev.copy_atRest] <;> rfl
  case hubReplayStoreError | grantSendTimer => exact State.run_fixed (by simp only [Dev.link_atRest]; rfl)
  case idle e c h g =>
    cases e
    · exact run_dueIf_closed (by simp [Dev.lstate_atRest hregs])
    · exact State.run_fixed (by rw [Dev.copyGrant_atRest]; exact Dev.updCopy_atRest rfl c)
  case grant c h g => exact State.run_fixed (by rw [Dev.copyGrant_atRest]; exact Dev.updCopy_atRest rfl c)
  -- The cores.
  case load | store | fence | fenceI | ecall | ebreak | gate | xretTrap | xretGate | wswitch | hush | unhush
    | eventEntry | hushOverrun | retireLoRead | csrWrite | icacheScrub
    | illegalInstruction | deliveryRetirePoint | debugStepDone =>
    refine run_core_atRest ?_
    exact fun _ => rfl
  case qadd | qsub | qshl | padd | psub | mac | msu | mul0 | pmac | pmsc | pmacx | pmscx
    | accrdl | accrdh | accrdg | accwrl | accwrh | accwrg | accclr | accldq | sin | cos | atan2 | sqrt | recip | exp2 => exact run_bronze_atRest
  case qmul | qshr | pack | pmul | accext => exact run_bronzeRm_atRest
  case integerOp | call | ret | reqerrRead | reqerrWrite | sspWrite | gtbaseWrite =>
    refine run_core_dueIf_atRest ?_
    exact fun _ => rfl
  case copyReplayStoreError | tick | tickExtrapolate | groupConversionEnd | dinEdge | digitalAperture =>
    exact run_dueIf_closed (by rw [Dev.copy_atRest]; rfl)
  -- The hub's view of the copies.
  case overTemperature | outlierFault | missingSamplesFault =>
    exact run_dueIf_closed (by simp [Dev.tooHot, Dev.outlierDue, Dev.missingDue, Dev.inSvc_atRest hregs])
  case analogExchangeClose g => exact run_dueIf_closed (Tri.get_const false g)
  case plausibilityFault ch => exact run_dueIf_closed ((by decide : ∀ ch : Fin 24, listGet false (List.replicate 24 false) ch.val = false) ch)
  case linkGuardOverrun => exact State.run_fixed (by simp only [Dev.guardSince, Dev.link_atRest]; rfl)
  case commitApply page => 
    exact State.run_fixed (by simp only [Dev.nextApply_atRest])
  case wdogExpiry => exact run_dueIf_closed (by simp [Dev.wdogRuns, Dev.nSvc_atRest hregs])
  -- Drives, fans and switched outputs.
  case driveOverrun | observerLoss => exact run_dueIf_closed (by rw [Dev.drive_atRest]; rfl)
  case ocBlankingEnd | trackerInvalid => exact State.run_fixed (by simp only [Dev.drive_atRest]; rfl)
  case fanStall | fanRetryoffEnd | fanKickEnd | fanRcntClear =>
    exact run_dueIf_closed (by simp [Dev.stallDue, Dev.fanTimed, Dev.fanSt_atRest hregs])
  case fanPlausWindow => exact run_dueIf_closed (by rw [Dev.fanCh_atRest]; rfl)
  case gpoBbmOn => exact State.run_fixed (by simp only [Dev.gpoCh_atRest])
  case gpoOvercurrent => exact run_dueIf_closed (by rw [Dev.gpoCh_atRest])
  case puffKickEnd | distressFrame => exact run_dueIf_closed (by rw [Dev.puffActive_atRest hregs]; rfl)
  -- The CAN controllers.
  case txSelect => exact run_dueIf_closed (Dev.canContends_atRest hregs _)
  case rxFrame => exact run_dueIf_closed (by rw [Dev.canHears_atRest hregs]; rfl)
  case rxError => exact run_dueIf_closed (Dev.canHears_atRest hregs _)
  case txComplete | txArbitrationLost | txError | busoffRecoveryStart | rxDeadline | rxGuardOverrun =>
    exact State.run_fixed (by simp only [Dev.canCh_atRest]; rfl)
  case canStop => exact run_dueIf_closed (by rw [Dev.canCh_atRest]; rfl)
  case busoffRecovered | busIntegrationEnd => exact run_dueIf_closed (by rw [Dev.canSt_atRest hregs]; rfl)
  case txDeadline => exact State.run_fixed (by simp only [Dev.slotDeadline_atRest])
  case txGuardOverrun => exact State.run_fixed (by simp only [Dev.txSlot, Dev.canCh_atRest]; rfl)
  case partnerLeft e =>
    exact run_dueIf_closed (by
      rw [Dev.rfld_atRest hregs (k := Reg.part_PSTAT e.val) (part_PSTAT_reset e).1, (part_PSTAT_reset e).2]; rfl)
  -- Power and overload.
  case mainsLoss =>
    exact run_dueIf_closed (by
      
      rw [Dev.mainsLost, Dev.rfld_atRest hregs (k := Reg.ledger_MLCFG) (by decide)]
      exact Bool.and_eq_false_iff.2 (.inl (Bool.and_false _)))
  case mainsReturn =>
    exact run_dueIf_closed (by rw [Dev.rfld_atRest hregs (k := Reg.ledger_MLFILT) (by decide)]; exact Bool.and_false _)
  case overloadRaise g =>
    refine run_dueIf_closed (gate := fun d => d.rfld (admBase g.val) 7 0 != 0 && !d.rbit Reg.sys_OVLSUM g.val
      && decide (d.rfld (admBase g.val) 7 0 ≤ (d.ovlGet g.val).2.1)) ?_
    rw [show (d.atRest.ovlGet g.val).2.1 = 0 from rfl]
    simp +contextual
  case overloadFall g =>
    refine run_dueIf_closed (gate := fun d => d.rbit Reg.sys_OVLSUM g.val && (d.rfld (admBase g.val) 7 0 == 0
      || decide (d.rfld (admBase g.val) 7 0 ≤ (d.ovlGet g.val).2.2))) ?_
    rw [Dev.rbit_atRest hregs (k := Reg.sys_OVLSUM) (by decide)]
    exact Bool.and_eq_false_iff.2 (.inl (by revert g; decide))
  case rideStepStart => exact run_dueIf_closed (by simp [Dev.planDue, Dev.planExec_atRest hregs])
  case dozeWake w => exact State.run_fixed (by cases hw : d.atRest.wakeOn w <;> rw [dueIf] <;> rfl)
  -- Every other command waits for a phase, a sequencer or a list that is at rest.
  all_goals rfl

end AtRest

/-- From `d` to `e` the device stays without power, with everything that it keeps but RETN.STAT. -/
def Dev.DarkStep (d e : Dev) : Prop :=
  e.unpowered ∧ e.mem = d.mem ∧ e.codes = d.codes ∧ d.keepsRegs e [Reg.retn_STAT] ∧ e.frnum = d.frnum ∧ e.jtag = d.jtag

theorem Dev.DarkStep.refl {d : Dev} (h : d.unpowered) : d.DarkStep d := ⟨h, rfl, rfl, fun _ _ => rfl, rfl, rfl⟩

/-- A register may take its reset value, and RETN.STAT any. -/
theorem Dev.DarkStep.setReg {d e : Dev} (h : d.DarkStep e) {k : Nat} {v : Word}
    (hk : k = Reg.retn_STAT ∨ k ∉ retainedKeys ∧ v = regReset k) : d.DarkStep (e.setReg k v) := by
  obtain ⟨hoff, hmem, hcodes, hkept, hfrnum, hjtag⟩ := h
  obtain ⟨hlost, hrest⟩ := (Dev.unpowered_iff e).1 hoff
  refine ⟨(Dev.unpowered_iff _).2 ⟨fun j hj => ?_, congrArg (fun x => x.setReg k v) hrest⟩, hmem, hcodes, fun j hj => ?_,
    hfrnum, hjtag⟩
  · rw [Dev.reg_setReg]
    split
    · next hjk =>
      obtain rfl | ⟨-, rfl⟩ := hk
      · exact absurd (hjk ▸ hj) (by decide)
      · rw [hjk]
    · exact hlost j hj
  · rw [Dev.reg_setReg]
    split
    · next hjk =>
      obtain rfl | ⟨hlostk, rfl⟩ := hk
      · exact absurd hjk (by simpa using hj)
      · rw [← hkept j hj, hjk, hlost k hlostk]
    · exact hkept j hj

/-- DELIVERY_OPEN drops the requests of DLVD that are gone, and DLVD is 0 without power. -/
theorem Dev.DarkStep.reqSync {d : Dev} (h : d.unpowered) : d.DarkStep d.reqSync := by
  obtain ⟨hlost, -⟩ := (Dev.unpowered_iff d).1 h
  refine ((Dev.DarkStep.refl h).setReg (.inr ⟨by decide, ?_⟩)).setReg (.inr ⟨by decide, ?_⟩)
  · rw [hlost Reg.irqd_DLVD_LO (by decide), (by decide : regReset Reg.irqd_DLVD_LO = 0)]; exact BitVec.zero_and
  · rw [hlost Reg.irqd_DLVD_HI (by decide), (by decide : regReset Reg.irqd_DLVD_HI = 0)]; exact BitVec.zero_and

/-- No delivery opens while no copy is in service. -/
theorem Dev.unpowered.dlvFree {d : Dev} (h : d.unpowered) : d.dlvFree = false := by
  obtain ⟨hlost, hrest⟩ := (Dev.unpowered_iff d).1 h
  have hnone : d.nSvc = 0 := by rw [hrest]; exact Dev.nSvc_atRest hlost
  simp [Dev.dlvFree, hnone]

/-- Whatever command but POWER_ON finds the device without power leaves it so. -/
theorem exec_dark {d : Dev} (h : d.unpowered) (p : List Instr) {i : Instr} (hi : i ≠ .powerOn) :
    ∃ e, exec i ⟨p, d⟩ = .next ⟨p, e⟩ ∧ d.DarkStep e := by
  obtain ⟨hlost, hrest⟩ := (Dev.unpowered_iff d).1 h
  by_cases hretn : i = .retentionSupplyLoss
  · subst hretn
    exact ⟨_, rfl, (Dev.DarkStep.refl h).setReg (.inl rfl)⟩
  by_cases hopen : i = .deliveryOpen
  · subst hopen
    refine ⟨d.reqSync, ?_, Dev.DarkStep.reqSync h⟩
    exact congrArg (fun x => Host.Outcome.next (State.mk p x)) (by simp [dueIf, (Dev.DarkStep.reqSync h).1.dlvFree])
  · have hfixed : exec i ⟨p, d.atRest⟩ = .next ⟨p, d.atRest⟩ := exec_atRest hlost p i hi hretn hopen
    exact ⟨d, hrest.symm ▸ hfixed, Dev.DarkStep.refl h⟩

/-- Settles O3: a step of an empty queue idles with HCLK stopped, and one that takes a command is that command's. -/
theorem darkStays : Obligations.DarkStays := by
  unfold Obligations.DarkStays
  intro s t hdark hstep
  obtain ⟨hoff, hpower⟩ := hdark
  obtain ⟨pending, d⟩ := s
  cases pending with
  | nil =>
    have hidle : d.idle = d := by
      rw [((Dev.unpowered_iff d).1 hoff).2]; rfl
    obtain rfl : (⟨[], d⟩ : State) = t := by simpa [step, hidle] using hstep
    exact ⟨⟨hoff, hpower⟩, (Dev.DarkStep.refl hoff).2⟩
  | cons i rest =>
    rw [List.mem_cons, not_or] at hpower
    obtain ⟨hi, hrest⟩ := hpower
    obtain ⟨e, he, hdarkE⟩ := exec_dark hoff rest (Ne.symm hi)
    obtain rfl : (⟨rest, e⟩ : State) = t := by simpa [step, he] using hstep
    exact ⟨⟨hdarkE.1, hrest⟩, hdarkE.2⟩

end Sys2Proof.Machine

namespace Sys2Proof.Machine

open Sys2Proof

/-! Drives, fans, switched outputs, CAN frames, conversions and the ride-through plan past the end of TIME: each state stands
in the last HCLK that TIME counts, and what it waits for is due behind it. -/

/-- A running hub whose frame, and the PWM period of every drive, starts in that HCLK. -/
def latePwmDev : Dev :=
  { lastDev with
    frames := true, tickt := BitVec.ofNat 64 lastTime,
    drv := Tri.const { Dev.driveReset with configured := true, periodAt := lastTime } }

/-- Refutes O53: a PWM period whose phase offset of 8 HCLK goes past the last HCLK of TIME (R302) starts at a TIME that 64
bits do not hold; the model's TIME is 7 then. -/
theorem not_driveChannels : ¬ Obligations.DriveChannels := by
  unfold Obligations.DriveChannels
  intro h
  let s : State := ⟨[], latePwmDev⟩
  have hwraps : Completes (.pwmPeriodStart 0) s (fun d => d.now = 7) := ⟨_, rfl, by decide +kernel⟩
  obtain ⟨-, -, -, -, hstarts⟩ := h.1 s 0 rfl rfl (by decide +kernel)
  exact hwraps.not_now (fun _ hd => hd.1) (by decide +kernel) hstarts

/-- Refutes O54: the first PWM period of fan channel 0 behind the last HCLK of TIME is 385 HCLK later (R335), at a TIME that
64 bits do not hold; the model's TIME is 384 then. -/
theorem not_fanChannels : ¬ Obligations.FanChannels := by
  unfold Obligations.FanChannels
  intro h
  let s : State := ⟨[], { lastDev with fan := Quad.const { Dev.fanReset with pinAt := lastTime } }⟩
  have hwraps : Completes (.fanPwmPeriod 0) s (fun d => d.now = 384) := ⟨_, rfl, by decide +kernel⟩
  obtain ⟨hperiod, -⟩ := h.1 s 0
  obtain ⟨-, -, -, hstarts⟩ := hperiod rfl
  exact hwraps.not_now (fun _ hd => hd.1) (by decide +kernel) hstarts

/-- A running hub of which output 0 waits one more HCLK for its partner (R350). -/
def lateGpoDev : Dev := { lastDev with gpo := ⟨false, 0, some (lastTime + 1), true, false⟩ :: lastDev.gpo.tail }

/-- Refutes O55: an output whose break-before-make delay ends one HCLK behind the last HCLK of TIME turns on at a TIME that
64 bits do not hold; the model's TIME is 0 then. -/
theorem not_switchedAndPuffball : ¬ Obligations.SwitchedAndPuffball := by
  unfold Obligations.SwitchedAndPuffball
  intro h
  let s : State := ⟨[], lateGpoDev⟩
  have hwraps : Completes (.gpoBbmOn 0) s (fun d => d.now = 0) := ⟨_, rfl, by decide +kernel⟩
  obtain ⟨hbbm, -⟩ := h.1 s 0 true rfl
  exact hwraps.not_now (fun _ hd => hd.1) (by decide +kernel) (hbbm (lastTime + 1) rfl)

/-- A guard frame that is submitted in that HCLK. -/
def lateSlot : TxSlot := ⟨[0, 0], lastTime, false, false⟩

/-- A running hub in whose controller 0 that frame is PENDING in slot 0. -/
def lateSlotDev : Dev :=
  { lastDev with can := Duo.const { Dev.canReset with slots := [(0, some lateSlot)] } }.setReg (Reg.can_SLOTST 0 0) 0x100

/-- Refutes O56: a guard frame that is submitted in the last HCLK of TIME, with the service bound that CAN.GSB has after
reset, overruns 800 000 HCLK later (R369), at a TIME that 64 bits do not hold; the model's TIME is 799 999 then. -/
theorem not_canSends : ¬ Obligations.CanSends := by
  unfold Obligations.CanSends
  intro h
  let s : State := ⟨[], lateSlotDev⟩
  have hwraps : Completes (.txGuardOverrun 0 0) s (fun d => d.now = 799999) := ⟨_, rfl, by decide +kernel⟩
  obtain ⟨-, -, -, hoverrun⟩ := h.2 s 0 0 lateSlot
  exact hwraps.not_now (fun _ hd => hd.1) (by decide +kernel)
    (hoverrun rfl (.inl (by decide +kernel)) (by decide +kernel) rfl)

/-- Refutes O38: after a conversion in the last HCLK of TIME the next one is due 4 000 HCLK later (R399), at a TIME that 64
bits do not hold; the model's TIME is 3 999 then. -/
theorem not_energyMeasured : ¬ Obligations.EnergyMeasured := by
  unfold Obligations.EnergyMeasured
  intro h
  let s : State := ⟨[], { lastDev with ledger := { Dev.ledgerReset with convAt := lastTime } }⟩
  have hwraps : Completes (.holdsnsConversion 0 (Quad.const ⟨0, 0⟩)) s (fun d => d.now = 3999) :=
    ⟨_, rfl, by decide +kernel⟩
  obtain ⟨hconverts, -⟩ := h s
  exact hwraps.not_now (fun _ hd => hd.1) (by decide +kernel) (hconverts 0 _ rfl)

/-- A running hub that executes a plan of one timely NOP step that asks for no energy and whose DELAY of 1 counts from that HCLK
(R411). -/
def latePlanDev : Dev :=
  ({ lastDev with ledger := { Dev.ledgerReset with planFrom := lastTime } }.setReg Reg.ledger_PLANCTL 0x10010).setReg
    (stepKey 0 0) 0x10010

/-- Refutes O39: a step of the plan with a DELAY of 1 behind the last HCLK of TIME starts 4 000 HCLK later (R411), at a TIME
that 64 bits do not hold; the model's TIME is 3 999 then. -/
theorem not_mainsAndPlan : ¬ Obligations.MainsAndPlan := by
  unfold Obligations.MainsAndPlan
  intro h
  let s : State := ⟨[], latePlanDev⟩
  have hwraps : Completes .rideStepStart s (fun d => d.now = 3999) := ⟨_, rfl, by decide +kernel⟩
  obtain ⟨-, -, hsteps⟩ := h s
  obtain ⟨hnop, -⟩ := hsteps (by decide +kernel)
  exact hwraps.not_now (fun _ hd => hd.1) (by decide +kernel) (hnop (.inr (by decide +kernel)) (by decide +kernel))

end Sys2Proof.Machine

namespace Sys2Proof.Machine

open Sys2Proof

/-! The entry to Doze while a loss of the journal waits to be reported: the MODE entry of the last PSTATE goes behind its LOSS
entry (R60), and the queue is written with both. -/

/-- A hub on its way to Doze, whose journal's queue is empty and has one refused entry to report. -/
def lossyDozeDev : Dev :=
  { Dev.reset with phase := .run, lp := { Dev.reset.lp with entered := true }, jrn := { Dev.reset.jrn with loss := 1 } }.setReg
    Reg.pwr_STAT 3

/-- Refutes O41: HCLK stops with two entries written, LOSS and the MODE entry, where the statement has JRNL.HEAD one on. -/
theorem not_lowPower : ¬ Obligations.LowPower := by
  unfold Obligations.LowPower
  intro h
  let s : State := ⟨[], lossyDozeDev⟩
  have hwrites : Completes .lowPowerStop s (fun d => d.reg Reg.jrnl_HEAD = lossyDozeDev.reg Reg.jrnl_HEAD + 2) :=
    ⟨_, rfl, by decide +kernel⟩
  obtain ⟨-, hdoze, -⟩ := h s
  obtain ⟨d, htwo, -, -, -, hone, -⟩ :=
    hwrites.agree (hdoze (by decide +kernel) (by decide +kernel) (by decide +kernel))
  exact absurd (htwo.symm.trans hone) (by decide +kernel)

end Sys2Proof.Machine

namespace Sys2Proof.Machine

open Sys2Proof

/-! Fields of words: what a field reads after a write to it or to another one (R7). -/

theorem testBit_fld (w : Word) (hi lo i : Nat) :
    (fld w hi lo).testBit i = (decide (i < hi + 1 - lo) && w.toNat.testBit (i + lo)) := by
  rw [fld, Nat.testBit_mod_two_pow, Nat.testBit_div_two_pow]

theorem testBit_setFld (w : Word) {hi lo : Nat} (v : Nat) (hlo : lo ≤ hi) (hhi : hi < 32) {i : Nat} (hi32 : i < 32) :
    (setFld w hi lo v).toNat.testBit i = if lo ≤ i ∧ i ≤ hi then v.testBit (i - lo) else w.toNat.testBit i := by
  have hsplit : w.toNat % 2 ^ lo + (v % 2 ^ (hi + 1 - lo)) * 2 ^ lo + (w.toNat / 2 ^ (hi + 1)) * 2 ^ (hi + 1)
      = 2 ^ lo * (2 ^ (hi + 1 - lo) * (w.toNat / 2 ^ (hi + 1)) + v % 2 ^ (hi + 1 - lo)) + w.toNat % 2 ^ lo := by
    have hpow : 2 ^ (hi + 1) = 2 ^ lo * 2 ^ (hi + 1 - lo) := by rw [← pow_add]; congr 1; omega
    rw [hpow]; ring
  rw [setFld, BitVec.toNat_ofNat, Nat.testBit_mod_two_pow, hsplit,
    Nat.testBit_two_pow_mul_add _ (Nat.mod_lt _ (by positivity)), Nat.testBit_two_pow_mul_add _ (Nat.mod_lt _ (by positivity)),
    Nat.testBit_mod_two_pow, Nat.testBit_mod_two_pow, Nat.testBit_div_two_pow]
  by_cases hbelow : i < lo
  · simp [hi32, hbelow]
  · by_cases hin : i ≤ hi
    · have : i - lo < hi + 1 - lo := by omega
      simp [hi32, hbelow, hin, this, Nat.not_lt.1 hbelow]
    · have hout : ¬ i - lo < hi + 1 - lo := by omega
      have hplace : i - lo - (hi + 1 - lo) + (hi + 1) = i := by omega
      simp [hi32, hbelow, hin, hout, hplace]

theorem fld_setFld_same (w : Word) {hi lo : Nat} (v : Nat) (hlo : lo ≤ hi) (hhi : hi < 32) :
    fld (setFld w hi lo v) hi lo = v % 2 ^ (hi + 1 - lo) := by
  refine Nat.eq_of_testBit_eq fun i => ?_
  rw [testBit_fld, Nat.testBit_mod_two_pow]
  by_cases h : i < hi + 1 - lo
  · rw [testBit_setFld w v hlo hhi (by omega), if_pos (by omega), Nat.add_sub_cancel]
  · simp [h]

theorem fld_setFld_of_disjoint (w : Word) {hi lo hi' lo' : Nat} (v : Nat) (hlo : lo ≤ hi) (hhi : hi < 32) (hhi' : hi' < 32)
    (h : hi' < lo ∨ hi < lo') : fld (setFld w hi lo v) hi' lo' = fld w hi' lo' := by
  refine Nat.eq_of_testBit_eq fun i => ?_
  rw [testBit_fld, testBit_fld]
  by_cases hi : i < hi' + 1 - lo'
  · rw [testBit_setFld w v hlo hhi (by omega), if_neg (by omega)]
  · simp [hi]

theorem bitOf_setFld_of_disjoint (w : Word) {hi lo i : Nat} (v : Nat) (hlo : lo ≤ hi) (hhi : hi < 32) (hi32 : i < 32)
    (h : i < lo ∨ hi < i) : bitOf (setFld w hi lo v) i = bitOf w i := by
  rw [bitOf_eq_testBit, bitOf_eq_testBit, testBit_setFld w v hlo hhi hi32, if_neg (by omega)]

theorem bitOf_setBit (w : Word) {i j : Nat} (b : Bool) (hi : i < 32) (hj : j < 32) :
    bitOf (setBit w i b) j = if j = i then b else bitOf w j := by
  rw [bitOf_eq_testBit, bitOf_eq_testBit, setBit, testBit_setFld w _ le_rfl hi hj]
  by_cases h : j = i
  · subst h; cases b <;> simp
  · rw [if_neg (by omega), if_neg h]

theorem fld_setBit_of_disjoint (w : Word) {i hi lo : Nat} (b : Bool) (hi32 : i < 32) (hhi : hi < 32) (h : hi < i ∨ i < lo) :
    fld (setBit w i b) hi lo = fld w hi lo :=
  fld_setFld_of_disjoint w _ le_rfl hi32 hhi h

/-! Of registers. -/

theorem Dev.reg_setFldR (d : Dev) (k hi lo v j : Nat) :
    (d.setFldR k hi lo v).reg j = if j = k then setFld (d.reg k) hi lo v else d.reg j := d.reg_setReg k j _

theorem Dev.reg_setBitR (d : Dev) (k i j : Nat) (b : Bool) :
    (d.setBitR k i b).reg j = if j = k then setBit (d.reg k) i b else d.reg j := d.reg_setReg k j _

theorem Dev.rfld_setFldR_same (d : Dev) (k : Nat) {hi lo : Nat} (v : Nat) (hlo : lo ≤ hi) (hhi : hi < 32) :
    (d.setFldR k hi lo v).rfld k hi lo = v % 2 ^ (hi + 1 - lo) := by
  rw [Dev.rfld, Dev.reg_setFldR, if_pos rfl, fld_setFld_same _ v hlo hhi]

theorem Dev.rfld_setFldR_of_disjoint (d : Dev) (k : Nat) {hi lo hi' lo' : Nat} (v : Nat) (hlo : lo ≤ hi) (hhi : hi < 32)
    (hhi' : hi' < 32) (h : hi' < lo ∨ hi < lo') : (d.setFldR k hi lo v).rfld k hi' lo' = d.rfld k hi' lo' := by
  rw [Dev.rfld, Dev.reg_setFldR, if_pos rfl, fld_setFld_of_disjoint _ v hlo hhi hhi' h, Dev.rfld]

theorem Dev.rfld_congr {d e : Dev} {k : Nat} (h : e.reg k = d.reg k) (hi lo : Nat) : e.rfld k hi lo = d.rfld k hi lo := by
  rw [Dev.rfld, h, Dev.rfld]

theorem Dev.rbit_congr {d e : Dev} {k : Nat} (h : e.reg k = d.reg k) (i : Nat) : e.rbit k i = d.rbit k i := by
  rw [Dev.rbit, h, Dev.rbit]

end Sys2Proof.Machine

namespace Sys2Proof.Machine

open Sys2Proof

/-! The instruction register of the JTAG port (R437). -/

/-- The device whose JTAG port has selected the instruction `ir`. -/
def Dev.withIr (d : Dev) (ir : BitVec 5) : Dev := d.updJtag (fun t => { t with ir := ir })

/-- The device whose JTAG port has selected BYPASS, whose bit captures 0. -/
def Dev.bypassed (d : Dev) : Dev := d.updJtag (fun t => { t with ir := 0x1F, bypass := false })

theorem Dev.jtagSelect_of_avail {d : Dev} {ir : BitVec 5} (hav : d.jtagAvail ir = true) : d.jtagSelect ir = d.withIr ir := by
  simp [Dev.jtagSelect, Dev.withIr, hav]

theorem Dev.jtagSelect_of_absent {d : Dev} {ir : BitVec 5} (hav : d.jtagAvail ir = false) : d.jtagSelect ir = d.bypassed := by
  simp [Dev.jtagSelect, Dev.bypassed, hav]

theorem Dev.jtagDo_of_off {d : Dev} (hoff : d.jtagOn = false) (ir : BitVec 5) (f : Dev → Dev) : d.jtagDo ir f = d := by
  simp [Dev.jtagDo, dueIf, hoff]

theorem Dev.jtagDo_of_avail {d : Dev} (hon : d.jtagOn = true) {ir : BitVec 5} (hav : d.jtagAvail ir = true) (f : Dev → Dev) :
    d.jtagDo ir f = f (d.withIr ir) := by
  simp [Dev.jtagDo, dueIf, hon, hav, Dev.jtagSelect_of_avail]

theorem Dev.jtagDo_of_absent {d : Dev} (hon : d.jtagOn = true) {ir : BitVec 5} (hav : d.jtagAvail ir = false) (f : Dev → Dev) :
    d.jtagDo ir f = d.bypassed := by
  simp [Dev.jtagDo, dueIf, hon, hav, Dev.jtagSelect_of_absent]

@[simp] theorem Dev.jtagOut_dataOut (d : Dev) (st : Option Byte) (ws : List Word) : (d.jtagOut st ws).jtag.dataOut = ws := rfl
@[simp] theorem Dev.jtagOut_status (d : Dev) (st : Option Byte) (ws : List Word) : (d.jtagOut st ws).jtag.status = st := rfl
@[simp] theorem Dev.jtagOut_ir (d : Dev) (st : Option Byte) (ws : List Word) : (d.jtagOut st ws).jtag.ir = d.jtag.ir := rfl
@[simp] theorem Dev.jtagOut_mem (d : Dev) (st : Option Byte) (ws : List Word) : (d.jtagOut st ws).mem = d.mem := rfl
@[simp] theorem Dev.jtagOut_time (d : Dev) (st : Option Byte) (ws : List Word) : (d.jtagOut st ws).time = d.time := rfl
@[simp] theorem Dev.jtagOut_codes (d : Dev) (st : Option Byte) (ws : List Word) : (d.jtagOut st ws).codes = d.codes := rfl
@[simp] theorem Dev.jtagOut_regs (d : Dev) (st : Option Byte) (ws : List Word) : (d.jtagOut st ws).regs = d.regs := rfl

/-! A command that is an instruction's: what it leaves. -/

section Command

variable {i : Instr} {s : State} {ir : BitVec 5} {f : Dev → Dev}

theorem completes_jtagDo (hexec : exec i s = s.run (fun d => d.jtagDo ir f)) (hon : s.dev.jtagOn = true)
    (hav : s.dev.jtagAvail ir = true) : Completes i s (· = f (s.dev.withIr ir)) :=
  ⟨_, hexec, Dev.jtagDo_of_avail hon hav f⟩

theorem completes_jtagDo_absent (hexec : exec i s = s.run (fun d => d.jtagDo ir f)) (hon : s.dev.jtagOn = true)
    (hav : s.dev.jtagAvail ir = false) : Completes i s (· = s.dev.bypassed) :=
  ⟨_, hexec, Dev.jtagDo_of_absent hon hav f⟩

theorem completes_jtagDo_off (hexec : exec i s = s.run (fun d => d.jtagDo ir f)) (hoff : s.dev.jtagOn = false) :
    Completes i s (· = s.dev) :=
  ⟨_, hexec, Dev.jtagDo_of_off hoff ir f⟩

/-- JTAG_BYPASS of an instruction that is not available (R437). -/
theorem completes_jtagBypass (hon : s.dev.jtagOn = true) (hav : s.dev.jtagAvail ir = false) :
    Completes (.jtagBypass ir) s (· = s.dev.bypassed) :=
  ⟨_, rfl, (if_pos (by simp [hon, hav])).trans (Dev.jtagSelect_of_absent hav)⟩

end Command

/-- An open port has its four instructions, and another one none of them. -/
theorem Dev.jtagAvail_of_mem (d : Dev) {ir : BitVec 5} (hir : ir ∈ [3#5, 5#5, 0x10#5, 0x11#5]) : d.jtagAvail ir = d.jtagFull := by
  simp only [List.mem_cons, List.not_mem_nil, or_false] at hir
  obtain rfl | rfl | rfl | rfl := hir <;> rfl

/-! The output balls while the boundary register has them (R479). -/

section Boundary

variable {d : Dev} (hb : d.boundary = true)
include hb

theorem Dev.safeBall_of_boundary : d.safeBall = if d.pinsDead || d.vioDead then .highZ else .low := by
  simp [Dev.safeBall, Dev.doBall, hb, Level.ofBool]

theorem Dev.doBall_of_boundary (hdead : d.pinsDead = false) (hvio : d.vioDead = false) (i : Fin 7) (v : Level) :
    d.doBall (some i) v = Level.ofBool (d.jtag.preload.getLsbD i.val) := by
  simp [Dev.doBall, hdead, hvio, hb]

theorem Dev.fanBall_of_boundary (hdead : d.pinsDead = false) (hvio : d.vioDead = false) (i : FanId) :
    d.fanBall i = Level.ofBool (d.jtag.preload.getLsbD i.val) := by
  simp only [Dev.fanBall, Dev.doBall_of_boundary hb hdead hvio, hb]
  split
  · rfl
  · split <;> rfl

theorem Dev.gpoBall_of_boundary (g : GpoId) : d.gpoBall g = .highZ := by
  simp [Dev.gpoBall, hb]

theorem Dev.switchOn_of_boundary (hdoze : d.dozes = false) (n : DrvId) (x : Fin 3) (hi : Bool) :
    d.switchOn n x hi = (d.tripOf n == (if hi then 3 else 2)) := by
  cases hi <;> simp [Dev.switchOn, hdoze, hb]

end Boundary

theorem Dev.boundary_withIr (d : Dev) {ir : BitVec 5} (hir : ir ∈ [3#5, 5#5]) : (d.withIr ir).boundary = true := by
  simp only [List.mem_cons, List.not_mem_nil, or_false] at hir
  obtain rfl | rfl := hir <;> rfl

/-- EXTEST and CLAMP do nothing but select themselves (R437). -/
theorem exec_boundaryInstr {i : Instr} {ir : BitVec 5} (hi : (i, ir) ∈ [(.jtagExtest, 3#5), (.jtagClamp, 5#5)]) (s : State) :
    ir ∈ [3#5, 5#5] ∧ exec i s = s.run (fun d => d.jtagDo ir id) := by
  simp only [List.mem_cons, List.not_mem_nil, or_false, Prod.mk.injEq] at hi
  obtain ⟨rfl, rfl⟩ | ⟨rfl, rfl⟩ := hi
  · exact ⟨by decide, rfl⟩
  · exact ⟨by decide, rfl⟩

/-- What SAMPLE/PRELOAD samples of seven balls, each high or not. -/
theorem getLsbD_ofNat_balls : ∀ (f₀ f₁ f₂ f₃ c₀ c₁ t : Bool) (i : Fin 7),
    (BitVec.ofNat 7 ((((((if f₀ then 1 else 0) + (if f₁ then 2 else 0)) + (if f₂ then 4 else 0)) + (if f₃ then 8 else 0)) +
      ((if c₀ then 16 else 0) + (if c₁ then 32 else 0))) + (if t then 64 else 0))).getLsbD i.val =
    [f₀, f₁, f₂, f₃, c₀, c₁, t].getD i.val false := by
  decide

theorem Dev.getLsbD_boundarySample (d : Dev) (i : Fin 7) : d.boundarySample.getLsbD i.val =
    [d.fanBall 0 == .high, d.fanBall 1 == .high, d.fanBall 2 == .high, d.fanBall 3 == .high, d.canBall 0 == .high,
      d.canBall 1 == .high, d.tdoBall == .high].getD i.val false := by
  rw [← getLsbD_ofNat_balls]
  simp [Dev.boundarySample, fanIds, canIds]

theorem Dev.boundarySample_fan (d : Dev) (f : FanId) : d.boundarySample.getLsbD f.val = (d.fanBall f == .high) := by
  rw [d.getLsbD_boundarySample ⟨f.val, by omega⟩]
  match f with
  | 0 => rfl
  | 1 => rfl
  | 2 => rfl
  | 3 => rfl

theorem Dev.boundarySample_can (d : Dev) (n : CanId) : d.boundarySample.getLsbD (4 + n.val) = (d.canBall n == .high) := by
  rw [d.getLsbD_boundarySample ⟨4 + n.val, by omega⟩]
  match n with
  | 0 => rfl
  | 1 => rfl

/-! Debug access (R438). -/

theorem Dev.sramUe_stores (d : Dev) (a : Nat) : (d.sramUe a).mem = d.mem ∧ (d.sramUe a).codes = d.codes := by
  unfold Dev.sramUe
  dsimp only
  split
  · simp
  · split <;> simp

/-- The hub's checker counts what it finds in a word, and leaves every stored word. -/
theorem Dev.noteRead_stores (a : Nat) (d : Dev) : (d.noteRead a).mem = d.mem ∧ (d.noteRead a).codes = d.codes := by
  unfold Dev.noteRead
  split
  · simp
  · split
    · simp
    · split <;> simp
  · split
    · simp
    · split
      · exact d.sramUe_stores a
      · simp

/-- A word is sent as it is stored. -/
theorem Dev.cword_data (d : Dev) (a : Nat) : (d.cword a).data = d.word a := by
  unfold Dev.cword
  split <;> rfl

theorem isFlash_of_isSram {a : Nat} (h : isSram a = true) : isFlash a = false := by
  simp only [isSram, isFlash, Bool.and_eq_true, decide_eq_true_eq, decide_eq_false_iff_not] at h ⊢
  omega

theorem isFlash_of_isContext {a : Nat} (h : isContext a = true) : isFlash a = false := by
  simp only [isContext, isFlash, Bool.and_eq_true, decide_eq_true_eq, decide_eq_false_iff_not] at h ⊢
  omega

/-- No page address is one of a memory, and each is its page's and its offset's. -/
theorem isPages_regions {a : Nat} (h : isPages a = true) : isFlash a = false ∧ isSram a = false ∧ isContext a = false ∧
    isWindow a = false ∧ (a - 0x40000000) / 0x1000 * 0x1000 + a % 0x1000 = a - 0x40000000 := by
  simp only [isPages, isFlash, isSram, isContext, isWindow, Bool.and_eq_true, Bool.and_eq_false_iff, decide_eq_true_eq,
    decide_eq_false_iff_not] at h ⊢
  omega

theorem outside_regions {a : Nat} (h : 0x60000000 ≤ a) : isFlash a = false ∧ isSram a = false ∧ isContext a = false ∧
    isWindow a = false ∧ isPages a = false := by
  simp only [isPages, isFlash, isSram, isContext, isWindow, Bool.and_eq_false_iff, decide_eq_false_iff_not]
  omega

section Read

variable (d : Dev) (src : Src) (addr : Word) (enc : Bool)

/-- A READ of a memory that is free returns the stored word (R253). -/
theorem Dev.doRead_of_memory (h : isSram (addr.toNat / 4 * 4) = true ∨ isContext (addr.toNat / 4 * 4) = true ∨
    (isFlash (addr.toNat / 4 * 4) = true ∧ d.bankBusyAt (addr.toNat / 4 * 4) = false)) :
    d.doRead src addr enc = (d.noteRead (addr.toNat / 4 * 4), ⟨0, [d.cword (addr.toNat / 4 * 4)]⟩) := by
  have hword : d.readWords (addr.toNat / 4 * 4) 1 = (d.noteRead (addr.toNat / 4 * 4), ⟨0, [d.cword (addr.toNat / 4 * 4)]⟩) := by
    simp [Dev.readWords, List.range_succ, Dev.each]
  obtain hsram | hctx | ⟨hflash, hfree⟩ := h
  · simp [Dev.doRead, isFlash_of_isSram hsram, hsram, hword]
  · simp [Dev.doRead, isFlash_of_isContext hctx, hctx, hword]
  · simp [Dev.doRead, hflash, hfree, hword]

/-- A READ of a page whose guard permits it returns the register's view, but for the registers of a pair (R42, R55). -/
theorem Dev.doRead_of_page (h : isPages (addr.toNat / 4 * 4) = true)
    (hguard : d.guardOk ((addr.toNat / 4 * 4 - 0x40000000) / 0x1000) src false = true)
    (hlo : isPairLo (addr.toNat / 4 * 4 - 0x40000000) = false) (hhi : isPairHi (addr.toNat / 4 * 4 - 0x40000000) = false) :
    d.doRead src addr true = (d, encodedRead (toWord (addr.toNat / 4 * 4))
      (d.view (srcWorld src) (addr.toNat / 4 * 4 - 0x40000000)) true) := by
  obtain ⟨hflash, hsram, hctx, hwin, hkey⟩ := isPages_regions h
  simp [Dev.doRead, Dev.pageRead, Dev.readReg, hflash, hsram, hctx, hwin, h, hguard, hkey, hlo, hhi]

/-- A READ that the page's guard forbids is refused, with its entry (R57). -/
theorem Dev.doRead_of_denied (h : isPages (addr.toNat / 4 * 4) = true)
    (hguard : d.guardOk ((addr.toNat / 4 * 4 - 0x40000000) / 0x1000) src false = false) :
    d.doRead src addr enc = (d.deny ((addr.toNat / 4 * 4 - 0x40000000) / 0x1000) (addr.toNat / 4 * 4 % 0x1000) src (srcCode src) 0,
      noWords 0x16) := by
  obtain ⟨hflash, hsram, hctx, hwin, -⟩ := isPages_regions h
  simp [Dev.doRead, Dev.pageRead, hflash, hsram, hctx, hwin, h, hguard]

theorem Dev.doRead_outside (h : 0x60000000 ≤ addr.toNat / 4 * 4) : d.doRead src addr enc = (d, noWords (stRefused 9)) := by
  obtain ⟨hflash, hsram, hctx, hwin, hpages⟩ := outside_regions h
  simp [Dev.doRead, hflash, hsram, hctx, hwin, hpages]

end Read

theorem Dev.view_withIr (d : Dev) (ir : BitVec 5) (w : World) (k : Nat) : (d.withIr ir).view w k = d.view w k := by rfl

theorem Dev.code_putWord_same (d : Dev) (a : Nat) (w : Word) : ((d.putWord a w).code a).setWidth 7 = ecc w (toWord a) := by
  have hcode : (d.putWord a w).code a = (ecc w (toWord a)).setWidth 8 := mapGet_mapPut_same ..
  rw [hcode, BitVec.setWidth_setWidth_of_le _ (by decide), BitVec.setWidth_eq]

/-! A debug write of memory (R294, R438). -/

theorem Dev.dbgMemWrite_regs (d : Dev) (a : Nat) (v : Word) : (d.dbgMemWrite a v).1.regs = d.regs := by
  unfold Dev.dbgMemWrite
  split
  · rfl
  · split
    · exact Dev.putWord_regs ..
    · split
      · simp
      · rfl

theorem Dev.dbgMemWrite_of_safe (d : Dev) (a : Nat) (v : Word) (h : d.level = 2) : d.dbgMemWrite a v = (d, stRefused 8) :=
  if_pos h

theorem Dev.dbgMemWrite_of_halted (d : Dev) {a : Nat} (v : Word) (h : d.level ≠ 2) (hsram : isSram a = true)
    (hhalted : d.rbit Reg.dbg_STAT 0 = true) :
    d.dbgMemWrite a v = ({ d.putWord a v with dbg := { d.dbg with inval := true } }, stServed) := by
  simp [Dev.dbgMemWrite, h, hsram, hhalted]

theorem Dev.dbgMemWrite_of_running (d : Dev) {a : Nat} (v : Word) (h : d.level ≠ 2) (hsram : isSram a = true)
    (hruns : d.rbit Reg.dbg_STAT 0 = false) : d.dbgMemWrite a v = (d, stRefused 7) := by
  simp [Dev.dbgMemWrite, h, hsram, hruns]

/-- DBGACC_READ through an open port of a hub that runs is a READ of the port's requester (R438). -/
theorem completes_dbgaccRead {s : State} (addr : Word) (hon : s.dev.jtagOn = true) (hfull : s.dev.jtagFull = true)
    (hlive : s.dev.live = true) {r : Dev × Served} (hr : (s.dev.withIr 0x10).doRead .jtag addr true = r) :
    Completes (.dbgaccRead addr) s (· = r.1.jtagOut (some r.2.st) (r.2.ws.map CWord.data)) := by
  subst hr
  refine (completes_jtagDo rfl hon ((s.dev.jtagAvail_of_mem (by decide)).trans hfull)).imp (fun d hd => hd.trans ?_)
  exact if_pos hlive

/-- DBGACC_WRITE of SRAM through such a port. -/
theorem completes_dbgaccWrite_sram {s : State} {addr : Word} (v : Word) (hon : s.dev.jtagOn = true)
    (hfull : s.dev.jtagFull = true) (hlive : s.dev.live = true) (hsram : isSram (addr.toNat / 4 * 4) = true) {r : Dev × Byte}
    (hr : (s.dev.withIr 0x10).dbgMemWrite (addr.toNat / 4 * 4) v = r) :
    Completes (.dbgaccWrite addr v) s (· = r.1.jtagOut (some r.2) []) := by
  subst hr
  refine (completes_jtagDo rfl hon ((s.dev.jtagAvail_of_mem (by decide)).trans hfull)).imp (fun d hd => hd.trans ?_)
  refine (if_pos hlive).trans ?_
  simp [hsram]

/-- DBGACC_WRITE of no memory and no page (assumption 21). -/
theorem completes_dbgaccWrite_absent {s : State} {addr : Word} (v : Word) (hon : s.dev.jtagOn = true)
    (hfull : s.dev.jtagFull = true) (hlive : s.dev.live = true) (hsram : isSram (addr.toNat / 4 * 4) = false)
    (hctx : isContext (addr.toNat / 4 * 4) = false) (hpages : isPages (addr.toNat / 4 * 4) = false) :
    Completes (.dbgaccWrite addr v) s (· = (s.dev.withIr 0x10).jtagOut (some (stRefused 9)) []) := by
  refine (completes_jtagDo rfl hon ((s.dev.jtagAvail_of_mem (by decide)).trans hfull)).imp (fun d hd => hd.trans ?_)
  refine (if_pos hlive).trans ?_
  simp [hsram, hctx, hpages]

/-- Settles O58: each instruction selects and acts on the JTAG port alone; a debug access is the hub's READ or WRITE. -/
theorem jtagAndDebugAccess : Obligations.JtagAndDebugAccess := by
  refine ⟨fun s i => ⟨fun hon => ?_, fun bits hon => ?_, fun ir hi hon => ?_, fun ir hon hav => ?_, fun hoff hi => ?_⟩,
    fun s addr v hon => ⟨fun hclosed => ?_, fun hfull hlive => ⟨?_, ?_, ?_, ?_, ?_, ?_, ?_, ?_⟩⟩⟩
  · refine (completes_jtagDo rfl hon rfl).imp (fun d hd => ?_)
    subst hd
    exact ⟨⟨rfl, rfl, rfl⟩, rfl⟩
  · refine (completes_jtagDo rfl hon rfl).imp (fun d hd => ?_)
    subst hd
    exact ⟨rfl, rfl, rfl, fun f => Dev.boundarySample_fan _ f, fun n => Dev.boundarySample_can _ n⟩
  · obtain ⟨hir, hexec⟩ := exec_boundaryInstr hi s
    have hav : s.dev.jtagAvail ir = s.dev.jtagFull := s.dev.jtagAvail_of_mem (List.mem_append_left [0x10#5, 0x11#5] hir)
    have hb := s.dev.boundary_withIr hir
    refine ⟨fun hfull => (completes_jtagDo hexec hon (hav.trans hfull)).imp (fun d hd => ?_),
      fun hclosed => (completes_jtagDo_absent hexec hon (hav.trans hclosed)).imp (fun d hd => ?_)⟩
    · obtain rfl : d = s.dev.withIr ir := hd
      have hsafe := Dev.safeBall_of_boundary hb
      refine ⟨⟨rfl, rfl, rfl⟩, ?_, fun hdead hvio => ⟨?_, fun f _ => Dev.fanBall_of_boundary hb hdead hvio f,
        fun n => Dev.doBall_of_boundary hb hdead hvio _ _, Dev.doBall_of_boundary hb hdead hvio _ _⟩,
        Dev.gpoBall_of_boundary hb, fun n x hi hdoze => Dev.switchOn_of_boundary hb hdoze n x hi⟩
      · rw [hsafe]; split <;> decide
      · have hdead' : (s.dev.withIr ir).pinsDead = false := hdead
        have hvio' : (s.dev.withIr ir).vioDead = false := hvio
        simp [hsafe, hdead', hvio']
    · subst hd
      exact ⟨⟨rfl, rfl, rfl⟩, rfl⟩
  · refine (completes_jtagBypass hon hav).imp (fun d hd => ?_)
    subst hd
    exact ⟨⟨rfl, rfl, rfl⟩, rfl⟩
  · simp only [List.mem_cons, List.not_mem_nil, or_false] at hi
    obtain rfl | rfl | rfl := hi
    · exact completes_jtagDo_off rfl hoff
    · exact completes_jtagDo_off rfl hoff
    · exact completes_jtagDo_off rfl hoff
  · have hav : s.dev.jtagAvail 0x10 = false := (s.dev.jtagAvail_of_mem (by decide)).trans hclosed
    have hbypass (d : Dev) (hd : d = s.dev.bypassed) : d.jtag.ir = 0x1F ∧ d = { s.dev with jtag := d.jtag } := by
      subst hd
      exact ⟨rfl, rfl⟩
    exact ⟨(completes_jtagDo_absent rfl hon hav).imp hbypass, (completes_jtagDo_absent rfl hon hav).imp hbypass⟩
  · intro h
    refine (completes_dbgaccRead addr hon hfull hlive (Dev.doRead_of_memory _ _ _ _ h)).imp (fun d hd => ?_)
    obtain ⟨hmem, hcodes⟩ := (s.dev.withIr 0x10).noteRead_stores (addr.toNat / 4 * 4)
    subst hd
    refine ⟨?_, rfl, hmem, hcodes⟩
    rw [Dev.jtagOut_dataOut, List.map_singleton, Dev.cword_data]
    rfl
  · intro hpages hguard hlo hhi
    refine (completes_dbgaccRead addr hon hfull hlive (Dev.doRead_of_page _ _ _ hpages hguard hlo hhi)).imp (fun d hd => ?_)
    subst hd
    exact ⟨congrArg ([·]) (Dev.view_withIr ..), rfl, rfl⟩
  · intro hpages hguard _
    refine (completes_dbgaccRead addr hon hfull hlive (Dev.doRead_of_denied _ _ _ _ hpages hguard)).imp (fun d hd => ?_)
    subst hd
    exact ⟨by simp [noWords], by simp [noWords], Dev.journaled_jlog_of_guard _ (by decide) ..,
      Dev.regs_jlog_of_guard _ (by decide) ..⟩
  · intro hout
    refine (completes_dbgaccRead addr hon hfull hlive (Dev.doRead_outside _ _ _ _ hout)).imp (fun d hd => ?_)
    subst hd
    exact ⟨rfl, rfl⟩
  · intro hsram hlevel hhalted
    have hwrite := (s.dev.withIr 0x10).dbgMemWrite_of_halted (a := addr.toNat / 4 * 4) v hlevel hsram hhalted
    refine (completes_dbgaccWrite_sram v hon hfull hlive hsram hwrite).imp (fun d hd => ?_)
    have hmem : d.mem = (s.dev.putWord (addr.toNat / 4 * 4) v).mem := by rw [hd]; rfl
    have hcodes : d.codes = (s.dev.putWord (addr.toNat / 4 * 4) v).codes := by rw [hd]; rfl
    refine ⟨(Dev.word_congr_mem hmem _).trans (Dev.word_putWord_same ..), ?_,
      fun b hb => (Dev.byte_congr hmem b).trans (Dev.byte_putWord_of_outside _ _ hb), ?_, ?_, ?_⟩
    · rw [Dev.code, hcodes]
      exact Dev.code_putWord_same ..
    · rw [hd]; rfl
    · rw [hd]; rfl
    · rw [hd, Dev.jtagOut_regs, ← hwrite, Dev.dbgMemWrite_regs]
      rfl
  · intro hsram hlevel hruns
    have hwrite := (s.dev.withIr 0x10).dbgMemWrite_of_running (a := addr.toNat / 4 * 4) v hlevel hsram hruns
    refine (completes_dbgaccWrite_sram v hon hfull hlive hsram hwrite).imp (fun d hd => ?_)
    subst hd
    exact ⟨rfl, rfl⟩
  · intro hsram hlevel
    have hwrite := (s.dev.withIr 0x10).dbgMemWrite_of_safe (addr.toNat / 4 * 4) v hlevel
    refine (completes_dbgaccWrite_sram v hon hfull hlive hsram hwrite).imp (fun d hd => ?_)
    subst hd
    exact ⟨rfl, rfl⟩
  · intro hsram hctx hpages
    refine (completes_dbgaccWrite_absent v hon hfull hlive hsram hctx hpages).imp (fun d hd => ?_)
    subst hd
    exact ⟨rfl, rfl⟩

end Sys2Proof.Machine

namespace Sys2Proof.Machine

open Sys2Proof

/-! The unlock (R443). -/

theorem Dev.unlockAnswer_withIr (d : Dev) (ir : BitVec 5) (c : DWord) : (d.withIr ir).unlockAnswer c = d.unlockAnswer c := by
  have hkey : (d.withIr ir).debugKey = d.debugKey := rfl
  have hmsg : (d.withIr ir).unlockMsg c = d.unlockMsg c := rfl
  rw [Dev.unlockAnswer, Dev.unlockAnswer, hkey, hmsg]

/-- Another lock state is shown with its MODE entry. -/
theorem Dev.setLock_of_ne {d : Dev} {lock : Nat} (h : d.rfld Reg.dbg_STAT 5 4 ≠ lock) : d.setLock lock =
    (d.setFldR Reg.dbg_STAT 5 4 lock).jmode 0x20 0x44 0 (toWord lock) (toWord (d.rfld Reg.dbg_STAT 5 4)) :=
  if_neg h

theorem Dev.reg_setLock_of_ne {d : Dev} {lock : Nat} (h : d.rfld Reg.dbg_STAT 5 4 ≠ lock) (k : Nat) :
    (d.setLock lock).reg k = (d.setFldR Reg.dbg_STAT 5 4 lock).reg k := by
  rw [Dev.setLock_of_ne h, Dev.jmode, Dev.reg, Dev.regs_jlog_of_guard _ (by decide), Dev.reg]

theorem Dev.lock_setLock {d : Dev} {lock : Nat} (h : d.rfld Reg.dbg_STAT 5 4 ≠ lock) (hlock : lock < 4) :
    (d.setLock lock).rfld Reg.dbg_STAT 5 4 = lock := by
  rw [Dev.rfld_congr (Dev.reg_setLock_of_ne h _), Dev.rfld_setFldR_same _ _ _ (by decide) (by decide)]
  exact Nat.mod_eq_of_lt hlock

theorem Dev.tries_setLock {d : Dev} {lock : Nat} (h : d.rfld Reg.dbg_STAT 5 4 ≠ lock) :
    (d.setLock lock).rfld Reg.dbg_STAT 9 8 = d.rfld Reg.dbg_STAT 9 8 := by
  rw [Dev.rfld_congr (Dev.reg_setLock_of_ne h _),
    Dev.rfld_setFldR_of_disjoint _ _ _ (by decide) (by decide) (by decide) (.inr (by decide))]

theorem Dev.journaled_setLock {d : Dev} {lock : Nat} (h : d.rfld Reg.dbg_STAT 5 4 ≠ lock) :
    (d.setLock lock).journaled 6 0x20 (toWord lock) (toWord (d.rfld Reg.dbg_STAT 5 4)) := by
  rw [Dev.setLock_of_ne h]
  exact Dev.journaled_jlog_of_guard _ (by decide) ..

theorem Dev.keepsRegs_setLock {d : Dev} {lock : Nat} (h : d.rfld Reg.dbg_STAT 5 4 ≠ lock) :
    d.keepsRegs (d.setLock lock) [Reg.dbg_STAT] := by
  intro k hk
  rw [Dev.reg_setLock_of_ne h, Dev.reg_setFldR, if_neg (by simpa using hk)]

theorem Dev.dbg_setLock (d : Dev) (lock : Nat) : (d.setLock lock).dbg = d.dbg := by
  unfold Dev.setLock
  dsimp only
  split
  · rfl
  · exact (Dev.jlog_dbg ..).trans (Dev.setFldR_dbg ..)

/-- The device that has counted a wrong response. -/
def Dev.triedOnce (d : Dev) : Dev := d.setFldR Reg.dbg_STAT 9 8 (min 3 (d.rfld Reg.dbg_STAT 9 8 + 1))

theorem Dev.tries_triedOnce (d : Dev) : d.triedOnce.rfld Reg.dbg_STAT 9 8 = min 3 (d.rfld Reg.dbg_STAT 9 8 + 1) := by
  rw [Dev.triedOnce, Dev.rfld_setFldR_same _ _ _ (by decide) (by decide)]
  exact Nat.mod_eq_of_lt (by omega)

theorem Dev.lock_triedOnce (d : Dev) : d.triedOnce.rfld Reg.dbg_STAT 5 4 = d.rfld Reg.dbg_STAT 5 4 :=
  Dev.rfld_setFldR_of_disjoint _ _ _ (by decide) (by decide) (by decide) (.inl (by decide))

theorem Dev.keepsRegs_triedOnce (d : Dev) : d.keepsRegs d.triedOnce [Reg.dbg_STAT] := by
  intro k hk
  rw [Dev.triedOnce, Dev.reg_setFldR, if_neg (by simpa using hk)]

theorem Dev.wrongTry_of_more {d : Dev} (h : d.rfld Reg.dbg_STAT 9 8 < 2) : d.wrongTry = d.triedOnce :=
  if_neg (by omega)

theorem Dev.wrongTry_of_last {d : Dev} (h : 2 ≤ d.rfld Reg.dbg_STAT 9 8) : d.wrongTry = d.triedOnce.setLock 3 :=
  if_pos (by omega)

/-- The device whose port has no challenge any more. -/
def Dev.answered (d : Dev) : Dev := { d with dbg := { d.dbg with challenge := none } }

theorem Dev.reg_answered_withIr (d : Dev) (ir : BitVec 5) (k : Nat) : (d.withIr ir).answered.reg k = d.reg k := rfl

theorem Dev.rfld_answered_withIr (d : Dev) (ir : BitVec 5) (k hi lo : Nat) :
    (d.withIr ir).answered.rfld k hi lo = d.rfld k hi lo := rfl

section Response

variable {s : State} {r c : DWord} (hon : s.dev.jtagOn = true) (hopen : s.dev.rfld Reg.dbg_STAT 5 4 ≠ 3)
include hopen

theorem unlockAvail : s.dev.jtagAvail 0x13 = true := by
  simpa [Dev.jtagAvail] using hopen

include hon

theorem completes_unlockResponse_unasked (hnone : s.dev.dbg.challenge = none) :
    Completes (.unlockResponse r) s (· = s.dev.withIr 0x13) := by
  refine (completes_jtagDo rfl hon (unlockAvail hopen)).imp (fun d hd => hd.trans ?_)
  have hnone' : (s.dev.withIr 0x13).dbg.challenge = none := hnone
  simp only [hnone']

variable (hlive : s.dev.live = true) (hasked : s.dev.dbg.challenge = some c)
include hlive hasked

/-- A response to the challenge drawn last is judged, and the challenge is gone (R443). -/
theorem completes_unlockResponse : Completes (.unlockResponse r) s (· =
    if r.toNat = s.dev.unlockAnswer c then
      (if s.dev.rfld Reg.dbg_STAT 5 4 = 1 then (s.dev.withIr 0x13).answered.setLock 2 else (s.dev.withIr 0x13).answered)
    else (s.dev.withIr 0x13).answered.wrongTry) := by
  refine (completes_jtagDo rfl hon (unlockAvail hopen)).imp (fun d hd => hd.trans ?_)
  have hasked' : (s.dev.withIr 0x13).dbg.challenge = some c := hasked
  have hlive' : (s.dev.withIr 0x13).live = true := hlive
  simp only [hasked', dueIf, hlive', if_true, Dev.unlockAnswer_withIr]
  rfl

/-- The expected response opens a locked port. -/
theorem unlockResponse_opens (hright : r.toNat = s.dev.unlockAnswer c) (hlocked : s.dev.rfld Reg.dbg_STAT 5 4 = 1) :
    Completes (.unlockResponse r) s (fun d => d.rfld Reg.dbg_STAT 5 4 = 2 ∧
      d.rfld Reg.dbg_STAT 9 8 = s.dev.rfld Reg.dbg_STAT 9 8 ∧ d.journaled 6 0x20 2 1 ∧ d.dbg.challenge = none ∧
      s.dev.keepsRegs d [Reg.dbg_STAT]) := by
  refine (completes_unlockResponse hon hopen hlive hasked).imp (fun d hd => ?_)
  rw [if_pos hright, if_pos hlocked] at hd
  have hold : (s.dev.withIr 0x13).answered.rfld Reg.dbg_STAT 5 4 = 1 := (Dev.rfld_answered_withIr ..).trans hlocked
  have hne : (s.dev.withIr 0x13).answered.rfld Reg.dbg_STAT 5 4 ≠ 2 := by rw [hold]; decide
  have hentry := Dev.journaled_setLock hne
  rw [hold] at hentry
  subst hd
  exact ⟨Dev.lock_setLock hne (by decide), (Dev.tries_setLock hne).trans (Dev.rfld_answered_withIr ..), hentry,
    by rw [Dev.dbg_setLock]; rfl, fun k hk => (Dev.keepsRegs_setLock hne k hk).trans (Dev.reg_answered_withIr ..)⟩

/-- A wrong response counts. -/
theorem unlockResponse_counts (hwrong : r.toNat ≠ s.dev.unlockAnswer c) (hmore : s.dev.rfld Reg.dbg_STAT 9 8 < 2) :
    Completes (.unlockResponse r) s (fun d => d.rfld Reg.dbg_STAT 5 4 = s.dev.rfld Reg.dbg_STAT 5 4 ∧
      d.rfld Reg.dbg_STAT 9 8 = s.dev.rfld Reg.dbg_STAT 9 8 + 1 ∧ d.dbg.challenge = none ∧ d.jrn = s.dev.jrn ∧
      s.dev.keepsRegs d [Reg.dbg_STAT]) := by
  refine (completes_unlockResponse hon hopen hlive hasked).imp (fun d hd => ?_)
  rw [if_neg hwrong, Dev.wrongTry_of_more (d := (s.dev.withIr 0x13).answered) hmore] at hd
  subst hd
  refine ⟨(Dev.lock_triedOnce _).trans (Dev.rfld_answered_withIr ..), ?_, rfl, rfl,
    fun k hk => (Dev.keepsRegs_triedOnce _ k hk).trans (Dev.reg_answered_withIr ..)⟩
  rw [Dev.tries_triedOnce, Dev.rfld_answered_withIr]
  exact Nat.min_eq_right (Nat.succ_le_succ (Nat.le_of_lt hmore))

/-- The third wrong response locks the port out. -/
theorem unlockResponse_locks_out (hwrong : r.toNat ≠ s.dev.unlockAnswer c) (hlast : 2 ≤ s.dev.rfld Reg.dbg_STAT 9 8) :
    Completes (.unlockResponse r) s (fun d => d.rfld Reg.dbg_STAT 5 4 = 3 ∧ d.rfld Reg.dbg_STAT 9 8 = 3 ∧
      d.journaled 6 0x20 3 (toWord (s.dev.rfld Reg.dbg_STAT 5 4)) ∧ d.dbg.challenge = none ∧
      s.dev.keepsRegs d [Reg.dbg_STAT]) := by
  refine (completes_unlockResponse hon hopen hlive hasked).imp (fun d hd => ?_)
  rw [if_neg hwrong, Dev.wrongTry_of_last (d := (s.dev.withIr 0x13).answered) hlast] at hd
  have hold : (s.dev.withIr 0x13).answered.triedOnce.rfld Reg.dbg_STAT 5 4 = s.dev.rfld Reg.dbg_STAT 5 4 :=
    (Dev.lock_triedOnce _).trans (Dev.rfld_answered_withIr ..)
  have hne : (s.dev.withIr 0x13).answered.triedOnce.rfld Reg.dbg_STAT 5 4 ≠ 3 := hold ▸ hopen
  have hentry := Dev.journaled_setLock hne
  rw [hold] at hentry
  subst hd
  refine ⟨Dev.lock_setLock hne (by decide), ?_, hentry, by rw [Dev.dbg_setLock]; rfl, fun k hk => ?_⟩
  · rw [Dev.tries_setLock hne, Dev.tries_triedOnce, Dev.rfld_answered_withIr]
    exact Nat.min_eq_left (Nat.succ_le_succ hlast)
  · rw [Dev.keepsRegs_setLock hne k hk, Dev.keepsRegs_triedOnce _ k hk, Dev.reg_answered_withIr]

end Response

end Sys2Proof.Machine

namespace Sys2Proof.Machine

open Sys2Proof

/-! The loader (R436). -/

section Loader

variable {i : Instr} {s : State} {f : Dev → Dev} (hexec : exec i s = s.run (Dev.loaderDo f)) (hon : s.dev.jtagOn = true)
include hexec hon

/-- A command of the LOADER register to a hub that serves it acts. -/
theorem completes_loaderDo (hserved : s.dev.loaderServed = true) : Completes i s (· = f (s.dev.withIr 0x12)) :=
  (completes_jtagDo hexec hon rfl).imp (fun d hd => hd.trans (if_pos hserved))

/-- To another hub it only selects LOADER. -/
theorem completes_loaderDo_unserved (hserved : s.dev.loaderServed = false) :
    Completes i s (fun d => d.jtag.ir = 0x12 ∧ d = { s.dev with jtag := d.jtag }) := by
  refine (completes_jtagDo hexec hon rfl).imp (fun d hd => ?_)
  obtain rfl : d = s.dev.withIr 0x12 := hd.trans (if_neg (by rw [show (s.dev.withIr 0x12).loaderServed = _ from hserved]; decide))
  exact ⟨rfl, rfl⟩

end Loader

/-! LOADER_READ: words through the flash read window. -/

/-- What a use of the window may change. -/
def windowKeys : List Nat := [Reg.flash_RDADDR, Reg.flash_RDWORD, Reg.flash_RDINFO, Reg.flash_CECNT, Reg.flash_UECNT]

theorem toNat_toWord {n : Nat} (h : n < 2 ^ 32) : (toWord n).toNat = n := Nat.mod_eq_of_lt h

/-- A word of flash through the window: the raw word is latched, and only the window's registers may change (R259). -/
theorem Dev.windowWord_of_flash (d : Dev) (ws : List Word) {a : Nat} (hflash : a < 0x400000) (halign : a % 4 = 0) :
    ∃ rs, Dev.windowWord (d, ws) a = (d.withRegs rs, ws ++ [d.word a]) ∧ d.keepsRegs (d.withRegs rs) windowKeys := by
  have haddr : (toWord a).toNat / 4 * 4 = a := by rw [toNat_toWord (by omega)]; omega
  have hin : isFlash a = true := by simpa [isFlash] using hflash
  refine ⟨(Dev.windowWord (d, ws) a).1.regs, ?_, fun k hk => ?_⟩
  · refine Prod.ext ?_ ?_
    · simp only [Dev.windowWord, Dev.flashLatch, haddr, hin, if_true] <;> rfl
    · simp [Dev.windowWord, Dev.flashLatch, haddr, hin, Dev.count, Dev.reg_setReg, Reg.flash_RDWORD, Reg.flash_RDINFO,
        Reg.flash_CECNT, Reg.flash_UECNT] <;> rfl
  · simp only [windowKeys, List.mem_cons, List.not_mem_nil, or_false, not_or] at hk
    obtain ⟨haddrk, hword, hinfo, hce, hue⟩ := hk
    change (Dev.windowWord (d, ws) a).1.reg k = d.reg k
    simp [Dev.windowWord, Dev.flashLatch, haddr, hin, Dev.count, Dev.reg_setReg, haddrk, hword, hinfo, hce, hue]

theorem Dev.foldl_windowWord : ∀ {as : List Nat} (d : Dev) (ws : List Word), (∀ a ∈ as, a < 0x400000 ∧ a % 4 = 0) →
    ∃ rs, as.foldl Dev.windowWord (d, ws) = (d.withRegs rs, ws ++ as.map d.word) ∧ d.keepsRegs (d.withRegs rs) windowKeys
  | [], d, ws, _ => ⟨d.regs, by simp [Dev.withRegs], fun _ _ => rfl⟩
  | a :: as, d, ws, h => by
    obtain ⟨hflash, halign⟩ := h a List.mem_cons_self
    obtain ⟨rs, hfirst, hkeep⟩ := d.windowWord_of_flash ws hflash halign
    obtain ⟨rs', hrest, hkeep'⟩ := Dev.foldl_windowWord (d.withRegs rs) (ws ++ [d.word a])
      (fun x hx => h x (List.mem_cons_of_mem a hx))
    refine ⟨rs', ?_, fun k hk => (hkeep' k hk).trans (hkeep k hk)⟩
    rw [List.foldl_cons, hfirst, hrest, List.map_cons, List.append_assoc]
    rfl

/-! LOADER_ERASE and LOADER_PROGRAM: a flash job that the ledger admits at once. -/

/-- The ledger's job of a flash job of class timely (R261, R408). -/
def Dev.timelyJob (d : Dev) (op cnt : Nat) (f : FlashJob) : Job :=
  { id := d.ledger.nextJob, kind := flashKind op, cls := 1, energy := flashEnergy op cnt, hold := 0, admitted := false,
    since := d.now, overran := false, flash := some f }

/-- The device that declares the job's energy and has the job as its only one. -/
def Dev.declared (d : Dev) (op cnt : Nat) (f : FlashJob) : Dev :=
  { d.setReg Reg.flash_EDECL (toWord (flashEnergy op cnt)) with
    ledger := { d.ledger with jobs := [d.timelyJob op cnt f], nextJob := d.ledger.nextJob + 1 } }

theorem Dev.reg_declared (d : Dev) (op cnt : Nat) (f : FlashJob) {k : Nat} (hk : k ≠ Reg.flash_EDECL) :
    (d.declared op cnt f).reg k = d.reg k := (d.reg_setReg ..).trans (if_neg hk)

theorem stepKey_page {k w : Nat} (hk : k < 16) (hw : w < 4) : stepKey k w / 0x1000 = 2 := by
  unfold stepKey Reg.ledger_STEP
  omega

/-- What the plan holds is of the ledger's page and of the plan's place (R413). -/
theorem Dev.hPlan_congr {d e : Dev} (hregs : ∀ k, k / 0x1000 = 2 → e.reg k = d.reg k)
    (hnext : e.ledger.planNext = d.ledger.planNext) : e.hPlan = d.hPlan := by
  have hctl : e.reg Reg.ledger_PLANCTL = d.reg Reg.ledger_PLANCTL := hregs _ (by decide)
  have hstep (k : Nat) (hk : k ∈ List.range (fld (d.reg Reg.ledger_PLANCTL) 19 16)) {w : Nat} (hw : w < 4) :
      e.reg (stepKey k w) = d.reg (stepKey k w) :=
    hregs _ (stepKey_page ((List.mem_range.1 hk).trans (Nat.mod_lt _ (by decide))) hw)
  simp only [Dev.hPlan, hctl, hnext]
  refine if_congr Iff.rfl ?_ rfl
  rw [List.filter_congr (fun k hk => by rw [hstep k hk (by decide : 0 < 4)])]
  exact List.foldl_ext _ _ _ (fun n k hk => by rw [hstep k (List.mem_of_mem_filter hk) (by decide : 1 < 4)])

/-- A job that is not admitted holds no energy (R407). -/
theorem Dev.freeOf_declared (d : Dev) (op cnt : Nat) (f : FlashJob) (hjobs : d.ledger.jobs = []) (cls : Nat) :
    (d.declared op cnt f).freeOf cls = d.freeOf cls := by
  have hregs (k : Nat) (hk : k / 0x1000 = 2) : (d.declared op cnt f).reg k = d.reg k :=
    d.reg_declared op cnt f (by rintro rfl; revert hk; decide)
  have hplan : (d.declared op cnt f).hPlan = d.hPlan := Dev.hPlan_congr hregs rfl
  have hjob : (d.declared op cnt f).hJobs = d.hJobs := by
    rw [Dev.hJobs, Dev.hJobs, hjobs]
    rfl
  have henergy : (d.declared op cnt f).ledger.e = d.ledger.e := rfl
  simp only [Dev.freeOf, hplan, hjob, henergy, Dev.rfld, hregs Reg.ledger_RES (by decide)]

theorem flashKind_isFlash (op : Nat) : flashKind op = .flashProgram ∨ flashKind op = .flashErase ∨ flashKind op = .flashBlank := by
  unfold flashKind
  split
  · exact .inl rfl
  · split
    · exact .inr (.inl rfl)
    · exact .inr (.inr rfl)

/-- The device in which that job has begun (R262, R263, R408). -/
def Dev.flashBegun (d : Dev) (op cnt : Nat) (f : FlashJob) : Dev :=
  let j := d.timelyJob op cnt f
  let d1 := (d.declared op cnt f).updJob j.id (fun x => { x with admitted := true, hold := x.energy, since := d.now })
  (d1.setReg Reg.ledger_JSTAT (toWord ((flashKind op).ident * 256 + stServed.toNat))).flashStart f stServed

theorem Dev.flashSubmit_begins {d : Dev} (hjobs : d.ledger.jobs = []) (hstop : d.ledgerStop = false) (hflash : d.flash = none)
    {op cnt : Nat} (hfree : (flashEnergy op cnt : Int) ≤ d.freeOf 1) (dst src : Word) (jtag : Bool) (data : List Word) :
    d.flashSubmit op 1 cnt dst src jtag data = d.flashBegun op cnt ⟨BitVec.ofNat 2 op, dst, src, cnt, 0, 0, false, jtag, data⟩ := by
  generalize hf : (⟨BitVec.ofNat 2 op, dst, src, cnt, 0, 0, false, jtag, data⟩ : FlashJob) = f
  have hdeclared : { d.setReg Reg.flash_EDECL (toWord (flashEnergy op cnt)) with
      ledger := { d.ledger with jobs := d.ledger.jobs ++ [d.timelyJob op cnt f], nextJob := d.ledger.nextJob + 1 } } =
      d.declared op cnt f := by
    rw [hjobs]; rfl
  have hfits : (d.declared op cnt f).jobFits (d.timelyJob op cnt f) = true := by
    have hnone : (d.declared op cnt f).flash = none := hflash
    have hfree' : (flashEnergy op cnt : Int) ≤ (d.declared op cnt f).freeOf 1 := (d.freeOf_declared op cnt f hjobs 1).symm ▸ hfree
    have hjobFree : (d.declared op cnt f).jobFree (d.timelyJob op cnt f) = true := by
      unfold Dev.jobFree
      obtain hkind | hkind | hkind := flashKind_isFlash op <;> simp [Dev.timelyJob, hkind, hnone]
    exact Bool.and_eq_true_iff.2 ⟨hjobFree, decide_eq_true hfree'⟩
  have hadmit : (d.declared op cnt f).jobAdmit (d.timelyJob op cnt f) false = d.flashBegun op cnt f := by
    unfold Dev.jobAdmit
    obtain hkind | hkind | hkind := flashKind_isFlash op <;> simp [Dev.timelyJob, hkind, Dev.flashBegun] <;> rfl
  have hsubmit : d.flashSubmit op 1 cnt dst src jtag data =
      let e := d.declared op cnt f
      let j := d.timelyJob op cnt f
      if d.ledgerStop then e.jobRefuse j 9
      else if e.jobFits j then e.jobAdmit j false
      else if 1 ≠ 0 ∧ e.jobWait 1 = 0 ∧ e.jobFree j = true then e.jobRefuse j 3 else e := by
    rw [← hdeclared, ← hf]
    rfl
  rw [hsubmit]
  dsimp only
  rw [if_neg (by rw [hstop]; decide), if_pos hfits, hadmit]

/-- A flash job's start (R262, R263): FLASH.STAT is BUSY with the bank and the status. -/
theorem Dev.flashStart_form (d : Dev) (f : FlashJob) (st : Byte) : ∃ w, bitOf w 31 = true ∧ d.flashStart f st =
    { d.setReg Reg.flash_STAT w with
      flash := some { f with running := true }, dbg := { d.dbg with inval := d.dbg.inval || f.jtag }, flopp := true,
      floppDst := toWord f.dst.toNat } := by
  refine ⟨_, ?_, rfl⟩
  have hbank : f.dst.toNat / 0x200000 % 2 < 2 := Nat.mod_lt _ (by decide)
  have hst : st.toNat < 256 := st.isLt
  simp only [bitOf, toWord, BitVec.toNat_ofNat, beq_iff_eq]
  omega

/-- What is to be read of the job that has begun. -/
theorem Dev.flashBegun_spec (d : Dev) (op cnt : Nat) (f : FlashJob) :
    (d.flashBegun op cnt f).ledger.jobs.map (fun j => (j.cls, j.energy, j.admitted)) = [(1, flashEnergy op cnt, true)] ∧
      (d.flashBegun op cnt f).flash = some { f with running := true } ∧
      (d.flashBegun op cnt f).reg Reg.flash_EDECL = toWord (flashEnergy op cnt) ∧
      (d.flashBegun op cnt f).rbit Reg.flash_STAT 31 = true ∧ (d.flashBegun op cnt f).flopp = true ∧
      (d.flashBegun op cnt f).mem = d.mem := by
  unfold Dev.flashBegun
  dsimp only
  generalize hd1 : Dev.setReg _ Reg.ledger_JSTAT _ = d1
  have hmem : d1.mem = d.mem := by rw [← hd1]; rfl
  have hjobs : d1.ledger.jobs.map (fun j => (j.cls, j.energy, j.admitted)) = [(1, flashEnergy op cnt, true)] := by
    rw [← hd1]
    simp [Dev.updJob, Dev.updJobs, Dev.declared, Dev.timelyJob, Dev.setReg]
  have hreg : d1.reg Reg.flash_EDECL = toWord (flashEnergy op cnt) := by
    rw [← hd1, Dev.reg_setReg, if_neg (by decide), Dev.reg, Dev.updJob, Dev.updJobs_regs]
    exact (d.reg_setReg ..).trans (if_pos rfl)
  obtain ⟨w, hbusy, hform⟩ := d1.flashStart_form f stServed
  have hregs (k : Nat) : (d1.flashStart f stServed).reg k = (d1.setReg Reg.flash_STAT w).reg k := by rw [hform]; rfl
  refine ⟨?_, ?_, ?_, ?_, ?_, ?_⟩
  · rw [hform]; exact hjobs
  · rw [hform]
  · rw [hregs, Dev.reg_setReg, if_neg (by decide), hreg]
  · rw [Dev.rbit, hregs, Dev.reg_setReg, if_pos rfl, hbusy]
  · rw [hform]
  · rw [hform]; exact hmem

end Sys2Proof.Machine

namespace Sys2Proof.Machine

open Sys2Proof

/-! LOADER_LEDGER: two shadow writes and a commit of LEDGER (R43, R45, R436). -/

theorem fieldReg_CAPNF : FieldReg Reg.ledger_CAPNF := ⟨by decide, by decide, by decide, by decide⟩
theorem fieldReg_VMIN : FieldReg Reg.ledger_VMIN := ⟨by decide, by decide, by decide, by decide⟩
theorem shMask_CAPNF : shMask Reg.ledger_CAPNF = 0xFFFFFFFF := by decide
theorem shMask_VMIN : shMask Reg.ledger_VMIN = 0xFFFF := by decide

theorem fld_mergeMask_low (v w : Word) : fld (mergeMask 0xFFFF v w) 15 0 = fld v 15 0 := by
  refine Nat.eq_of_testBit_eq fun i => ?_
  rw [testBit_fld, testBit_fld]
  by_cases hi : i < 16
  · have hmask : (toWord 0xFFFF).getLsbD i = true := by
      have : ∀ j : Fin 16, (toWord 0xFFFF).getLsbD j.val = true := by decide
      exact this ⟨i, hi⟩
    simp only [BitVec.testBit_toNat, Nat.add_zero, mergeMask, BitVec.getLsbD_or, BitVec.getLsbD_and, BitVec.getLsbD_not, hmask]
    simp
  · simp [hi]

/-- The hub's own machinery writes to a page that exists, whose guard permits it and whose set it may change. -/
structure Dev.Writable (d : Dev) (p : Nat) : Prop where
  present : d.absentPage p = false
  guard : d.guardOk p .hub true = true
  unlocked : d.rbit (Reg.pgLock p) 0 = false
  own : d.otherOwns p .hub = false

theorem Dev.regWrite_shTaken {d : Dev} {k : Nat} (h : d.Writable (k / 0x1000)) (hk : FieldReg k) (hsh : shMask k ≠ 0)
    (hlv : lvMask k = 0) (hpage : k / 0x1000 ∉ [0x15, 0x16, 0x17, 0x19]) (v : Word) :
    d.regWrite .hub k v none = (d.shTaken .hub k v).served := by
  have hcommit : k ≠ Reg.pgCommit (k / 0x1000) := by
    have := hk.off
    unfold Reg.pgCommit
    omega
  simp [Dev.regWrite, h.present, Dev.heldBack, hcommit, h.guard, d.permitted_eq_fieldWrite .hub v none hk,
    Dev.fieldWrite_of_shWrite none hsh hlv hpage (Dev.shWrite_of_open v h.unlocked h.own)]

theorem Dev.commits_shTaken (d : Dev) (src : Src) (k : Nat) (v : Word) :
    (d.shTaken src k v).pages.commits = d.pages.commits := by
  dsimp only [Dev.shTaken]
  split <;> rfl

/-- The set that a shadow write has taken is still the writer's world's. -/
theorem Dev.Writable.shTaken {d : Dev} {k : Nat} (h : d.Writable (k / 0x1000)) (v : Word) :
    (d.shTaken .hub k v).Writable (k / 0x1000) := by
  have hown : (d.shTaken .hub k v).otherOwns (k / 0x1000) .hub = false := by
    have h' := h.own
    unfold Dev.otherOwns at h' ⊢
    cases howner : d.owner (k / 0x1000) with
    | none => rw [Dev.owner_shTaken _ _ howner]; rfl
    | some w =>
      have hsame : (d.shTaken .hub k v).owner (k / 0x1000) = some w := by simp [Dev.shTaken, howner]
      rw [hsame]
      rwa [howner] at h'
  obtain ⟨sh, pg, hform⟩ := d.shTaken_form .hub k v
  exact ⟨by rw [hform]; exact h.present, by rw [hform]; exact h.guard, by rw [hform]; exact h.unlocked, hown⟩

/-- The device whose shadow set of LEDGER has taken CAPNF and VMIN. -/
def Dev.ledgerTaken (d : Dev) (capnf vmin : Word) : Dev :=
  (d.shTaken .hub Reg.ledger_CAPNF capnf).shTaken .hub Reg.ledger_VMIN vmin

section Ledger

variable {d : Dev} (capnf vmin : Word)

theorem Dev.regWrite_CAPNF (h : d.Writable 2) : d.regWrite .hub Reg.ledger_CAPNF capnf none =
    (d.shTaken .hub Reg.ledger_CAPNF capnf).served :=
  Dev.regWrite_shTaken (k := Reg.ledger_CAPNF) h fieldReg_CAPNF (by decide) (by decide) (by decide) capnf

theorem Dev.regWrite_VMIN (h : d.Writable 2) : (d.shTaken .hub Reg.ledger_CAPNF capnf).regWrite .hub Reg.ledger_VMIN vmin none =
    (d.ledgerTaken capnf vmin).served := by
  have htaken : (d.shTaken .hub Reg.ledger_CAPNF capnf).Writable 2 :=
    Dev.Writable.shTaken (k := Reg.ledger_CAPNF) h capnf
  exact Dev.regWrite_shTaken (k := Reg.ledger_VMIN) htaken fieldReg_VMIN (by decide) (by decide) (by decide) vmin

theorem Dev.shad_ledgerTaken_CAPNF : (d.ledgerTaken capnf vmin).shad Reg.ledger_CAPNF = capnf := by
  rw [Dev.ledgerTaken, Dev.shad_shTaken, if_neg (by decide), Dev.shad_shTaken, if_pos rfl, shMask_CAPNF, mergeMask_full]

theorem Dev.fld_shad_ledgerTaken_VMIN : fld ((d.ledgerTaken capnf vmin).shad Reg.ledger_VMIN) 15 0 = fld vmin 15 0 := by
  rw [Dev.ledgerTaken, Dev.shad_shTaken, if_pos rfl, shMask_VMIN, fld_mergeMask_low]

theorem Dev.ledgerTaken_form : ∃ sh pg, d.ledgerTaken capnf vmin = { d with shadow := sh, pages := pg } := by
  obtain ⟨sh, pg, h⟩ := d.shTaken_form .hub Reg.ledger_CAPNF capnf
  obtain ⟨sh', pg', h'⟩ := (d.shTaken .hub Reg.ledger_CAPNF capnf).shTaken_form .hub Reg.ledger_VMIN vmin
  exact ⟨sh', pg', by rw [Dev.ledgerTaken, h', h]⟩

theorem Dev.commits_ledgerTaken : (d.ledgerTaken capnf vmin).pages.commits = d.pages.commits :=
  (Dev.commits_shTaken ..).trans (Dev.commits_shTaken ..)

end Ledger

theorem Dev.commitReq_status_of_passed {d : Dev} {src : Src} {p : Nat} {v : Word} (hcheck : d.commitCheck src p v = (0, 0))
    (htouched : d.touched p = true) (hframe : isFramePage p = false)
    (hroom : d.jRoom ((d.changed p).length + 1) = true) : (d.commitReq src p v none).2 = some stServed := by
  have hlen : (d.commitEntries src p v (d.changed p)).length = (d.changed p).length + 1 := by simp [Dev.commitEntries]
  have hroom' : (d.captured src p v).jRoom (d.commitEntries src p v (d.changed p)).length = true := by rw [hlen]; exact hroom
  simp only [Dev.captured, Dev.capture, Dev.withCommits] at hroom'
  simp [Dev.commitReq, hcheck, htouched, hframe, hroom']

/-- A COMMIT that passes every check and finds its places, of an immediate page with no commit that waits. -/
theorem Dev.commitReq_spec {d : Dev} {src : Src} {p : PageId} {v : Word} (hlet : d.letsWrite src (Reg.pgCommit p.val))
    (hcheck : d.commitCheck src p.val v = (0, 0)) (htouched : d.touched p.val = true) (hframe : isFramePage p.val = false)
    (hflash : p.val ≠ 0x11) (hroom : d.jRoom ((d.changed p.val).length + 1) = true) (hnone : d.pages.commits = []) :
    (d.commitReq src p.val v none).1.pages.commits = [{ d.capture src p.val v with admitted := true }] ∧
      (d.commitReq src p.val v none).1.shadow = d.shadow ∧ (d.commitReq src p.val v none).1.mem = d.mem ∧
      (d.commitReq src p.val v none).1.jtag = d.jtag := by
  let s : State := ⟨[], d⟩
  have hwaits : firstWaiting p.val s.dev.pages.commits = none := by rw [hnone]; rfl
  obtain ⟨e, he, -, hcommits, -, -, -, -, hsame⟩ := (completes_pgCommit (s := s) hlet).agree
    (pgCommit_accepted (s := s) hlet hcheck htouched hframe hflash hroom hwaits)
  rw [← he]
  refine ⟨by rw [hcommits, hnone]; rfl, ?_, ?_, ?_⟩
  · rw [hsame]
  · rw [hsame]
  · rw [hsame]

theorem Dev.regWrite_pgCommit {d : Dev} {p : Nat} (hpage : d.absentPage p = false) (v : Word) :
    d.regWrite .hub (Reg.pgCommit p) v none = d.commitReq .hub p v none := by
  simp [Dev.regWrite, pgCommit_page, hpage, Dev.heldBack]

/-- LOADER_LEDGER gives LEDGER's shadow set both words and commits it (R436). -/
theorem loaderLedger_commits {s : State} (capnf vmin : Word) (hon : s.dev.jtagOn = true) (hserved : s.dev.loaderServed = true)
    (hlet : s.dev.letsWrite .hub Reg.ledger_CAPNF) (hlock : s.dev.rbit (Reg.pgLock 2) 0 = false)
    (hown : s.dev.otherOwns 2 .hub = false)
    (hcheck : ((s.dev.withIr 0x12).ledgerTaken capnf vmin).commitCheck .hub 2 0xC5000000 = (0, 0))
    (hroom : ((s.dev.withIr 0x12).ledgerTaken capnf vmin).jRoom
      ((((s.dev.withIr 0x12).ledgerTaken capnf vmin).changed 2).length + 1) = true) :
    Completes (.loaderLedger capnf vmin) s (· =
      (((s.dev.withIr 0x12).ledgerTaken capnf vmin).commitReq .hub 2 0xC5000000 none).1.jtagOut (some stServed) []) := by
  obtain ⟨-, -, hpage, -, hguard⟩ := hlet
  have hwritable : (s.dev.withIr 0x12).Writable 2 := ⟨hpage, hguard, hlock, hown⟩
  obtain ⟨sh, pg, hform⟩ := Dev.ledgerTaken_form (d := s.dev.withIr 0x12) capnf vmin
  have hpage' : ((s.dev.withIr 0x12).ledgerTaken capnf vmin).absentPage 2 = false := by rw [hform]; exact hpage
  have hstatus := Dev.commitReq_status_of_passed hcheck (Dev.touched_shTaken (k := Reg.ledger_VMIN) ..) rfl hroom
  refine (completes_loaderDo rfl hon hserved).imp (fun d hd => hd.trans ?_)
  simp only [Dev.regWrite_CAPNF capnf hwritable, Dev.served, Dev.regWrite_VMIN capnf vmin hwritable,
    Dev.regWrite_pgCommit hpage', hstatus]
  rfl

end Sys2Proof.Machine

namespace Sys2Proof.Machine

open Sys2Proof

/-! The clauses of the loader. -/

section LoaderClauses

variable {s : State} (hon : s.dev.jtagOn = true) (hserved : s.dev.loaderServed = true)
include hon hserved

theorem loaderLedger_spec {v addr : Word}
    (hlet : s.dev.letsWrite .hub Reg.ledger_CAPNF) (hlock : s.dev.rbit (Reg.pgLock 2) 0 = false)
    (hown : s.dev.otherOwns 2 .hub = false) {e : Dev}
    (he : (((s.dev.jtagSelect 0x12).regWrite .hub Reg.ledger_CAPNF v none).1.regWrite .hub Reg.ledger_VMIN addr none).1 = e)
    (hcheck : e.commitCheck .hub 2 0xC5000000 = (0, 0)) (hroom : e.jRoom ((e.changed 2).length + 1) = true)
    (hnone : s.dev.pages.commits = []) :
    Completes (.loaderLedger v addr) s (fun d => (d.jtag.status = some 0 ∧ d.jtag.ir = 0x12) ∧ d.shad Reg.ledger_CAPNF = v ∧
      fld (d.shad Reg.ledger_VMIN) 15 0 = fld addr 15 0 ∧
      d.pages.commits.map (fun c => (c.page, c.admitted, c.vals.map (fun x => x.1))) = [(2, true, e.changed 2)] ∧
      (∀ k w c, c ∈ d.pages.commits → (k, w) ∈ c.vals → k = Reg.ledger_CAPNF → w = v) ∧ d.mem = s.dev.mem) := by
  obtain ⟨hlive, -, hpage, -, hguard⟩ := id hlet
  have hwritable : (s.dev.withIr 0x12).Writable 2 := ⟨hpage, hguard, hlock, hown⟩
  obtain rfl : (s.dev.withIr 0x12).ledgerTaken v addr = e := by
    rw [← he, Dev.jtagSelect_of_avail rfl, Dev.regWrite_CAPNF v hwritable]
    exact (congrArg Prod.fst (Dev.regWrite_VMIN v addr hwritable)).symm
  obtain ⟨sh, pg, hform⟩ := Dev.ledgerTaken_form (d := s.dev.withIr 0x12) v addr
  have hletCommit : ((s.dev.withIr 0x12).ledgerTaken v addr).letsWrite .hub (Reg.pgCommit 2) := by
    rw [hform]
    exact ⟨hlive, rfl, hpage, rfl, hguard⟩
  obtain ⟨hcommits, hshadow, hmem, hjtag⟩ := Dev.commitReq_spec (p := 2) hletCommit hcheck
    (Dev.touched_shTaken (k := Reg.ledger_VMIN) ..) rfl (by decide) hroom ((Dev.commits_ledgerTaken ..).trans hnone)
  refine (loaderLedger_commits v addr hon hserved hlet hlock hown hcheck hroom).imp (fun d hd => ?_)
  have hshad (k : Nat) : d.shad k = ((s.dev.withIr 0x12).ledgerTaken v addr).shad k := by
    rw [hd, Dev.shad, Dev.shad]
    exact congrArg (mapGet regReset · k) hshadow
  have hpages : d.pages.commits = [{ ((s.dev.withIr 0x12).ledgerTaken v addr).capture .hub 2 0xC5000000 with admitted := true }] := by
    rw [hd]
    exact hcommits
  refine ⟨⟨by rw [hd, Dev.jtagOut_status]; rfl, ?_⟩, ?_, ?_, ?_, ?_, ?_⟩
  · rw [hd, Dev.jtagOut_ir]
    exact (congrArg Jtag.ir hjtag).trans (by rw [hform]; rfl)
  · rw [hshad, Dev.shad_ledgerTaken_CAPNF]
  · rw [hshad, Dev.fld_shad_ledgerTaken_VMIN]
  · simp [hpages, Dev.capture, Function.comp_def]
  · intro k w c hc hkw hk
    rw [hpages, List.mem_singleton] at hc
    subst hc hk
    simp only [Dev.capture, List.mem_map, Prod.mk.injEq] at hkw
    obtain ⟨k, -, rfl, rfl⟩ := hkw
    rw [Dev.ifCommitted, Dev.shad_ledgerTaken_CAPNF, shMask_CAPNF, mergeMask_full]
  · rw [hd, Dev.jtagOut_mem]
    exact hmem.trans (by rw [hform]; rfl)

/-- A job of the loader on a free flash begins at once, with the ledger's status in FLASH.STAT (R261, R436). -/
theorem loaderJob_begins {i : Instr} {op dst : Nat} {data : List Word}
    (hexec : exec i s = s.run (Dev.loaderDo (Dev.loaderJob op dst data))) (hin : dst < 0x400000)
    (hjobs : s.dev.ledger.jobs = []) (hstop : s.dev.ledgerStop = false) (hflash : s.dev.flash = none)
    (hfree : (flashEnergy op 1 : Int) ≤ s.dev.freeOf 1) :
    Completes i s (fun d => d.ledger.jobs.map (fun j => (j.cls, j.energy, j.admitted)) = [(1, flashEnergy op 1, true)] ∧
      d.flash = some ⟨BitVec.ofNat 2 op, toWord dst, 0, 1, 0, 0, true, false, data⟩ ∧
      d.reg Reg.flash_EDECL = toWord (flashEnergy op 1) ∧ d.rbit Reg.flash_STAT 31 = true ∧ d.flopp = true ∧
      d.mem = s.dev.mem) := by
  refine (completes_loaderDo hexec hon hserved).imp (fun d hd => ?_)
  have hisFlash : isFlash dst = true := by simpa [isFlash] using hin
  have hbegins := Dev.flashSubmit_begins (d := s.dev.withIr 0x12) hjobs hstop hflash hfree (toWord dst) 0 false data
  rw [Dev.loaderJob, if_pos hisFlash, hbegins] at hd
  subst hd
  exact Dev.flashBegun_spec ..

/-- LOADER_READ returns the row as it is stored, and only the window's registers may change. -/
theorem loaderRead_row {addr : Word} (hin : addr.toNat < 0x400000) :
    Completes (.loaderRead addr) s (fun d => (d.jtag.status = some 0 ∧ d.jtag.ir = 0x12) ∧
      d.jtag.dataOut = (List.range 8).map (fun i => s.dev.word (addr.toNat / 32 * 32 + 4 * i)) ∧ d.mem = s.dev.mem ∧
      s.dev.keepsRegs d windowKeys) := by
  refine (completes_loaderDo rfl hon hserved).imp (fun d hd => ?_)
  have hrow : ∀ a ∈ (List.range 8).map (fun i => addr.toNat / 32 * 32 + 4 * i), a < 0x400000 ∧ a % 4 = 0 := by
    intro a ha
    obtain ⟨i, hi, rfl⟩ := List.mem_map.1 ha
    have := List.mem_range.1 hi
    omega
  obtain ⟨rs, hfold, hkeep⟩ := Dev.foldl_windowWord (s.dev.withIr 0x12) [] hrow
  dsimp only at hd
  rw [hfold] at hd
  subst hd
  refine ⟨⟨rfl, rfl⟩, ?_, rfl, fun k hk => hkeep k hk⟩
  rw [Dev.jtagOut_dataOut, List.nil_append, List.map_map]
  rfl

/-- LOADER_OTPWRITE only sets bits of its word (R444). -/
theorem loaderOtpwrite_sets {addr : Word} (v : Word) (hin : addr.toNat < 0x1000) :
    let a := 0x50000000 + addr.toNat / 4 * 4
    Completes (.loaderOtpwrite addr v) s (fun d => (d.jtag.status = some 0 ∧ d.jtag.ir = 0x12) ∧
      d.word a = s.dev.word a ||| v ∧ (d.code a).setWidth 7 = ecc (s.dev.word a ||| v) (toWord a) ∧
      (∀ b, (b < a ∨ a + 4 ≤ b) → d.byte b = s.dev.byte b) ∧ d.regs = s.dev.regs) := by
  intro a
  have hotp : isOtp a = true := by
    simp only [isOtp, a, Bool.and_eq_true, decide_eq_true_eq]
    omega
  refine (completes_loaderDo rfl hon hserved).imp (fun d hd => ?_)
  replace hd : d = ((s.dev.withIr 0x12).putWord a (s.dev.word a ||| v)).jtagOut (some stServed) [] := hd.trans (if_pos hotp)
  have hmem : d.mem = ((s.dev.withIr 0x12).putWord a (s.dev.word a ||| v)).mem := by rw [hd, Dev.jtagOut_mem]
  have hcodes : d.codes = ((s.dev.withIr 0x12).putWord a (s.dev.word a ||| v)).codes := by rw [hd, Dev.jtagOut_codes]
  refine ⟨⟨by rw [hd, Dev.jtagOut_status]; rfl, ?_⟩, ?_, ?_, fun b hb => ?_, ?_⟩
  · rw [hd, Dev.jtagOut_ir, Dev.putWord_jtag]
    rfl
  · rw [Dev.word_congr_mem hmem, Dev.word_putWord_same]
  · rw [Dev.code, hcodes]
    exact Dev.code_putWord_same ..
  · rw [Dev.byte_congr hmem, Dev.byte_putWord_of_outside _ _ hb]
    rfl
  · rw [hd, Dev.jtagOut_regs, Dev.putWord_regs]
    rfl

theorem loaderOtpwrite_absent {addr : Word} (v : Word) (hout : 0x1000 ≤ addr.toNat) :
    Completes (.loaderOtpwrite addr v) s (· = (s.dev.withIr 0x12).jtagOut (some 0x26) []) := by
  have hotp : isOtp (0x50000000 + addr.toNat / 4 * 4) = false := by
    simp only [isOtp, Bool.and_eq_false_iff, decide_eq_false_iff_not]
    omega
  refine (completes_loaderDo rfl hon hserved).imp (fun d hd => hd.trans ?_)
  exact if_neg (by rw [hotp]; decide)

/-- LOADER_JREAD of an entry that the ring holds, and of another one (R436). -/
theorem completes_loaderJread (v : Word) : Completes (.loaderJread v) s (· =
    if s.dev.holdsEntry v then (s.dev.withIr 0x12).jtagOut (some 0) (s.dev.readRecord (slotAddr (s.dev.slotOf v))).1
    else (s.dev.withIr 0x12).jtagOut (some 0x26) []) :=
  (completes_loaderDo rfl hon hserved).imp (fun d hd => hd)

/-- LOADER_BOOT goes on with the image check, unless Puffball is in control. -/
theorem loaderBoot_goes_on (hfree : s.dev.puffActive = false) : Completes .loaderBoot s (fun d =>
    (d.jtag.status = some 0 ∧ d.jtag.ir = 0x12) ∧ d.phase = .imgCheck ∧ d.rbit Reg.boot_STAT 16 = false ∧
      d.rfld Reg.boot_STAT 15 8 = 0 ∧ d.cs = .idle ∧ d.mem = s.dev.mem ∧ d.time = s.dev.time) := by
  have hfree' : (s.dev.withIr 0x12).puffActive = false := hfree
  refine (completes_loaderDo rfl hon hserved).imp (fun d hd => ?_)
  rw [hfree', if_neg (by decide)] at hd
  have hreg : d.reg Reg.boot_STAT = setFld (setBit (s.dev.reg Reg.boot_STAT) 16 false) 15 8 0 := by
    have hregs : d.regs = (((s.dev.withIr 0x12).setBitR Reg.boot_STAT 16 false).setFldR Reg.boot_STAT 15 8 0).regs := by
      rw [hd, Dev.jtagOut_regs]
    rw [Dev.reg, hregs, ← Dev.reg, Dev.reg_setFldR, if_pos rfl, Dev.reg_setBitR, if_pos rfl]
    rfl
  refine ⟨⟨by rw [hd]; rfl, by rw [hd]; rfl⟩, by rw [hd], ?_, ?_, by rw [hd],
    by rw [hd, Dev.jtagOut_mem, Dev.setFldR_mem, Dev.setBitR_mem, Dev.withIr, Dev.updJtag_mem],
    by rw [hd, Dev.jtagOut_time, Dev.setFldR_time, Dev.setBitR_time, Dev.withIr, Dev.updJtag_time]⟩
  · rw [Dev.rbit, hreg, bitOf_setFld_of_disjoint _ _ (by decide) (by decide) (by decide) (.inr (by decide)),
      bitOf_setBit _ _ (by decide) (by decide), if_pos rfl]
  · rw [Dev.rfld, hreg, fld_setFld_same _ _ (by decide) (by decide), Nat.zero_mod]

theorem loaderBoot_refused (hpuff : s.dev.puffActive = true) : Completes .loaderBoot s (fun d =>
    (d.jtag.status = some 0x22 ∧ d.jtag.ir = 0x12) ∧ d.phase = .service) := by
  have hpuff' : (s.dev.withIr 0x12).puffActive = true := hpuff
  have hphase : s.dev.phase = .service := by
    have h := hserved
    simp only [Dev.loaderServed, Bool.and_eq_true, beq_iff_eq] at h
    exact h.1
  refine (completes_loaderDo rfl hon hserved).imp (fun d hd => ?_)
  rw [hpuff', if_pos rfl] at hd
  subst hd
  exact ⟨⟨rfl, rfl⟩, hphase⟩

end LoaderClauses

/-- Settles O59: the unlock is judged against the challenge drawn last, and each loader command is its own operation of the
hub. -/
theorem unlockAndLoader : Obligations.UnlockAndLoader := by
  refine ⟨fun s hon => ⟨fun hout noise r => ?_, fun hopen hlive => ⟨fun noise => ?_, fun r hnone => ?_, fun r c hasked =>
      ⟨unlockResponse_opens hon hopen hlive hasked, unlockResponse_counts hon hopen hlive hasked,
        unlockResponse_locks_out hon hopen hlive hasked⟩⟩⟩,
    fun s addr v data hon => ⟨fun hserved i hi => ?_, fun hserved => ⟨?_, ?_, ?_, ?_, ?_, ?_, ?_⟩⟩⟩
  · have hav : s.dev.jtagAvail 0x13 = false := by simpa [Dev.jtagAvail] using hout
    have hbypass (d : Dev) (hd : d = s.dev.bypassed) : d.dbg = s.dev.dbg ∧ d.regs = s.dev.regs ∧ d.jtag.ir = 0x1F := by
      subst hd
      exact ⟨rfl, rfl, rfl⟩
    exact ⟨(completes_jtagDo_absent rfl hon hav).imp hbypass, (completes_jtagDo_absent rfl hon hav).imp hbypass⟩
  · have hlive' : (s.dev.withIr 0x13).live = true := hlive
    refine (completes_jtagDo rfl hon (unlockAvail hopen)).imp (fun d hd => ?_)
    rw [hd, dueIf, if_pos hlive']
    exact ⟨rfl, rfl, rfl, rfl⟩
  · refine (completes_unlockResponse_unasked hon hopen hnone).imp (fun d hd => ?_)
    subst hd
    exact ⟨rfl, rfl, rfl⟩
  · simp only [List.mem_cons, List.not_mem_nil, or_false] at hi
    obtain rfl | rfl | rfl | rfl | rfl | rfl | rfl := hi
    all_goals exact completes_loaderDo_unserved rfl hon hserved
  · intro e hlet hlock hown hcheck hroom hnone
    exact loaderLedger_spec hon hserved hlet hlock hown rfl hcheck hroom hnone
  · intro hin hjobs hstop hflash sec row
    refine ⟨fun hfree => ?_, fun hfree hlen => ?_, loaderRead_row hon hserved hin⟩
    · exact loaderJob_begins hon hserved (op := 2) rfl (by omega) hjobs hstop hflash hfree
    · have hdata : eightWords data = data := by
        rw [eightWords, List.take_append_of_le_length (by omega), List.take_of_length_le (by omega)]
      have hexec : exec (.loaderProgram addr data) s = s.run (Dev.loaderDo (Dev.loaderJob 1 row (eightWords data))) := rfl
      rw [hdata] at hexec
      exact loaderJob_begins hon hserved (op := 1) hexec (by omega) hjobs hstop hflash hfree
  · intro a
    refine ⟨fun hin => loaderOtpwrite_sets hon hserved v hin, fun hout => (loaderOtpwrite_absent hon hserved v hout).imp
      (fun d hd => ?_)⟩
    subst hd
    exact ⟨⟨rfl, rfl⟩, rfl⟩
  · intro hheld
    refine (completes_loaderJread hon hserved v).imp (fun d hd => ?_)
    rw [if_pos hheld] at hd
    subst hd
    exact ⟨⟨rfl, rfl⟩, rfl, rfl⟩
  · intro hgone
    refine (completes_loaderJread hon hserved v).imp (fun d hd => ?_)
    rw [if_neg (by rw [hgone]; decide)] at hd
    subst hd
    exact ⟨⟨rfl, rfl⟩, rfl⟩
  · exact loaderBoot_goes_on hon hserved
  · exact loaderBoot_refused hon hserved

end Sys2Proof.Machine

namespace Sys2Proof.Machine

open Sys2Proof

/-! A HUB-scope reset (R390, R425, R426, R429). -/

/-- Kept registers are written one after another: each has its kept bits, and every other register is as it was. -/
theorem Dev.reg_each_keepReg (old : Dev) : ∀ (ks : List Nat) (r : Dev) (k : Nat),
    (Dev.each (fun k r => Dev.keepReg old k r) ks r).reg k = if k ∈ ks then keptBits k (old.reg k) else r.reg k
  | [], _, _ => rfl
  | j :: ks, r, k => by
    have hstep : (Dev.keepReg old j r).reg k = if k = j then keptBits k (old.reg k) else r.reg k := by
      rw [Dev.keepReg, Dev.reg_setReg]
      split
      · next h => rw [h]
      · rfl
    rw [Dev.each, Dev.reg_each_keepReg old ks, hstep]
    by_cases hin : k ∈ ks
    · rw [if_pos hin, if_pos (List.mem_cons_of_mem j hin)]
    · rw [if_neg hin]
      refine if_congr ?_ rfl rfl
      rw [List.mem_cons, or_iff_left hin]

/-- The registers alone are written. -/
theorem Dev.each_keepReg_form (old : Dev) : ∀ (ks : List Nat) (r : Dev),
    ∃ rs, Dev.each (fun k r => Dev.keepReg old k r) ks r = r.withRegs rs
  | [], r => ⟨r.regs, rfl⟩
  | k :: ks, r => by
    obtain ⟨rs, h⟩ := Dev.each_keepReg_form old ks (Dev.keepReg old k r)
    exact ⟨rs, by rw [Dev.each, h]; rfl⟩

/-- The device that a HUB-scope reset starts from, before the kept registers have their bits back. -/
def Dev.coldStart (d : Dev) : Dev :=
  { Dev.reset with
    mem := mapKeep keepsMem d.mem, codes := mapKeep keepsMem d.codes, freeCtr := d.freeCtr, frnum := d.frnum,
    refreshW := { Dev.reset.refreshW with late := d.refreshW.late }, flopp := d.flopp, floppDst := d.floppDst, jdup := d.jdup, jtag := d.jtag,
    ledger := { Dev.ledgerReset with resid := d.ledger.resid },
    phase := .pllWait, phaseDue := 8000 }

section HubReset

variable {d : Dev} (hflash : d.flash = none) (src : Nat)
include hflash

/-- With no flash job under way nothing is torn (R263). -/
theorem Dev.hubReset_eq : d.hubReset src =
    let r1 := Dev.each (fun k r => Dev.keepReg d k r) retainedKeys d.coldStart
    let r2 := (r1.setFldR Reg.rst_LAST 7 0 src).setShad Reg.pwr_WAKECFG (r1.reg Reg.pwr_WAKECFG)
    { r2 with boot := { r2.boot with resetSrc := BitVec.ofNat 8 src } } := by
  have htear : d.tearFlash = d := by rw [Dev.tearFlash, hflash]
  rw [Dev.hubReset, htear]
  rfl

theorem Dev.hubReset_form : d.hubReset src =
    { d.coldStart with
      regs := (d.hubReset src).regs, shadow := (d.hubReset src).shadow
      boot := { Dev.reset.boot with resetSrc := BitVec.ofNat 8 src } } := by
  obtain ⟨rs, hform⟩ := Dev.each_keepReg_form d retainedKeys d.coldStart
  rw [Dev.hubReset_eq hflash, hform]
  rfl

theorem Dev.reg_hubReset (k : Nat) : (d.hubReset src).reg k =
    if k = Reg.rst_LAST then setFld (keptBits k (d.reg k)) 7 0 src
    else if k ∈ retainedKeys then keptBits k (d.reg k) else regReset k := by
  have hlast : (d.hubReset src).reg k =
      ((Dev.each (fun k r => Dev.keepReg d k r) retainedKeys d.coldStart).setFldR Reg.rst_LAST 7 0 src).reg k := by
    rw [Dev.hubReset_eq hflash]
    rfl
  rw [hlast, Dev.reg_setFldR, Dev.reg_each_keepReg, Dev.reg_each_keepReg]
  split
  · next h => rw [h, if_pos (by decide)]
  · rfl

end HubReset

/-! What a reset keeps of the stored words. -/

theorem keepsMem_of_isSram {a : Nat} (h : isSram a = true) : keepsMem a = false := by
  simp only [isSram, keepsMem, isFlash, isRetn, isOtp, Bool.and_eq_true, Bool.or_eq_false_iff, Bool.and_eq_false_iff,
    decide_eq_true_eq, decide_eq_false_iff_not] at h ⊢
  omega

theorem Dev.byte_coldStart (d : Dev) (a : Nat) : d.coldStart.byte a = if keepsMem a then d.byte a else memDflt a :=
  mapGet_mapKeep ..

theorem Dev.code_coldStart (d : Dev) (a : Nat) : d.coldStart.code a = if keepsMem a then d.code a else codeDflt a :=
  mapGet_mapKeep ..

theorem memDflt_of_isSram {a : Nat} (h : isSram a = true) : memDflt a = Config.sramPowerOn a := by
  rw [memDflt, isFlash_of_isSram h, if_neg (by decide), if_pos h]

/-- The registers of which a reset keeps some bits only. -/
def partlyKept : List Nat :=
  [Reg.pwr_WAKECFG, Reg.pwr_SUPSTAT, Reg.pwr_STAT, Reg.release_RSTCNT, Reg.rst_LAST, Reg.dbg_STAT]

theorem keptBits_of_whole {k : Nat} (hk : k ∉ partlyKept) (w : Word) : keptBits k w = w := by
  simp only [partlyKept, List.mem_cons, List.not_mem_nil, or_false, not_or] at hk
  simp [keptBits, hk]

/-- A device that a HUB-scope reset of `d` leaves, but for its registers, shadow values, phase and boot record. -/
def Dev.ColdFrom (d e : Dev) : Prop :=
  ∃ rs sh ph b, e = { d.coldStart with regs := rs, shadow := sh, phase := ph, boot := b }

/-- The device in another phase. -/
def Dev.inPhase (d : Dev) (ph : Phase) : Dev := { d with phase := ph }

theorem Dev.reg_inPhase (d : Dev) (ph : Phase) (k : Nat) : (d.inPhase ph).reg k = d.reg k := rfl

namespace Dev.ColdFrom

theorem hubReset {d : Dev} (hflash : d.flash = none) (src : Nat) : d.ColdFrom (d.hubReset src) :=
  ⟨_, _, _, _, Dev.hubReset_form hflash src⟩

theorem setReg {d e : Dev} (h : d.ColdFrom e) (k : Nat) (v : Word) : d.ColdFrom (e.setReg k v) := by
  obtain ⟨rs, sh, ph, b, rfl⟩ := h
  exact ⟨_, sh, ph, b, rfl⟩

theorem inPhase {d e : Dev} (h : d.ColdFrom e) (ph : Phase) : d.ColdFrom (e.inPhase ph) := by
  obtain ⟨rs, sh, -, b, rfl⟩ := h
  exact ⟨rs, sh, ph, b, rfl⟩

end Dev.ColdFrom

/-- A cold start whose registers are those of a reset, but for kept ones that `restarted` shows nothing of. -/
theorem Dev.ColdFrom.restarted {d e : Dev} {src : Nat} (h : d.ColdFrom e) (hflash : d.flash = none) (hsrc : src < 256)
    (hregs : ∀ k, k ∉ [Reg.pwr_STAT, Reg.pwr_SUPSTAT, Reg.dbg_STAT] → e.reg k = (d.hubReset src).reg k) :
    d.restarted e src := by
  obtain ⟨rs, sh, ph, b, rfl⟩ := h
  have hkept (k : Nat) (hk : k ∉ [Reg.pwr_STAT, Reg.pwr_SUPSTAT, Reg.dbg_STAT]) (hlast : k ≠ Reg.rst_LAST)
      (hin : k ∈ retainedKeys) (hwhole : k ∉ partlyKept) :
      Dev.reg { d.coldStart with regs := rs, shadow := sh, phase := ph, boot := b } k = d.reg k := by
    rw [hregs k hk, Dev.reg_hubReset hflash, if_neg hlast, if_pos hin, keptBits_of_whole hwhole]
  refine ⟨?_, rfl, rfl, rfl, rfl, rfl, Tri.get_const _, Tri.get_const _, rfl, rfl, rfl, fun a ha => ?_, fun a ha => ?_,
    fun k hk => ?_, ?_, ?_, fun i => ?_⟩
  · rw [Dev.rfld, hregs _ (by decide), Dev.reg_hubReset hflash, if_pos rfl, fld_setFld_same _ _ (by decide) (by decide)]
    exact Nat.mod_eq_of_lt hsrc
  · exact ⟨(d.byte_coldStart a).trans (if_pos ha), (d.code_coldStart a).trans (if_pos ha)⟩
  · refine (d.byte_coldStart a).trans ?_
    rw [keepsMem_of_isSram ha, if_neg (by decide), memDflt_of_isSram ha]
  · have hother : ∀ j ∈ Reg.rst_LAST :: [Reg.pwr_STAT, Reg.pwr_SUPSTAT, Reg.dbg_STAT], j ∈ retainedKeys := by decide
    rw [hregs k (fun h => hk (hother k (List.mem_cons_of_mem _ h))), Dev.reg_hubReset hflash,
      if_neg (by rintro rfl; exact hk (hother _ List.mem_cons_self)), if_neg hk]
  · exact hkept _ (by decide) (by decide) (by decide) (by decide)
  · exact hkept _ (by decide) (by decide) (by decide) (by decide)
  · have hcount : ∀ i : Fin 8, Reg.ledger_ECNT i.val ∉ [Reg.pwr_STAT, Reg.pwr_SUPSTAT, Reg.dbg_STAT] ∧
        Reg.ledger_ECNT i.val ≠ Reg.rst_LAST ∧ Reg.ledger_ECNT i.val ∈ retainedKeys ∧ Reg.ledger_ECNT i.val ∉ partlyKept := by
      decide
    obtain ⟨hnot, hlast, hin, hwhole⟩ := hcount i
    exact hkept _ hnot hlast hin hwhole

/-- A reset keeps the memories, the frame number, the journal's pointers and the energy counts; of the rest of the device
before it nothing matters. -/
theorem Dev.restarted.congr {d d' e : Dev} {src : Nat} (h : d'.restarted e src) (hmem : d'.mem = d.mem)
    (hcodes : d'.codes = d.codes) (hfrnum : d'.frnum = d.frnum)
    (hregs : ∀ k ∈ Reg.jrnl_HEAD :: Reg.jrnl_COUNT :: (List.range 8).map Reg.ledger_ECNT, d'.reg k = d.reg k) :
    d.restarted e src := by
  obtain ⟨hsrc, hnow, hdue, hcs, hframes, hfr, hcopy, hlink, hcmp, hflash, hjobs, hkept, hsram, hreset, hhead, hcount, hecnt⟩ := h
  refine ⟨hsrc, hnow, hdue, hcs, hframes, hfr.trans hfrnum, hcopy, hlink, hcmp, hflash, hjobs, fun a ha => ?_, hsram, hreset,
    hhead.trans (hregs _ (by decide)), hcount.trans (hregs _ (by decide)), fun i => (hecnt i).trans (hregs _ ?_)⟩
  · obtain ⟨hbyte, hcode⟩ := hkept a ha
    exact ⟨hbyte.trans (Dev.byte_congr hmem a), hcode.trans (congrArg (mapGet codeDflt · a) hcodes)⟩
  · exact List.mem_cons_of_mem _ (List.mem_cons_of_mem _ (List.mem_map_of_mem (List.mem_range.2 i.isLt)))

/-- A reset on its own. -/
theorem Dev.restarted_hubReset {d : Dev} {src : Nat} (hflash : d.flash = none) (hsrc : src < 256) :
    d.restarted (d.hubReset src) src :=
  (Dev.ColdFrom.hubReset hflash src).restarted hflash hsrc (fun _ _ => rfl)

theorem Dev.phase_hubReset {d : Dev} (hflash : d.flash = none) (src : Nat) : (d.hubReset src).phase = .pllWait := by
  rw [Dev.hubReset_form hflash]; rfl

end Sys2Proof.Machine

namespace Sys2Proof.Machine

open Sys2Proof

/-! The sources of a HUB-scope reset. -/

/-- A command that is due acts. -/
theorem completes_due {i : Instr} {s : State} {gate : Dev → Bool} {f : Dev → Dev}
    (hexec : exec i s = s.run (fun d => dueIf (gate d) f d)) (hgate : gate s.dev = true) : Completes i s (· = f s.dev) :=
  ⟨_, hexec, if_pos hgate⟩

/-- The device after POWER_ON. -/
def Dev.poweredOn (d : Dev) : Dev :=
  (((d.hubReset d.powerSource).setReg Reg.pwr_STAT 0).setFldR Reg.dbg_STAT 9 8 0).setBitR Reg.pwr_SUPSTAT 0 false

/-- POWER_ON: the supplies' state and the count of wrong responses start anew too (R389, R443). -/
theorem Dev.restarted_poweredOn {d : Dev} (hflash : d.flash = none) :
    d.restarted d.poweredOn d.powerSource ∧ d.poweredOn.phase = .pllWait ∧ d.poweredOn.pstate = 0 := by
  have hsrc : d.powerSource < 256 := by
    unfold Dev.powerSource
    split <;> decide
  have hcold : d.ColdFrom d.poweredOn := (((Dev.ColdFrom.hubReset hflash _).setReg ..).setReg ..).setReg ..
  refine ⟨hcold.restarted hflash hsrc (fun k hk => ?_), ?_, ?_⟩
  · simp only [List.mem_cons, List.not_mem_nil, or_false, not_or] at hk
    obtain ⟨hstat, hsup, hdbg⟩ := hk
    rw [Dev.poweredOn, Dev.reg_setBitR, if_neg hsup, Dev.reg_setFldR, if_neg hdbg, Dev.reg_setReg, if_neg hstat]
  · rw [Dev.poweredOn, Dev.setBitR_phase, Dev.setFldR_phase, Dev.setReg_phase, Dev.phase_hubReset hflash]
  · rw [Dev.pstate, Dev.rfld, Dev.poweredOn, Dev.reg_setBitR, if_neg (by decide), Dev.reg_setFldR, if_neg (by decide),
      Dev.reg_setReg, if_pos rfl]
    decide

theorem powerOn_restarts {s : State} (hflash : s.dev.flash = none) (hoff : s.dev.phase = .off) :
    Completes .powerOn s (fun d => s.dev.restarted d s.dev.powerSource ∧ d.phase = .pllWait ∧ d.pstate = 0) :=
  (completes_due (f := Dev.poweredOn) (gate := fun d => d.phase == .off) rfl (by rw [hoff]; rfl)).imp
    (fun d hd => hd ▸ Dev.restarted_poweredOn hflash)

/-- A flag of SUPSTAT that rises touches two registers of page PWR alone. -/
theorem Dev.supSet_form (d : Dev) (bit ev : Nat) : ∃ rs, d.supSet bit ev = d.withRegs rs := by
  unfold Dev.supSet
  split
  · exact ⟨d.regs, rfl⟩
  · exact ⟨_, rfl⟩

theorem Dev.reg_supSet (d : Dev) (bit ev : Nat) {k : Nat} (hk : k ∉ [Reg.pwr_SUPSTAT, Reg.pgEvt 3]) :
    (d.supSet bit ev).reg k = d.reg k := by
  simp only [List.mem_cons, List.not_mem_nil, or_false, not_or] at hk
  unfold Dev.supSet
  split
  · rfl
  · rw [Dev.reg_evt_of_ne _ hk.2, Dev.reg_setBitR, if_neg hk.1, Dev.reg_setBitR, if_neg hk.1]

/-- The hub whose supply VSUP_H has failed: reset, and off. -/
def Dev.brownedOut (d : Dev) : Dev := ((d.supSet 0 0).hubReset 2).inPhase .off

theorem Dev.restarted_brownedOut {d : Dev} (hflash : d.flash = none) : d.restarted d.brownedOut 2 := by
  obtain ⟨rs, hform⟩ := d.supSet_form 0 0
  have hflash' : (d.supSet 0 0).flash = none := by rw [hform]; exact hflash
  have hreset : (d.supSet 0 0).restarted d.brownedOut 2 :=
    ((Dev.ColdFrom.hubReset hflash' 2).inPhase .off).restarted hflash' (by decide) (fun _ _ => Dev.reg_inPhase ..)
  refine hreset.congr (by rw [hform]; rfl) (by rw [hform]; rfl) (by rw [hform]; rfl) (fun k hk => Dev.reg_supSet d 0 0 ?_)
  revert k
  decide

theorem vsupHBrownout_restarts {s : State} (hflash : s.dev.flash = none) (hon : s.dev.phase ≠ .off) :
    Completes .vsupHBrownout s (fun d => s.dev.restarted d 2 ∧ d.phase = .off) :=
  (completes_due (f := Dev.brownedOut) (gate := fun d => d.phase != .off) rfl (bne_iff_ne.2 hon)).imp
    (fun d hd => hd ▸ ⟨Dev.restarted_brownedOut hflash, rfl⟩)

/-- A command that is due and whose effect is a reset. -/
theorem completes_hubReset {i : Instr} {s : State} {gate : Dev → Bool} {src : Nat} (hflash : s.dev.flash = none) (hsrc : src < 256)
    (hexec : exec i s = s.run (fun d => dueIf (gate d) (fun d => d.hubReset src) d)) (hgate : gate s.dev = true) :
    Completes i s (fun d => s.dev.restarted d src ∧ d.phase = .pllWait) :=
  (completes_due hexec hgate).imp (fun d hd => hd ▸ ⟨Dev.restarted_hubReset hflash hsrc, Dev.phase_hubReset hflash src⟩)

theorem hibernateWake_restarts {s : State} (hflash : s.dev.flash = none) (hphase : s.dev.phase = .hibernating) :
    Completes .hibernateWake s (fun d => s.dev.restarted d 4 ∧ d.phase = .pllWait ∧ d.rfld Reg.pwr_STAT 11 8 = 1) := by
  refine (completes_due (f := fun d => (d.hubReset 4).setFldR Reg.pwr_STAT 11 8 1) (gate := fun d => d.phase == .hibernating) rfl
    (by rw [hphase]; rfl)).imp (fun d hd => ?_)
  subst hd
  refine ⟨((Dev.ColdFrom.hubReset hflash 4).setReg ..).restarted hflash (by decide) (fun k hk => ?_), ?_, ?_⟩
  · rw [Dev.reg_setReg, if_neg (by rintro rfl; exact hk List.mem_cons_self)]
  · rw [Dev.setFldR_phase, Dev.phase_hubReset hflash]
  · exact Dev.rfld_setFldR_same _ _ _ (by decide) (by decide)

/-! The software reset (R427). -/

/-- A write of SWRST that reaches the register is the key's check and the reset. -/
theorem Dev.plainWrite_SWRST {d : Dev} {src : Src} (hlet : d.letsWrite src Reg.rst_SWRST) (v : Word) :
    Dev.plainWrite src Reg.rst_SWRST v d = (d.swrstWrite v).1 := by
  rw [Dev.plainWrite_of_letsWrite hlet (by decide)]
  rfl

theorem Dev.swrstWrite_of_key {d : Dev} {v : Word} (hkey : fld v 31 24 = 0xA5) : (d.swrstWrite v).1 = d.swReset (fld v 1 0) := by
  rw [Dev.swrstWrite, if_neg (by rw [hkey]; decide)]
  rfl

theorem Dev.swrstWrite_of_other_key {d : Dev} {v : Word} (hkey : fld v 31 24 ≠ 0xA5) : (d.swrstWrite v).1 = d := by
  rw [Dev.swrstWrite, if_pos hkey]

section SoftwareReset

variable {s : State} {src : Src} {v : Word} (hlet : s.dev.letsWrite src Reg.rst_SWRST)
include hlet

theorem completes_swrstHub (hscope : fld v 1 0 = 2) : Completes (.swrstHub src v) s (· = (s.dev.swrstWrite v).1) := by
  refine (completes_due (gate := fun d => d.live && fld v 1 0 == 2) rfl ?_).imp (fun d hd => hd.trans (Dev.plainWrite_SWRST hlet v))
  rw [hlet.1, hscope]
  rfl

theorem completes_swrstCoreset (hscope : fld v 1 0 = 1) : Completes (.swrstCoreset src v) s (· = (s.dev.swrstWrite v).1) := by
  refine (completes_due (gate := fun d => d.live && fld v 1 0 == 1) rfl ?_).imp (fun d hd => hd.trans (Dev.plainWrite_SWRST hlet v))
  rw [hlet.1, hscope]
  rfl

end SoftwareReset

end Sys2Proof.Machine

namespace Sys2Proof.Machine

open Sys2Proof

/-! The hold of the outputs changes the outputs, their registers and the journal (R292 step 1, R321, R453). -/

/-- From `d` to `e` only registers, the journal, the drives, the fans and the switched outputs differ. -/
def Dev.OutStep (d e : Dev) : Prop := ∃ rs j dr f g, e = { d with regs := rs, jrn := j, drv := dr, fan := f, gpo := g }

namespace Dev.OutStep

theorem refl (d : Dev) : d.OutStep d := ⟨_, _, _, _, _, rfl⟩

theorem trans {d e f : Dev} (h : d.OutStep e) (h' : e.OutStep f) : d.OutStep f := by
  obtain ⟨_, _, _, _, _, rfl⟩ := h
  obtain ⟨_, _, _, _, _, rfl⟩ := h'
  exact ⟨_, _, _, _, _, rfl⟩

theorem each {α : Type} {f : α → Dev → Dev} (h : ∀ x (d : Dev), d.OutStep (f x d)) :
    ∀ (xs : List α) (d : Dev), d.OutStep (Dev.each f xs d)
  | [], d => refl d
  | x :: xs, d => (h x d).trans (each h xs (f x d))

theorem setReg (d : Dev) (k : Nat) (v : Word) : d.OutStep (d.setReg k v) := ⟨_, _, _, _, _, rfl⟩
theorem updDrive (d : Dev) (n : DrvId) (f : Drive → Drive) : d.OutStep (d.updDrive n f) := ⟨_, _, _, _, _, rfl⟩
theorem updFan (d : Dev) (i : FanId) (f : Fan → Fan) : d.OutStep (d.updFan i f) := ⟨_, _, _, _, _, rfl⟩
theorem updGpo (d : Dev) (i : Nat) (f : Gpo → Gpo) : d.OutStep (d.updGpo i f) := ⟨_, _, _, _, _, rfl⟩

theorem jlog (d : Dev) {kind : Nat} (hkind : jClass kind = 0) (page off src : Nat) (new prev : Word) :
    d.OutStep (d.jlog kind page off src new prev) := by
  rw [d.jlog_of_guard hkind]
  exact ⟨_, _, _, _, _, rfl⟩

theorem faultAt (d : Dev) (code page off src : Nat) (detail : Word) (flags : Nat) :
    d.OutStep (d.faultAt code page off src detail flags) :=
  (setReg ..).trans (jlog _ (by decide) ..)

theorem drvSync (d : Dev) (n : DrvId) (before : Word) : d.OutStep (d.drvSync n before) := by
  unfold Dev.drvSync
  extract_lets k ts tripped st m d3 same
  have htrip : d.OutStep d3 := by
    unfold d3
    split
    · exact setReg ..
    · exact (setReg ..).trans (updDrive ..)
  split
  · exact htrip
  · exact htrip.trans (jlog _ (kind := 6) (by decide) ..)

theorem drvSet (d : Dev) (n : DrvId) (bits : Nat) : d.OutStep (d.drvSet n bits) := by
  unfold Dev.drvSet
  dsimp only
  split
  · exact refl d
  · exact ((setReg ..).trans (setReg ..)).trans (drvSync ..)

theorem drvSetFault (d : Dev) (n : DrvId) (bit code flag : Nat) : d.OutStep (d.drvSetFault n bit code flag) := by
  unfold Dev.drvSetFault
  split
  · exact refl d
  · exact (drvSet ..).trans (faultAt ..)

theorem ovCheck (d : Dev) (n : DrvId) : d.OutStep (d.ovCheck n) := by
  unfold Dev.ovCheck
  split
  · exact drvSetFault ..
  · exact refl d

theorem drvLatch (n : DrvId) (bits : Nat) (d : Dev) : d.OutStep (d.drvLatch n bits) :=
  (drvSet d n bits).trans (ovCheck ..)

theorem fanHold (i : FanId) (d : Dev) : d.OutStep (Dev.fanHold i d) := by
  unfold Dev.fanHold
  split
  · exact refl d
  · exact updFan ..

theorem gpoSyncOne (i : Nat) (d : Dev) : d.OutStep (Dev.gpoSyncOne i d) := by
  unfold Dev.gpoSyncOne
  split
  · exact refl d
  · exact updGpo ..

theorem setDev (d : Dev) (cause copies : Nat) : d.OutStep (d.setDev cause copies) := by
  unfold Dev.setDev
  split
  · exact refl d
  · exact ((((setReg ..).trans (setReg ..)).trans (each (fun n d => drvLatch n 0x40 d) drvIds _)).trans
      (each fanHold fanIds _)).trans (each gpoSyncOne _ _)

end Dev.OutStep

/-! The outputs held, and LEVEL the safe state's (R292 steps 1 to 3). -/

/-- The device whose outputs a reset of the core set has held. -/
def Dev.heldSafe (d : Dev) : Dev := (d.holdOutputs 8 0).safeLevel (d.rfld Reg.sys_SVCLVL 10 8) 0

/-- Of the rest of the device, besides registers and the journal, the hold changes nothing that the restart looks at. -/
theorem Dev.heldSafe_form (d : Dev) : ∃ rs j dr f g ls p,
    d.heldSafe = { d with regs := rs, jrn := j, drv := dr, fan := f, gpo := g, cmp := [], links := ls, puff := p } := by
  obtain ⟨rs, j, dr, f, g, hset⟩ := Dev.OutStep.setDev d 8 0
  have hhold : d.holdOutputs 8 0 =
      { d with regs := rs, jrn := j, drv := dr, fan := f, gpo := g, cmp := [], links := d.links.map HubLink.requeued } := by
    rw [Dev.holdOutputs, hset]
  rw [Dev.heldSafe, Dev.safeLevel]
  rcases Dev.setSvc_cases (d.holdOutputs 8 0) (d.rfld Reg.sys_SVCLVL 10 8) (if (d.holdOutputs 8 0).level = 3 then 3 else 2) 0 with
    ⟨-, h⟩ | ⟨p, h⟩
  · rw [h, hhold]
    exact ⟨_, _, _, _, _, _, _, rfl⟩
  · rw [h, Dev.jlog_of_guard _ (by decide), hhold]
    exact ⟨_, _, _, _, _, _, _, rfl⟩

theorem Dev.reg_heldSafe (d : Dev) {k : Nat} (hlatch : k ∉ [Reg.release_LATCH, Reg.release_CAUSE]) (hdrive : ¬ driveKey k)
    (hsvc : k ≠ Reg.sys_SVCLVL) : d.heldSafe.reg k = d.reg k := by
  rw [Dev.heldSafe, Dev.safeLevel, Dev.reg_setSvc, if_neg hsvc, Dev.reg_holdOutputs, Dev.reg_setDev _ _ _ hlatch hdrive]

theorem Dev.devLatch_heldSafe (d : Dev) : d.heldSafe.devLatch = true := by
  rw [Dev.devLatch, Dev.rbit, Dev.heldSafe, Dev.safeLevel, Dev.reg_setSvc, if_neg (by decide), Dev.reg_holdOutputs]
  exact d.devLatch_setDev 8 0

theorem Dev.reg_SVCLVL_heldSafe (d : Dev) : d.heldSafe.reg Reg.sys_SVCLVL =
    toWord (d.rfld Reg.sys_SVCLVL 10 8 * 256 + if d.level = 3 then 3 else 2) := by
  have hlevel : (d.holdOutputs 8 0).level = d.level := by
    have hnot : ¬ driveKey Reg.sys_SVCLVL := by unfold driveKey; decide
    rw [Dev.level, Dev.rfld, Dev.reg_holdOutputs, Dev.reg_setDev _ _ _ (by decide) hnot, Dev.level, Dev.rfld]
  rw [Dev.heldSafe, Dev.safeLevel, Dev.reg_setSvc, if_pos rfl, hlevel]

theorem Dev.level_heldSafe (d : Dev) : d.heldSafe.level = if d.level = 3 then 3 else 2 := by
  rw [Dev.level, Dev.rfld, Dev.reg_SVCLVL_heldSafe, fld_svclvl _ (by split <;> decide)]

end Sys2Proof.Machine

namespace Sys2Proof.Machine

open Sys2Proof

/-! A restart of the core set (R425, R435 steps 1 and 2). -/

/-- RST.LAST and the RESET entry of the restart. -/
def Dev.restartLogged (d : Dev) (src : Nat) : Dev :=
  ((d.setFldR Reg.rst_LAST 15 8 src).setFldR Reg.rst_LAST 31 16 (satU 16 (d.rfld Reg.rst_LAST 31 16 + 1))).jlog 0x08 5 0x44 0
    (toWord src) (toWord (2 + maskOf d.poweredCopies * 256))

/-- A copy and its link are off, and what the hub keeps of it is dropped. -/
def Dev.copyGone (c : CopyId) (d : Dev) : Dev := (d.copyOff 0 c).dropCopy c

theorem Dev.copies_copyOff (n : Nat) (c : CopyId) (d : Dev) : (d.copyOff n c).copies = d.copies.set c Dev.copyReset :=
  Dev.mk_copies ..
theorem Dev.links_copyOff (n : Nat) (c : CopyId) (d : Dev) : (d.copyOff n c).links = d.links.set c Dev.linkReset :=
  Dev.mk_links ..
theorem Dev.jrn_withCopies (d : Dev) (cs : Tri Copy) (ls : Tri HubLink) : { d with copies := cs, links := ls }.jrn = d.jrn := rfl
theorem Dev.reg_withCopies (d : Dev) (cs : Tri Copy) (ls : Tri HubLink) (k : Nat) :
    ({ d with copies := cs, links := ls } : Dev).reg k = d.reg k := rfl
theorem Dev.copyOff_eq (n : Nat) (c : CopyId) (d : Dev) : d.copyOff n c =
    { d.setLstate c n with copies := d.copies.set c Dev.copyReset, links := d.links.set c Dev.linkReset } := rfl
theorem Dev.jrn_copyOff (n : Nat) (c : CopyId) (d : Dev) : (d.copyOff n c).jrn = d.jrn := by
  rw [Dev.copyOff_eq, Dev.jrn_withCopies, Dev.setLstate_jrn]
theorem Dev.reg_copyOff (n : Nat) (c : CopyId) (d : Dev) {k : Nat} (hk : k ≠ Reg.linkx_STAT c.val) :
    (d.copyOff n c).reg k = d.reg k := by
  rw [Dev.copyOff_eq, Dev.reg_withCopies, Dev.setLstate, Dev.reg_setFldR, if_neg hk]

theorem Dev.copies_dropCopy (c : CopyId) (d : Dev) : (d.dropCopy c).copies = d.copies := Dev.mk_copies ..
theorem Dev.links_dropCopy (c : CopyId) (d : Dev) : (d.dropCopy c).links = d.links := Dev.mk_links ..
theorem Dev.jrn_dropCopy (c : CopyId) (d : Dev) : (d.dropCopy c).jrn = d.jrn := Dev.mk_jrn ..
theorem Dev.reg_dropCopy (c : CopyId) (d : Dev) (k : Nat) : (d.dropCopy c).reg k = d.reg k := rfl

theorem Dev.copies_copyGone (c : CopyId) (d : Dev) : (d.copyGone c).copies = d.copies.set c Dev.copyReset :=
  (Dev.copies_dropCopy ..).trans (Dev.copies_copyOff ..)
theorem Dev.links_copyGone (c : CopyId) (d : Dev) : (d.copyGone c).links = d.links.set c Dev.linkReset :=
  (Dev.links_dropCopy ..).trans (Dev.links_copyOff ..)
theorem Dev.jrn_copyGone (c : CopyId) (d : Dev) : (d.copyGone c).jrn = d.jrn :=
  (Dev.jrn_dropCopy ..).trans (Dev.jrn_copyOff ..)
theorem Dev.reg_copyGone (c : CopyId) (d : Dev) {k : Nat} (hk : k ≠ Reg.linkx_STAT c.val) : (d.copyGone c).reg k = d.reg k :=
  (Dev.reg_dropCopy ..).trans (Dev.reg_copyOff _ _ _ hk)

/-- Every copy and link off. -/
def Dev.copiesDown (d : Dev) : Dev := ((d.copyGone 0).copyGone 1).copyGone 2

/-- The delivery's and the compares' registers in their reset values, and no copy in service. -/
def Dev.restartCleared (d : Dev) : Dev :=
  ((((d.setReg Reg.cmp_CODE 0).setReg Reg.irqd_DLVD_LO 0).setReg Reg.irqd_DLVD_HI 0).setBitR Reg.agree_DLVSTAT 8 false).setFldR
    Reg.sys_SVCLVL 10 8 0

/-- The core set waits for its regulators, and the hub has nothing open. -/
def Dev.coreWaits (d : Dev) (a : Agree) (due : Nat) (p : Puff) : Dev :=
  { d with cmp := [], agr := a, cs := .waiting, csDue := due, pendRestart := none, puff := p }

theorem Dev.reg_coreWaits (d : Dev) (a : Agree) (due : Nat) (p : Puff) (k : Nat) : (d.coreWaits a due p).reg k = d.reg k := rfl
theorem Dev.copies_coreWaits (d : Dev) (a : Agree) (due : Nat) (p : Puff) : (d.coreWaits a due p).copies = d.copies := rfl
theorem Dev.links_coreWaits (d : Dev) (a : Agree) (due : Nat) (p : Puff) : (d.coreWaits a due p).links = d.links := rfl
theorem Dev.jrn_coreWaits (d : Dev) (a : Agree) (due : Nat) (p : Puff) : (d.coreWaits a due p).jrn = d.jrn := rfl

theorem Dev.restartNow_eq (d : Dev) (src : Nat) : d.restartNow src =
    let e := (Dev.each Dev.dropPend framePages (d.restartLogged src).copiesDown).restartCleared
    e.dbgClear.coreWaits e.agr.restart (d.now + 4000) (e.puff.insvcLost d.now) := by
  unfold Dev.restartNow Dev.restartLogged Dev.copiesDown Dev.copyGone Dev.restartCleared Dev.coreWaits
  simp only [copyIds, Dev.each]

theorem Dev.copy_copiesDown (d : Dev) (c : CopyId) : d.copiesDown.copy c = Dev.copyReset := by
  rw [Dev.copy, Dev.copiesDown, Dev.copies_copyGone, Dev.copies_copyGone, Dev.copies_copyGone]
  match c with
  | 0 => rfl
  | 1 => rfl
  | 2 => rfl

theorem Dev.link_copiesDown (d : Dev) (c : CopyId) : d.copiesDown.link c = Dev.linkReset := by
  rw [Dev.link, Dev.copiesDown, Dev.links_copyGone, Dev.links_copyGone, Dev.links_copyGone]
  match c with
  | 0 => rfl
  | 1 => rfl
  | 2 => rfl

theorem Dev.jrn_copiesDown (d : Dev) : d.copiesDown.jrn = d.jrn := by
  rw [Dev.copiesDown, Dev.jrn_copyGone, Dev.jrn_copyGone, Dev.jrn_copyGone]

theorem Dev.reg_copiesDown (d : Dev) {k : Nat} (hk : k ∉ copyIds.map (fun c => Reg.linkx_STAT c.val)) :
    d.copiesDown.reg k = d.reg k := by
  have hne (c : CopyId) (hc : c ∈ copyIds) : k ≠ Reg.linkx_STAT c.val := fun h => hk (List.mem_map.2 ⟨c, hc, h.symm⟩)
  rw [Dev.copiesDown, Dev.reg_copyGone _ _ (hne 2 (by decide)), Dev.reg_copyGone _ _ (hne 1 (by decide)),
    Dev.reg_copyGone _ _ (hne 0 (by decide))]

/-- From `d` to `e` only registers and the page mechanism differ. -/
def Dev.PendStep (d e : Dev) : Prop := ∃ rs pg, e = { d with regs := rs, pages := pg }

theorem Dev.PendStep.trans {d e f : Dev} (h : d.PendStep e) (h' : e.PendStep f) : d.PendStep f := by
  obtain ⟨_, _, rfl⟩ := h
  obtain ⟨_, _, rfl⟩ := h'
  exact ⟨_, _, rfl⟩

theorem Dev.PendStep.stores {d e : Dev} (h : d.PendStep e) : e.copies = d.copies ∧ e.links = d.links ∧ e.jrn = d.jrn := by
  obtain ⟨_, _, rfl⟩ := h
  exact ⟨rfl, rfl, rfl⟩

theorem Dev.pendStep_setReg (d : Dev) (k : Nat) (v : Word) : d.PendStep (d.setReg k v) := ⟨_, _, rfl⟩

/-- A discarded pending set (R47) shows in its page's status alone. -/
theorem Dev.pendStep_dropPend (p : Nat) (d : Dev) : d.PendStep (Dev.dropPend p d) := by
  unfold Dev.dropPend
  split
  · refine Dev.PendStep.trans ?_ (Dev.pendStep_setReg ..)
    refine Dev.PendStep.trans ?_ (Dev.pendStep_setReg ..)
    exact ⟨d.regs, _, rfl⟩
  · exact ⟨d.regs, d.pages, rfl⟩

theorem Dev.reg_dropPend (p : Nat) (d : Dev) {k : Nat} (hk : k ∉ [Reg.pgStat p, Reg.pgCmtstat p]) :
    (Dev.dropPend p d).reg k = d.reg k := by
  simp only [List.mem_cons, List.not_mem_nil, or_false, not_or] at hk
  obtain ⟨hstat, hcmt⟩ := hk
  unfold Dev.dropPend
  split
  · dsimp only
    rw [Dev.reg_setFldR, if_neg hcmt, Dev.reg_setBitR, if_neg hstat]
    rfl
  · rfl

theorem Dev.pendStep_each_dropPend : ∀ (ps : List Nat) (d : Dev), d.PendStep (Dev.each Dev.dropPend ps d)
  | [], d => ⟨d.regs, d.pages, rfl⟩
  | p :: ps, d => (Dev.pendStep_dropPend p d).trans (Dev.pendStep_each_dropPend ps (Dev.dropPend p d))

theorem Dev.reg_each_dropPend {k : Nat} : ∀ (ps : List Nat) (d : Dev), k ∉ ps.flatMap (fun p => [Reg.pgStat p, Reg.pgCmtstat p]) →
    (Dev.each Dev.dropPend ps d).reg k = d.reg k
  | [], _, _ => rfl
  | p :: ps, d, hk => by
    rw [List.flatMap_cons, List.mem_append, not_or] at hk
    rw [Dev.each, Dev.reg_each_dropPend ps _ hk.2, Dev.reg_dropPend p d hk.1]

theorem Dev.reg_dbgClear (d : Dev) {k : Nat} (hk : k ≠ Reg.dbg_STAT) : d.dbgClear.reg k = d.reg k :=
  (d.reg_setFldR ..).trans (if_neg hk)

/-- The registers that a restart writes behind RST.LAST. -/
def restartKeys : List Nat :=
  copyIds.map (fun c => Reg.linkx_STAT c.val) ++ framePages.flatMap (fun p => [Reg.pgStat p, Reg.pgCmtstat p]) ++
    [Reg.cmp_CODE, Reg.irqd_DLVD_LO, Reg.irqd_DLVD_HI, Reg.agree_DLVSTAT, Reg.dbg_STAT]

theorem Dev.reg_restartNow (d : Dev) (src : Nat) {k : Nat} (hk : k ∉ restartKeys) : (d.restartNow src).reg k =
    if k = Reg.sys_SVCLVL then setFld ((d.restartLogged src).reg k) 10 8 0 else (d.restartLogged src).reg k := by
  simp only [restartKeys, List.mem_append, not_or] at hk
  obtain ⟨⟨hlinks, hpages⟩, hrest⟩ := hk
  simp only [List.mem_cons, List.not_mem_nil, or_false, not_or] at hrest
  obtain ⟨hcode, hlo, hhi, hdlv, hdbg⟩ := hrest
  have hcopies : (Dev.each Dev.dropPend framePages (d.restartLogged src).copiesDown).reg k = (d.restartLogged src).reg k :=
    (Dev.reg_each_dropPend _ _ hpages).trans (Dev.reg_copiesDown _ hlinks)
  rw [Dev.restartNow_eq]
  dsimp only
  rw [Dev.reg_coreWaits]
  generalize Dev.each Dev.dropPend framePages (d.restartLogged src).copiesDown = d4 at hcopies
  have hplain : ((((d4.setReg Reg.cmp_CODE 0).setReg Reg.irqd_DLVD_LO 0).setReg Reg.irqd_DLVD_HI 0).setBitR Reg.agree_DLVSTAT 8
      false).reg k = (d.restartLogged src).reg k := by
    rw [Dev.reg_setBitR, if_neg hdlv, Dev.reg_setReg, if_neg hhi, Dev.reg_setReg, if_neg hlo, Dev.reg_setReg, if_neg hcode, hcopies]
  rw [Dev.reg_dbgClear _ hdbg, Dev.restartCleared, Dev.reg_setFldR]
  split
  · next h => rw [← h, hplain]
  · exact hplain

/-- The clearing of registers changes registers alone. -/
theorem Dev.pendStep_restartCleared (d : Dev) : d.PendStep d.restartCleared := ⟨_, _, rfl⟩

theorem Dev.copies_dbgClear (d : Dev) : d.dbgClear.copies = d.copies := rfl
theorem Dev.links_dbgClear (d : Dev) : d.dbgClear.links = d.links := rfl
theorem Dev.jrn_dbgClear (d : Dev) : d.dbgClear.jrn = d.jrn := rfl

/-- Behind the copies' end a restart leaves the copies, the links and the journal alone. -/
theorem Dev.restartNow_stores (d : Dev) (src : Nat) :
    (d.restartNow src).copies = (d.restartLogged src).copiesDown.copies ∧
      (d.restartNow src).links = (d.restartLogged src).copiesDown.links ∧
      (d.restartNow src).jrn = (d.restartLogged src).jrn := by
  obtain ⟨hcopies, hlinks, hjrn⟩ :=
    ((Dev.pendStep_each_dropPend framePages (d.restartLogged src).copiesDown).trans (Dev.pendStep_restartCleared _)).stores
  refine ⟨?_, ?_, ?_⟩ <;> rw [Dev.restartNow_eq] <;> dsimp only
  · rw [Dev.copies_coreWaits, Dev.copies_dbgClear, hcopies]
  · rw [Dev.links_coreWaits, Dev.links_dbgClear, hlinks]
  · rw [Dev.jrn_coreWaits, Dev.jrn_dbgClear, hjrn, Dev.jrn_copiesDown]

theorem Dev.restartNow_waits (d : Dev) (src : Nat) : (d.restartNow src).cs = .waiting ∧
    (d.restartNow src).csDue = d.now + 4000 ∧ (d.restartNow src).cmp = [] := by
  rw [Dev.restartNow_eq]
  exact ⟨rfl, rfl, rfl⟩

theorem Dev.copy_restartNow (d : Dev) (src : Nat) (c : CopyId) :
    (d.restartNow src).copy c = Dev.copyReset ∧ (d.restartNow src).link c = Dev.linkReset := by
  obtain ⟨hcopies, hlinks, -⟩ := d.restartNow_stores src
  exact ⟨(congrArg (·.get c) hcopies).trans (Dev.copy_copiesDown _ c), (congrArg (·.get c) hlinks).trans (Dev.link_copiesDown _ c)⟩

theorem Dev.journaled_restartNow (d : Dev) (src : Nat) :
    (d.restartNow src).journaled 8 5 (toWord src) (toWord (2 + maskOf d.poweredCopies * 256)) := by
  obtain ⟨-, -, hjrn⟩ := d.restartNow_stores src
  have hentry : (d.restartLogged src).journaled 8 5 (toWord src) (toWord (2 + maskOf d.poweredCopies * 256)) :=
    Dev.journaled_jlog_of_guard _ (by decide) ..
  rw [Dev.journaled, hjrn]
  exact hentry

theorem Dev.reg_restartLogged (d : Dev) (src : Nat) {k : Nat} (hk : k ≠ Reg.rst_LAST) : (d.restartLogged src).reg k = d.reg k := by
  rw [Dev.restartLogged, Dev.reg, Dev.regs_jlog_of_guard _ (by decide), ← Dev.reg, Dev.reg_setFldR, if_neg hk, Dev.reg_setFldR,
    if_neg hk]

theorem Dev.reg_restartNow_of_kept (d : Dev) (src : Nat) {k : Nat} (hk : k ∉ Reg.rst_LAST :: Reg.sys_SVCLVL :: restartKeys) :
    (d.restartNow src).reg k = d.reg k := by
  simp only [List.mem_cons, not_or] at hk
  obtain ⟨hlast, hsvc, hrest⟩ := hk
  rw [Dev.reg_restartNow d src hrest, if_neg hsvc, Dev.reg_restartLogged d src hlast]

/-- RST.LAST shows the restart's source. -/
theorem Dev.source_restartNow (d : Dev) {src : Nat} (hsrc : src < 256) : (d.restartNow src).rfld Reg.rst_LAST 15 8 = src := by
  rw [Dev.rfld, Dev.reg_restartNow _ _ (by decide), if_neg (by decide), Dev.restartLogged, Dev.reg,
    Dev.regs_jlog_of_guard _ (by decide), ← Dev.reg, ← Dev.rfld, Dev.rfld_setFldR_of_disjoint _ _ _ (by decide) (by decide) (by decide)
    (.inl (by decide)), Dev.rfld_setFldR_same _ _ _ (by decide) (by decide)]
  exact Nat.mod_eq_of_lt hsrc

/-- No copy is in service, and LEVEL stays. -/
theorem Dev.reg_SVCLVL_restartNow (d : Dev) (src : Nat) :
    (d.restartNow src).reg Reg.sys_SVCLVL = setFld (d.reg Reg.sys_SVCLVL) 10 8 0 := by
  rw [Dev.reg_restartNow _ _ (by decide), if_pos rfl, Dev.reg_restartLogged _ _ (by decide)]

theorem Dev.level_restartNow (d : Dev) (src : Nat) : (d.restartNow src).level = d.level := by
  rw [Dev.level, Dev.rfld, Dev.reg_SVCLVL_restartNow, fld_setFld_of_disjoint _ _ (by decide) (by decide) (by decide) (.inl (by decide)),
    Dev.level, Dev.rfld]

theorem Dev.nSvc_restartNow (d : Dev) (src : Nat) : (d.restartNow src).nSvc = 0 := by
  have hnone (c : CopyId) : (d.restartNow src).inSvc c = false := by
    have hc := c.isLt
    rw [Dev.inSvc, Dev.rbit, Dev.reg_SVCLVL_restartNow, bitOf_eq_testBit, testBit_setFld _ _ (by decide) (by decide) (by omega),
      if_pos (by omega), Nat.zero_testBit]
  rw [Dev.nSvc, Dev.svcCopies, List.filter_eq_nil_iff.2 (fun c _ => by rw [hnone]; decide)]
  rfl

end Sys2Proof.Machine

namespace Sys2Proof.Machine

open Sys2Proof

/-! The software reset of the core set (R292, R427). -/

/-- The hold keeps the frame of what the restart looks at: the copies, the core set's state and the time. -/
theorem Dev.kept_heldSafe (d : Dev) : d.heldSafe.copies = d.copies ∧ d.heldSafe.cs = d.cs ∧ d.heldSafe.time = d.time := by
  obtain ⟨_, _, _, _, _, _, _, h⟩ := d.heldSafe_form
  rw [h]
  exact ⟨rfl, rfl, rfl⟩

theorem Dev.poweredCopies_heldSafe (d : Dev) : d.heldSafe.poweredCopies = d.poweredCopies := by
  rw [Dev.poweredCopies, Dev.poweredCopies]
  exact List.filter_congr (fun c _ => by rw [Dev.copy, d.kept_heldSafe.1, ← Dev.copy])

/-- What the restart reads of the power state and the plan, and the count that it leaves. -/
def restartReads : List Nat := [Reg.pwr_STAT, Reg.ledger_PLANCTL, Reg.release_RSTCNT]

theorem Dev.reg_heldSafe_of_mem (d : Dev) {k : Nat} (hk : k ∈ restartReads) : d.heldSafe.reg k = d.reg k := by
  have hlatch : ∀ k ∈ restartReads, k ∉ [Reg.release_LATCH, Reg.release_CAUSE] := by decide
  have hdrive : ∀ k ∈ restartReads, ¬ driveKey k := by unfold driveKey; decide
  have hsvc : ∀ k ∈ restartReads, k ≠ Reg.sys_SVCLVL := by decide
  exact d.reg_heldSafe (hlatch k hk) (hdrive k hk) (hsvc k hk)

/-- A copy in service stays in service while the outputs are held. -/
theorem Dev.inSvc_heldSafe (d : Dev) (c : CopyId) : d.heldSafe.inSvc c = d.inSvc c := by
  have hlevel : (if d.level = 3 then 3 else 2) < 2 ^ 8 := by split <;> decide
  have hfld : d.rfld Reg.sys_SVCLVL 10 8 < 8 := Nat.mod_lt _ (by decide)
  have hc := c.isLt
  rw [Dev.inSvc, Dev.inSvc, Dev.rbit, Dev.rbit, d.reg_SVCLVL_heldSafe, bitOf_eq_testBit, bitOf_eq_testBit, toNat_toWord (by omega),
    Nat.mul_comm, show 256 = 2 ^ 8 from rfl, Nat.testBit_two_pow_mul_add _ hlevel, if_neg (by omega), Nat.add_sub_cancel_left, Dev.rfld,
    testBit_fld, decide_eq_true (by omega), Bool.true_and, Nat.add_comm]

theorem Dev.nSvc_heldSafe (d : Dev) : d.heldSafe.nSvc = d.nSvc := by
  rw [Dev.nSvc, Dev.nSvc, Dev.svcCopies, Dev.svcCopies, funext d.inSvc_heldSafe]

theorem Dev.csRunning_heldSafe (d : Dev) : d.heldSafe.csRunning = d.csRunning := by
  rw [Dev.csRunning, Dev.csRunning, d.kept_heldSafe.2.1, d.nSvc_heldSafe, Dev.pstate, Dev.pstate, Dev.rfld, Dev.rfld,
    d.reg_heldSafe_of_mem (by decide)]

theorem Dev.planExec_heldSafe (d : Dev) : d.heldSafe.planExec = d.planExec := by
  rw [Dev.planExec, Dev.planExec, Dev.rbit, Dev.rbit, d.reg_heldSafe_of_mem (by decide)]

theorem Dev.swReset_coreset (d : Dev) : d.swReset 1 = d.heldSafe.restartStep 0x12 false := rfl

theorem Dev.restartStep_uncounted {d : Dev} (src : Nat) (hrun : d.csRunning = true) (hplan : d.planExec = false) :
    d.restartStep src false = d.restartNow src := by
  rw [Dev.restartStep, hrun, hplan]
  rfl

theorem Dev.restartStep_planned {d : Dev} (src : Nat) (hrun : d.csRunning = true) (hplan : d.planExec = true) :
    d.restartStep src false = { d with pendRestart := some (src + 0x100) } := by
  rw [Dev.restartStep, hrun, hplan]
  rfl

/-- A running core set restarts at once where no plan executes. -/
theorem Dev.swReset_running {d : Dev} (hrun : d.csRunning = true) (hplan : d.planExec = false) :
    d.swReset 1 = d.heldSafe.restartNow 0x12 := by
  rw [Dev.swReset_coreset, Dev.restartStep_uncounted _ (by rw [Dev.csRunning_heldSafe, hrun]) (by rw [Dev.planExec_heldSafe, hplan])]

/-- While a plan executes, the restart waits for its end. -/
theorem Dev.swReset_planned {d : Dev} (hrun : d.csRunning = true) (hplan : d.planExec = true) :
    d.swReset 1 = { d.heldSafe with pendRestart := some 0x112 } := by
  rw [Dev.swReset_coreset, Dev.restartStep_planned _ (by rw [Dev.csRunning_heldSafe, hrun]) (by rw [Dev.planExec_heldSafe, hplan])]

theorem Dev.devLatch_restartNow {d : Dev} (src : Nat) (hlatch : d.devLatch = true) : (d.restartNow src).devLatch = true := by
  rw [Dev.devLatch, Dev.rbit, Dev.reg_restartNow_of_kept _ _ (by decide), ← Dev.rbit]
  exact hlatch

theorem Dev.RSTCNT_swReset (d : Dev) (src : Nat) :
    (d.heldSafe.restartNow src).rfld Reg.release_RSTCNT 3 0 = d.rfld Reg.release_RSTCNT 3 0 := by
  rw [Dev.rfld, Dev.reg_restartNow_of_kept _ _ (by decide), d.reg_heldSafe_of_mem (by decide), Dev.rfld]

theorem Dev.csDue_swReset (d : Dev) (src : Nat) : (d.heldSafe.restartNow src).csDue = d.now + 4000 := by
  rw [(Dev.restartNow_waits ..).2.1, Dev.now, d.kept_heldSafe.2.2, ← Dev.now]

theorem Dev.journaled_swReset (d : Dev) :
    (d.heldSafe.restartNow 0x12).journaled 8 5 0x12 (toWord (2 + maskOf d.poweredCopies * 256)) := by
  rw [← d.poweredCopies_heldSafe]
  exact Dev.journaled_restartNow _ 0x12

/-- Settles O34: every source of a HUB-scope reset is `hubReset` behind its own gate, and the software reset of the core set
is the hold of the outputs and the restart that counts nothing. -/
theorem resets : Obligations.Resets := by
  refine ⟨fun s => ?_, fun s src v => ?_⟩
  · intro d0 hflash
    refine ⟨powerOn_restarts hflash, vsupHBrownout_restarts hflash, fun hlive => completes_hubReset hflash (by decide) rfl hlive,
      fun hoff hhib => completes_hubReset (gate := fun d => d.phase != .off && d.phase != .hibernating) hflash
        (by decide) rfl ?_, hibernateWake_restarts hflash, fun src v hlet hscope hkey => ?_,
      fun src v hlet hscope hkey => ?_⟩
    · exact Bool.and_eq_true_iff.2 ⟨bne_iff_ne.2 hoff, bne_iff_ne.2 hhib⟩
    · refine (completes_swrstHub hlet hscope).imp (fun d hd => ?_)
      rw [Dev.swrstWrite_of_key hkey, hscope] at hd
      rw [hd]
      exact ⟨Dev.restarted_hubReset hflash (by decide), Dev.phase_hubReset hflash 6⟩
    · exact (completes_swrstHub hlet hscope).imp (fun d hd => hd.trans (Dev.swrstWrite_of_other_key hkey))
  · intro d0 hlet hscope
    refine ⟨fun hkey hrun hplan => (completes_swrstCoreset hlet hscope).imp (fun d hd => ?_),
      fun hkey hrun hplan => (completes_swrstCoreset hlet hscope).imp (fun d hd => ?_),
      fun hkey => (completes_swrstCoreset hlet hscope).imp (fun d hd => hd.trans (Dev.swrstWrite_of_other_key hkey))⟩
    · rw [Dev.swrstWrite_of_key hkey, hscope, Dev.swReset_running hrun hplan] at hd
      obtain ⟨hcs, -, hcmp⟩ := Dev.restartNow_waits d0.heldSafe 0x12
      rw [hd]
      exact ⟨Dev.devLatch_restartNow _ d0.devLatch_heldSafe, hcs, d0.csDue_swReset _, hcmp, Dev.nSvc_restartNow ..,
        Dev.copy_restartNow _ _, (Dev.level_restartNow ..).trans d0.level_heldSafe, Dev.source_restartNow _ (by decide), d0.RSTCNT_swReset _,
        d0.journaled_swReset⟩
    · rw [Dev.swrstWrite_of_key hkey, hscope, Dev.swReset_planned hrun hplan] at hd
      rw [hd]
      exact ⟨d0.devLatch_heldSafe, d0.kept_heldSafe.2.1, rfl⟩

end Sys2Proof.Machine
